-- ==== Sys2Proof/Word.lean ====
section
/-! DEFINITION. The register word and the byte, the two widths of data that the register
space, the memories and the frames are made of (R5). -/
namespace Sys2Proof

/-- A register word: 32 bits (R5). -/
abbrev Word := BitVec 32

/-- One byte of memory or of a frame. -/
abbrev Byte := BitVec 8

end Sys2Proof
end

