-- ==== Sys2Proof/Syntax.lean ====
section
/-! DEFINITION. The commands: one constructor per row of spec/opcode_table.json, with what the
outside supplies to it. A command is something that happens to the part at one instant: a register
access, a pin edge, an instant of its own clocks, a result that the analogue side or a memory hands
back. Values that only the outside knows (codes, temperatures, frames, outcomes) are operands. -/
namespace Sys2Proof

/-- Who makes a bus access (R428): the core pair, the Plovom links, or a DMA channel. -/
inductive Initiator where
  | core
  | plv0
  | plv1
  | dma
deriving DecidableEq, Repr

/-- What discovery finds of the flash (R462): its size in bytes, and whether it holds the xSPI Profile 1.0 table. -/
structure FlashFound where
  size : Nat
  profile : Bool
deriving DecidableEq, Repr

/-- An edge on the 1PPS input (R276): its stamp in 2^-32 ns, the width in ns of the pulse that it begins, and whether
it falls. -/
structure PpsEdge where
  stamp : Nat
  width : Nat
  falling : Bool
deriving DecidableEq, Repr

/-- A frame as a port receives it (R284, R288): the bytes from the destination address on, without FCS, and whether the
FCS that came with it is right. -/
structure RxFrame where
  bytes : List Byte
  good : Bool
deriving DecidableEq, Repr

/-- The commands, in the order of the table. -/
inductive Instr where
  /-- POWER_ON_RESET (R458): The internal power-on reset is released 1 ms after VDD, VDDA, VIO and VDRV all rise above their thresholds; this resets everything and enters BOOT. -/
  | powerOnReset (straps : Nat) (low : Bool)
  /-- POWER_LOSS (R459): An uncontrolled loss of power cuts any trim pulse or wear-log record in progress. -/
  | powerLoss (cut : List Byte)
  /-- RESET_N_ASSERTED (R460): RESET_N is held low for at least 1 µs; all outputs go to the power-up state, and at the release the T1024 enters BOOT, keeping the frozen histories and the log. -/
  | resetNAsserted
  /-- RESET_N_RELEASED (R457): The rising edge of RESET_N latches the straps and starts BOOT. -/
  | resetNReleased (straps : Nat)
  /-- RESET_CMD (R474): Device command RESET performs a reset of kind command 1 µs after the write is delivered. -/
  | resetCmd (ini : Initiator)
  /-- THERMAL_RESTART (R360): Once every restart condition after a thermal shutdown holds, the device performs an internal reset and re-enters BOOT. -/
  | thermalRestart
  /-- FLASH_DISCOVERY_DONE (R462): Flash discovery and the reading of both image headers complete, and a slot is chosen under R466. -/
  | flashDiscoveryDone (found : FlashFound) (errA : Bool) (errB : Bool)
  /-- DRAM_TRAINING_DONE (R434): Training of every DRAM channel with the slot's DRAMP completes or fails (check 0x06). -/
  | dramTrainingDone (mask : Nat) (err : Bool)
  /-- IMAGE_STREAM_DONE (R470): The slot has been streamed from flash into the boot area and hashed; the checks of boot step 5 then run. -/
  | imageStreamDone (err : Bool)
  /-- LEDGER_REBUILD_DONE (R114): The DRAM wear ledger is rebuilt from the flash log, or created new when the region is erased. -/
  | ledgerRebuildDone (ok : Bool) (bad : Bool)
  /-- SELF_TEST_DONE (R470): The self-test completes; rounds and span 0 are aligned and the mode transition of R22 is taken, or BOOT_FAIL sets. -/
  | selfTestDone (ok : Bool) (failU : List Nat) (failO : List Nat) (skew : List Nat)
  /-- BOOT_ARM (R473): With START.ARM set, the cores write SLOT_BASE and arm list memory 0, after PTP VALID when WAITPTP is set. -/
  | bootArm
  /-- HOLD_REQ_N_ASSERTED (R22): The filtered HOLD_REQ_N falling edge is recognised; the pin hold cause is set and the device enters HOLD, or waits in BOOT. -/
  | holdReqNAsserted
  /-- HOLD_REQ_N_DEASSERTED (R24): The pin cause clears; a device in BOOT_WAIT completes BOOT, or a release of HOLD may begin. -/
  | holdReqNDeasserted
  /-- HOLD_RELEASE_BOUNDARY (R24): The release boundary is reached with every hold cause clear, and the device returns to MGT_MODE.PRIOR. -/
  | holdReleaseBoundary
  /-- MODE_CMD_CHARACTERISE (R22): Device command MODE CHARACTERISE takes STATIC to CHARACTERISE, or is refused with STATE. -/
  | modeCmdCharacterise (ini : Initiator)
  /-- MODE_CMD_STATIC (R134): Device command MODE STATIC takes CHARACTERISE to STATIC when its preconditions hold, or is refused with STATE. -/
  | modeCmdStatic (ini : Initiator)
  /-- DEVICE_HOLD_CMD (R474): Device command HOLD sets the command hold cause. -/
  | deviceHoldCmd (ini : Initiator)
  /-- DEVICE_RELEASE_CMD (R24): Device command RELEASE clears the command cause, and the fault cause when no DHOLD entry is unacknowledged. -/
  | deviceReleaseCmd (ini : Initiator)
  /-- BOOT_SLOT (R474): Command BOOT_SLOT in BOOT_FAIL clears BOOT_FAIL and re-runs BOOT from step 2 with the named slot. -/
  | bootSlot (ini : Initiator) (slot : Nat)
  /-- NVM_READ (R474): Command NVM_READ copies flash contents to working SRAM or DRAM. -/
  | nvmRead (ini : Initiator) (off : Nat) (n : Nat) (lo : Nat) (hi : Nat)
  /-- NVM_WRITE (R475): Command NVM_WRITE programs and verifies flash pages, or completes with PROTECT or ARG. -/
  | nvmWrite (ini : Initiator) (off : Nat) (n : Nat) (lo : Nat) (hi : Nat)
  /-- NVM_ERASE (R475): Command NVM_ERASE erases flash sectors, or completes with PROTECT or ARG. -/
  | nvmErase (ini : Initiator) (off : Nat) (n : Nat)
  /-- IMG_CHECK (R474): Command IMG_CHECK streams a slot, applies checks 0x01..0x05 and 0x07, and returns the code in RES0. -/
  | imgCheck (ini : Initiator) (slot : Nat)
  /-- FUSE_SVN (R474): Command FUSE SVN blows SVN_MIN up to the SVN of the loaded image. -/
  | fuseSvn (ini : Initiator)
  /-- FUSE_REVOKE0 (R474): Command FUSE REVOKE0 blows REVOKE0 when the loaded image has KEYIDX 1, and completes with AUTH otherwise. -/
  | fuseRevoke0 (ini : Initiator)
  /-- DEVICE_COMMAND_DONE (R476): A device command carried out by the management cores completes, and its status is set in MGT_CMD_STATUS. -/
  | deviceCommandDone (done : Nat) (err : Bool)
  /-- MGT_CMD_BUSY_WRITE (R477): A write to MGT_CMD while BUSY is 1 is refused and sets LOST. -/
  | mgtCmdBusyWrite (ini : Initiator) (value : Nat)
  /-- MGMT_COMMAND_FRAME (R479): Firmware takes a device-command frame of EtherType 0x88B6 from port M and executes it as CORE. -/
  | mgmtCommandFrame (port : Nat) (frame : List Byte)
  /-- REGISTER_WRITE (R9): A write to a register with no row of its own takes effect under its access code, or is refused under R11. -/
  | registerWrite (ini : Initiator) (addr : Nat) (value : Nat)
  /-- MISALIGNED_ACCESS (R5): An access of wrong width or alignment completes with an error response and logs ADDR. -/
  | misalignedAccess (ini : Initiator) (write : Bool) (addr : Nat) (width : Nat) (value : Nat)
  /-- UNDEFINED_ADDRESS_ACCESS (R6): An access to an undefined address in a block range returns 0, writes nothing, responds with an error and logs ADDR. -/
  | undefinedAddressAccess (ini : Initiator) (write : Bool) (addr : Nat) (value : Nat)
  /-- RS_READ (R9): A read of an RS field returns its value and clears it, unless hardware sets it in the same cycle. -/
  | rsRead (ini : Initiator) (addr : Nat)
  /-- SNAPSHOT_READ (R8): A read of the least significant word of a wide value captures the whole value into a snapshot. -/
  | snapshotRead (ini : Initiator) (addr : Nat)
  /-- SPAN_BOUNDARY (R158): At a span boundary loop_code loads from the output bank, the snapshot is taken, and the span-boundary work of every block begins. -/
  | spanBoundary (hbU : Nat) (hbO : Nat)
  /-- PROGRAM_GRAIN (R202): An engine half executes control-store word g at program grain g of the span. -/
  | programGrain (tile : Nat) (half : Nat) (g : Nat) (ix : Nat) (perr : Nat)
  /-- HEARTBEAT_RECEIVED (R373): The supervisor receives a heartbeat message and returns its verdict to both halves. -/
  | heartbeatReceived (tile : Nat) (half : Nat) (second : Bool)
  /-- TOKEN_DECISION (R375): At program grain 3,968 the interlock judges both halves and decides the drive token for the next boundary. -/
  | tokenDecision (tile : Nat) (ilkU : Bool) (ilkO : Bool) (verdict : Bool)
  /-- CONVERSION_COMPLETE (R123): A converter finishes a conversion and yields a calibrated, tagged sample. -/
  | conversionComplete (tile : Nat) (conv : Nat) (slot : Nat) (code : Nat) (ok : Bool) (done : Bool) (volt : Nat)
  /-- SAMPLE_DELIVERED (R205): A calibrated sample crosses into the ENG domain and is written into the record bank. -/
  | sampleDelivered (tile : Nat) (conv : Nat)
  /-- REF_READY (R133): ADC_REF.READY sets 2.000 ms after EN is set. -/
  | refReady (tile : Nat)
  /-- SYSCAL_DARK (R136): ADC_SYSCAL DARK starts an offset calibration of every input and range. -/
  | syscalDark (tile : Nat) (avg : Nat)
  /-- SYSCAL_GAIN_INJECT (R136): ADC_SYSCAL GAIN with SRC INJECT starts a gain calibration with the on-chip current. -/
  | syscalGainInject (tile : Nat) (avg : Nat)
  /-- SYSCAL_GAIN_ILLUM (R136): ADC_SYSCAL GAIN with SRC ILLUM scales the gains to the reference illumination. -/
  | syscalGainIllum (tile : Nat) (avg : Nat)
  /-- SYSCAL_ACCEPT (R136): ADC_SYSCAL ACCEPT clears ADC_BAD and sets CAL_VALID. -/
  | syscalAccept (tile : Nat) (avg : Nat)
  /-- SYSCAL_DONE (R135): A system calibration operation completes and writes its results in one step, or is abandoned. -/
  | syscalDone (tile : Nat)
  /-- OWT_AUTO_START (R140): Every PERIOD spans an automatic open-wire test starts on the next input and polarity. -/
  | owtAutoStart (tile : Nat)
  /-- ADC_OWT_CMD (R140): A write to ADC_OWT_CMD starts a single open-wire test at the next span boundary, or is refused. -/
  | adcOwtCmd (tile : Nat) (input : Nat) (down : Bool)
  /-- CAPTURE_RECORD_WRITTEN (R148): A capture record reaches DRAM and WP advances; a drop, a wrap, a fill event or a translation fault follows as the ring requires. -/
  | captureRecordWritten (ring : Nat)
  /-- CAPTURE_RING_ENABLE (R148): Setting DMA_CAP_CTRL.EN from 0 to 1 sets WP, RP and WRAP to 0. -/
  | captureRingEnable (ring : Nat)
  /-- CONFIG_BROADCAST (R87): From B − 400 the configuration is broadcast from the bank and each tile composes its shadow codes. -/
  | configBroadcast (ce : List Nat) (ue : List Nat)
  /-- SHADOW_DEADLINE (R87): At B − 48 each tile raises READY if its configuration bits arrived intact. -/
  | shadowDeadline (bad : List Nat)
  /-- COMMIT_DECISION_POINT (R88): At B − 32 the generator samples hold and READY and launches the strobe or a suppress marker. -/
  | commitDecisionPoint (agree : Bool)
  /-- COMMIT_STROBE_EDGE (R87): The strobe edge reaches each tile, and group-0 active registers load from the shadows. -/
  | commitStrobeEdge (missU : List Nat) (missO : List Nat)
  /-- GUARDED_GROUP_LOAD (R250): Groups 1..3 of a guarded commit load at 8, 16 and 24 ns after the boundary. -/
  | guardedGroupLoad (group : Nat)
  /-- LEG_DEPARTURE (R72): A driver leg departs from its share for 2 grains, is disconnected, and LEG_LOST is sent. -/
  | legDeparture (tile : Nat) (ch : Nat) (legB : Bool)
  /-- HEATER_SLICE_FAIL (R79): A slice comparator marks a heater slice failed after 32 grains of difference. -/
  | heaterSliceFail (tile : Nat) (ch : Nat)
  /-- HTR_SWAP (R96): A write to HTR_SWAP connects a free spare slice to a channel with HTR_FAILED set, or is refused. -/
  | htrSwap (tile : Nat) (spare : Nat) (ch : Nat)
  /-- CURRENT_MEASUREMENT (R85): The tile current monitor measures one quantity and updates its register. -/
  | currentMeasurement (tile : Nat) (k : Nat) (current : Nat) (volt : Nat)
  /-- MONITOR_SCAN_END (R85): At the end of a scan TILE_DRV_PWR and TILE_HTR_PWR are updated, and DRIVE_DRIFT is checked. -/
  | monitorScanEnd (tile : Nat)
  /-- SLOT_SKEW_APPLY_WRITE (R91): A write of APPLY requests that staged delays be copied at the next commit decision point. -/
  | slotSkewApplyWrite (value : Nat)
  /-- TRIM_PULSE_START (R104): At grain START of a span the sequencer starts the chosen pulse and checks its timing set. -/
  | trimPulseStart (tile : Nat)
  /-- TRIM_PULSE_END (R101): A trim pulse ends, and the count, train progress, tap and wear thresholds are updated. -/
  | trimPulseEnd (tile : Nat)
  /-- TRIM_CMD_PULSE (R119): TRIM_CMD PULSE queues one pulse with a named timing set, or is refused. -/
  | trimCmdPulse (tile : Nat) (ch : Nat) (up : Bool) (set : Nat)
  /-- TRIM_CMD_TRAIN (R119): TRIM_CMD TRAIN queues a one-tap train, or is refused or consumed under R109. -/
  | trimCmdTrain (tile : Nat) (ch : Nat) (up : Bool)
  /-- TRIM_CMD_ASSIGN (R119): TRIM_CMD ASSIGN sets TAP and clears TAP_UNKNOWN in CHARACTERISE. -/
  | trimCmdAssign (tile : Nat) (ch : Nat) (tap : Nat)
  /-- TRIM_TSET_WRITE (R103): A write to an edge of a timing set clears SUSP for every channel naming it. -/
  | trimTsetWrite (tile : Nat) (set : Nat) (edge : Nat) (value : Nat)
  /-- WEAR_RECORD_DURABLE (R113): A wear-log record becomes durable in flash, or WEAR_NVM is sent when it cannot be made durable. -/
  | wearRecordDurable (ok : Bool)
  /-- LOG_COMPACTION_DONE (R115): A snapshot has been written into the other log half and the full half has been erased. -/
  | logCompactionDone
  /-- AGE_TICK (R112): AGE_S advances by one powered second, and an AGE record is appended every 3,600 s. -/
  | ageTick
  /-- WEAR_QUERY (R120): A write to WEAR_QUERY starts a headroom computation for a cell. -/
  | wearQuery (cell : Nat)
  /-- WEAR_QUERY_DONE (R117): The headroom computation completes, and WEAR_STATUS.DONE sets. -/
  | wearQueryDone
  /-- CORRECTION_BLOCK_FETCH (R170): LEAD grains before a boundary the block of a position is requested or reused, with EN sampled. -/
  | correctionBlockFetch (pend : Bool) (pos : Nat)
  /-- CORRECTION_BLOCK_ARRIVAL (R170): A correction-table block arrives in the tile prefetch buffer. -/
  | correctionBlockArrival (pend : Bool) (tile : Nat) (pos : Nat)
  /-- CORRECTION_BLOCK_DEADLINE (R170): At 400 grains before its boundary a missing block is late: SLOT_RC_LATE increments and LATEBLK sets. -/
  | correctionBlockDeadline (pend : Bool) (pos : Nat)
  /-- DDS_SWAP (R188): A write of SWAP sets PEND, and at the next span boundary every tone takes the new list. -/
  | ddsSwap (tile : Nat)
  /-- SWP_CMD_START (R196): SWP_CMD START starts the sweep player at a segment in CHARACTERISE. -/
  | swpCmdStart (seg : Nat)
  /-- SWP_CMD_STOP (R196): SWP_CMD STOP returns the player to IDLE and copies the last outputs to HTR_MAN. -/
  | swpCmdStop (seg : Nat)
  /-- SWP_CMD_RESUME (R196): SWP_CMD RESUME continues a PAUSED player in CHARACTERISE. -/
  | swpCmdResume (seg : Nat)
  /-- SWP_JUMP_WRITE (R193): A write to SWP_JUMP sets the pending jump target and prefetches its first 4 KiB. -/
  | swpJumpWrite (seg : Nat)
  /-- OUTPUT_INSTANT (R192): Every 1 µs the player advances P, enters new frames and computes the resampled heater outputs. -/
  | outputInstant
  /-- SWEEP_FRAME_ARRIVAL (R195): Prefetched frames arrive in the player buffer, ending an underrun. -/
  | sweepFrameArrival (seg : Nat) (first : Nat) (n : Nat)
  /-- MC_LOAD_START (R220): MC_LOAD_CMD START checks and loads a loop program into the target tiles, or is refused with ERR 0x0C. -/
  | mcLoadStart
  /-- MC_LOAD_DONE (R221): The microcode load and readback complete; VALID, MC_LOAD_FAIL and DONE are set. -/
  | mcLoadDone (bad : List Nat)
  /-- CONTROL_STORE_READ (R230): A read of MC_CS_DATA[0] captures all fields and the parity of the addressed control-store word. -/
  | controlStoreRead (tile : Nat)
  /-- CFG_COMMIT (R237): A write to CFG_COMMIT schedules a bank configuration commit at a span boundary, or is refused. -/
  | cfgCommit (bank : Nat) (guard : Bool)
  /-- SLOT_ARM (R239): SLOT_CMD ARM starts validation of the idle list memory, or is refused with STATE. -/
  | slotArm
  /-- ARM_VALIDATION_DONE (R242): At the arm instant the list is armed with start S fixed, or an error code is recorded. -/
  | armValidationDone
  /-- SLOT_DISARM (R240): SLOT_CMD DISARM clears ARMED at least 2,000 ns before S, or is refused. -/
  | slotDisarm
  /-- SLOT_STOP (R246): SLOT_CMD STOP schedules the stop configuration at a stop boundary, or is refused. -/
  | slotStop (bank : Nat) (guard : Bool) (atEnd : Bool)
  /-- BOUNDARY_FIX_GRAIN (R279): At t_B − 512 ns the slot timer fixes the grain of a slot boundary. -/
  | boundaryFixGrain
  /-- SLOT_BOUNDARY (R243): A slot boundary passes; the slot position and cycle count advance. -/
  | slotBoundary
  /-- STAGING_COPY_ARRIVAL (R245): A DRAM configuration copy arrives in its staging bank and is checked. -/
  | stagingCopyArrival (mem : Nat) (place : Nat)
  /-- RTE_SOLVE (R257): RTE_CMD SOLVE routes the permutation in RTE_PERM into a target configuration. -/
  | rteSolve
  /-- RTE_ADD (R258): RTE_CMD ADD adds one circuit, moving the fewest live circuits. -/
  | rteAdd
  /-- RTE_DROP (R257): RTE_CMD DROP sets the attenuator of an input's port dark. -/
  | rteDrop
  /-- RTE_SHUTMASK (R251): RTE_CMD SHUTMASK sets SHUT and PRED of the target from its predecessor. -/
  | rteShutmask
  /-- RTE_TRACE (R257): RTE_CMD TRACE returns the port an input reaches and whether it is lit. -/
  | rteTrace
  /-- RTE_EXTRACT (R257): RTE_CMD EXTRACT writes the live circuit of each input into RTE_PERM. -/
  | rteExtract
  /-- RTE_MARK (R257): RTE_CMD MARK marks a cell faulted until reset. -/
  | rteMark
  /-- ROUTE_SOLVER_DONE (R259): A solver command completes with its status code. -/
  | routeSolverDone (cycles : Nat)
  /-- PTP_STEP (R267): PTP_CMD STEP loads network time from PTP_SET, or is refused. -/
  | ptpStep
  /-- PTP_ADJ (R267): PTP_CMD ADJ adds PTP_ADJ_NS to network time, or is refused. -/
  | ptpAdj
  /-- MAC_TIME_SETTLED (R267): After a step every MAC time copy holds the new count, and SETTLE clears. -/
  | macTimeSettled
  /-- PTP_INCR_FRAC_WRITE (R264): A write of PTP_INCR_FRAC stages the fractional increment. -/
  | ptpIncrFracWrite (value : Nat)
  /-- PTP_INCR_NS_WRITE (R264): A write of PTP_INCR_NS checks the pair and loads INCR whole, or is refused. -/
  | ptpIncrNsWrite (value : Nat)
  /-- SERVO_OFFSET_WRITE (R268): A write to PTP_SERVO_OFS offers an offset to the servo under SRC FW. -/
  | servoOffsetWrite (value : Nat)
  /-- SERVO_SILENCE (R270): The silence reaches PTP_SERVO_HOLD; the servo enters HOLDOVER and sends PTP_HOLDOVER. -/
  | servoSilence
  /-- PPS_IN_EDGE (R276): A 1PPS input edge is stamped and offers an offset, or sets PPS_RANGE. -/
  | ppsInEdge (edge : PpsEdge)
  /-- PPS_LOSS (R276): No edge is accepted for 1.5 s; PPS_LOSS sets and is sent. -/
  | ppsLoss
  /-- PPS_OUT_RISE (R277): The 1PPS output rises at each whole second plus DLY. -/
  | ppsOutRise
  /-- PPS_OUT_FALL (R277): The 1PPS output falls after WIDTH µs. -/
  | ppsOutFall
  /-- TXTS_FIFO_READ (R275): A read of PTP_TXTS_ID removes the oldest transmit stamp and captures it. -/
  | txtsFifoRead (port : Nat)
  /-- PORT_LINK_CHANGE (R285): A signalling port's LINK changes, and SIG_LINK and the link event are sent. -/
  | portLinkChange (port : Nat) (up : Bool) (var : Nat)
  /-- FRAME_RECEIVE (R288): A frame received with a good FCS is metered, trapped, learned and forwarded; one with a
  wrong FCS is discarded (R284). -/
  | frameReceive (port : Nat) (frame : RxFrame) (stamp : Nat) (cw : Nat) (unc : Nat)
  /-- EGRESS_FRAME_START (R325): When the transmitter is free the eligible queue of highest q starts its head frame. -/
  | egressFrameStart (port : Nat) (stamp : Nat)
  /-- PORT_M_TX_SUBMIT (R286): Firmware advances SIG_M_TX_WP, and the element enters a pipeline or is sent to DEST. -/
  | portMTxSubmit (wp : Nat)
  /-- LEARN_REQUEST_APPLY (R291): The table applies one queued insertion or move request. -/
  | learnRequestApply (pipe : Nat)
  /-- FLAP_WINDOW_CLOSE (R294): A move window closes 1,000 ms after it opened. -/
  | flapWindowClose (pipe : Nat) (pos : Nat)
  /-- FLAP_HOLD_EXPIRY (R294): The hold-down of a locked entry ends and the lock clears. -/
  | flapHoldExpiry (pipe : Nat) (pos : Nat)
  /-- AGE_SWEEP (R295): The sweeper visits a slot, clearing HIT or removing a dynamic entry. -/
  | ageSweep (pipe : Nat) (pos : Nat)
  /-- FWD_SEARCH (R297): FWD_CMD SEARCH looks up a key in the MAC table. -/
  | fwdSearch (pipe : Nat)
  /-- FWD_NEXT (R298): FWD_CMD NEXT returns the first entry at or after a cursor position. -/
  | fwdNext (pipe : Nat)
  /-- FWD_FLUSH_PORT (R297): FWD_CMD FLUSH_PORT removes the dynamic, or all, entries of a port. -/
  | fwdFlushPort (pipe : Nat)
  /-- FWD_BULK_LOAD (R299): FWD_CMD BULK_LOAD applies records from DRAM, optionally replacing the table and seed. -/
  | fwdBulkLoad (pipe : Nat)
  /-- FWD_CMD_DONE (R297): A table command completes and DONE and ERR are set. -/
  | fwdCmdDone (pipe : Nat)
  /-- LPM_INSERT (R301): LPM_CMD INSERT places or replaces a prefix entry. -/
  | lpmInsert
  /-- LPM_DELETE (R301): LPM_CMD DELETE removes a prefix entry. -/
  | lpmDelete
  /-- LPM_LOOKUP (R301): LPM_CMD LOOKUP matches LPM_KEY and writes LPM_RES. -/
  | lpmLookup
  /-- LPM_CMD_DONE (R301): An LPM command completes. -/
  | lpmCmdDone
  /-- CIRCUIT_SETUP (R307): The request engine serves a SETUP through lookup, port choice, ADD, move meter and commit. -/
  | circuitSetup
  /-- CIRCUIT_RELEASE (R312): The request engine serves a RELEASE by DROP and commit. -/
  | circuitRelease
  /-- CIRCUIT_QUERY (R306): The request engine answers a QUERY with STATE_REPLY. -/
  | circuitQuery
  /-- ENGINE_COMMIT_RETRY (R310): The engine rewrites its CFG_COMMIT after a refused or suppressed commit, or refuses with COMMIT. -/
  | engineCommitRetry
  /-- TRAFFIC_TICK (R316): Every 1 µs meter buckets and shaper credits are refilled. -/
  | trafficTick
  /-- MOVE_TICK (R328): Every 1 ms the move-meter buckets are refilled. -/
  | moveTick
  /-- METER_ENABLE (R322): A write that sets POL_CFG.EN is checked, and the buckets are set full at the next tick. -/
  | meterEnable (meter : Nat) (value : Nat)
  /-- SHAPER_UPDATE (R326): A write to SHP_Q is applied whole at the next traffic tick. -/
  | shaperUpdate (port : Nat) (queue : Nat) (value : Nat)
  /-- MOVE_CHARGE (R331): MOVE_CMD CHARGE colours and admits or refuses one move at a port. -/
  | moveCharge (port : Nat) (wearok : Bool)
  /-- MOVE_PEEK (R331): MOVE_CMD PEEK colours one move without charging it. -/
  | movePeek (port : Nat) (wearok : Bool)
  /-- MOVE_PORT_WRITE (R332): A write to MOVE_PORT changes a port's profile at the next move tick, or is refused. -/
  | movePortWrite (port : Nat) (value : Nat)
  /-- CAL_START (R338): CAL_CMD START starts a campaign, or is refused with STATE. -/
  | calStart
  /-- CAL_ABORT (R338): CAL_CMD ABORT abandons a campaign or clears PENDING. -/
  | calAbort
  /-- CAL_TRIGGER_CHECK (R337): Every 1 ms each tile's temperature is compared with TILE_CAL_TREF. -/
  | calTriggerCheck
  /-- CAMPAIGN_PENDING_START (R338): A PENDING campaign enters RUN once the start conditions and the holdoff are met. -/
  | campaignPendingStart
  /-- COMPARATOR_BLOCK_DONE (R342): 1,024 shadow-comparator decisions are counted and the trim is stepped or converged. -/
  | comparatorBlockDone (tile : Nat) (conv : Nat) (ones : Nat)
  /-- PROBE_MARKER (R343): A probe marker is compared with the reference edge, and each vote steps the delay search. -/
  | probeMarker (tile : Nat) (tree : Nat) (late : Bool)
  /-- MEASURE_TIMEOUT (R339): A MEASURE stage exceeds MSPANS, and the tile is skipped. -/
  | measureTimeout (tile : Nat)
  /-- TEMP_READING (R351): Every 100 µs a tile reads its temperature diode. -/
  | tempReading (tile : Nat) (raw : Int)
  /-- MODEL_STEP (R354): Every 1 ms the thermal model predicts hot-spot temperatures and the device level is evaluated. -/
  | modelStep
  /-- RAIL_SAMPLE (R363): Every 1 µs each rail is sampled and warning or failure excursions are judged. -/
  | railSample (rail : Nat) (mv : Nat)
  /-- RING_OSC_COUNT (R364): Every 1 ms each tile counts its ring oscillator and checks HLT_PROC_MIN. -/
  | ringOscCount (tile : Nat) (count : Nat)
  /-- TILE_HOLD_CMD (R383): RED_TCMD HOLD sets a tile's command hold cause. -/
  | tileHoldCmd (tile : Nat)
  /-- TILE_RELEASE_CMD (R383): RED_TCMD RELEASE clears a tile's command cause, and its fault cause when allowed. -/
  | tileReleaseCmd (tile : Nat)
  /-- TILE_REJOIN (R377): RED_TCMD REJOIN starts the rejoin of an OUT half, or is refused. -/
  | tileRejoin (tile : Nat) (halves : Nat)
  /-- TILE_RESTART (R384): RED_TCMD RESTART zeroes and restarts the named halves of a held tile. -/
  | tileRestart (tile : Nat) (halves : Nat)
  /-- TILE_DISABLE (R391): RED_TCMD DISABLE takes a half OUT at the next span boundary. -/
  | tileDisable (tile : Nat) (halves : Nat)
  /-- TILE_SWAP (R391): RED_TCMD SWAP moves the token to the STANDBY half at the next span boundary. -/
  | tileSwap (tile : Nat)
  /-- SLOT_TIMER_REJOIN (R388): RED_SLOT_CMD REJOIN copies state into a slot-timer half and starts its comparison. -/
  | slotTimerRejoin (halves : Nat)
  /-- SLOT_TIMER_SWAP (R392): RED_SLOT_CMD SWAP moves the generator token. -/
  | slotTimerSwap
  /-- LOCKSTEP_MISMATCH (R389): The management-core outputs differ; MGT_CMP is sent and a warm restart begins. -/
  | lockstepMismatch
  /-- WATCHDOG_EXPIRY (R389): RED_MGT_HB is not written for RED_MGT_WDT µs; MGT_HANG is sent and a warm restart begins. -/
  | watchdogExpiry
  /-- MGT_HEARTBEAT_WRITE (R389): A write to RED_MGT_HB restarts the management watchdog. -/
  | mgtHeartbeatWrite
  /-- FAULT_MESSAGE_ACCEPT (R394): The collector accepts one fault message, logs or merges it, and applies its reaction. -/
  | faultMessageAccept
  /-- FLT_ACK_ONE (R402): FLT_ACK with ALL 0 removes one entry from the unacknowledged list. -/
  | fltAckOne (seq : Nat)
  /-- FLT_ACK_ALL (R402): FLT_ACK with ALL 1 empties the unacknowledged list. -/
  | fltAckAll
  /-- SABLE_ENTRY (R407): The Sable line is driven; outputs are forced to blocking, histories freeze and the flight routine starts. -/
  | sableEntry
  /-- FLT_REC_DONE (R413): FLT_REC_CMD DONE sets FLT_REC_STATUS.DONE after the flight record is written. -/
  | fltRecDone
  /-- FLT_REC_UNFREEZE (R411): FLT_REC_CMD UNFREEZE clears FROZEN and DONE and resumes the histories. -/
  | fltRecUnfreeze
  /-- EVENT_ROUTING (R420): The router routes the events published in the previous cycle to subscribed inputs. -/
  | eventRouting
  /-- RELAY_INPUT (R421): A relay takes an occurrence and republishes it with HOP + 1, or cuts the loop at HOP 6. -/
  | relayInput (relay : Nat)
  /-- SWP_START_INPUT (R419): An occurrence at SWP_START performs SWP_CMD START. -/
  | swpStartInput
  /-- SWP_STOP_INPUT (R419): An occurrence at SWP_STOP performs SWP_CMD STOP. -/
  | swpStopInput
  /-- CAL_START_INPUT (R419): An occurrence at CAL_START performs CAL_CMD START. -/
  | calStartInput
  /-- DMA_TRIG_INPUT (R437): An occurrence at DMA_TRIG moves an ARMED channel to RUN. -/
  | dmaTrigInput (ch : Nat)
  /-- HOST_MESSAGE_INPUT (R451): A host-message input sends a Plovom MSG and is free once the frame has left. -/
  | hostMessageInput (k : Nat)
  /-- INTERRUPT_TAKE (R419): Writing 1 to EVT_INST.PEND takes a firmware interrupt occurrence. -/
  | interruptTake (irq : Nat)
  /-- SOFTWARE_PUBLISH (R418): A write to EVT_SWPUB publishes software source K. -/
  | softwarePublish (ini : Initiator) (k : Nat)
  /-- EVENT_ENTRY_WRITE (R424): A write to EVT_SRC or EVT_SUB is checked against channel ownership and security. -/
  | eventEntryWrite (ini : Initiator) (input : Bool) (index : Nat) (value : Nat)
  /-- MGT_REMAP_WRITE (R431): A CORE write to REMAP switches windows 0 and 1 once held paths are released. -/
  | mgtRemapWrite (ini : Initiator) (value : Nat)
  /-- DMA_START (R437): DMA_CH_CMD START fetches the first descriptor and enters RUN or ARMED. -/
  | dmaStart (ch : Nat)
  /-- DMA_RESUME (R439): DMA_CH_CMD RESUME restarts a PARKED channel at its resume point. -/
  | dmaResume (ch : Nat)
  /-- DMA_ABORT (R437): DMA_CH_CMD ABORT returns the channel to IDLE after outstanding units complete. -/
  | dmaAbort (ch : Nat)
  /-- DMA_UNIT_ISSUE (R439): A unit is translated and issued, or a translation fault parks the channel. -/
  | dmaUnitIssue
  /-- DMA_UNIT_COMPLETE (R438): A DMA unit completes, possibly completing its descriptor or ending the channel in ERROR. -/
  | dmaUnitComplete (ch : Nat)
  /-- MMU_INV_ALL (R443): MMU_INV ALL invalidates every cached translation. -/
  | mmuInvAll
  /-- MMU_INV_STREAM (R443): MMU_INV STREAM invalidates the translations of one stream. -/
  | mmuInvStream (stream : Nat)
  /-- MMU_INV_PAGE (R443): MMU_INV PAGE invalidates the translation of one page. -/
  | mmuInvPage (stream : Nat)
  /-- DQS_TRACKING (R434): Every 100 ms the controller tracks DQS drift and applies new delays. -/
  | dqsTracking
  /-- PATROL_SCRUB (R435): The patrol scrubber reads and corrects the usable DRAM. -/
  | patrolScrub (word : Nat) (err : Nat)
  /-- PLOVOM_LINK_STATE (R445): A Plovom link changes among DOWN, ALIGN, INIT and UP, and PLV_LINK is sent. -/
  | plovomLinkState (link : Nat) (v : Nat) (lanes : Nat)
  /-- PLV_READ (R447): A host READ is issued to the matrix and answered with CPL. -/
  | plvRead (link : Nat) (tag : Nat) (addr : Nat) (len : Nat)
  /-- PLV_WRITE (R447): A host WRITE is issued to the matrix and answered with CPL. -/
  | plvWrite (link : Nat) (tag : Nat) (addr : Nat) (data : List Byte)
  /-- PLV_PWRITE (R447): A host posted PWRITE is issued to the matrix. -/
  | plvPwrite (link : Nat) (addr : Nat) (data : List Byte)
  /-- PLV_MSG (R451): A MSG from the host enters the mailbox, or is dropped when it is full. -/
  | plvMsg (link : Nat) (index : Nat) (data : Nat)
  /-- PLV_CPL (R449): A completion for a T1024 DMA_RD arrives. -/
  | plvCpl (link : Nat) (tag : Nat) (status : Nat) (data : List Byte)
  /-- PLV_ACK (R449): An ACK frees acknowledged frames from the replay buffer. -/
  | plvAck (link : Nat) (seq : Nat)
  /-- PLV_NAK (R449): A NAK causes replay from the frame after the one named. -/
  | plvNak (link : Nat) (seq : Nat)
  /-- PLV_CREDIT (R448): A CREDIT frame returns buffer credit. -/
  | plvCredit (link : Nat) (p : Nat) (np : Nat) (cpl : Nat)
  /-- PLV_INIT (R445): An INIT frame received in INIT brings the link UP and sets credits. -/
  | plvInit (link : Nat) (p : Nat) (np : Nat) (cpl : Nat)
  /-- PLV_BAD_FRAME (R449): A frame with bad CRC or out-of-order SEQ is discarded and a NAK is sent. -/
  | plvBadFrame (link : Nat) (crc : Bool)
  /-- PLV_REPLAY_TIMEOUT (R449): No ACK for 10 µs causes a replay; a fourth replay takes the link DOWN. -/
  | plvReplayTimeout (link : Nat)
  /-- DMA_RD_TIMEOUT (R449): A DMA_RD without completion for 1 ms ends its channel with HOST. -/
  | dmaRdTimeout (link : Nat) (tag : Nat)
  /-- PLV_MBOX_READ (R451): A read of PLV_MBOX_IDX removes the oldest mailbox entry and captures its DATA. -/
  | plvMboxRead
  /-- TAP_INSTRUCTION (R501): An IEEE 1149.1 TAP operation clocked in on TCK, TMS and TDI selects and runs an instruction such as IDCODE, BYPASS, EXTEST, CLAMP or INTEST, the pin-driving ones taking effect only while RESET_N is asserted. -/
  | tapInstruction (ir : Nat)
deriving DecidableEq, Repr

end Sys2Proof
end

