-- ==== Sys2Proof/Decode.lean ====
section
/-! DEFINITION. The commands of spec/opcode_table.json have no bits (every row's field list is
empty): a word spells none of them. -/
namespace Sys2Proof

/-- The command that a word of `nbits` bits spells by the table: none, since the table gives no
row any bits. -/
def decodeTableWord (nbits w : Nat) : Option Instr :=
  match nbits, w with
  | _, _ => none

end Sys2Proof
end

