-- ==== Sys2Proof/Config.lean ====
section
/-! DEFINITION. What the spec leaves open, as constants without a body: no proof can see a value
of them, so what is proved holds whatever they are (log entries 7, 10, 11, 12 and 13). -/
namespace Sys2Proof.Config

/-- A free value: the n-th value that the spec leaves undefined in a run (log entry 7). The
model applies it to the counter State.freeCtr and takes it modulo the width it needs. -/
opaque freeValue : Nat → Nat

/-- The byte that DRAM returns at an offset that has not been written (R503: undefined data);
the second argument tells one read from another. -/
opaque dramByte : Nat → Nat → Byte

/-- The ECC error that a DRAM word of 32 bytes holds that has not been written (R503: undefined ECC): 0 none, 1 a
corrected one, above that an uncorrectable one (log entry 56); the second argument tells one reset from another. -/
opaque dramEcc : Nat → Nat → BitVec 2

/-- The byte of the boot ROM at an offset of its window (R30; contents not given, log entry 11). -/
opaque bootRom : Nat → Byte

/-- The microwords 3,840..4,095 that the boot ROM supplies (R221; contents not given, log
entry 11). -/
opaque seqWord : Nat → Nat

/-- Which of the conforming results of the route solver is given (R260 leaves the choice open,
log entry 12): a number that selects among them. -/
opaque routeChoice : Nat → Nat

/-- The fused key hashes KEYHASH0 and KEYHASH1 (R465; a manufacturer's values, log entry 11). -/
opaque keyHash : Nat → Nat

/-- Grains by which a tile leaves reset after the first tile, below 4,096 (R186 leaves them undefined, log
entry 7); the first argument tells one reset from another. -/
opaque tileRelease : Nat → Nat → Nat

end Sys2Proof.Config
end

