-- ==== Sys2Proof/Machine/Bits.lean ====
section
/-! DEFINITION. Bit fields, two's complement, saturation, rounding shifts and byte order,
used by every rule that names the bits of a word. Values that are only computed with are
natural numbers or integers, exact, and are narrowed at the end (00_scope.md, Table forms:
arithmetic in pseudocode is exact unless saturation or rounding is written out). -/
namespace Sys2Proof.Machine

/-- Field [hi:lo] of a word (00_scope.md, Numbers). -/
def bits (n hi lo : Nat) : Nat := (n >>> lo) % 2 ^ (hi + 1 - lo)

/-- Single bit [i] of a word. -/
def bit (n i : Nat) : Bool := n.testBit i

/-- A Boolean as a bit. -/
def b2n (b : Bool) : Nat := if b then 1 else 0

/-- `n` with field [hi:lo] replaced by the low bits of `v`. -/
def setBits (n hi lo v : Nat) : Nat :=
  (n >>> (hi + 1)) <<< (hi + 1) + (v % 2 ^ (hi + 1 - lo)) <<< lo + n % 2 ^ lo

/-- `n` with bit [i] set to `b`. -/
def setBit (n i : Nat) (b : Bool) : Nat := setBits n i i (b2n b)

/-- `a` with `k` taken off, 0 where `a` is less. -/
def less (a k : Nat) : Nat := a - k

/-- The bits of `n` that are not in `m`. -/
def andNot (n m : Nat) : Nat := n - (n &&& m)

/-- The signed value of the low `w` bits of `n` (two's complement, R3 and 00_scope.md). -/
def sx (w n : Nat) : Int :=
  let m := n % 2 ^ w
  if m < 2 ^ (w - 1) then (m : Int) else (m : Int) - (2 ^ w : Nat)

/-- The low `w` bits of an integer, as an unsigned word. -/
def ux (w : Nat) (x : Int) : Nat := (x % ((2 ^ w : Nat) : Int)).toNat

/-- An integer limited to lo..hi. -/
def clampI (lo hi x : Int) : Int := if x < lo then lo else if hi < x then hi else x

/-- Saturation to a signed format of `w` bits. -/
def satS (w : Nat) (x : Int) : Int := clampI (-((2 ^ (w - 1) : Nat) : Int)) (((2 ^ (w - 1) : Nat) : Int) - 1) x

/-- Saturation to an unsigned format of `w` bits. -/
def satU (w : Nat) (x : Int) : Int := clampI 0 (((2 ^ w : Nat) : Int) - 1) x

/-- Arithmetic shift right, rounding toward minus infinity. -/
def asr (x : Int) (n : Nat) : Int := x / ((2 ^ n : Nat) : Int)

/-- Shift left of a signed value. -/
def shl (x : Int) (n : Nat) : Int := x * ((2 ^ n : Nat) : Int)

/-- A count that stops at the largest value of `w` bits. -/
def satInc (w n k : Nat) : Nat := min (n + k) (2 ^ w - 1)

/-- Division of integers rounding toward zero. -/
def tdiv (a b : Int) : Int := Int.tdiv a b

/-- The `n` bytes of a value, least significant first (R5: little-endian). -/
def leBytes : Nat → Nat → List (BitVec 8)
  | 0, _ => []
  | n + 1, v => BitVec.ofNat 8 v :: leBytes n (v / 256)

/-- The value of a list of bytes, least significant first. -/
def leVal : List (BitVec 8) → Nat
  | [] => 0
  | b :: r => b.toNat + 256 * leVal r

/-- The `n` bytes of a value in network order, most significant first. -/
def beBytes (n v : Nat) : List (BitVec 8) := (leBytes n v).reverse

/-- The value of a list of bytes in network order. -/
def beVal (l : List (BitVec 8)) : Nat := leVal l.reverse

/-- `n` bytes of a list from offset `o`. -/
def slice {α : Type} (l : List α) (o n : Nat) : List α := (l.drop o).take n

/-- Number of ones among the low `w` bits. -/
def popCount : Nat → Nat → Nat
  | 0, _ => 0
  | w + 1, n => n % 2 + popCount w (n / 2)

/-- The first element of 0..n-1 that satisfies `p`. -/
def firstUpto (n : Nat) (p : Nat → Bool) : Option Nat := (List.range n).find? p

/-- `f n`, with the number n computed first, so that a long run of steps evaluates one step at a time. -/
def computed {α : Type} (n : Nat) (f : Nat → α) : α :=
  match n with
  | 0 => f 0
  | k + 1 => f (k + 1)

/-- Fold over 0..n-1 in rising order. -/
def forUpto {σ : Type} (n : Nat) (s : σ) (f : Nat → σ → σ) : σ := (List.range n).foldl (fun s i => f i s) s

/-- Fold over a list in order, the state last in the body. -/
def forIn' {α σ : Type} (l : List α) (s : σ) (f : α → σ → σ) : σ := l.foldl (fun s a => f a s) s

end Sys2Proof.Machine
end

