-- ==== Sys2Proof/Machine/Regs.lean ====
section
/-! DEFINITION. The registers: one name per row of the spec's register tables, with where each
lies (R30, R31), what it holds after reset (R11, table Reset column), which bits software may
write (R9), which of those are refused while the block is not idle (R11), which bits a written
1 clears and which a read clears (R9). -/
namespace Sys2Proof.Machine

/-- The condition that a rule calls open or idle for an RWL register (R11). -/
inductive Lock where
  /-- No lock: writable at any time. -/
  | none
  /-- CHARACTERISE or the tile in HOLD (R77, R119, R230). -/
  | drv
  /-- CHARACTERISE (R150). -/
  | adc
  /-- The ring EN is 0 (R151). -/
  | cap
  /-- Every loop of the tile OPEN (R174). -/
  | loopTile
  /-- The loop of the channel OPEN (R174). -/
  | loopCh
  /-- Table 0 not named by SEL while RUN (R177). -/
  | rc0
  /-- Table 1 not named by SEL while RUN (R177). -/
  | rc1
  /-- No move in progress on the tile (R197). -/
  | prf
  /-- The list is not the active list (R198). -/
  | dds
  /-- The player IDLE or DONE (R199). -/
  | swpMap
  /-- The segment not active (R199). -/
  | swpSeg
  /-- The list memory neither operating nor armed (R240). -/
  | list
  /-- No list armed or operating (R262). -/
  | cfg
  /-- RTE BUSY is 0 (R263). -/
  | rte
  /-- Engine queue empty and no engine commit (R313). -/
  | sigBank
  /-- Receive ring EN 0 (R313). -/
  | ringRX
  /-- Transmit ring EN 0 (R313). -/
  | ringTX
  /-- The port disabled (R285). -/
  | port
  /-- No table command running (R297). -/
  | fwdBusy
  /-- The meter disabled (R322). -/
  | pol
  /-- No port uses the profile (R332). -/
  | moveProf
  /-- Campaign IDLE or PENDING (R349). -/
  | cal
  /-- No source or input of the channel enabled (R426). -/
  | evtCh
  /-- The channel IDLE or ERROR (R453). -/
  | dma
  /-- The stream owner idle (R454). -/
  | mmu
  /-- MGT_CMD BUSY is 0 (R480). -/
  | mgtCmd
deriving DecidableEq, Repr

/-- The register names of the spec (R5: BLOCK_REGISTER), in the order of its tables. -/
inductive Reg where
  /-- R29, RO. -/
  | MGT_MODE
  /-- R29, RO. -/
  | MGT_HOLD_CAUSE
  /-- R29, RO. -/
  | MGT_MODE_STAMP_NS
  /-- R29, RO. -/
  | MGT_MODE_STAMP_S_LO
  /-- R29, RO. -/
  | MGT_MODE_STAMP_S_HI
  /-- R29, RO. -/
  | MGT_TILE_HOLD
  /-- R36, RO. -/
  | CAP_DEVICE
  /-- R36, RO. -/
  | CAP_REVISION
  /-- R36, RO. -/
  | CAP_FABRIC
  /-- R62, RO. -/
  | CFG_FMAP
  /-- R95, RWL. -/
  | DRV_CTRL
  /-- R95, W1C. -/
  | DRV_STATUS
  /-- R95, RO. -/
  | DRV_LEGA_LOST
  /-- R95, RO. -/
  | DRV_LEGB_LOST
  /-- R95, RS. -/
  | DRV_SAT
  /-- R95, RWL. -/
  | DRV_BAR
  /-- R95, RWL. -/
  | DRV_CROSS
  /-- R95, RWL. -/
  | DRV_BLOCK
  /-- R95, RW. -/
  | DRV_MAN
  /-- R95, RO. -/
  | DRV_SHADOW
  /-- R95, RO. -/
  | DRV_ACTIVE
  /-- R95, RO. -/
  | DRV_IMON
  /-- R96, RW. -/
  | HTR_CTRL
  /-- R96, W1C. -/
  | HTR_STATUS
  /-- R96, RWL. -/
  | HTR_MODE
  /-- R96, RO. -/
  | HTR_SPARE
  /-- R96, RO. -/
  | HTR_FAILED
  /-- R96, WO. -/
  | HTR_SWAP
  /-- R96, RWL. -/
  | HTR_BLOCK
  /-- R96, RW. -/
  | HTR_MAN
  /-- R96, RO. -/
  | HTR_ACTIVE
  /-- R96, RO. -/
  | HTR_PARTS
  /-- R96, RO. -/
  | HTR_IMON
  /-- R97, RO. -/
  | TILE_SKEW
  /-- R97, RW. -/
  | TILE_SKEW_NEXT
  /-- R97, RO. -/
  | TILE_COMMIT_COUNT
  /-- R97, RO. -/
  | TILE_DRV_PWR
  /-- R97, RO. -/
  | TILE_HTR_PWR
  /-- R97, WO. -/
  | SLOT_SKEW_APPLY
  /-- R97, RO. -/
  | SLOT_COMMIT_COUNT
  /-- R97, RS. -/
  | SLOT_UNREADY_COUNT
  /-- R97, RO. -/
  | SLOT_UNREADY_TILE
  /-- R119, RWL. -/
  | TRIM_CTRL
  /-- R119, W1C. -/
  | TRIM_STATUS
  /-- R119, RWL. -/
  | TRIM_WIN
  /-- R119, RWL. -/
  | TRIM_DWELL
  /-- R119, WO. -/
  | TRIM_CMD
  /-- R119, RO. -/
  | TRIM_BUSY
  /-- R119, RWL. -/
  | TRIM_CHSET
  /-- R119, RW. -/
  | TRIM_TSET
  /-- R119, RO. -/
  | TRIM_TAP
  /-- R120, RO. -/
  | WEAR_BASE_LO
  /-- R120, RO. -/
  | WEAR_BASE_HI
  /-- R120, RO. -/
  | WEAR_AGE_S
  /-- R120, RO. -/
  | WEAR_LIFE_S
  /-- R120, RO. -/
  | WEAR_ALARM
  /-- R120, RW. -/
  | WEAR_MOVE_COST
  /-- R120, WO. -/
  | WEAR_QUERY
  /-- R120, RO. -/
  | WEAR_HEADROOM
  /-- R120, W1C. -/
  | WEAR_STATUS
  /-- R120, RO. -/
  | WEAR_LOG_FILL
  /-- R120, RO. -/
  | WEAR_LOW_TILE
  /-- R150, RWL. -/
  | ADC_CTRL
  /-- R150, W1C. -/
  | ADC_STATUS
  /-- R150, RWL. -/
  | ADC_REF
  /-- R150, WO. -/
  | ADC_SYSCAL
  /-- R150, RW. -/
  | ADC_OWT
  /-- R150, WO. -/
  | ADC_OWT_CMD
  /-- R150, RW. -/
  | ADC_CAPCTL
  /-- R150, RS. -/
  | ADC_ERRCNT
  /-- R150, RW. -/
  | ADC_CAPSEL
  /-- R150, RO. -/
  | ADC_OPEN
  /-- R150, RO. -/
  | ADC_LEAK
  /-- R150, RO. -/
  | ADC_BAD
  /-- R150, RWL. -/
  | ADC_RANGE
  /-- R150, RO. -/
  | ADC_RNOW
  /-- R150, RW. -/
  | ADC_IREF
  /-- R150, RWL. -/
  | ADC_OFS
  /-- R150, RWL. -/
  | ADC_GAIN
  /-- R151, RW. -/
  | DMA_CAP_CTRL
  /-- R151, RWL. -/
  | DMA_CAP_BASE_LO
  /-- R151, RWL. -/
  | DMA_CAP_BASE_HI
  /-- R151, RWL. -/
  | DMA_CAP_SIZE
  /-- R151, RO. -/
  | DMA_CAP_WP
  /-- R151, RW. -/
  | DMA_CAP_RP
  /-- R151, RS. -/
  | DMA_CAP_DROP
  /-- R151, RO. -/
  | DMA_CAP_WRAP
  /-- R176, RWL. -/
  | LOOP_CTRL
  /-- R176, W1C. -/
  | LOOP_STATUS
  /-- R176, RWL. -/
  | LOOP_VNOM
  /-- R176, RW. -/
  | LOOP_OPEN
  /-- R176, RO. -/
  | LOOP_ISOPEN
  /-- R176, RS. -/
  | LOOP_LIM
  /-- R176, RS. -/
  | LOOP_DIM
  /-- R176, RS. -/
  | LOOP_HELD
  /-- R176, RWL. -/
  | LOOP_RLIM
  /-- R176, RWL. -/
  | LOOP_KI
  /-- R176, RWL. -/
  | LOOP_KP
  /-- R176, RWL. -/
  | LOOP_KRL
  /-- R176, RWL. -/
  | LOOP_KRD
  /-- R176, RWL. -/
  | LOOP_KRH
  /-- R176, RWL. -/
  | LOOP_KFFV
  /-- R176, RWL. -/
  | LOOP_KFFA
  /-- R176, RWL. -/
  | LOOP_SH0
  /-- R176, RWL. -/
  | LOOP_SH1
  /-- R176, RWL. -/
  | LOOP_DPH
  /-- R176, RWL. -/
  | LOOP_ULIM
  /-- R176, RWL. -/
  | LOOP_PMIN
  /-- R176, RWL. -/
  | LOOP_WMIN
  /-- R176, RW. -/
  | LOOP_RSET
  /-- R176, RW. -/
  | LOOP_PTGT
  /-- R176, RO. -/
  | LOOP_I
  /-- R176, RO. -/
  | LOOP_M
  /-- R176, RO. -/
  | LOOP_E
  /-- R176, RO. -/
  | LOOP_WBAR
  /-- R176, RO. -/
  | LOOP_GN
  /-- R176, RO. -/
  | LOOP_RSP
  /-- R176, RO. -/
  | LOOP_ST
  /-- R177, RW. -/
  | SLOT_RC_CTRL
  /-- R177, RWL. -/
  | SLOT_RC_BASE0_LO
  /-- R177, RWL. -/
  | SLOT_RC_BASE0_HI
  /-- R177, RWL. -/
  | SLOT_RC_BASE1_LO
  /-- R177, RWL. -/
  | SLOT_RC_BASE1_HI
  /-- R177, RS. -/
  | SLOT_RC_LATE
  /-- R197, W1C. -/
  | PRF_STATUS
  /-- R197, RO. -/
  | PRF_RUN
  /-- R197, RS. -/
  | PRF_LIMITED
  /-- R197, RWL. -/
  | PRF_VMAX
  /-- R197, RWL. -/
  | PRF_AMAX
  /-- R197, RWL. -/
  | PRF_JMAX
  /-- R197, RWL. -/
  | PRF_CHSET
  /-- R197, RO. -/
  | PRF_X
  /-- R197, RO. -/
  | PRF_V
  /-- R197, RO. -/
  | PRF_A
  /-- R197, RO. -/
  | PRF_CMD
  /-- R197, RWL. -/
  | PRF_MAP
  /-- R198, W1C. -/
  | DDS_STATUS
  /-- R198, WO. -/
  | DDS_SWAP
  /-- R198, RO. -/
  | DDS_N
  /-- R198, RWL. -/
  | DDS_FREQ
  /-- R198, RWL. -/
  | DDS_PHASE
  /-- R198, RWL. -/
  | DDS_AMP
  /-- R199, RW. -/
  | SWP_CTRL
  /-- R199, W1C. -/
  | SWP_STATUS
  /-- R199, WO. -/
  | SWP_CMD
  /-- R199, RW. -/
  | SWP_STEP
  /-- R199, RW. -/
  | SWP_JUMP
  /-- R199, RO. -/
  | SWP_POS
  /-- R199, RO. -/
  | SWP_FRAC
  /-- R199, RS. -/
  | SWP_UNDER_CNT
  /-- R199, RS. -/
  | SWP_UNDER_N
  /-- R199, RO. -/
  | SWP_SEGACT
  /-- R199, RWL. -/
  | SWP_MAP
  /-- R199, RWL. -/
  | SWP_SEG_LO
  /-- R199, RWL. -/
  | SWP_SEG_HI
  /-- R199, RWL. -/
  | SWP_SEG_LEN
  /-- R199, RWL. -/
  | SWP_SEG_CTRL
  /-- R230, RO. -/
  | MC_STATUS
  /-- R230, W1C. -/
  | MC_FLAGS
  /-- R230, RO. -/
  | MC_CYCLES
  /-- R230, RO. -/
  | MC_KINDS
  /-- R230, RO. -/
  | MC_CHMASK
  /-- R230, RO. -/
  | MC_DMHI
  /-- R230, RO. -/
  | MC_CRC
  /-- R230, RS. -/
  | MC_LATE_REC
  /-- R230, RO. -/
  | MC_MCHK
  /-- R230, RW. -/
  | MC_CS_ADDR
  /-- R230, RO. -/
  | MC_CS_DATA
  /-- R230, RO. -/
  | MC_CS_PAR
  /-- R230, RW. -/
  | MC_DM_ADDR
  /-- R230, RWL. -/
  | MC_DM_DATA
  /-- R230, RO. -/
  | MC_REC
  /-- R231, RW. -/
  | MC_LOAD_CTRL
  /-- R231, RW. -/
  | MC_LOAD_ADDR_LO
  /-- R231, RW. -/
  | MC_LOAD_ADDR_HI
  /-- R231, WO. -/
  | MC_LOAD_CMD
  /-- R231, RO. -/
  | MC_LOAD_STATUS
  /-- R231, RW. -/
  | MC_LOAD_TILES
  /-- R231, RO. -/
  | MC_LOAD_FAIL
  /-- R261, W1C. -/
  | SLOT_STATUS
  /-- R261, RW. -/
  | SLOT_GUARD
  /-- R261, WO. -/
  | SLOT_CMD
  /-- R261, RW. -/
  | SLOT_BASE_NS
  /-- R261, RW. -/
  | SLOT_BASE_S_LO
  /-- R261, RW. -/
  | SLOT_BASE_S_HI
  /-- R261, RO. -/
  | SLOT_START_NS
  /-- R261, RO. -/
  | SLOT_START_S_LO
  /-- R261, RO. -/
  | SLOT_START_S_HI
  /-- R261, RO. -/
  | SLOT_PEND_TC_LO
  /-- R261, RO. -/
  | SLOT_PEND_TC_HI
  /-- R261, RO. -/
  | SLOT_PEND_LEN
  /-- R261, RO. -/
  | SLOT_OP_TC_LO
  /-- R261, RO. -/
  | SLOT_OP_TC_HI
  /-- R261, RO. -/
  | SLOT_OP_LEN
  /-- R261, RO. -/
  | SLOT_POS
  /-- R261, RO. -/
  | SLOT_CYCLE
  /-- R261, RO. -/
  | SLOT_ARMERR
  /-- R261, RS. -/
  | SLOT_CFG_LATE
  /-- R261, RS. -/
  | SLOT_WIDE
  /-- R261, RWL. -/
  | SLOT_ENTRY0
  /-- R261, RWL. -/
  | SLOT_ENTRY1
  /-- R262, W1C. -/
  | CFG_STATUS
  /-- R262, WO. -/
  | CFG_COMMIT
  /-- R262, RO. -/
  | CFG_INFORCE
  /-- R262, RWL. -/
  | CFG_DRAM_BASE_LO
  /-- R262, RWL. -/
  | CFG_DRAM_BASE_HI
  /-- R262, RWL. -/
  | CFG_DRAM_COUNT
  /-- R263, WO. -/
  | RTE_CMD
  /-- R263, RW. -/
  | RTE_ARG0
  /-- R263, RW. -/
  | RTE_ARG1
  /-- R263, RW. -/
  | RTE_ARG2
  /-- R263, RO. -/
  | RTE_STATUS
  /-- R263, RO. -/
  | RTE_TIME
  /-- R263, RO. -/
  | RTE_RESULT
  /-- R263, RO. -/
  | RTE_LIST_N
  /-- R263, RO. -/
  | RTE_LIST
  /-- R263, RO. -/
  | RTE_FAULT
  /-- R263, RW. -/
  | RTE_PERM
  /-- R283, RW. -/
  | PTP_CTRL
  /-- R283, W1C. -/
  | PTP_STATUS
  /-- R283, WO. -/
  | PTP_CMD
  /-- R283, RO. -/
  | PTP_TIME_FRAC
  /-- R283, RO. -/
  | PTP_TIME_NS
  /-- R283, RO. -/
  | PTP_TIME_S_LO
  /-- R283, RO. -/
  | PTP_TIME_S_HI
  /-- R283, RW. -/
  | PTP_SET_NS
  /-- R283, RW. -/
  | PTP_SET_S_LO
  /-- R283, RW. -/
  | PTP_SET_S_HI
  /-- R283, RW. -/
  | PTP_ADJ_NS
  /-- R283, RWL. -/
  | PTP_INCR_FRAC
  /-- R283, RWL. -/
  | PTP_INCR_NS
  /-- R283, RO. -/
  | PTP_TRIM
  /-- R283, WO. -/
  | PTP_SERVO_OFS
  /-- R283, RW. -/
  | PTP_SERVO_KP
  /-- R283, RW. -/
  | PTP_SERVO_KI
  /-- R283, RW. -/
  | PTP_SERVO_SH
  /-- R283, RW. -/
  | PTP_SERVO_LIM
  /-- R283, RW. -/
  | PTP_SERVO_HOLD
  /-- R283, RW. -/
  | PTP_SERVO_LOCK
  /-- R283, RO. -/
  | PTP_SERVO_INTEG
  /-- R283, RW. -/
  | PTP_PPSIN_CTRL
  /-- R283, RW. -/
  | PTP_PPSIN_DLY
  /-- R283, RO. -/
  | PTP_PPSIN_FRAC
  /-- R283, RO. -/
  | PTP_PPSIN_NS
  /-- R283, RO. -/
  | PTP_PPSIN_S_LO
  /-- R283, RO. -/
  | PTP_PPSIN_S_HI
  /-- R283, RW. -/
  | PTP_PPSOUT_CTRL
  /-- R283, RW. -/
  | PTP_PPSOUT_DLY
  /-- R283, RO. -/
  | PTP_SPAN_NS
  /-- R283, RO. -/
  | PTP_SPAN_S_LO
  /-- R283, RO. -/
  | PTP_SPAN_S_HI
  /-- R283, RO. -/
  | PTP_SPAN_CNT
  /-- R283, RW. -/
  | PTP_ONESTEP
  /-- R283, RO. -/
  | PTP_PORT_TXC
  /-- R283, RO. -/
  | PTP_PORT_RXC
  /-- R283, RW. -/
  | PTP_PORT_ADJ
  /-- R283, RO. -/
  | PTP_PORT_VAR
  /-- R283, RO. -/
  | PTP_TXTS_ID
  /-- R283, RO. -/
  | PTP_TXTS_FRAC
  /-- R283, RO. -/
  | PTP_TXTS_NS
  /-- R283, RO. -/
  | PTP_TXTS_S_LO
  /-- R283, RO. -/
  | PTP_TXTS_S_HI
  /-- R313, RW. -/
  | SIG_SELF_LO
  /-- R313, RW. -/
  | SIG_SELF_HI
  /-- R313, RW. -/
  | SIG_REQ_CTRL
  /-- R313, W1C. -/
  | SIG_REQ_STATUS
  /-- R313, RWL. -/
  | SIG_REQ_BANK
  /-- R313, RS. -/
  | SIG_REQ_GRANTS
  /-- R313, RS. -/
  | SIG_REQ_REFUSALS
  /-- R313, RWL. -/
  | SIG_M_RX_BASE_LO
  /-- R313, RWL. -/
  | SIG_M_RX_BASE_HI
  /-- R313, RW. -/
  | SIG_M_RX_CTRL
  /-- R313, RO. -/
  | SIG_M_RX_WP
  /-- R313, RW. -/
  | SIG_M_RX_RP
  /-- R313, RS. -/
  | SIG_M_DROP
  /-- R313, RWL. -/
  | SIG_M_TX_BASE_LO
  /-- R313, RWL. -/
  | SIG_M_TX_BASE_HI
  /-- R313, RW. -/
  | SIG_M_TX_CTRL
  /-- R313, RW. -/
  | SIG_M_TX_WP
  /-- R313, RO. -/
  | SIG_M_TX_RP
  /-- R313, RW. -/
  | SIG_PORT_CFG
  /-- R313, RO. -/
  | SIG_PORT_STATUS
  /-- R313, RS. -/
  | SIG_PORT_FEC_CW
  /-- R313, RS. -/
  | SIG_PORT_FEC_UNC
  /-- R313, RS. -/
  | SIG_PORT_RX_DROP
  /-- R314, RW. -/
  | FWD_CTRL
  /-- R314, W1C. -/
  | FWD_STATUS
  /-- R314, RO. -/
  | FWD_SEED
  /-- R314, RW. -/
  | FWD_AGE
  /-- R314, RW. -/
  | FWD_FLAP
  /-- R314, WO. -/
  | FWD_CMD
  /-- R314, RW. -/
  | FWD_ARG
  /-- R314, RO. -/
  | FWD_RES
  /-- R314, RO. -/
  | FWD_COUNT
  /-- R314, RS. -/
  | FWD_INSFAIL
  /-- R314, RS. -/
  | FWD_LEARN_DROP
  /-- R314, RS. -/
  | FWD_MOVES
  /-- R314, RS. -/
  | FWD_FLAPS
  /-- R315, WO. -/
  | LPM_CMD
  /-- R315, W1C. -/
  | LPM_STATUS
  /-- R315, RW. -/
  | LPM_LEN
  /-- R315, RW. -/
  | LPM_DATA
  /-- R315, RW. -/
  | LPM_KEY
  /-- R315, RO. -/
  | LPM_RES
  /-- R315, RO. -/
  | LPM_COUNT
  /-- R315, RW. -/
  | LPM_GROUP
  /-- R333, W1C. -/
  | POL_STATUS
  /-- R333, RW. -/
  | POL_MAP
  /-- R333, RW. -/
  | POL_CFG
  /-- R333, RWL. -/
  | POL_CIR
  /-- R333, RWL. -/
  | POL_CBS
  /-- R333, RWL. -/
  | POL_PIR
  /-- R333, RWL. -/
  | POL_PBS
  /-- R333, RS. -/
  | POL_CNT_G
  /-- R333, RS. -/
  | POL_CNT_Y
  /-- R333, RS. -/
  | POL_CNT_R
  /-- R333, RO. -/
  | POL_TC
  /-- R333, RO. -/
  | POL_TP
  /-- R334, RW. -/
  | SHP_PORT_CFG
  /-- R334, RW. -/
  | SHP_QMAP
  /-- R334, RW. -/
  | SHP_Q
  /-- R334, RW. -/
  | SHP_QLIM
  /-- R334, RO. -/
  | SHP_CREDIT
  /-- R334, RS. -/
  | SHP_QDROP
  /-- R335, W1C. -/
  | MOVE_STATUS
  /-- R335, WO. -/
  | MOVE_CMD
  /-- R335, RO. -/
  | MOVE_RES
  /-- R335, RS. -/
  | MOVE_CNT_G
  /-- R335, RS. -/
  | MOVE_CNT_Y
  /-- R335, RS. -/
  | MOVE_CNT_R
  /-- R335, RS. -/
  | MOVE_CNT_WEAR
  /-- R335, RS. -/
  | MOVE_CNT_THR
  /-- R335, RWL. -/
  | MOVE_CIR
  /-- R335, RWL. -/
  | MOVE_CBS
  /-- R335, RWL. -/
  | MOVE_PIR
  /-- R335, RWL. -/
  | MOVE_PBS
  /-- R335, RW. -/
  | MOVE_PORT
  /-- R335, RO. -/
  | MOVE_TC
  /-- R335, RO. -/
  | MOVE_TP
  /-- R349, RWL. -/
  | CAL_CTRL
  /-- R349, W1C. -/
  | CAL_STATUS
  /-- R349, WO. -/
  | CAL_CMD
  /-- R349, RWL. -/
  | CAL_CWIN
  /-- R349, RWL. -/
  | CAL_TIMING
  /-- R349, RWL. -/
  | CAL_HOLDOFF
  /-- R349, RWL. -/
  | CAL_TCG
  /-- R349, RO. -/
  | CAL_TRIGGER
  /-- R349, RO. -/
  | CAL_COUNT
  /-- R349, RO. -/
  | CAL_LAST_NS
  /-- R349, RO. -/
  | CAL_LAST_S_LO
  /-- R349, RO. -/
  | CAL_LAST_S_HI
  /-- R349, RO. -/
  | CAL_DONE_TILE
  /-- R349, RO. -/
  | CAL_SKIP_TILE
  /-- R350, RO. -/
  | TILE_CAL_STATUS
  /-- R350, RO. -/
  | TILE_CMPT
  /-- R350, RO. -/
  | TILE_CMPT_NEXT
  /-- R350, RO. -/
  | TILE_CAL_TREF
  /-- R350, RO. -/
  | TILE_CAL_TG
  /-- R366, RW. -/
  | THM_CTRL
  /-- R366, W1C. -/
  | THM_STATUS
  /-- R366, RW. -/
  | THM_WARN
  /-- R366, RW. -/
  | THM_THROT
  /-- R366, RW. -/
  | THM_SHUT
  /-- R366, RW. -/
  | THM_RESTART
  /-- R366, RW. -/
  | THM_HYST
  /-- R366, RW. -/
  | THM_ROR
  /-- R366, RW. -/
  | THM_PCORE
  /-- R366, RW. -/
  | THM_ALPHA
  /-- R366, RW. -/
  | THM_KN
  /-- R366, RO. -/
  | THM_TDEV
  /-- R366, RO. -/
  | THM_RESTARTS
  /-- R366, RO. -/
  | THM_SHUT_INFO
  /-- R366, RW. -/
  | THM_KR
  /-- R366, RO. -/
  | THM_HOT
  /-- R367, RO. -/
  | HLT_V
  /-- R367, RW. -/
  | HLT_VWARN
  /-- R367, RW. -/
  | HLT_VFAIL
  /-- R367, W1C. -/
  | HLT_VSTAT
  /-- R367, RW. -/
  | HLT_PROC_MIN
  /-- R368, RO. -/
  | TILE_TEMP
  /-- R368, RS. -/
  | TILE_TEMP_MAX
  /-- R368, RO. -/
  | TILE_PROC
  /-- R368, W1C. -/
  | TILE_HLT_STATUS
  /-- R391, RO. -/
  | RED_TSTATE
  /-- R391, WO. -/
  | RED_TCMD
  /-- R391, W1C. -/
  | RED_TSTATUS
  /-- R391, RO. -/
  | RED_THCAUSE
  /-- R391, RO. -/
  | RED_SIG
  /-- R391, RO. -/
  | RED_REJOIN
  /-- R391, RO. -/
  | RED_HOLD_EST
  /-- R391, RO. -/
  | RED_HOLD_REF
  /-- R391, RS. -/
  | RED_MISMATCH_CNT
  /-- R391, RS. -/
  | RED_TOKEN_CNT
  /-- R392, RW. -/
  | RED_CTRL
  /-- R392, W1C. -/
  | RED_STATUS
  /-- R392, RW. -/
  | RED_HOLD_BOUND
  /-- R392, RW. -/
  | RED_HOLD_KPHI
  /-- R392, RW. -/
  | RED_HOLD_KAGE
  /-- R392, RO. -/
  | RED_SLOT_STATE
  /-- R392, WO. -/
  | RED_SLOT_CMD
  /-- R392, RW. -/
  | RED_MGT_WDT
  /-- R392, WO. -/
  | RED_MGT_HB
  /-- R392, RO. -/
  | RED_MGT_RESTARTS
  /-- R392, RO. -/
  | RED_SIMPLEX_TILE
  /-- R392, RO. -/
  | RED_PATH_TILE
  /-- R414, RW. -/
  | FLT_CTRL
  /-- R414, W1C. -/
  | FLT_STATUS
  /-- R414, WO. -/
  | FLT_ACK
  /-- R414, RO. -/
  | FLT_SEQ
  /-- R414, RO. -/
  | FLT_UNACK_N
  /-- R414, RS. -/
  | FLT_CNT
  /-- R414, RW. -/
  | FLT_REC_BASE_LO
  /-- R414, RW. -/
  | FLT_REC_BASE_HI
  /-- R414, RO. -/
  | FLT_REC_SIZE
  /-- R414, RO. -/
  | FLT_REC_STATUS
  /-- R414, WO. -/
  | FLT_REC_CMD
  /-- R414, RW. -/
  | FLT_HIST_SEL
  /-- R414, RO. -/
  | FLT_REC_TIME
  /-- R414, RO. -/
  | FLT_FATAL
  /-- R414, RW. -/
  | FLT_REACT
  /-- R414, RS. -/
  | FLT_LOST_TILE
  /-- R414, RO. -/
  | FLT_SLOTHIST
  /-- R414, RO. -/
  | FLT_SAMPHIST
  /-- R414, RO. -/
  | FLT_LOG
  /-- R427, RW. -/
  | EVT_CTRL
  /-- R427, W1C. -/
  | EVT_STATUS
  /-- R427, WO. -/
  | EVT_SWPUB
  /-- R427, RW. -/
  | EVT_GROUPS
  /-- R427, RS. -/
  | EVT_LOOP_CNT
  /-- R427, RS. -/
  | EVT_DROP_CNT
  /-- R427, RWL. -/
  | EVT_CH
  /-- R427, RW. -/
  | EVT_SRC
  /-- R427, RW. -/
  | EVT_SUB
  /-- R427, RO. -/
  | EVT_INST
  /-- R427, RS. -/
  | EVT_MERGED
  /-- R453, RW. -/
  | DMA_CH_CTRL
  /-- R453, WO. -/
  | DMA_CH_CMD
  /-- R453, RO. -/
  | DMA_CH_STATUS
  /-- R453, RWL. -/
  | DMA_CH_DESC_LO
  /-- R453, RWL. -/
  | DMA_CH_DESC_HI
  /-- R453, RO. -/
  | DMA_CH_CUR_LO
  /-- R453, RO. -/
  | DMA_CH_CUR_HI
  /-- R453, RO. -/
  | DMA_CH_DONE
  /-- R453, RO. -/
  | DMA_CH_FAULT_LO
  /-- R453, RO. -/
  | DMA_CH_FAULT_HI
  /-- R454, W1C. -/
  | MMU_STATUS
  /-- R454, WO. -/
  | MMU_INV
  /-- R454, RW. -/
  | MMU_INV_IOVA_LO
  /-- R454, RW. -/
  | MMU_INV_IOVA_HI
  /-- R454, RS. -/
  | MMU_FAULT_CNT
  /-- R454, RWL. -/
  | MMU_STREAM
  /-- R454, RWL. -/
  | MMU_ROOT_LO
  /-- R454, RWL. -/
  | MMU_ROOT_HI
  /-- R455, RW. -/
  | DRAM_CTRL
  /-- R455, RO. -/
  | DRAM_STATUS
  /-- R455, RO. -/
  | DRAM_SIZE
  /-- R455, RW. -/
  | DRAM_SCRUB
  /-- R455, RS. -/
  | DRAM_CE_CNT
  /-- R455, RS. -/
  | DRAM_UE_CNT
  /-- R455, RO. -/
  | DRAM_ERR_ADDR
  /-- R456, RW. -/
  | PLV_CTRL
  /-- R456, W1C. -/
  | PLV_STATUS
  /-- R456, RO. -/
  | PLV_MBOX_IDX
  /-- R456, RO. -/
  | PLV_MBOX_DATA
  /-- R456, RW. -/
  | PLV_LCTRL
  /-- R456, RO. -/
  | PLV_LSTATUS
  /-- R456, RS. -/
  | PLV_CRC_ERR
  /-- R456, RS. -/
  | PLV_REPLAY
  /-- R456, RS. -/
  | PLV_UR
  /-- R480, RO. -/
  | MGT_STRAP
  /-- R480, RO. -/
  | MGT_BOOT
  /-- R480, RO. -/
  | MGT_IMG_SEQ
  /-- R480, RO. -/
  | MGT_FUSE
  /-- R480, WO. -/
  | MGT_CMD
  /-- R480, RW. -/
  | MGT_CMD_ARG
  /-- R480, RO. -/
  | MGT_CMD_STATUS
  /-- R480, RO. -/
  | MGT_CMD_RES0
  /-- R452, RW. -/
  | MGT_REMAP
  /-- R37, RO. -/
  | CAP_INUSE
deriving DecidableEq, Repr

/-- What the register tables say of one register or register array. -/
structure RegDesc where
  /-- Absolute address of the first element, in tile 0 for a tile register (R30, R31). -/
  base : Nat
  /-- One copy per tile, at a stride of 0x0001_0000 (R5). -/
  tiled : Bool
  /-- Elements and stride of the first index. -/
  n1 : Nat
  s1 : Nat
  /-- Elements and stride of the second index. -/
  n2 : Nat
  s2 : Nat
  /-- Value after reset. -/
  reset : Nat
  /-- Bits a software write may set (RW and RWL). -/
  rw : Nat
  /-- Of those, the RWL bits. -/
  rwl : Nat
  /-- Bits that a written 1 clears (W1C). -/
  w1c : Nat
  /-- Bits that a read clears (RS). -/
  rs : Nat
  /-- The idle condition of the RWL bits. -/
  lock : Lock
deriving DecidableEq, Repr

/-- The register tables of the spec, row by row. -/
def Reg.desc : Reg → RegDesc
  | .MGT_MODE => ⟨0x410100, false, 1, 0, 1, 0, 0x0, 0x0, 0x0, 0x0, 0x0, .none⟩
  | .MGT_HOLD_CAUSE => ⟨0x410104, false, 1, 0, 1, 0, 0x0, 0x0, 0x0, 0x0, 0x0, .none⟩
  | .MGT_MODE_STAMP_NS => ⟨0x410108, false, 1, 0, 1, 0, 0x0, 0x0, 0x0, 0x0, 0x0, .none⟩
  | .MGT_MODE_STAMP_S_LO => ⟨0x41010C, false, 1, 0, 1, 0, 0x0, 0x0, 0x0, 0x0, 0x0, .none⟩
  | .MGT_MODE_STAMP_S_HI => ⟨0x410110, false, 1, 0, 1, 0, 0x0, 0x0, 0x0, 0x0, 0x0, .none⟩
  | .MGT_TILE_HOLD => ⟨0x410120, false, 6, 4, 1, 0, 0x0, 0x0, 0x0, 0x0, 0x0, .none⟩
  | .CAP_DEVICE => ⟨0x400004, false, 1, 0, 1, 0, 0x7C311024, 0x0, 0x0, 0x0, 0x0, .none⟩
  | .CAP_REVISION => ⟨0x400008, false, 1, 0, 1, 0, 0x4101, 0x0, 0x0, 0x0, 0x0, .none⟩
  | .CAP_FABRIC => ⟨0x40000C, false, 1, 0, 1, 0, 0x0, 0x0, 0x0, 0x0, 0x0, .none⟩
  | .CFG_FMAP => ⟨0x494000, false, 11264, 4, 1, 0, 0x0, 0x0, 0x0, 0x0, 0x0, .none⟩
  | .DRV_CTRL => ⟨0x1001000, true, 1, 0, 1, 0, 0x0, 0x3, 0x3, 0x0, 0x0, .drv⟩
  | .DRV_STATUS => ⟨0x1001004, true, 1, 0, 1, 0, 0x0, 0x0, 0x0, 0x3, 0x0, .none⟩
  | .DRV_LEGA_LOST => ⟨0x1001010, true, 2, 4, 1, 0, 0x0, 0x0, 0x0, 0x0, 0x0, .none⟩
  | .DRV_LEGB_LOST => ⟨0x1001018, true, 2, 4, 1, 0, 0x0, 0x0, 0x0, 0x0, 0x0, .none⟩
  | .DRV_SAT => ⟨0x1001020, true, 2, 4, 1, 0, 0x0, 0x0, 0x0, 0x0, 0xFFFFFFFF, .none⟩
  | .DRV_BAR => ⟨0x1001100, true, 64, 4, 1, 0, 0x0, 0xFFF, 0xFFF, 0x0, 0x0, .drv⟩
  | .DRV_CROSS => ⟨0x1001200, true, 64, 4, 1, 0, 0x0, 0xFFF, 0xFFF, 0x0, 0x0, .drv⟩
  | .DRV_BLOCK => ⟨0x1001300, true, 64, 4, 1, 0, 0x0, 0xFFF, 0xFFF, 0x0, 0x0, .drv⟩
  | .DRV_MAN => ⟨0x1001400, true, 64, 4, 1, 0, 0x0, 0xFFF, 0x0, 0x0, 0x0, .none⟩
  | .DRV_SHADOW => ⟨0x1001500, true, 64, 4, 1, 0, 0x0, 0x0, 0x0, 0x0, 0x0, .none⟩
  | .DRV_ACTIVE => ⟨0x1001600, true, 64, 4, 1, 0, 0x0, 0x0, 0x0, 0x0, 0x0, .none⟩
  | .DRV_IMON => ⟨0x1001700, true, 64, 4, 1, 0, 0x0, 0x0, 0x0, 0x0, 0x0, .none⟩
  | .HTR_CTRL => ⟨0x1002000, true, 1, 0, 1, 0, 0x1, 0x1, 0x0, 0x0, 0x0, .none⟩
  | .HTR_STATUS => ⟨0x1002004, true, 1, 0, 1, 0, 0x0, 0x0, 0x0, 0x3, 0x0, .none⟩
  | .HTR_MODE => ⟨0x1002008, true, 2, 4, 1, 0, 0x0, 0xFFFFFFFF, 0xFFFFFFFF, 0x0, 0x0, .drv⟩
  | .HTR_SPARE => ⟨0x1002010, true, 2, 4, 1, 0, 0x0, 0x0, 0x0, 0x0, 0x0, .none⟩
  | .HTR_FAILED => ⟨0x1002018, true, 2, 4, 1, 0, 0x0, 0x0, 0x0, 0x0, 0x0, .none⟩
  | .HTR_SWAP => ⟨0x1002020, true, 1, 0, 1, 0, 0x0, 0x0, 0x0, 0x0, 0x0, .none⟩
  | .HTR_BLOCK => ⟨0x1002100, true, 64, 4, 1, 0, 0x0, 0xFFFF, 0xFFFF, 0x0, 0x0, .drv⟩
  | .HTR_MAN => ⟨0x1002200, true, 64, 4, 1, 0, 0x0, 0xFFFF, 0x0, 0x0, 0x0, .none⟩
  | .HTR_ACTIVE => ⟨0x1002300, true, 64, 4, 1, 0, 0x0, 0x0, 0x0, 0x0, 0x0, .none⟩
  | .HTR_PARTS => ⟨0x1002400, true, 64, 4, 1, 0, 0x0, 0x0, 0x0, 0x0, 0x0, .none⟩
  | .HTR_IMON => ⟨0x1002500, true, 64, 4, 1, 0, 0x0, 0x0, 0x0, 0x0, 0x0, .none⟩
  | .TILE_SKEW => ⟨0x1000200, true, 2, 4, 1, 0, 0x0, 0x0, 0x0, 0x0, 0x0, .none⟩
  | .TILE_SKEW_NEXT => ⟨0x1000208, true, 2, 4, 1, 0, 0x0, 0x3FFF, 0x0, 0x0, 0x0, .none⟩
  | .TILE_COMMIT_COUNT => ⟨0x1000210, true, 1, 0, 1, 0, 0x0, 0x0, 0x0, 0x0, 0x0, .none⟩
  | .TILE_DRV_PWR => ⟨0x1000214, true, 1, 0, 1, 0, 0x0, 0x0, 0x0, 0x0, 0x0, .none⟩
  | .TILE_HTR_PWR => ⟨0x1000218, true, 1, 0, 1, 0, 0x0, 0x0, 0x0, 0x0, 0x0, .none⟩
  | .SLOT_SKEW_APPLY => ⟨0x480800, false, 1, 0, 1, 0, 0x0, 0x0, 0x0, 0x0, 0x0, .none⟩
  | .SLOT_COMMIT_COUNT => ⟨0x480804, false, 1, 0, 1, 0, 0x0, 0x0, 0x0, 0x0, 0x0, .none⟩
  | .SLOT_UNREADY_COUNT => ⟨0x480808, false, 1, 0, 1, 0, 0x0, 0x0, 0x0, 0x0, 0xFFFFFFFF, .none⟩
  | .SLOT_UNREADY_TILE => ⟨0x480810, false, 6, 4, 1, 0, 0x0, 0x0, 0x0, 0x0, 0x0, .none⟩
  | .TRIM_CTRL => ⟨0x1003000, true, 1, 0, 1, 0, 0x0, 0x1F10FFF, 0x1F10FFF, 0x0, 0x0, .drv⟩
  | .TRIM_STATUS => ⟨0x1003004, true, 1, 0, 1, 0, 0x0, 0x0, 0x0, 0x3, 0x0, .none⟩
  | .TRIM_WIN => ⟨0x1003008, true, 1, 0, 1, 0, 0x0, 0xFFFFFFFF, 0xFFFFFFFF, 0x0, 0x0, .drv⟩
  | .TRIM_DWELL => ⟨0x100300C, true, 1, 0, 1, 0, 0x0, 0xFFFFF, 0xFFFFF, 0x0, 0x0, .drv⟩
  | .TRIM_CMD => ⟨0x1003010, true, 1, 0, 1, 0, 0x0, 0x0, 0x0, 0x0, 0x0, .none⟩
  | .TRIM_BUSY => ⟨0x1003014, true, 1, 0, 1, 0, 0x0, 0x0, 0x0, 0x0, 0x0, .none⟩
  | .TRIM_CHSET => ⟨0x1003100, true, 64, 4, 1, 0, 0x0, 0x77, 0x77, 0x0, 0x0, .drv⟩
  | .TRIM_TSET => ⟨0x1003200, true, 8, 32, 8, 4, 0x0, 0xFFFF00FF, 0x0, 0x0, 0x0, .none⟩
  | .TRIM_TAP => ⟨0x1003300, true, 64, 4, 1, 0, 0x0, 0x0, 0x0, 0x0, 0x0, .none⟩
  | .WEAR_BASE_LO => ⟨0x4D0000, false, 1, 0, 1, 0, 0x0, 0x0, 0x0, 0x0, 0x0, .none⟩
  | .WEAR_BASE_HI => ⟨0x4D0004, false, 1, 0, 1, 0, 0x0, 0x0, 0x0, 0x0, 0x0, .none⟩
  | .WEAR_AGE_S => ⟨0x4D0008, false, 1, 0, 1, 0, 0x0, 0x0, 0x0, 0x0, 0x0, .none⟩
  | .WEAR_LIFE_S => ⟨0x4D000C, false, 1, 0, 1, 0, 0x0, 0x0, 0x0, 0x0, 0x0, .none⟩
  | .WEAR_ALARM => ⟨0x4D0010, false, 1, 0, 1, 0, 0x0, 0x0, 0x0, 0x0, 0x0, .none⟩
  | .WEAR_MOVE_COST => ⟨0x4D0014, false, 1, 0, 1, 0, 0x40, 0xFFFF, 0x0, 0x0, 0x0, .none⟩
  | .WEAR_QUERY => ⟨0x4D0018, false, 1, 0, 1, 0, 0x0, 0x0, 0x0, 0x0, 0x0, .none⟩
  | .WEAR_HEADROOM => ⟨0x4D001C, false, 1, 0, 1, 0, 0x0, 0x0, 0x0, 0x0, 0x0, .none⟩
  | .WEAR_STATUS => ⟨0x4D0020, false, 1, 0, 1, 0, 0x0, 0x0, 0x0, 0xD, 0x0, .none⟩
  | .WEAR_LOG_FILL => ⟨0x4D0024, false, 1, 0, 1, 0, 0x0, 0x0, 0x0, 0x0, 0x0, .none⟩
  | .WEAR_LOW_TILE => ⟨0x4D0040, false, 6, 4, 1, 0, 0x0, 0x0, 0x0, 0x0, 0x0, .none⟩
  | .ADC_CTRL => ⟨0x1004000, true, 1, 0, 1, 0, 0x0, 0x1, 0x1, 0x0, 0x0, .adc⟩
  | .ADC_STATUS => ⟨0x1004004, true, 1, 0, 1, 0, 0x0, 0x0, 0x0, 0x201, 0x0, .none⟩
  | .ADC_REF => ⟨0x1004008, true, 1, 0, 1, 0, 0x0, 0x1, 0x1, 0x0, 0x0, .adc⟩
  | .ADC_SYSCAL => ⟨0x100400C, true, 1, 0, 1, 0, 0x0, 0x0, 0x0, 0x0, 0x0, .none⟩
  | .ADC_OWT => ⟨0x1004010, true, 1, 0, 1, 0, 0x0, 0x8000FFFF, 0x0, 0x0, 0x0, .none⟩
  | .ADC_OWT_CMD => ⟨0x1004014, true, 1, 0, 1, 0, 0x0, 0x0, 0x0, 0x0, 0x0, .none⟩
  | .ADC_CAPCTL => ⟨0x1004018, true, 1, 0, 1, 0, 0x0, 0x1F71, 0x0, 0x0, 0x0, .none⟩
  | .ADC_ERRCNT => ⟨0x100401C, true, 1, 0, 1, 0, 0x0, 0x0, 0x0, 0x0, 0xFFFFFFFF, .none⟩
  | .ADC_CAPSEL => ⟨0x1004020, true, 4, 4, 1, 0, 0x0, 0xFFFFFFFF, 0x0, 0x0, 0x0, .none⟩
  | .ADC_OPEN => ⟨0x1004030, true, 4, 4, 1, 0, 0x0, 0x0, 0x0, 0x0, 0x0, .none⟩
  | .ADC_LEAK => ⟨0x1004040, true, 4, 4, 1, 0, 0x0, 0x0, 0x0, 0x0, 0x0, .none⟩
  | .ADC_BAD => ⟨0x1004050, true, 4, 4, 1, 0, 0x0, 0x0, 0x0, 0x0, 0x0, .none⟩
  | .ADC_RANGE => ⟨0x1004060, true, 8, 4, 1, 0, 0x0, 0xFFFFFFFF, 0xFFFFFFFF, 0x0, 0x0, .adc⟩
  | .ADC_RNOW => ⟨0x1004080, true, 8, 4, 1, 0, 0x0, 0x0, 0x0, 0x0, 0x0, .none⟩
  | .ADC_IREF => ⟨0x1004100, true, 128, 4, 1, 0, 0x0, 0xFFFFFFFF, 0x0, 0x0, 0x0, .none⟩
  | .ADC_OFS => ⟨0x1004300, true, 128, 8, 2, 4, 0x0, 0x3FFF3FFF, 0x3FFF3FFF, 0x0, 0x0, .adc⟩
  | .ADC_GAIN => ⟨0x1004800, true, 128, 16, 4, 4, 0x0, 0xFFFFFFFF, 0xFFFFFFFF, 0x0, 0x0, .adc⟩
  | .DMA_CAP_CTRL => ⟨0x558000, false, 8, 32, 1, 0, 0x0, 0xFFFF0003, 0x0, 0x4, 0x0, .none⟩
  | .DMA_CAP_BASE_LO => ⟨0x558004, false, 8, 32, 1, 0, 0x0, 0xFFFFF000, 0xFFFFF000, 0x0, 0x0, .cap⟩
  | .DMA_CAP_BASE_HI => ⟨0x558008, false, 8, 32, 1, 0, 0x0, 0xFF, 0xFF, 0x0, 0x0, .cap⟩
  | .DMA_CAP_SIZE => ⟨0x55800C, false, 8, 32, 1, 0, 0xC, 0x1F, 0x1F, 0x0, 0x0, .cap⟩
  | .DMA_CAP_WP => ⟨0x558010, false, 8, 32, 1, 0, 0x0, 0x0, 0x0, 0x0, 0x0, .none⟩
  | .DMA_CAP_RP => ⟨0x558014, false, 8, 32, 1, 0, 0x0, 0xFFFFFFF0, 0x0, 0x0, 0x0, .none⟩
  | .DMA_CAP_DROP => ⟨0x558018, false, 8, 32, 1, 0, 0x0, 0x0, 0x0, 0x0, 0xFFFFFFFF, .none⟩
  | .DMA_CAP_WRAP => ⟨0x55801C, false, 8, 32, 1, 0, 0x0, 0x0, 0x0, 0x0, 0x0, .none⟩
  | .LOOP_CTRL => ⟨0x1008000, true, 1, 0, 1, 0, 0x0, 0xFFFFFFF7, 0xFFFFFFF7, 0x0, 0x0, .loopTile⟩
  | .LOOP_STATUS => ⟨0x1008004, true, 1, 0, 1, 0, 0x0, 0x0, 0x0, 0x7, 0x0, .none⟩
  | .LOOP_VNOM => ⟨0x1008008, true, 1, 0, 1, 0, 0x0, 0xFFFF, 0xFFFF, 0x0, 0x0, .loopTile⟩
  | .LOOP_OPEN => ⟨0x1008010, true, 2, 4, 1, 0, 0x0, 0xFFFFFFFF, 0x0, 0x0, 0x0, .none⟩
  | .LOOP_ISOPEN => ⟨0x1008018, true, 2, 4, 1, 0, 0xFFFFFFFF, 0x0, 0x0, 0x0, 0x0, .none⟩
  | .LOOP_LIM => ⟨0x1008020, true, 2, 4, 1, 0, 0x0, 0x0, 0x0, 0x0, 0xFFFFFFFF, .none⟩
  | .LOOP_DIM => ⟨0x1008028, true, 2, 4, 1, 0, 0x0, 0x0, 0x0, 0x0, 0xFFFFFFFF, .none⟩
  | .LOOP_HELD => ⟨0x1008030, true, 1, 0, 1, 0, 0x0, 0x0, 0x0, 0x0, 0xFFFFFFFF, .none⟩
  | .LOOP_RLIM => ⟨0x1009000, true, 64, 64, 1, 0, 0x0, 0xFFFFFFFF, 0xFFFFFFFF, 0x0, 0x0, .loopCh⟩
  | .LOOP_KI => ⟨0x1009004, true, 64, 64, 1, 0, 0x0, 0xFFFFFFFF, 0xFFFFFFFF, 0x0, 0x0, .loopCh⟩
  | .LOOP_KP => ⟨0x1009008, true, 64, 64, 1, 0, 0x0, 0xFFFFFFFF, 0xFFFFFFFF, 0x0, 0x0, .loopCh⟩
  | .LOOP_KRL => ⟨0x100900C, true, 64, 64, 1, 0, 0x0, 0xFFFFFFFF, 0xFFFFFFFF, 0x0, 0x0, .loopCh⟩
  | .LOOP_KRD => ⟨0x1009010, true, 64, 64, 1, 0, 0x0, 0xFFFFFFFF, 0xFFFFFFFF, 0x0, 0x0, .loopCh⟩
  | .LOOP_KRH => ⟨0x1009014, true, 64, 64, 1, 0, 0x0, 0xFFFFFFFF, 0xFFFFFFFF, 0x0, 0x0, .loopCh⟩
  | .LOOP_KFFV => ⟨0x1009018, true, 64, 64, 1, 0, 0x0, 0xFFFFFFFF, 0xFFFFFFFF, 0x0, 0x0, .loopCh⟩
  | .LOOP_KFFA => ⟨0x100901C, true, 64, 64, 1, 0, 0x0, 0xFFFFFFFF, 0xFFFFFFFF, 0x0, 0x0, .loopCh⟩
  | .LOOP_SH0 => ⟨0x1009020, true, 64, 64, 1, 0, 0x0, 0x9F1F1F1F, 0x9F1F1F1F, 0x0, 0x0, .loopCh⟩
  | .LOOP_SH1 => ⟨0x1009024, true, 64, 64, 1, 0, 0x0, 0x1F1F1F1F, 0x1F1F1F1F, 0x0, 0x0, .loopCh⟩
  | .LOOP_DPH => ⟨0x1009028, true, 64, 64, 1, 0, 0x0, 0xFFFFFFFF, 0xFFFFFFFF, 0x0, 0x0, .loopCh⟩
  | .LOOP_ULIM => ⟨0x100902C, true, 64, 64, 1, 0, 0x0, 0xFFFFFFFF, 0xFFFFFFFF, 0x0, 0x0, .loopCh⟩
  | .LOOP_PMIN => ⟨0x1009030, true, 64, 64, 1, 0, 0x0, 0xFFFFFFFF, 0xFFFFFFFF, 0x0, 0x0, .loopCh⟩
  | .LOOP_WMIN => ⟨0x1009034, true, 64, 64, 1, 0, 0x0, 0xFFFFFFFF, 0xFFFFFFFF, 0x0, 0x0, .loopCh⟩
  | .LOOP_RSET => ⟨0x1009038, true, 64, 64, 1, 0, 0x0, 0xFFFFFFFF, 0x0, 0x0, 0x0, .none⟩
  | .LOOP_PTGT => ⟨0x100903C, true, 64, 64, 1, 0, 0x0, 0xFFFFFFFF, 0x0, 0x0, 0x0, .none⟩
  | .LOOP_I => ⟨0x100A000, true, 64, 32, 1, 0, 0x0, 0x0, 0x0, 0x0, 0x0, .none⟩
  | .LOOP_M => ⟨0x100A004, true, 64, 32, 1, 0, 0x0, 0x0, 0x0, 0x0, 0x0, .none⟩
  | .LOOP_E => ⟨0x100A008, true, 64, 32, 1, 0, 0x0, 0x0, 0x0, 0x0, 0x0, .none⟩
  | .LOOP_WBAR => ⟨0x100A00C, true, 64, 32, 1, 0, 0x0, 0x0, 0x0, 0x0, 0x0, .none⟩
  | .LOOP_GN => ⟨0x100A010, true, 64, 32, 1, 0, 0x0, 0x0, 0x0, 0x0, 0x0, .none⟩
  | .LOOP_RSP => ⟨0x100A014, true, 64, 32, 1, 0, 0x0, 0x0, 0x0, 0x0, 0x0, .none⟩
  | .LOOP_ST => ⟨0x100A018, true, 64, 32, 1, 0, 0x0, 0x0, 0x0, 0x0, 0x0, .none⟩
  | .SLOT_RC_CTRL => ⟨0x480C00, false, 1, 0, 1, 0, 0x10000000, 0xFFFF0703, 0x0, 0x0, 0x0, .none⟩
  | .SLOT_RC_BASE0_LO => ⟨0x480C04, false, 1, 0, 1, 0, 0x0, 0xFFE00000, 0xFFE00000, 0x0, 0x0, .rc0⟩
  | .SLOT_RC_BASE0_HI => ⟨0x480C08, false, 1, 0, 1, 0, 0x0, 0xFF, 0xFF, 0x0, 0x0, .rc0⟩
  | .SLOT_RC_BASE1_LO => ⟨0x480C0C, false, 1, 0, 1, 0, 0x0, 0xFFE00000, 0xFFE00000, 0x0, 0x0, .rc1⟩
  | .SLOT_RC_BASE1_HI => ⟨0x480C10, false, 1, 0, 1, 0, 0x0, 0xFF, 0xFF, 0x0, 0x0, .rc1⟩
  | .SLOT_RC_LATE => ⟨0x480C14, false, 1, 0, 1, 0, 0x0, 0x0, 0x0, 0x0, 0xFFFFFFFF, .none⟩
  | .PRF_STATUS => ⟨0x1006000, true, 1, 0, 1, 0, 0x0, 0x0, 0x0, 0x3, 0x0, .none⟩
  | .PRF_RUN => ⟨0x1006010, true, 2, 4, 1, 0, 0x0, 0x0, 0x0, 0x0, 0x0, .none⟩
  | .PRF_LIMITED => ⟨0x1006018, true, 2, 4, 1, 0, 0x0, 0x0, 0x0, 0x0, 0xFFFFFFFF, .none⟩
  | .PRF_VMAX => ⟨0x1006020, true, 4, 16, 1, 0, 0x0, 0xFFFFFFFF, 0xFFFFFFFF, 0x0, 0x0, .prf⟩
  | .PRF_AMAX => ⟨0x1006024, true, 4, 16, 1, 0, 0x0, 0xFFFFFFFF, 0xFFFFFFFF, 0x0, 0x0, .prf⟩
  | .PRF_JMAX => ⟨0x1006028, true, 4, 16, 1, 0, 0x0, 0xFFFFFFFF, 0xFFFFFFFF, 0x0, 0x0, .prf⟩
  | .PRF_CHSET => ⟨0x1006100, true, 64, 4, 1, 0, 0x0, 0x13, 0x13, 0x0, 0x0, .prf⟩
  | .PRF_X => ⟨0x1006400, true, 64, 16, 1, 0, 0x0, 0x0, 0x0, 0x0, 0x0, .none⟩
  | .PRF_V => ⟨0x1006404, true, 64, 16, 1, 0, 0x0, 0x0, 0x0, 0x0, 0x0, .none⟩
  | .PRF_A => ⟨0x1006408, true, 64, 16, 1, 0, 0x0, 0x0, 0x0, 0x0, 0x0, .none⟩
  | .PRF_CMD => ⟨0x100640C, true, 64, 16, 1, 0, 0x0, 0x0, 0x0, 0x0, 0x0, .none⟩
  | .PRF_MAP => ⟨0x1007004, true, 64, 32, 7, 4, 0x0, 0xFFF, 0xFFF, 0x0, 0x0, .prf⟩
  | .DDS_STATUS => ⟨0x1005000, true, 1, 0, 1, 0, 0x0, 0x0, 0x0, 0x1, 0x0, .none⟩
  | .DDS_SWAP => ⟨0x1005004, true, 1, 0, 1, 0, 0x0, 0x0, 0x0, 0x0, 0x0, .none⟩
  | .DDS_N => ⟨0x1005008, true, 1, 0, 1, 0, 0x0, 0x0, 0x0, 0x0, 0x0, .none⟩
  | .DDS_FREQ => ⟨0x1005400, true, 2, 1024, 64, 16, 0x0, 0xFFFFFFFF, 0xFFFFFFFF, 0x0, 0x0, .dds⟩
  | .DDS_PHASE => ⟨0x1005404, true, 2, 1024, 64, 16, 0x0, 0xFFFFFFFF, 0xFFFFFFFF, 0x0, 0x0, .dds⟩
  | .DDS_AMP => ⟨0x1005408, true, 2, 1024, 64, 16, 0x0, 0xFFFF, 0xFFFF, 0x0, 0x0, .dds⟩
  | .SWP_CTRL => ⟨0x4C0000, false, 1, 0, 1, 0, 0x0, 0x71, 0x0, 0x0, 0x0, .none⟩
  | .SWP_STATUS => ⟨0x4C0004, false, 1, 0, 1, 0, 0x0, 0x0, 0x0, 0x380, 0x0, .none⟩
  | .SWP_CMD => ⟨0x4C0008, false, 1, 0, 1, 0, 0x0, 0x0, 0x0, 0x0, 0x0, .none⟩
  | .SWP_STEP => ⟨0x4C000C, false, 1, 0, 1, 0, 0x1000000, 0xFFFFFFFF, 0x0, 0x0, 0x0, .none⟩
  | .SWP_JUMP => ⟨0x4C0010, false, 1, 0, 1, 0, 0x0, 0xFF, 0x0, 0x0, 0x0, .none⟩
  | .SWP_POS => ⟨0x4C0014, false, 1, 0, 1, 0, 0x0, 0x0, 0x0, 0x0, 0x0, .none⟩
  | .SWP_FRAC => ⟨0x4C0018, false, 1, 0, 1, 0, 0x0, 0x0, 0x0, 0x0, 0x0, .none⟩
  | .SWP_UNDER_CNT => ⟨0x4C001C, false, 1, 0, 1, 0, 0x0, 0x0, 0x0, 0x0, 0xFFFFFFFF, .none⟩
  | .SWP_UNDER_N => ⟨0x4C0020, false, 1, 0, 1, 0, 0x0, 0x0, 0x0, 0x0, 0xFFFFFFFF, .none⟩
  | .SWP_SEGACT => ⟨0x4C0040, false, 8, 4, 1, 0, 0x0, 0x0, 0x0, 0x0, 0x0, .none⟩
  | .SWP_MAP => ⟨0x4C0100, false, 64, 4, 1, 0, 0x0, 0x80003FFF, 0x80003FFF, 0x0, 0x0, .swpMap⟩
  | .SWP_SEG_LO => ⟨0x4C1000, false, 256, 16, 1, 0, 0x0, 0xFFFFFF80, 0xFFFFFF80, 0x0, 0x0, .swpSeg⟩
  | .SWP_SEG_HI => ⟨0x4C1004, false, 256, 16, 1, 0, 0x0, 0xFF, 0xFF, 0x0, 0x0, .swpSeg⟩
  | .SWP_SEG_LEN => ⟨0x4C1008, false, 256, 16, 1, 0, 0x1, 0xFFFFFF, 0xFFFFFF, 0x0, 0x0, .swpSeg⟩
  | .SWP_SEG_CTRL => ⟨0x4C100C, false, 256, 16, 1, 0, 0x0, 0xFF01, 0xFF01, 0x0, 0x0, .swpSeg⟩
  | .MC_STATUS => ⟨0x100C000, true, 1, 0, 1, 0, 0x0, 0x0, 0x0, 0x0, 0x0, .none⟩
  | .MC_FLAGS => ⟨0x100C004, true, 1, 0, 1, 0, 0x0, 0x0, 0x0, 0x7, 0x0, .none⟩
  | .MC_CYCLES => ⟨0x100C008, true, 1, 0, 1, 0, 0x0, 0x0, 0x0, 0x0, 0x0, .none⟩
  | .MC_KINDS => ⟨0x100C00C, true, 1, 0, 1, 0, 0x0, 0x0, 0x0, 0x0, 0x0, .none⟩
  | .MC_CHMASK => ⟨0x100C010, true, 2, 4, 1, 0, 0x0, 0x0, 0x0, 0x0, 0x0, .none⟩
  | .MC_DMHI => ⟨0x100C018, true, 1, 0, 1, 0, 0x0, 0x0, 0x0, 0x0, 0x0, .none⟩
  | .MC_CRC => ⟨0x100C01C, true, 1, 0, 1, 0, 0x0, 0x0, 0x0, 0x0, 0x0, .none⟩
  | .MC_LATE_REC => ⟨0x100C020, true, 1, 0, 1, 0, 0x0, 0x0, 0x0, 0x0, 0xFFFFFFFF, .none⟩
  | .MC_MCHK => ⟨0x100C024, true, 2, 4, 1, 0, 0x0, 0x0, 0x0, 0x0, 0x0, .none⟩
  | .MC_CS_ADDR => ⟨0x100C030, true, 1, 0, 1, 0, 0x0, 0x10FFF, 0x0, 0x0, 0x0, .none⟩
  | .MC_CS_DATA => ⟨0x100C040, true, 8, 4, 1, 0, 0x0, 0x0, 0x0, 0x0, 0x0, .none⟩
  | .MC_CS_PAR => ⟨0x100C060, true, 1, 0, 1, 0, 0x0, 0x0, 0x0, 0x0, 0x0, .none⟩
  | .MC_DM_ADDR => ⟨0x100C070, true, 1, 0, 1, 0, 0x0, 0x11FFF, 0x0, 0x0, 0x0, .none⟩
  | .MC_DM_DATA => ⟨0x100C074, true, 1, 0, 1, 0, 0x0, 0xFFFFFFFF, 0xFFFFFFFF, 0x0, 0x0, .drv⟩
  | .MC_REC => ⟨0x100C100, true, 64, 4, 1, 0, 0x0, 0x0, 0x0, 0x0, 0x0, .none⟩
  | .MC_LOAD_CTRL => ⟨0x4B0000, false, 1, 0, 1, 0, 0x0, 0x3, 0x0, 0x0, 0x0, .none⟩
  | .MC_LOAD_ADDR_LO => ⟨0x4B0004, false, 1, 0, 1, 0, 0x0, 0xFFFFFFE0, 0x0, 0x0, 0x0, .none⟩
  | .MC_LOAD_ADDR_HI => ⟨0x4B0008, false, 1, 0, 1, 0, 0x0, 0xFF, 0x0, 0x0, 0x0, .none⟩
  | .MC_LOAD_CMD => ⟨0x4B000C, false, 1, 0, 1, 0, 0x0, 0x0, 0x0, 0x0, 0x0, .none⟩
  | .MC_LOAD_STATUS => ⟨0x4B0010, false, 1, 0, 1, 0, 0x0, 0x0, 0x0, 0x0, 0x0, .none⟩
  | .MC_LOAD_TILES => ⟨0x4B0020, false, 6, 4, 1, 0, 0x0, 0xFFFFFFFF, 0x0, 0x0, 0x0, .none⟩
  | .MC_LOAD_FAIL => ⟨0x4B0040, false, 6, 4, 1, 0, 0x0, 0x0, 0x0, 0x0, 0x0, .none⟩
  | .SLOT_STATUS => ⟨0x480000, false, 1, 0, 1, 0, 0x0, 0x0, 0x0, 0xF, 0x0, .none⟩
  | .SLOT_GUARD => ⟨0x480004, false, 1, 0, 1, 0, 0x3C, 0xFFFF, 0x0, 0x0, 0x0, .none⟩
  | .SLOT_CMD => ⟨0x480008, false, 1, 0, 1, 0, 0x0, 0x0, 0x0, 0x0, 0x0, .none⟩
  | .SLOT_BASE_NS => ⟨0x480010, false, 1, 0, 1, 0, 0x0, 0x3FFFFFFF, 0x0, 0x0, 0x0, .none⟩
  | .SLOT_BASE_S_LO => ⟨0x480014, false, 1, 0, 1, 0, 0x0, 0xFFFFFFFF, 0x0, 0x0, 0x0, .none⟩
  | .SLOT_BASE_S_HI => ⟨0x480018, false, 1, 0, 1, 0, 0x0, 0xFFFF, 0x0, 0x0, 0x0, .none⟩
  | .SLOT_START_NS => ⟨0x480020, false, 1, 0, 1, 0, 0x0, 0x0, 0x0, 0x0, 0x0, .none⟩
  | .SLOT_START_S_LO => ⟨0x480024, false, 1, 0, 1, 0, 0x0, 0x0, 0x0, 0x0, 0x0, .none⟩
  | .SLOT_START_S_HI => ⟨0x480028, false, 1, 0, 1, 0, 0x0, 0x0, 0x0, 0x0, 0x0, .none⟩
  | .SLOT_PEND_TC_LO => ⟨0x480030, false, 1, 0, 1, 0, 0x0, 0x0, 0x0, 0x0, 0x0, .none⟩
  | .SLOT_PEND_TC_HI => ⟨0x480034, false, 1, 0, 1, 0, 0x0, 0x0, 0x0, 0x0, 0x0, .none⟩
  | .SLOT_PEND_LEN => ⟨0x480038, false, 1, 0, 1, 0, 0x0, 0x0, 0x0, 0x0, 0x0, .none⟩
  | .SLOT_OP_TC_LO => ⟨0x480040, false, 1, 0, 1, 0, 0x0, 0x0, 0x0, 0x0, 0x0, .none⟩
  | .SLOT_OP_TC_HI => ⟨0x480044, false, 1, 0, 1, 0, 0x0, 0x0, 0x0, 0x0, 0x0, .none⟩
  | .SLOT_OP_LEN => ⟨0x480048, false, 1, 0, 1, 0, 0x0, 0x0, 0x0, 0x0, 0x0, .none⟩
  | .SLOT_POS => ⟨0x48004C, false, 1, 0, 1, 0, 0x0, 0x0, 0x0, 0x0, 0x0, .none⟩
  | .SLOT_CYCLE => ⟨0x480050, false, 1, 0, 1, 0, 0x0, 0x0, 0x0, 0x0, 0x0, .none⟩
  | .SLOT_ARMERR => ⟨0x480054, false, 1, 0, 1, 0, 0x0, 0x0, 0x0, 0x0, 0x0, .none⟩
  | .SLOT_CFG_LATE => ⟨0x480058, false, 1, 0, 1, 0, 0x0, 0x0, 0x0, 0x0, 0xFFFFFFFF, .none⟩
  | .SLOT_WIDE => ⟨0x48005C, false, 1, 0, 1, 0, 0x0, 0x0, 0x0, 0x0, 0xFFFFFFFF, .none⟩
  | .SLOT_ENTRY0 => ⟨0x484000, false, 2, 8192, 1024, 8, 0x0, 0xFFFFFFFF, 0xFFFFFFFF, 0x0, 0x0, .list⟩
  | .SLOT_ENTRY1 => ⟨0x484004, false, 2, 8192, 1024, 8, 0x0, 0xFFFFFFFF, 0xFFFFFFFF, 0x0, 0x0, .list⟩
  | .CFG_STATUS => ⟨0x490000, false, 1, 0, 1, 0, 0x0, 0x0, 0x0, 0x2F, 0x0, .none⟩
  | .CFG_COMMIT => ⟨0x490004, false, 1, 0, 1, 0, 0x0, 0x0, 0x0, 0x0, 0x0, .none⟩
  | .CFG_INFORCE => ⟨0x490008, false, 1, 0, 1, 0, 0x80000000, 0x0, 0x0, 0x0, 0x0, .none⟩
  | .CFG_DRAM_BASE_LO => ⟨0x49000C, false, 1, 0, 1, 0, 0x0, 0xFFFFF800, 0xFFFFF800, 0x0, 0x0, .cfg⟩
  | .CFG_DRAM_BASE_HI => ⟨0x490010, false, 1, 0, 1, 0, 0x0, 0xFF, 0xFF, 0x0, 0x0, .cfg⟩
  | .CFG_DRAM_COUNT => ⟨0x490014, false, 1, 0, 1, 0, 0x0, 0x1FFFF, 0x1FFFF, 0x0, 0x0, .cfg⟩
  | .RTE_CMD => ⟨0x4A0000, false, 1, 0, 1, 0, 0x0, 0x0, 0x0, 0x0, 0x0, .none⟩
  | .RTE_ARG0 => ⟨0x4A0004, false, 1, 0, 1, 0, 0x0, 0x8000FFFF, 0x8000FFFF, 0x0, 0x0, .rte⟩
  | .RTE_ARG1 => ⟨0x4A0008, false, 1, 0, 1, 0, 0x0, 0x8000FFFF, 0x8000FFFF, 0x0, 0x0, .rte⟩
  | .RTE_ARG2 => ⟨0x4A000C, false, 1, 0, 1, 0, 0x0, 0x3FF3FFF, 0x3FF3FFF, 0x0, 0x0, .rte⟩
  | .RTE_STATUS => ⟨0x4A0010, false, 1, 0, 1, 0, 0x0, 0x0, 0x0, 0x0, 0x0, .none⟩
  | .RTE_TIME => ⟨0x4A0014, false, 1, 0, 1, 0, 0x0, 0x0, 0x0, 0x0, 0x0, .none⟩
  | .RTE_RESULT => ⟨0x4A0018, false, 1, 0, 1, 0, 0x0, 0x0, 0x0, 0x0, 0x0, .none⟩
  | .RTE_LIST_N => ⟨0x4A001C, false, 1, 0, 1, 0, 0x0, 0x0, 0x0, 0x0, 0x0, .none⟩
  | .RTE_LIST => ⟨0x4A0400, false, 256, 4, 1, 0, 0x0, 0x0, 0x0, 0x0, 0x0, .none⟩
  | .RTE_FAULT => ⟨0x4A1000, false, 352, 4, 1, 0, 0x0, 0x0, 0x0, 0x0, 0x0, .none⟩
  | .RTE_PERM => ⟨0x4A8000, false, 1024, 4, 1, 0, 0x0, 0x800003FF, 0x800003FF, 0x0, 0x0, .rte⟩
  | .PTP_CTRL => ⟨0x4E0000, false, 1, 0, 1, 0, 0x0, 0x7, 0x0, 0x0, 0x0, .none⟩
  | .PTP_STATUS => ⟨0x4E0004, false, 1, 0, 1, 0, 0x0, 0x0, 0x0, 0xE1, 0x0, .none⟩
  | .PTP_CMD => ⟨0x4E0008, false, 1, 0, 1, 0, 0x0, 0x0, 0x0, 0x0, 0x0, .none⟩
  | .PTP_TIME_FRAC => ⟨0x4E0010, false, 1, 0, 1, 0, 0x0, 0x0, 0x0, 0x0, 0x0, .none⟩
  | .PTP_TIME_NS => ⟨0x4E0014, false, 1, 0, 1, 0, 0x0, 0x0, 0x0, 0x0, 0x0, .none⟩
  | .PTP_TIME_S_LO => ⟨0x4E0018, false, 1, 0, 1, 0, 0x0, 0x0, 0x0, 0x0, 0x0, .none⟩
  | .PTP_TIME_S_HI => ⟨0x4E001C, false, 1, 0, 1, 0, 0x0, 0x0, 0x0, 0x0, 0x0, .none⟩
  | .PTP_SET_NS => ⟨0x4E0020, false, 1, 0, 1, 0, 0x0, 0x3FFFFFFF, 0x0, 0x0, 0x0, .none⟩
  | .PTP_SET_S_LO => ⟨0x4E0024, false, 1, 0, 1, 0, 0x0, 0xFFFFFFFF, 0x0, 0x0, 0x0, .none⟩
  | .PTP_SET_S_HI => ⟨0x4E0028, false, 1, 0, 1, 0, 0x0, 0xFFFF, 0x0, 0x0, 0x0, .none⟩
  | .PTP_ADJ_NS => ⟨0x4E002C, false, 1, 0, 1, 0, 0x0, 0xFFFFFFFF, 0x0, 0x0, 0x0, .none⟩
  | .PTP_INCR_FRAC => ⟨0x4E0030, false, 1, 0, 1, 0, 0x0, 0x0, 0x0, 0x0, 0x0, .none⟩
  | .PTP_INCR_NS => ⟨0x4E0034, false, 1, 0, 1, 0, 0x1, 0x0, 0x0, 0x0, 0x0, .none⟩
  | .PTP_TRIM => ⟨0x4E0038, false, 1, 0, 1, 0, 0x0, 0x0, 0x0, 0x0, 0x0, .none⟩
  | .PTP_SERVO_OFS => ⟨0x4E0040, false, 1, 0, 1, 0, 0x0, 0x0, 0x0, 0x0, 0x0, .none⟩
  | .PTP_SERVO_KP => ⟨0x4E0044, false, 1, 0, 1, 0, 0x0, 0xFFFFFFFF, 0x0, 0x0, 0x0, .none⟩
  | .PTP_SERVO_KI => ⟨0x4E0048, false, 1, 0, 1, 0, 0x0, 0xFFFFFFFF, 0x0, 0x0, 0x0, .none⟩
  | .PTP_SERVO_SH => ⟨0x4E004C, false, 1, 0, 1, 0, 0x0, 0x1F1F, 0x0, 0x0, 0x0, .none⟩
  | .PTP_SERVO_LIM => ⟨0x4E0050, false, 1, 0, 1, 0, 0x68DB9, 0xFFFFFFFF, 0x0, 0x0, 0x0, .none⟩
  | .PTP_SERVO_HOLD => ⟨0x4E0054, false, 1, 0, 1, 0, 0xBB8, 0xFFFF, 0x0, 0x0, 0x0, .none⟩
  | .PTP_SERVO_LOCK => ⟨0x4E0058, false, 1, 0, 1, 0, 0xC80, 0xFFFFFFFF, 0x0, 0x0, 0x0, .none⟩
  | .PTP_SERVO_INTEG => ⟨0x4E005C, false, 1, 0, 1, 0, 0x0, 0x0, 0x0, 0x0, 0x0, .none⟩
  | .PTP_PPSIN_CTRL => ⟨0x4E0060, false, 1, 0, 1, 0, 0x0, 0xC0000000, 0x0, 0x0, 0x0, .none⟩
  | .PTP_PPSIN_DLY => ⟨0x4E0064, false, 1, 0, 1, 0, 0x0, 0xFFFFFFFF, 0x0, 0x0, 0x0, .none⟩
  | .PTP_PPSIN_FRAC => ⟨0x4E0068, false, 1, 0, 1, 0, 0x0, 0x0, 0x0, 0x0, 0x0, .none⟩
  | .PTP_PPSIN_NS => ⟨0x4E006C, false, 1, 0, 1, 0, 0x0, 0x0, 0x0, 0x0, 0x0, .none⟩
  | .PTP_PPSIN_S_LO => ⟨0x4E0070, false, 1, 0, 1, 0, 0x0, 0x0, 0x0, 0x0, 0x0, .none⟩
  | .PTP_PPSIN_S_HI => ⟨0x4E0074, false, 1, 0, 1, 0, 0x0, 0x0, 0x0, 0x0, 0x0, .none⟩
  | .PTP_PPSOUT_CTRL => ⟨0x4E0078, false, 1, 0, 1, 0, 0x0, 0x8007FFFF, 0x0, 0x0, 0x0, .none⟩
  | .PTP_PPSOUT_DLY => ⟨0x4E007C, false, 1, 0, 1, 0, 0x0, 0xFFFFFFFF, 0x0, 0x0, 0x0, .none⟩
  | .PTP_SPAN_NS => ⟨0x4E0080, false, 1, 0, 1, 0, 0x0, 0x0, 0x0, 0x0, 0x0, .none⟩
  | .PTP_SPAN_S_LO => ⟨0x4E0084, false, 1, 0, 1, 0, 0x0, 0x0, 0x0, 0x0, 0x0, .none⟩
  | .PTP_SPAN_S_HI => ⟨0x4E0088, false, 1, 0, 1, 0, 0x0, 0x0, 0x0, 0x0, 0x0, .none⟩
  | .PTP_SPAN_CNT => ⟨0x4E008C, false, 1, 0, 1, 0, 0x0, 0x0, 0x0, 0x0, 0x0, .none⟩
  | .PTP_ONESTEP => ⟨0x4E0090, false, 1, 0, 1, 0, 0x0, 0xFF, 0x0, 0x0, 0x0, .none⟩
  | .PTP_PORT_TXC => ⟨0x4E0100, false, 8, 16, 1, 0, 0x0, 0x0, 0x0, 0x0, 0x0, .none⟩
  | .PTP_PORT_RXC => ⟨0x4E0104, false, 8, 16, 1, 0, 0x0, 0x0, 0x0, 0x0, 0x0, .none⟩
  | .PTP_PORT_ADJ => ⟨0x4E0108, false, 8, 16, 1, 0, 0x0, 0xFFFFFFFF, 0x0, 0x0, 0x0, .none⟩
  | .PTP_PORT_VAR => ⟨0x4E010C, false, 8, 16, 1, 0, 0x0, 0x0, 0x0, 0x0, 0x0, .none⟩
  | .PTP_TXTS_ID => ⟨0x4E0200, false, 8, 32, 1, 0, 0x0, 0x0, 0x0, 0x0, 0x0, .none⟩
  | .PTP_TXTS_FRAC => ⟨0x4E0204, false, 8, 32, 1, 0, 0x0, 0x0, 0x0, 0x0, 0x0, .none⟩
  | .PTP_TXTS_NS => ⟨0x4E0208, false, 8, 32, 1, 0, 0x0, 0x0, 0x0, 0x0, 0x0, .none⟩
  | .PTP_TXTS_S_LO => ⟨0x4E020C, false, 8, 32, 1, 0, 0x0, 0x0, 0x0, 0x0, 0x0, .none⟩
  | .PTP_TXTS_S_HI => ⟨0x4E0210, false, 8, 32, 1, 0, 0x0, 0x0, 0x0, 0x0, 0x0, .none⟩
  | .SIG_SELF_LO => ⟨0x4F0000, false, 1, 0, 1, 0, 0x0, 0xFFFFFFFF, 0x0, 0x0, 0x0, .none⟩
  | .SIG_SELF_HI => ⟨0x4F0004, false, 1, 0, 1, 0, 0x0, 0xFFFF, 0x0, 0x0, 0x0, .none⟩
  | .SIG_REQ_CTRL => ⟨0x4F0010, false, 1, 0, 1, 0, 0x0, 0x80000001, 0x0, 0x0, 0x0, .none⟩
  | .SIG_REQ_STATUS => ⟨0x4F0014, false, 1, 0, 1, 0, 0x0, 0x0, 0x0, 0x3, 0x0, .none⟩
  | .SIG_REQ_BANK => ⟨0x4F0018, false, 1, 0, 1, 0, 0x0, 0x1FF01FF, 0x1FF01FF, 0x0, 0x0, .sigBank⟩
  | .SIG_REQ_GRANTS => ⟨0x4F001C, false, 1, 0, 1, 0, 0x0, 0x0, 0x0, 0x0, 0xFFFFFFFF, .none⟩
  | .SIG_REQ_REFUSALS => ⟨0x4F0020, false, 1, 0, 1, 0, 0x0, 0x0, 0x0, 0x0, 0xFFFFFFFF, .none⟩
  | .SIG_M_RX_BASE_LO => ⟨0x4F0040, false, 1, 0, 1, 0, 0x0, 0xFFFFFC00, 0xFFFFFC00, 0x0, 0x0, .ringRX⟩
  | .SIG_M_RX_BASE_HI => ⟨0x4F0044, false, 1, 0, 1, 0, 0x0, 0xFF, 0xFF, 0x0, 0x0, .ringRX⟩
  | .SIG_M_RX_CTRL => ⟨0x4F0048, false, 1, 0, 1, 0, 0x0, 0x80000007, 0x7, 0x0, 0x0, .ringRX⟩
  | .SIG_M_RX_WP => ⟨0x4F004C, false, 1, 0, 1, 0, 0x0, 0x0, 0x0, 0x0, 0x0, .none⟩
  | .SIG_M_RX_RP => ⟨0x4F0050, false, 1, 0, 1, 0, 0x0, 0x3F, 0x0, 0x0, 0x0, .none⟩
  | .SIG_M_DROP => ⟨0x4F0054, false, 1, 0, 1, 0, 0x0, 0x0, 0x0, 0x0, 0xFFFFFFFF, .none⟩
  | .SIG_M_TX_BASE_LO => ⟨0x4F0060, false, 1, 0, 1, 0, 0x0, 0xFFFFFC00, 0xFFFFFC00, 0x0, 0x0, .ringTX⟩
  | .SIG_M_TX_BASE_HI => ⟨0x4F0064, false, 1, 0, 1, 0, 0x0, 0xFF, 0xFF, 0x0, 0x0, .ringTX⟩
  | .SIG_M_TX_CTRL => ⟨0x4F0068, false, 1, 0, 1, 0, 0x0, 0x80000007, 0x7, 0x0, 0x0, .ringTX⟩
  | .SIG_M_TX_WP => ⟨0x4F006C, false, 1, 0, 1, 0, 0x0, 0x3F, 0x0, 0x0, 0x0, .none⟩
  | .SIG_M_TX_RP => ⟨0x4F0070, false, 1, 0, 1, 0, 0x0, 0x0, 0x0, 0x0, 0x0, .none⟩
  | .SIG_PORT_CFG => ⟨0x4F0100, false, 8, 32, 1, 0, 0x0, 0xFBFFFFFF, 0x18003FFF, 0x0, 0x0, .port⟩
  | .SIG_PORT_STATUS => ⟨0x4F0104, false, 8, 32, 1, 0, 0x0, 0x0, 0x0, 0x0, 0x0, .none⟩
  | .SIG_PORT_FEC_CW => ⟨0x4F0108, false, 8, 32, 1, 0, 0x0, 0x0, 0x0, 0x0, 0xFFFFFFFF, .none⟩
  | .SIG_PORT_FEC_UNC => ⟨0x4F010C, false, 8, 32, 1, 0, 0x0, 0x0, 0x0, 0x0, 0xFFFFFFFF, .none⟩
  | .SIG_PORT_RX_DROP => ⟨0x4F0110, false, 8, 32, 1, 0, 0x0, 0x0, 0x0, 0x0, 0xFFFFFFFF, .none⟩
  | .FWD_CTRL => ⟨0x500000, false, 2, 4096, 1, 0, 0x0, 0x1, 0x0, 0x0, 0x0, .none⟩
  | .FWD_STATUS => ⟨0x500004, false, 2, 4096, 1, 0, 0x0, 0x0, 0x0, 0x3, 0x0, .none⟩
  | .FWD_SEED => ⟨0x500008, false, 2, 4096, 1, 0, 0x0, 0x0, 0x0, 0x0, 0x0, .none⟩
  | .FWD_AGE => ⟨0x50000C, false, 2, 4096, 1, 0, 0x0, 0xFFFFF, 0x0, 0x0, 0x0, .none⟩
  | .FWD_FLAP => ⟨0x500010, false, 2, 4096, 1, 0, 0xA, 0xFFF, 0x0, 0x0, 0x0, .none⟩
  | .FWD_CMD => ⟨0x500014, false, 2, 4096, 1, 0, 0x0, 0x0, 0x0, 0x0, 0x0, .none⟩
  | .FWD_ARG => ⟨0x500018, false, 2, 4096, 4, 4, 0x0, 0xFFFFFFFF, 0xFFFFFFFF, 0x0, 0x0, .fwdBusy⟩
  | .FWD_RES => ⟨0x500030, false, 2, 4096, 4, 4, 0x0, 0x0, 0x0, 0x0, 0x0, .none⟩
  | .FWD_COUNT => ⟨0x500040, false, 2, 4096, 1, 0, 0x0, 0x0, 0x0, 0x0, 0x0, .none⟩
  | .FWD_INSFAIL => ⟨0x500044, false, 2, 4096, 1, 0, 0x0, 0x0, 0x0, 0x0, 0xFFFFFFFF, .none⟩
  | .FWD_LEARN_DROP => ⟨0x500048, false, 2, 4096, 1, 0, 0x0, 0x0, 0x0, 0x0, 0xFFFFFFFF, .none⟩
  | .FWD_MOVES => ⟨0x50004C, false, 2, 4096, 1, 0, 0x0, 0x0, 0x0, 0x0, 0xFFFFFFFF, .none⟩
  | .FWD_FLAPS => ⟨0x500050, false, 2, 4096, 1, 0, 0x0, 0x0, 0x0, 0x0, 0xFFFFFFFF, .none⟩
  | .LPM_CMD => ⟨0x510000, false, 1, 0, 1, 0, 0x0, 0x0, 0x0, 0x0, 0x0, .none⟩
  | .LPM_STATUS => ⟨0x510004, false, 1, 0, 1, 0, 0x0, 0x0, 0x0, 0x100, 0x0, .none⟩
  | .LPM_LEN => ⟨0x510008, false, 1, 0, 1, 0, 0x0, 0xFF, 0x0, 0x0, 0x0, .none⟩
  | .LPM_DATA => ⟨0x51000C, false, 1, 0, 1, 0, 0x0, 0x3FF, 0x0, 0x0, 0x0, .none⟩
  | .LPM_KEY => ⟨0x510010, false, 5, 4, 1, 0, 0x0, 0xFFFFFFFF, 0x0, 0x0, 0x0, .none⟩
  | .LPM_RES => ⟨0x510024, false, 1, 0, 1, 0, 0x0, 0x0, 0x0, 0x0, 0x0, .none⟩
  | .LPM_COUNT => ⟨0x510028, false, 1, 0, 1, 0, 0x0, 0x0, 0x0, 0x0, 0x0, .none⟩
  | .LPM_GROUP => ⟨0x511000, false, 1024, 4, 1, 0, 0x0, 0x83FF03FF, 0x0, 0x0, 0x0, .none⟩
  | .POL_STATUS => ⟨0x520000, false, 1, 0, 1, 0, 0x0, 0x0, 0x0, 0x1, 0x0, .none⟩
  | .POL_MAP => ⟨0x520100, false, 8, 64, 10, 4, 0x0, 0x800000FF, 0x0, 0x0, 0x0, .none⟩
  | .POL_CFG => ⟨0x521000, false, 256, 32, 1, 0, 0x0, 0xFF00001F, 0x7F00001F, 0x0, 0x0, .pol⟩
  | .POL_CIR => ⟨0x521004, false, 256, 32, 1, 0, 0x0, 0xFFFFFFFF, 0xFFFFFFFF, 0x0, 0x0, .pol⟩
  | .POL_CBS => ⟨0x521008, false, 256, 32, 1, 0, 0x0, 0xFFFFFF, 0xFFFFFF, 0x0, 0x0, .pol⟩
  | .POL_PIR => ⟨0x52100C, false, 256, 32, 1, 0, 0x0, 0xFFFFFFFF, 0xFFFFFFFF, 0x0, 0x0, .pol⟩
  | .POL_PBS => ⟨0x521010, false, 256, 32, 1, 0, 0x0, 0xFFFFFF, 0xFFFFFF, 0x0, 0x0, .pol⟩
  | .POL_CNT_G => ⟨0x521014, false, 256, 32, 1, 0, 0x0, 0x0, 0x0, 0x0, 0xFFFFFFFF, .none⟩
  | .POL_CNT_Y => ⟨0x521018, false, 256, 32, 1, 0, 0x0, 0x0, 0x0, 0x0, 0xFFFFFFFF, .none⟩
  | .POL_CNT_R => ⟨0x52101C, false, 256, 32, 1, 0, 0x0, 0x0, 0x0, 0x0, 0xFFFFFFFF, .none⟩
  | .POL_TC => ⟨0x524000, false, 256, 8, 1, 0, 0x0, 0x0, 0x0, 0x0, 0x0, .none⟩
  | .POL_TP => ⟨0x524004, false, 256, 8, 1, 0, 0x0, 0x0, 0x0, 0x0, 0x0, .none⟩
  | .SHP_PORT_CFG => ⟨0x530000, false, 8, 256, 1, 0, 0x0, 0x1F, 0x0, 0x0, 0x0, .none⟩
  | .SHP_QMAP => ⟨0x530004, false, 8, 256, 1, 0, 0x0, 0x7FFFFFF, 0x0, 0x0, 0x0, .none⟩
  | .SHP_Q => ⟨0x530010, false, 8, 256, 8, 4, 0x0, 0xFFFFFFFF, 0x0, 0x0, 0x0, .none⟩
  | .SHP_QLIM => ⟨0x530030, false, 8, 256, 8, 4, 0x0, 0x1FF, 0x0, 0x0, 0x0, .none⟩
  | .SHP_CREDIT => ⟨0x530050, false, 8, 256, 8, 4, 0x0, 0x0, 0x0, 0x0, 0x0, .none⟩
  | .SHP_QDROP => ⟨0x530070, false, 8, 256, 8, 4, 0x0, 0x0, 0x0, 0x0, 0xFFFFFFFF, .none⟩
  | .MOVE_STATUS => ⟨0x540000, false, 1, 0, 1, 0, 0x0, 0x0, 0x0, 0x1, 0x0, .none⟩
  | .MOVE_CMD => ⟨0x540008, false, 1, 0, 1, 0, 0x0, 0x0, 0x0, 0x0, 0x0, .none⟩
  | .MOVE_RES => ⟨0x54000C, false, 1, 0, 1, 0, 0x0, 0x0, 0x0, 0x0, 0x0, .none⟩
  | .MOVE_CNT_G => ⟨0x540010, false, 1, 0, 1, 0, 0x0, 0x0, 0x0, 0x0, 0xFFFFFFFF, .none⟩
  | .MOVE_CNT_Y => ⟨0x540014, false, 1, 0, 1, 0, 0x0, 0x0, 0x0, 0x0, 0xFFFFFFFF, .none⟩
  | .MOVE_CNT_R => ⟨0x540018, false, 1, 0, 1, 0, 0x0, 0x0, 0x0, 0x0, 0xFFFFFFFF, .none⟩
  | .MOVE_CNT_WEAR => ⟨0x54001C, false, 1, 0, 1, 0, 0x0, 0x0, 0x0, 0x0, 0xFFFFFFFF, .none⟩
  | .MOVE_CNT_THR => ⟨0x540020, false, 1, 0, 1, 0, 0x0, 0x0, 0x0, 0x0, 0xFFFFFFFF, .none⟩
  | .MOVE_CIR => ⟨0x540100, false, 16, 16, 1, 0, 0x0, 0xFFFFFFFF, 0xFFFFFFFF, 0x0, 0x0, .moveProf⟩
  | .MOVE_CBS => ⟨0x540104, false, 16, 16, 1, 0, 0x0, 0xFFFF, 0xFFFF, 0x0, 0x0, .moveProf⟩
  | .MOVE_PIR => ⟨0x540108, false, 16, 16, 1, 0, 0x0, 0xFFFFFFFF, 0xFFFFFFFF, 0x0, 0x0, .moveProf⟩
  | .MOVE_PBS => ⟨0x54010C, false, 16, 16, 1, 0, 0x0, 0xFFFF, 0xFFFF, 0x0, 0x0, .moveProf⟩
  | .MOVE_PORT => ⟨0x541000, false, 1024, 4, 1, 0, 0x0, 0xF, 0x0, 0x0, 0x0, .none⟩
  | .MOVE_TC => ⟨0x542000, false, 1024, 8, 1, 0, 0x0, 0x0, 0x0, 0x0, 0x0, .none⟩
  | .MOVE_TP => ⟨0x542004, false, 1024, 8, 1, 0, 0x0, 0x0, 0x0, 0x0, 0x0, .none⟩
  | .CAL_CTRL => ⟨0x470000, false, 1, 0, 1, 0, 0x0, 0x800FFFFF, 0x800FFFFF, 0x0, 0x0, .cal⟩
  | .CAL_STATUS => ⟨0x470004, false, 1, 0, 1, 0, 0x0, 0x0, 0x0, 0x5, 0x0, .none⟩
  | .CAL_CMD => ⟨0x470008, false, 1, 0, 1, 0, 0x0, 0x0, 0x0, 0x0, 0x0, .none⟩
  | .CAL_CWIN => ⟨0x47000C, false, 1, 0, 1, 0, 0x0, 0xF000FFFF, 0xF000FFFF, 0x0, 0x0, .cal⟩
  | .CAL_TIMING => ⟨0x470010, false, 1, 0, 1, 0, 0x0, 0xFFFFFFFF, 0xFFFFFFFF, 0x0, 0x0, .cal⟩
  | .CAL_HOLDOFF => ⟨0x470014, false, 1, 0, 1, 0, 0x0, 0xFFFF, 0xFFFF, 0x0, 0x0, .cal⟩
  | .CAL_TCG => ⟨0x470018, false, 1, 0, 1, 0, 0x0, 0xFFFF, 0xFFFF, 0x0, 0x0, .cal⟩
  | .CAL_TRIGGER => ⟨0x47001C, false, 1, 0, 1, 0, 0x0, 0x0, 0x0, 0x0, 0x0, .none⟩
  | .CAL_COUNT => ⟨0x470020, false, 1, 0, 1, 0, 0x0, 0x0, 0x0, 0x0, 0x0, .none⟩
  | .CAL_LAST_NS => ⟨0x470024, false, 1, 0, 1, 0, 0x0, 0x0, 0x0, 0x0, 0x0, .none⟩
  | .CAL_LAST_S_LO => ⟨0x470028, false, 1, 0, 1, 0, 0x0, 0x0, 0x0, 0x0, 0x0, .none⟩
  | .CAL_LAST_S_HI => ⟨0x47002C, false, 1, 0, 1, 0, 0x0, 0x0, 0x0, 0x0, 0x0, .none⟩
  | .CAL_DONE_TILE => ⟨0x470040, false, 6, 4, 1, 0, 0x0, 0x0, 0x0, 0x0, 0x0, .none⟩
  | .CAL_SKIP_TILE => ⟨0x470060, false, 6, 4, 1, 0, 0x0, 0x0, 0x0, 0x0, 0x0, .none⟩
  | .TILE_CAL_STATUS => ⟨0x1000300, true, 1, 0, 1, 0, 0x0, 0x0, 0x0, 0x0, 0x0, .none⟩
  | .TILE_CMPT => ⟨0x1000304, true, 2, 4, 1, 0, 0x0, 0x0, 0x0, 0x0, 0x0, .none⟩
  | .TILE_CMPT_NEXT => ⟨0x100030C, true, 2, 4, 1, 0, 0x0, 0x0, 0x0, 0x0, 0x0, .none⟩
  | .TILE_CAL_TREF => ⟨0x1000314, true, 1, 0, 1, 0, 0x0, 0x0, 0x0, 0x0, 0x0, .none⟩
  | .TILE_CAL_TG => ⟨0x1000318, true, 1, 0, 1, 0, 0x0, 0x0, 0x0, 0x0, 0x0, .none⟩
  | .THM_CTRL => ⟨0x450000, false, 1, 0, 1, 0, 0x80000001, 0xC0000001, 0x0, 0x0, 0x0, .none⟩
  | .THM_STATUS => ⟨0x450004, false, 1, 0, 1, 0, 0x0, 0x0, 0x0, 0x1, 0x0, .none⟩
  | .THM_WARN => ⟨0x450010, false, 1, 0, 1, 0, 0x34BC, 0xFFFF, 0x0, 0x0, 0x0, .none⟩
  | .THM_THROT => ⟨0x450014, false, 1, 0, 1, 0, 0x38A4, 0xFFFF, 0x0, 0x0, 0x0, .none⟩
  | .THM_SHUT => ⟨0x450018, false, 1, 0, 1, 0, 0x3E80, 0xFFFF, 0x0, 0x0, 0x0, .none⟩
  | .THM_RESTART => ⟨0x45001C, false, 1, 0, 1, 0, 0x36B0, 0xFFFF, 0x0, 0x0, 0x0, .none⟩
  | .THM_HYST => ⟨0x450020, false, 1, 0, 1, 0, 0x1F4, 0xFFFF, 0x0, 0x0, 0x0, .none⟩
  | .THM_ROR => ⟨0x450024, false, 1, 0, 1, 0, 0x12C, 0xFFFF, 0x0, 0x0, 0x0, .none⟩
  | .THM_PCORE => ⟨0x450028, false, 1, 0, 1, 0, 0x0, 0xFFFF, 0x0, 0x0, 0x0, .none⟩
  | .THM_ALPHA => ⟨0x45002C, false, 1, 0, 1, 0, 0x0, 0xFFFF, 0x0, 0x0, 0x0, .none⟩
  | .THM_KN => ⟨0x450030, false, 1, 0, 1, 0, 0x0, 0xFFFF, 0x0, 0x0, 0x0, .none⟩
  | .THM_TDEV => ⟨0x450034, false, 1, 0, 1, 0, 0x0, 0x0, 0x0, 0x0, 0x0, .none⟩
  | .THM_RESTARTS => ⟨0x450038, false, 1, 0, 1, 0, 0x0, 0x0, 0x0, 0x0, 0x0, .none⟩
  | .THM_SHUT_INFO => ⟨0x45003C, false, 1, 0, 1, 0, 0x0, 0x0, 0x0, 0x0, 0x0, .none⟩
  | .THM_KR => ⟨0x450100, false, 176, 4, 1, 0, 0x0, 0xFFFFFF, 0x0, 0x0, 0x0, .none⟩
  | .THM_HOT => ⟨0x450400, false, 176, 4, 1, 0, 0x0, 0x0, 0x0, 0x0, 0x0, .none⟩
  | .HLT_V => ⟨0x460000, false, 8, 4, 1, 0, 0x0, 0x0, 0x0, 0x0, 0x0, .none⟩
  | .HLT_VWARN => ⟨0x460040, false, 8, 4, 1, 0, 0x0, 0xFFFFFFFF, 0x0, 0x0, 0x0, .none⟩
  | .HLT_VFAIL => ⟨0x460080, false, 8, 4, 1, 0, 0x0, 0xFFFFFFFF, 0x0, 0x0, 0x0, .none⟩
  | .HLT_VSTAT => ⟨0x4600C0, false, 1, 0, 1, 0, 0x0, 0x0, 0x0, 0xFFFF, 0x0, .none⟩
  | .HLT_PROC_MIN => ⟨0x4600C4, false, 1, 0, 1, 0, 0x0, 0xFFFFF, 0x0, 0x0, 0x0, .none⟩
  | .TILE_TEMP => ⟨0x1000400, true, 1, 0, 1, 0, 0x0, 0x0, 0x0, 0x0, 0x0, .none⟩
  | .TILE_TEMP_MAX => ⟨0x1000404, true, 1, 0, 1, 0, 0x0, 0x0, 0x0, 0x0, 0xFFFFFFFF, .none⟩
  | .TILE_PROC => ⟨0x1000408, true, 1, 0, 1, 0, 0x0, 0x0, 0x0, 0x0, 0x0, .none⟩
  | .TILE_HLT_STATUS => ⟨0x100040C, true, 1, 0, 1, 0, 0x0, 0x0, 0x0, 0x3, 0x0, .none⟩
  | .RED_TSTATE => ⟨0x100D000, true, 1, 0, 1, 0, 0x0, 0x0, 0x0, 0x0, 0x0, .none⟩
  | .RED_TCMD => ⟨0x100D004, true, 1, 0, 1, 0, 0x0, 0x0, 0x0, 0x0, 0x0, .none⟩
  | .RED_TSTATUS => ⟨0x100D008, true, 1, 0, 1, 0, 0x0, 0x0, 0x0, 0x7, 0x0, .none⟩
  | .RED_THCAUSE => ⟨0x100D00C, true, 1, 0, 1, 0, 0x0, 0x0, 0x0, 0x0, 0x0, .none⟩
  | .RED_SIG => ⟨0x100D010, true, 2, 4, 1, 0, 0x0, 0x0, 0x0, 0x0, 0x0, .none⟩
  | .RED_REJOIN => ⟨0x100D018, true, 1, 0, 1, 0, 0x0, 0x0, 0x0, 0x0, 0x0, .none⟩
  | .RED_HOLD_EST => ⟨0x100D01C, true, 1, 0, 1, 0, 0x0, 0x0, 0x0, 0x0, 0x0, .none⟩
  | .RED_HOLD_REF => ⟨0x100D020, true, 1, 0, 1, 0, 0x0, 0x0, 0x0, 0x0, 0x0, .none⟩
  | .RED_MISMATCH_CNT => ⟨0x100D024, true, 1, 0, 1, 0, 0x0, 0x0, 0x0, 0x0, 0xFFFFFFFF, .none⟩
  | .RED_TOKEN_CNT => ⟨0x100D028, true, 1, 0, 1, 0, 0x0, 0x0, 0x0, 0x0, 0xFFFFFFFF, .none⟩
  | .RED_CTRL => ⟨0x440000, false, 1, 0, 1, 0, 0x0, 0xC7000001, 0x0, 0x0, 0x0, .none⟩
  | .RED_STATUS => ⟨0x440004, false, 1, 0, 1, 0, 0x0, 0x0, 0x0, 0x1, 0x0, .none⟩
  | .RED_HOLD_BOUND => ⟨0x440008, false, 1, 0, 1, 0, 0x0, 0xFFFF, 0x0, 0x0, 0x0, .none⟩
  | .RED_HOLD_KPHI => ⟨0x44000C, false, 1, 0, 1, 0, 0x0, 0xFFFF, 0x0, 0x0, 0x0, .none⟩
  | .RED_HOLD_KAGE => ⟨0x440010, false, 1, 0, 1, 0, 0x0, 0xFFFF, 0x0, 0x0, 0x0, .none⟩
  | .RED_SLOT_STATE => ⟨0x440014, false, 1, 0, 1, 0, 0x0, 0x0, 0x0, 0x0, 0x0, .none⟩
  | .RED_SLOT_CMD => ⟨0x440018, false, 1, 0, 1, 0, 0x0, 0x0, 0x0, 0x0, 0x0, .none⟩
  | .RED_MGT_WDT => ⟨0x44001C, false, 1, 0, 1, 0, 0x0, 0xFFFF, 0x0, 0x0, 0x0, .none⟩
  | .RED_MGT_HB => ⟨0x440020, false, 1, 0, 1, 0, 0x0, 0x0, 0x0, 0x0, 0x0, .none⟩
  | .RED_MGT_RESTARTS => ⟨0x440024, false, 1, 0, 1, 0, 0x0, 0x0, 0x0, 0x0, 0x0, .none⟩
  | .RED_SIMPLEX_TILE => ⟨0x440040, false, 6, 4, 1, 0, 0x0, 0x0, 0x0, 0x0, 0x0, .none⟩
  | .RED_PATH_TILE => ⟨0x440060, false, 6, 4, 1, 0, 0x0, 0x0, 0x0, 0x0, 0x0, .none⟩
  | .FLT_CTRL => ⟨0x420000, false, 1, 0, 1, 0, 0x0, 0x3, 0x0, 0x0, 0x0, .none⟩
  | .FLT_STATUS => ⟨0x420004, false, 1, 0, 1, 0, 0x0, 0x0, 0x0, 0x3B, 0x0, .none⟩
  | .FLT_ACK => ⟨0x420008, false, 1, 0, 1, 0, 0x0, 0x0, 0x0, 0x0, 0x0, .none⟩
  | .FLT_SEQ => ⟨0x42000C, false, 1, 0, 1, 0, 0x0, 0x0, 0x0, 0x0, 0x0, .none⟩
  | .FLT_UNACK_N => ⟨0x420010, false, 1, 0, 1, 0, 0x0, 0x0, 0x0, 0x0, 0x0, .none⟩
  | .FLT_CNT => ⟨0x420020, false, 4, 4, 1, 0, 0x0, 0x0, 0x0, 0x0, 0xFFFFFFFF, .none⟩
  | .FLT_REC_BASE_LO => ⟨0x420040, false, 1, 0, 1, 0, 0x0, 0xFFFFF000, 0x0, 0x0, 0x0, .none⟩
  | .FLT_REC_BASE_HI => ⟨0x420044, false, 1, 0, 1, 0, 0x0, 0xFF, 0x0, 0x0, 0x0, .none⟩
  | .FLT_REC_SIZE => ⟨0x420048, false, 1, 0, 1, 0, 0x0, 0x0, 0x0, 0x0, 0x0, .none⟩
  | .FLT_REC_STATUS => ⟨0x42004C, false, 1, 0, 1, 0, 0x0, 0x0, 0x0, 0x0, 0x0, .none⟩
  | .FLT_REC_CMD => ⟨0x420050, false, 1, 0, 1, 0, 0x0, 0x0, 0x0, 0x0, 0x0, .none⟩
  | .FLT_HIST_SEL => ⟨0x420054, false, 1, 0, 1, 0, 0x0, 0xFF, 0x0, 0x0, 0x0, .none⟩
  | .FLT_REC_TIME => ⟨0x420060, false, 4, 4, 1, 0, 0x0, 0x0, 0x0, 0x0, 0x0, .none⟩
  | .FLT_FATAL => ⟨0x420080, false, 8, 4, 1, 0, 0x0, 0x0, 0x0, 0x0, 0x0, .none⟩
  | .FLT_REACT => ⟨0x420100, false, 256, 4, 1, 0, 0x0, 0x7, 0x0, 0x0, 0x0, .none⟩
  | .FLT_LOST_TILE => ⟨0x421000, false, 176, 4, 1, 0, 0x0, 0x0, 0x0, 0x0, 0xFFFFFFFF, .none⟩
  | .FLT_SLOTHIST => ⟨0x422000, false, 256, 16, 4, 4, 0x0, 0x0, 0x0, 0x0, 0x0, .none⟩
  | .FLT_SAMPHIST => ⟨0x424000, false, 4096, 4, 1, 0, 0x0, 0x0, 0x0, 0x0, 0x0, .none⟩
  | .FLT_LOG => ⟨0x428000, false, 1024, 32, 8, 4, 0x0, 0x0, 0x0, 0x0, 0x0, .none⟩
  | .EVT_CTRL => ⟨0x430000, false, 1, 0, 1, 0, 0x0, 0x1, 0x0, 0x0, 0x0, .none⟩
  | .EVT_STATUS => ⟨0x430004, false, 1, 0, 1, 0, 0x0, 0x0, 0x0, 0x7, 0x0, .none⟩
  | .EVT_SWPUB => ⟨0x430008, false, 1, 0, 1, 0, 0x0, 0x0, 0x0, 0x0, 0x0, .none⟩
  | .EVT_GROUPS => ⟨0x43000C, false, 1, 0, 1, 0, 0x0, 0xFFFF, 0x0, 0x0, 0x0, .none⟩
  | .EVT_LOOP_CNT => ⟨0x430010, false, 1, 0, 1, 0, 0x0, 0x0, 0x0, 0x0, 0xFFFFFFFF, .none⟩
  | .EVT_DROP_CNT => ⟨0x430014, false, 1, 0, 1, 0, 0x0, 0x0, 0x0, 0x0, 0xFFFFFFFF, .none⟩
  | .EVT_CH => ⟨0x431000, false, 512, 4, 1, 0, 0x0, 0x380FF, 0x380FF, 0x0, 0x0, .evtCh⟩
  | .EVT_SRC => ⟨0x432000, false, 616, 4, 1, 0, 0x0, 0x800001FF, 0x0, 0x0, 0x0, .none⟩
  | .EVT_SUB => ⟨0x433000, false, 640, 4, 1, 0, 0x0, 0x800001FF, 0x0, 0x0, 0x0, .none⟩
  | .EVT_INST => ⟨0x434000, false, 640, 4, 1, 0, 0x0, 0x0, 0x0, 0x40000000, 0x0, .none⟩
  | .EVT_MERGED => ⟨0x435000, false, 640, 4, 1, 0, 0x0, 0x0, 0x0, 0x0, 0xFFFFFFFF, .none⟩
  | .DMA_CH_CTRL => ⟨0x550000, false, 16, 64, 1, 0, 0x0, 0x103, 0x0, 0x0, 0x0, .none⟩
  | .DMA_CH_CMD => ⟨0x550004, false, 16, 64, 1, 0, 0x0, 0x0, 0x0, 0x0, 0x0, .none⟩
  | .DMA_CH_STATUS => ⟨0x550008, false, 16, 64, 1, 0, 0x0, 0x0, 0x0, 0x0, 0x0, .none⟩
  | .DMA_CH_DESC_LO => ⟨0x55000C, false, 16, 64, 1, 0, 0x0, 0xFFFFFFE0, 0xFFFFFFE0, 0x0, 0x0, .dma⟩
  | .DMA_CH_DESC_HI => ⟨0x550010, false, 16, 64, 1, 0, 0x0, 0x7F, 0x7F, 0x0, 0x0, .dma⟩
  | .DMA_CH_CUR_LO => ⟨0x550014, false, 16, 64, 1, 0, 0x0, 0x0, 0x0, 0x0, 0x0, .none⟩
  | .DMA_CH_CUR_HI => ⟨0x550018, false, 16, 64, 1, 0, 0x0, 0x0, 0x0, 0x0, 0x0, .none⟩
  | .DMA_CH_DONE => ⟨0x55001C, false, 16, 64, 1, 0, 0x0, 0x0, 0x0, 0x0, 0x0, .none⟩
  | .DMA_CH_FAULT_LO => ⟨0x550020, false, 16, 64, 1, 0, 0x0, 0x0, 0x0, 0x0, 0x0, .none⟩
  | .DMA_CH_FAULT_HI => ⟨0x550024, false, 16, 64, 1, 0, 0x0, 0x0, 0x0, 0x0, 0x0, .none⟩
  | .MMU_STATUS => ⟨0x560000, false, 1, 0, 1, 0, 0x0, 0x0, 0x0, 0x1, 0x0, .none⟩
  | .MMU_INV => ⟨0x560004, false, 1, 0, 1, 0, 0x0, 0x0, 0x0, 0x0, 0x0, .none⟩
  | .MMU_INV_IOVA_LO => ⟨0x560008, false, 1, 0, 1, 0, 0x0, 0xFFFFF000, 0x0, 0x0, 0x0, .none⟩
  | .MMU_INV_IOVA_HI => ⟨0x56000C, false, 1, 0, 1, 0, 0x0, 0x7F, 0x0, 0x0, 0x0, .none⟩
  | .MMU_FAULT_CNT => ⟨0x560010, false, 1, 0, 1, 0, 0x0, 0x0, 0x0, 0x0, 0xFFFFFFFF, .none⟩
  | .MMU_STREAM => ⟨0x560100, false, 25, 16, 1, 0, 0x0, 0x80000000, 0x80000000, 0x0, 0x0, .mmu⟩
  | .MMU_ROOT_LO => ⟨0x560104, false, 25, 16, 1, 0, 0x0, 0xFFFFF000, 0xFFFFF000, 0x0, 0x0, .mmu⟩
  | .MMU_ROOT_HI => ⟨0x560108, false, 25, 16, 1, 0, 0x0, 0xFF, 0xFF, 0x0, 0x0, .mmu⟩
  | .DRAM_CTRL => ⟨0x570000, false, 1, 0, 1, 0, 0x0, 0x1, 0x0, 0x0, 0x0, .none⟩
  | .DRAM_STATUS => ⟨0x570004, false, 1, 0, 1, 0, 0x0, 0x0, 0x0, 0x0, 0x0, .none⟩
  | .DRAM_SIZE => ⟨0x570008, false, 1, 0, 1, 0, 0x0, 0x0, 0x0, 0x0, 0x0, .none⟩
  | .DRAM_SCRUB => ⟨0x57000C, false, 1, 0, 1, 0, 0x0, 0xFFFF, 0x0, 0x0, 0x0, .none⟩
  | .DRAM_CE_CNT => ⟨0x570010, false, 1, 0, 1, 0, 0x0, 0x0, 0x0, 0x0, 0xFFFFFFFF, .none⟩
  | .DRAM_UE_CNT => ⟨0x570014, false, 1, 0, 1, 0, 0x0, 0x0, 0x0, 0x0, 0xFFFFFFFF, .none⟩
  | .DRAM_ERR_ADDR => ⟨0x570018, false, 1, 0, 1, 0, 0x0, 0x0, 0x0, 0x0, 0x0, .none⟩
  | .PLV_CTRL => ⟨0x580000, false, 1, 0, 1, 0, 0x0, 0x1, 0x0, 0x0, 0x0, .none⟩
  | .PLV_STATUS => ⟨0x580004, false, 1, 0, 1, 0, 0x0, 0x0, 0x0, 0x3, 0x0, .none⟩
  | .PLV_MBOX_IDX => ⟨0x580008, false, 1, 0, 1, 0, 0x0, 0x0, 0x0, 0x0, 0x0, .none⟩
  | .PLV_MBOX_DATA => ⟨0x58000C, false, 1, 0, 1, 0, 0x0, 0x0, 0x0, 0x0, 0x0, .none⟩
  | .PLV_LCTRL => ⟨0x580100, false, 2, 64, 1, 0, 0x0, 0x80000000, 0x0, 0x0, 0x0, .none⟩
  | .PLV_LSTATUS => ⟨0x580104, false, 2, 64, 1, 0, 0x0, 0x0, 0x0, 0x0, 0x0, .none⟩
  | .PLV_CRC_ERR => ⟨0x580108, false, 2, 64, 1, 0, 0x0, 0x0, 0x0, 0x0, 0xFFFFFFFF, .none⟩
  | .PLV_REPLAY => ⟨0x58010C, false, 2, 64, 1, 0, 0x0, 0x0, 0x0, 0x0, 0xFFFFFFFF, .none⟩
  | .PLV_UR => ⟨0x580110, false, 2, 64, 1, 0, 0x0, 0x0, 0x0, 0x0, 0xFFFFFFFF, .none⟩
  | .MGT_STRAP => ⟨0x410020, false, 1, 0, 1, 0, 0x0, 0x0, 0x0, 0x0, 0x0, .none⟩
  | .MGT_BOOT => ⟨0x410024, false, 1, 0, 1, 0, 0xFFFF, 0x0, 0x0, 0x0, 0x0, .none⟩
  | .MGT_IMG_SEQ => ⟨0x410028, false, 1, 0, 1, 0, 0x0, 0x0, 0x0, 0x0, 0x0, .none⟩
  | .MGT_FUSE => ⟨0x41002C, false, 1, 0, 1, 0, 0x0, 0x0, 0x0, 0x0, 0x0, .none⟩
  | .MGT_CMD => ⟨0x410200, false, 1, 0, 1, 0, 0x0, 0x0, 0x0, 0x0, 0x0, .none⟩
  | .MGT_CMD_ARG => ⟨0x410204, false, 4, 4, 1, 0, 0x0, 0xFFFFFFFF, 0xFFFFFFFF, 0x0, 0x0, .mgtCmd⟩
  | .MGT_CMD_STATUS => ⟨0x410214, false, 1, 0, 1, 0, 0x0, 0x0, 0x0, 0x0, 0x0, .none⟩
  | .MGT_CMD_RES0 => ⟨0x410218, false, 1, 0, 1, 0, 0x0, 0x0, 0x0, 0x0, 0x0, .none⟩
  | .MGT_REMAP => ⟨0x410010, false, 1, 0, 1, 0, 0x0, 0x1, 0x0, 0x0, 0x0, .none⟩
  | .CAP_INUSE => ⟨0x40001C, false, 6, 4, 1, 0, 0x0, 0x0, 0x0, 0x0, 0x0, .none⟩

/-- Part 0 of the list of all registers. -/
def Reg.all0 : List Reg :=
  [.MGT_MODE, .MGT_HOLD_CAUSE, .MGT_MODE_STAMP_NS, .MGT_MODE_STAMP_S_LO, .MGT_MODE_STAMP_S_HI, .MGT_TILE_HOLD, .CAP_DEVICE, .CAP_REVISION, .CAP_FABRIC, .CFG_FMAP, .DRV_CTRL, .DRV_STATUS, .DRV_LEGA_LOST, .DRV_LEGB_LOST, .DRV_SAT, .DRV_BAR, .DRV_CROSS, .DRV_BLOCK, .DRV_MAN, .DRV_SHADOW, .DRV_ACTIVE, .DRV_IMON, .HTR_CTRL, .HTR_STATUS, .HTR_MODE, .HTR_SPARE, .HTR_FAILED, .HTR_SWAP, .HTR_BLOCK, .HTR_MAN, .HTR_ACTIVE, .HTR_PARTS, .HTR_IMON, .TILE_SKEW, .TILE_SKEW_NEXT, .TILE_COMMIT_COUNT, .TILE_DRV_PWR, .TILE_HTR_PWR, .SLOT_SKEW_APPLY, .SLOT_COMMIT_COUNT, .SLOT_UNREADY_COUNT, .SLOT_UNREADY_TILE, .TRIM_CTRL, .TRIM_STATUS, .TRIM_WIN, .TRIM_DWELL, .TRIM_CMD, .TRIM_BUSY, .TRIM_CHSET, .TRIM_TSET, .TRIM_TAP, .WEAR_BASE_LO, .WEAR_BASE_HI, .WEAR_AGE_S, .WEAR_LIFE_S, .WEAR_ALARM, .WEAR_MOVE_COST, .WEAR_QUERY, .WEAR_HEADROOM, .WEAR_STATUS]

/-- Part 1 of the list of all registers. -/
def Reg.all1 : List Reg :=
  [.WEAR_LOG_FILL, .WEAR_LOW_TILE, .ADC_CTRL, .ADC_STATUS, .ADC_REF, .ADC_SYSCAL, .ADC_OWT, .ADC_OWT_CMD, .ADC_CAPCTL, .ADC_ERRCNT, .ADC_CAPSEL, .ADC_OPEN, .ADC_LEAK, .ADC_BAD, .ADC_RANGE, .ADC_RNOW, .ADC_IREF, .ADC_OFS, .ADC_GAIN, .DMA_CAP_CTRL, .DMA_CAP_BASE_LO, .DMA_CAP_BASE_HI, .DMA_CAP_SIZE, .DMA_CAP_WP, .DMA_CAP_RP, .DMA_CAP_DROP, .DMA_CAP_WRAP, .LOOP_CTRL, .LOOP_STATUS, .LOOP_VNOM, .LOOP_OPEN, .LOOP_ISOPEN, .LOOP_LIM, .LOOP_DIM, .LOOP_HELD, .LOOP_RLIM, .LOOP_KI, .LOOP_KP, .LOOP_KRL, .LOOP_KRD, .LOOP_KRH, .LOOP_KFFV, .LOOP_KFFA, .LOOP_SH0, .LOOP_SH1, .LOOP_DPH, .LOOP_ULIM, .LOOP_PMIN, .LOOP_WMIN, .LOOP_RSET, .LOOP_PTGT, .LOOP_I, .LOOP_M, .LOOP_E, .LOOP_WBAR, .LOOP_GN, .LOOP_RSP, .LOOP_ST, .SLOT_RC_CTRL, .SLOT_RC_BASE0_LO]

/-- Part 2 of the list of all registers. -/
def Reg.all2 : List Reg :=
  [.SLOT_RC_BASE0_HI, .SLOT_RC_BASE1_LO, .SLOT_RC_BASE1_HI, .SLOT_RC_LATE, .PRF_STATUS, .PRF_RUN, .PRF_LIMITED, .PRF_VMAX, .PRF_AMAX, .PRF_JMAX, .PRF_CHSET, .PRF_X, .PRF_V, .PRF_A, .PRF_CMD, .PRF_MAP, .DDS_STATUS, .DDS_SWAP, .DDS_N, .DDS_FREQ, .DDS_PHASE, .DDS_AMP, .SWP_CTRL, .SWP_STATUS, .SWP_CMD, .SWP_STEP, .SWP_JUMP, .SWP_POS, .SWP_FRAC, .SWP_UNDER_CNT, .SWP_UNDER_N, .SWP_SEGACT, .SWP_MAP, .SWP_SEG_LO, .SWP_SEG_HI, .SWP_SEG_LEN, .SWP_SEG_CTRL, .MC_STATUS, .MC_FLAGS, .MC_CYCLES, .MC_KINDS, .MC_CHMASK, .MC_DMHI, .MC_CRC, .MC_LATE_REC, .MC_MCHK, .MC_CS_ADDR, .MC_CS_DATA, .MC_CS_PAR, .MC_DM_ADDR, .MC_DM_DATA, .MC_REC, .MC_LOAD_CTRL, .MC_LOAD_ADDR_LO, .MC_LOAD_ADDR_HI, .MC_LOAD_CMD, .MC_LOAD_STATUS, .MC_LOAD_TILES, .MC_LOAD_FAIL, .SLOT_STATUS]

/-- Part 3 of the list of all registers. -/
def Reg.all3 : List Reg :=
  [.SLOT_GUARD, .SLOT_CMD, .SLOT_BASE_NS, .SLOT_BASE_S_LO, .SLOT_BASE_S_HI, .SLOT_START_NS, .SLOT_START_S_LO, .SLOT_START_S_HI, .SLOT_PEND_TC_LO, .SLOT_PEND_TC_HI, .SLOT_PEND_LEN, .SLOT_OP_TC_LO, .SLOT_OP_TC_HI, .SLOT_OP_LEN, .SLOT_POS, .SLOT_CYCLE, .SLOT_ARMERR, .SLOT_CFG_LATE, .SLOT_WIDE, .SLOT_ENTRY0, .SLOT_ENTRY1, .CFG_STATUS, .CFG_COMMIT, .CFG_INFORCE, .CFG_DRAM_BASE_LO, .CFG_DRAM_BASE_HI, .CFG_DRAM_COUNT, .RTE_CMD, .RTE_ARG0, .RTE_ARG1, .RTE_ARG2, .RTE_STATUS, .RTE_TIME, .RTE_RESULT, .RTE_LIST_N, .RTE_LIST, .RTE_FAULT, .RTE_PERM, .PTP_CTRL, .PTP_STATUS, .PTP_CMD, .PTP_TIME_FRAC, .PTP_TIME_NS, .PTP_TIME_S_LO, .PTP_TIME_S_HI, .PTP_SET_NS, .PTP_SET_S_LO, .PTP_SET_S_HI, .PTP_ADJ_NS, .PTP_INCR_FRAC, .PTP_INCR_NS, .PTP_TRIM, .PTP_SERVO_OFS, .PTP_SERVO_KP, .PTP_SERVO_KI, .PTP_SERVO_SH, .PTP_SERVO_LIM, .PTP_SERVO_HOLD, .PTP_SERVO_LOCK, .PTP_SERVO_INTEG]

/-- Part 4 of the list of all registers. -/
def Reg.all4 : List Reg :=
  [.PTP_PPSIN_CTRL, .PTP_PPSIN_DLY, .PTP_PPSIN_FRAC, .PTP_PPSIN_NS, .PTP_PPSIN_S_LO, .PTP_PPSIN_S_HI, .PTP_PPSOUT_CTRL, .PTP_PPSOUT_DLY, .PTP_SPAN_NS, .PTP_SPAN_S_LO, .PTP_SPAN_S_HI, .PTP_SPAN_CNT, .PTP_ONESTEP, .PTP_PORT_TXC, .PTP_PORT_RXC, .PTP_PORT_ADJ, .PTP_PORT_VAR, .PTP_TXTS_ID, .PTP_TXTS_FRAC, .PTP_TXTS_NS, .PTP_TXTS_S_LO, .PTP_TXTS_S_HI, .SIG_SELF_LO, .SIG_SELF_HI, .SIG_REQ_CTRL, .SIG_REQ_STATUS, .SIG_REQ_BANK, .SIG_REQ_GRANTS, .SIG_REQ_REFUSALS, .SIG_M_RX_BASE_LO, .SIG_M_RX_BASE_HI, .SIG_M_RX_CTRL, .SIG_M_RX_WP, .SIG_M_RX_RP, .SIG_M_DROP, .SIG_M_TX_BASE_LO, .SIG_M_TX_BASE_HI, .SIG_M_TX_CTRL, .SIG_M_TX_WP, .SIG_M_TX_RP, .SIG_PORT_CFG, .SIG_PORT_STATUS, .SIG_PORT_FEC_CW, .SIG_PORT_FEC_UNC, .SIG_PORT_RX_DROP, .FWD_CTRL, .FWD_STATUS, .FWD_SEED, .FWD_AGE, .FWD_FLAP, .FWD_CMD, .FWD_ARG, .FWD_RES, .FWD_COUNT, .FWD_INSFAIL, .FWD_LEARN_DROP, .FWD_MOVES, .FWD_FLAPS, .LPM_CMD, .LPM_STATUS]

/-- Part 5 of the list of all registers. -/
def Reg.all5 : List Reg :=
  [.LPM_LEN, .LPM_DATA, .LPM_KEY, .LPM_RES, .LPM_COUNT, .LPM_GROUP, .POL_STATUS, .POL_MAP, .POL_CFG, .POL_CIR, .POL_CBS, .POL_PIR, .POL_PBS, .POL_CNT_G, .POL_CNT_Y, .POL_CNT_R, .POL_TC, .POL_TP, .SHP_PORT_CFG, .SHP_QMAP, .SHP_Q, .SHP_QLIM, .SHP_CREDIT, .SHP_QDROP, .MOVE_STATUS, .MOVE_CMD, .MOVE_RES, .MOVE_CNT_G, .MOVE_CNT_Y, .MOVE_CNT_R, .MOVE_CNT_WEAR, .MOVE_CNT_THR, .MOVE_CIR, .MOVE_CBS, .MOVE_PIR, .MOVE_PBS, .MOVE_PORT, .MOVE_TC, .MOVE_TP, .CAL_CTRL, .CAL_STATUS, .CAL_CMD, .CAL_CWIN, .CAL_TIMING, .CAL_HOLDOFF, .CAL_TCG, .CAL_TRIGGER, .CAL_COUNT, .CAL_LAST_NS, .CAL_LAST_S_LO, .CAL_LAST_S_HI, .CAL_DONE_TILE, .CAL_SKIP_TILE, .TILE_CAL_STATUS, .TILE_CMPT, .TILE_CMPT_NEXT, .TILE_CAL_TREF, .TILE_CAL_TG, .THM_CTRL, .THM_STATUS]

/-- Part 6 of the list of all registers. -/
def Reg.all6 : List Reg :=
  [.THM_WARN, .THM_THROT, .THM_SHUT, .THM_RESTART, .THM_HYST, .THM_ROR, .THM_PCORE, .THM_ALPHA, .THM_KN, .THM_TDEV, .THM_RESTARTS, .THM_SHUT_INFO, .THM_KR, .THM_HOT, .HLT_V, .HLT_VWARN, .HLT_VFAIL, .HLT_VSTAT, .HLT_PROC_MIN, .TILE_TEMP, .TILE_TEMP_MAX, .TILE_PROC, .TILE_HLT_STATUS, .RED_TSTATE, .RED_TCMD, .RED_TSTATUS, .RED_THCAUSE, .RED_SIG, .RED_REJOIN, .RED_HOLD_EST, .RED_HOLD_REF, .RED_MISMATCH_CNT, .RED_TOKEN_CNT, .RED_CTRL, .RED_STATUS, .RED_HOLD_BOUND, .RED_HOLD_KPHI, .RED_HOLD_KAGE, .RED_SLOT_STATE, .RED_SLOT_CMD, .RED_MGT_WDT, .RED_MGT_HB, .RED_MGT_RESTARTS, .RED_SIMPLEX_TILE, .RED_PATH_TILE, .FLT_CTRL, .FLT_STATUS, .FLT_ACK, .FLT_SEQ, .FLT_UNACK_N, .FLT_CNT, .FLT_REC_BASE_LO, .FLT_REC_BASE_HI, .FLT_REC_SIZE, .FLT_REC_STATUS, .FLT_REC_CMD, .FLT_HIST_SEL, .FLT_REC_TIME, .FLT_FATAL, .FLT_REACT]

/-- Part 7 of the list of all registers. -/
def Reg.all7 : List Reg :=
  [.FLT_LOST_TILE, .FLT_SLOTHIST, .FLT_SAMPHIST, .FLT_LOG, .EVT_CTRL, .EVT_STATUS, .EVT_SWPUB, .EVT_GROUPS, .EVT_LOOP_CNT, .EVT_DROP_CNT, .EVT_CH, .EVT_SRC, .EVT_SUB, .EVT_INST, .EVT_MERGED, .DMA_CH_CTRL, .DMA_CH_CMD, .DMA_CH_STATUS, .DMA_CH_DESC_LO, .DMA_CH_DESC_HI, .DMA_CH_CUR_LO, .DMA_CH_CUR_HI, .DMA_CH_DONE, .DMA_CH_FAULT_LO, .DMA_CH_FAULT_HI, .MMU_STATUS, .MMU_INV, .MMU_INV_IOVA_LO, .MMU_INV_IOVA_HI, .MMU_FAULT_CNT, .MMU_STREAM, .MMU_ROOT_LO, .MMU_ROOT_HI, .DRAM_CTRL, .DRAM_STATUS, .DRAM_SIZE, .DRAM_SCRUB, .DRAM_CE_CNT, .DRAM_UE_CNT, .DRAM_ERR_ADDR, .PLV_CTRL, .PLV_STATUS, .PLV_MBOX_IDX, .PLV_MBOX_DATA, .PLV_LCTRL, .PLV_LSTATUS, .PLV_CRC_ERR, .PLV_REPLAY, .PLV_UR, .MGT_STRAP, .MGT_BOOT, .MGT_IMG_SEQ, .MGT_FUSE, .MGT_CMD, .MGT_CMD_ARG, .MGT_CMD_STATUS, .MGT_CMD_RES0, .MGT_REMAP, .CAP_INUSE]

/-- All registers, in the order of the spec's tables. -/
def Reg.all : List Reg :=
  Reg.all0 ++ Reg.all1 ++ Reg.all2 ++ Reg.all3 ++ Reg.all4 ++ Reg.all5 ++ Reg.all6 ++ Reg.all7

/-- The place of element (i, j) of a register of tile t in the register store: the name's number
and the indices, packed so that different elements have different places. -/
def Reg.key (r : Reg) (t i j : Nat) : Nat :=
  2048 * (16384 * (256 * r.ctorIdx + t % 256) + i % 16384) + j % 2048

/-- The absolute address of element (i, j) of a register of tile t (R5, R30, R31). -/
def Reg.addr (r : Reg) (t i j : Nat) : Nat :=
  r.desc.base + (if r.desc.tiled then t * 0x10000 else 0) + i * r.desc.s1 + j * r.desc.s2

/-- The element of register `r` that lies at address `a`, as tile and indices. -/
def Reg.locate (r : Reg) (a : Nat) : Option (Nat × Nat × Nat) :=
  let d := r.desc
  if a < d.base then none
  else
    let o := a - d.base
    let t := if d.tiled then o / 0x10000 else 0
    let o := if d.tiled then o % 0x10000 else o
    if t < 176 then
      if d.n1 = 1 then
        if d.n2 = 1 then (if o = 0 then some (t, 0, 0) else none)
        else if o % d.s2 = 0 ∧ o / d.s2 < d.n2 then some (t, 0, o / d.s2) else none
      else if d.n2 = 1 then
        if o % d.s1 = 0 ∧ o / d.s1 < d.n1 then some (t, o / d.s1, 0) else none
      else
        let i := o / d.s1
        let q := o % d.s1
        if i < d.n1 ∧ q % d.s2 = 0 ∧ q / d.s2 < d.n2 then some (t, i, q / d.s2) else none
    else none

/-- The register element at an address, if the spec defines one there (R6). -/
def regAt (a : Nat) : Option (Reg × Nat × Nat × Nat) :=
  Reg.all.findSome? fun r => (r.locate a).map fun p => (r, p.1, p.2.1, p.2.2)

end Sys2Proof.Machine
end

