-- ==== Sys2Proof/Machine/Store.lean ====
section
/-! DEFINITION. Sparse stores: sorted lists of (key, value) pairs in one canonical form, keys
strictly rising and no entry equal to the value an unlisted key reads as. Registers, internal
words and the memories are kept in this form, so equal contents are equal data. -/
namespace Sys2Proof.Machine

/-- What the list holds at key `k`; `d` where it lists nothing there. -/
def spGet {α : Type} (d : α) : List (Nat × α) → Nat → α
  | [], _ => d
  | (k0, v0) :: r, k => if k0 < k then spGet d r k else if k0 = k then v0 else d

/-- The list with the entries of keys up to `k` taken from its front. -/
def spDrop {α : Type} : List (Nat × α) → Nat → List (Nat × α)
  | [], _ => []
  | (k0, v0) :: r, k => if k0 ≤ k then spDrop r k else (k0, v0) :: r

/-- The list with `v` at key `k`; writing what an unlisted key reads as removes the entry. -/
def spPut {α : Type} [DecidableEq α] (d : α) : List (Nat × α) → Nat → α → List (Nat × α)
  | [], k, v => if v = d then [] else [(k, v)]
  | (k0, v0) :: r, k, v =>
    if k0 < k then (k0, v0) :: spPut d r k v
    else if v = d then spDrop ((k0, v0) :: r) k
    else (k, v) :: spDrop ((k0, v0) :: r) k

/-- Canonical form above a lower bound: keys rise strictly and none is listed below `lo`. -/
def spWfFrom {α : Type} [DecidableEq α] (d : α) : Nat → List (Nat × α) → Bool
  | _, [] => true
  | lo, (k, v) :: r => decide (lo ≤ k) && decide (v ≠ d) && spWfFrom d (k + 1) r

/-- The canonical form of a sparse store. -/
def spWf {α : Type} [DecidableEq α] (d : α) (l : List (Nat × α)) : Bool := spWfFrom d 0 l

/-- What the list holds at key `k`, if it lists anything there: for a memory whose unlisted
bytes have no value. -/
def spFind {α : Type} : List (Nat × α) → Nat → Option α
  | [], _ => none
  | (k0, v0) :: r, k => if k0 < k then spFind r k else if k0 = k then some v0 else none

/-- The list with `v` at key `k`, for a memory whose unlisted bytes have no value. -/
def spSet {α : Type} : List (Nat × α) → Nat → α → List (Nat × α)
  | [], k, v => [(k, v)]
  | (k0, v0) :: r, k, v =>
    if k0 < k then (k0, v0) :: spSet r k v else (k, v) :: spDrop ((k0, v0) :: r) k

/-- Keys rise strictly from a lower bound. -/
def spRisingFrom {α : Type} : Nat → List (Nat × α) → Bool
  | _, [] => true
  | lo, (k, _) :: r => decide (lo ≤ k) && spRisingFrom (k + 1) r

/-- Keys rise strictly. -/
def spRising {α : Type} (l : List (Nat × α)) : Bool := spRisingFrom 0 l

/-- Of the `n` lines of 32 keys from line `w` on, those in which a rising list lists nothing. -/
def spBlank {α : Type} : Nat → List (Nat × α) → Nat → List Nat
  | 0, _, _ => []
  | n + 1, l, w =>
    match (if w = 0 then l else spDrop l (32 * w - 1)) with
    | [] => (List.range (n + 1)).map (fun k => w + k)
    | (k, v) :: r => if k < 32 * (w + 1) then spBlank n ((k, v) :: r) (w + 1) else w :: spBlank n ((k, v) :: r) (w + 1)

/-- The elements of a list kept sorted and without repeats, with `k` among them. -/
def ordInsert : List Nat → Nat → List Nat
  | [], k => [k]
  | a :: r, k => if a < k then a :: ordInsert r k else if a = k then a :: r else k :: a :: r

end Sys2Proof.Machine
end

