-- ==== Sys2Proof/Machine/State.lean ====
section
/-! DEFINITION. The state of the T1024 as plain data: the command queue, the registers the spec
names, the internal words its rules imply, the memories, and the queues and records of its
engines; and the state after power-on reset. -/
namespace Sys2Proof.Machine

/-- Why the block stops with a fault. -/
inductive Fault where
  /-- Raised by every meaning whose operands name something the part does not have (a tile
  above 175, a channel above 63): no such command can come. Safe: the part goes on, the model
  stops. -/
  | illFormed
deriving DecidableEq, Repr

/-- Why the block has no meaning for a command. -/
inductive Refusal where
  /-- Raised by the dispatcher for a row that the model gives no meaning. Safe. -/
  | notModelled (mnemonic : String)
deriving DecidableEq, Repr

/-- The device modes (R22, R29). -/
inductive Mode where
  | boot
  | characterise
  | static
  | slotted
  | hold
  | sable
deriving DecidableEq, Repr

/-- Network time (R264): seconds, nanoseconds 0..999,999,999, and 2^-32 ns. -/
structure NetTime where
  sec : Nat
  ns : Nat
  frac : Nat
deriving DecidableEq, Repr

/-- What the last bus access answered (R5, R6): the error response and the word returned. -/
structure Resp where
  err : Bool
  data : Nat
deriving DecidableEq, Repr

/-- A fault message (R393) waiting in its source's queue (R18, R20). -/
structure FaultMsg where
  src : Nat
  kind : Nat
  cls : Nat
  addr : Nat
  xaddr : Nat
  sec : Nat
  ns : Nat
deriving DecidableEq, Repr

/-- A published event (R416): source, channel and hop count. -/
structure Event where
  src : Nat
  chan : Nat
  hop : Nat
deriving DecidableEq, Repr

/-- An entry of the unacknowledged list (R402): its sequence number, and its tile for a THOLD
entry, none for a DHOLD entry. -/
structure Unack where
  seq : Nat
  tile : Option Nat
deriving DecidableEq, Repr

/-- What a commit is for (R87, R237, R243, R244, R246, R247). -/
inductive CommitKind where
  | staticCommit
  | slot
  | start
  | stop
  | heldOver
deriving DecidableEq, Repr

/-- The boundary in preparation from B - 400 on (R87). -/
structure Commit where
  kind : CommitKind
  /-- The configuration named: its DRAM bit and index (R236). -/
  dram : Bool
  idx : Nat
  /-- The bank it is broadcast from (R245). -/
  bank : Nat
  guard : Bool
  /-- Slot position begun, where the boundary is one of a slot program. -/
  pos : Option Nat
  /-- Widened under R252. -/
  wide : Bool
  /-- The decision at B - 32: none before it, then launched or suppressed. -/
  launched : Option Bool
  /-- The commit is suppressed under R245, with its fault kind. -/
  late : Option Nat
  /-- The grain of the boundary. -/
  edgeAt : Nat
  /-- The strobe edge has passed and groups 1..3 are still to load. -/
  edge : Bool
deriving DecidableEq, Repr

/-- A slot-history record (R410): its four words. -/
structure SlotRec where
  w0 : Nat
  w1 : Nat
  w2 : Nat
  w3 : Nat
deriving DecidableEq, Repr

/-- An occurrence of a slot position whose fetch instant has come (R170). -/
structure Occ where
  /-- Its number, in the order of the fetch instants. -/
  no : Nat
  pos : Nat
  /-- It belongs to the pending list. -/
  forPend : Bool
  /-- SLOT_RC_CTRL.EN at its fetch instant. -/
  en : Bool
  /-- Its boundary has passed. -/
  began : Bool
  /-- It is in force. -/
  active : Bool
  /-- It lies in a learning cycle (R168). -/
  learning : Bool
  /-- Grain plus 1 at which it ended; 0 it has not. -/
  endAt : Nat
deriving DecidableEq, Repr

/-- A correction-table block in a tile's prefetch buffer (R166, R170). -/
structure Block where
  tile : Nat
  pos : Nat
  /-- The DRAM offset it was read from; none when it lies outside the usable DRAM or cannot be read. -/
  addr : Option Nat
  entries : List Int
  arrived : Bool
  /-- The occurrences that it serves and whose write-back point is still to come, oldest first. -/
  occs : List Nat
  /-- Those of them for which it was late. -/
  late : List Nat
deriving DecidableEq, Repr

/-- A wear-log record (R113) that waits to be durable. -/
structure WearRec where
  cell : Nat
  kind : Nat
  value : Nat
  age : Nat
deriving DecidableEq, Repr

/-- A calibrated sample on its way to the engine (R123, R127, R128, R132). -/
structure Sample where
  tile : Nat
  conv : Nat
  input : Nat
  /-- Span count of the span the sample belongs to. -/
  span : Nat
  extra : Bool
  p : Int
  bad : Bool
  test : Bool
  trim : Bool
  sat : Bool
  /-- Its nominal grain. -/
  nom : Nat
  /-- Its slot position tag, none outside SLOTTED. -/
  pos : Option Nat
  nocommit : Bool
  /-- Number of the slot occurrence that it lies in plus 1; 0 none (R168). -/
  occ : Nat
  /-- STATE, AGE, EDGE and THETA of a record at that grain (R156). -/
  state : Bool
  age : Nat
  edge : Bool
  theta : Nat
deriving DecidableEq, Repr

/-- A result of an engine operation on its way to a register (R213). -/
structure PipeW where
  tile : Nat
  half : Nat
  /-- The first program grain whose word reads the new value. -/
  at_ : Nat
  /-- 0 G, 1 P, 2 H. -/
  kind : Nat
  ix : Nat
  val : Nat
deriving DecidableEq, Repr

/-- A leaf translation in the cache of the I/O memory management unit (R443): stream, first IOVA,
size in bytes, management address, and its R and W bits. -/
structure Tlb where
  stream : Nat
  iova : Nat
  size : Nat
  pa : Nat
  rd : Bool
  wr : Bool
deriving DecidableEq, Repr

/-- A DMA unit in flight (R438): its channel, its place in the descriptor, the management (or host)
addresses of its bytes in runs of (address, bytes), and for a host source its tag and the data that
have come back. -/
structure DmaUnit where
  ch : Nat
  pos : Nat
  len : Nat
  src : List (Nat × Nat)
  dst : List (Nat × Nat)
  srcHost : Bool
  dstHost : Bool
  link : Nat
  tag : Nat
  data : Option (List Byte)
  /-- The channel has ended this transfer already. -/
  stray : Bool
deriving DecidableEq, Repr

/-- A frame of the sweep player in its prefetch buffer (R191): segment, index, and 64 codes. -/
structure SwpFrame where
  seg : Nat
  ix : Nat
  codes : List Nat
deriving DecidableEq, Repr

/-- A transaction frame of the T1024 on a Plovom link, waiting to be sent or to be acknowledged
(R446 to R449). -/
structure PlvFrame where
  link : Nat
  /-- Its sequence number, once sent. -/
  seq : Option Nat
  ttype : Nat
  tag : Nat
  status : Nat
  addr : Nat
  data : List Byte
  /-- LEN of the header. -/
  len : Nat
  /-- Times replayed. -/
  replays : Nat
deriving DecidableEq, Repr

/-- A message in the Plovom mailbox (R451). -/
structure PlvMsg where
  index : Nat
  data : Nat
deriving DecidableEq, Repr

/-- An entry of a transmit-stamp FIFO (R275): port, messageType, sequenceId, and t_ref in 2^-32 ns. -/
structure TxStamp where
  port : Nat
  mtype : Nat
  seqId : Nat
  time : Nat
deriving DecidableEq, Repr

/-- A frame in an egress queue, or the frame sent last (R323 to R325): port, queue, and the bytes from
the destination address on, without FCS. -/
structure TxFrame where
  port : Nat
  queue : Nat
  bytes : List Byte
deriving DecidableEq, Repr

/-- An entry of a MAC table (R290 to R295): its key, port code, marks, the grain plus 1 at which its
move window opened (0 none) with the moves made in it, and the grain at which it was locked. -/
structure MacEnt where
  vid : Nat
  mac : Nat
  port : Nat
  fixed : Bool
  hit : Bool
  lock : Bool
  win : Nat
  moves : Nat
  lockAt : Nat
  /-- Grain plus 1 of its last hit; 0 none (R295). -/
  hitAt : Nat
deriving DecidableEq, Repr

/-- A request in a learning queue (R291). -/
structure LearnReq where
  pipe : Nat
  vid : Nat
  mac : Nat
  port : Nat
deriving DecidableEq, Repr

/-- An entry of the longest-prefix-match memory (R301). -/
structure LpmEnt where
  key : Nat
  len : Nat
  group : Nat
deriving DecidableEq, Repr

/-- A circuit request in the engine's queue (R305): the ingress port and the frame. -/
structure CircReq where
  port : Nat
  bytes : List Byte
deriving DecidableEq, Repr

/-- What the request engine waits for. -/
inductive EngPhase where
  /-- To write CFG_COMMIT again (R310). -/
  | retry
  /-- The commit in progress (R309). -/
  | commit
  /-- The last gentle move of the request (R309). -/
  | gentle
deriving DecidableEq, Repr

/-- The request that the engine serves (R305 to R312). -/
structure EngReq where
  req : CircReq
  phase : EngPhase
  /-- The circuits granted, as (IN, OUT). -/
  circs : List (Nat × Nat)
  /-- The configuration in force that the target was made from. -/
  srcDram : Bool
  srcIdx : Nat
  /-- The target bank. -/
  tgt : Nat
  /-- Suppressed commits so far. -/
  supp : Nat
  /-- The groups that step 1 of a SETUP found (R307). -/
  groups : List (Nat × Nat)
  /-- The steps have been repeated from a new configuration in force (R310). -/
  again : Bool
deriving DecidableEq, Repr

/-- A capture record in the holding buffer of a ring (R147, R149). -/
structure CapRec where
  ring : Nat
  w0 : Nat
  w1 : Nat
  w2 : Nat
  w3 : Nat
deriving DecidableEq, Repr

/-- The internal words that the rules imply and no register shows. Each is an integer, found by a
tile (or other first) index, a second and a third index; 0 where nothing has set it. -/
inductive Lat where
  /-- Exact position of a move, by tile and channel (R181). -/
  | prfX
  /-- Exact velocity of a move, by tile and channel (R181). -/
  | prfV
  /-- Exact acceleration of a move, by tile and channel (R181). -/
  | prfA
  /-- Position of the last load of a move, by tile and channel (R185). -/
  | prfLoad
  /-- A move is paused by a HOLD or a campaign, by tile and channel (R185). -/
  | prfPaused
  /-- The next load is the capture load, after which the move ends, by tile and channel (R181). -/
  | prfLast
  /-- The heater output of a channel is 0 until a spare is connected by command, by tile and channel (R81, R82). -/
  | htrDead
  /-- The mode the heater buffer works in, by tile and channel (R77). -/
  | htrBuffer
  /-- A mode bit has changed and waits for the mode boundary, by tile and channel (R77). -/
  | htrModePend
  /-- Both legs of a driver are lost, by tile and channel (R74). -/
  | drvDead
  /-- The heater correction beside the shadow code, by tile and channel (R71, R167). -/
  | shCorr
  /-- The attenuator is shuttered in the commit in preparation, by tile and channel (R250). -/
  | shut
  /-- STATE bits of the configuration in force, 32 per word, by tile and word 0..1 (R236, R250). -/
  | inForce
  /-- STATE bits of the DRAM configuration being committed, as broadcast from its staging bank, 32 per word, by tile
  and word 0..1 (R245, R250). -/
  | nextForce
  /-- Grain at which a spare slice was connected, by tile and slice (R81). -/
  | spareSince
  /-- Sum of the leg currents of the scan in progress, by tile (R85). -/
  | scanI
  /-- Sum of bump voltage times leg current of the scan in progress, by tile (R85). -/
  | scanVI
  /-- The last scan showed a drift, by tile and channel (R86). -/
  | driftSeen
  /-- SLOT_SKEW_APPLY waits for the next commit decision point (R91). -/
  | skewReq
  /-- A trim pulse is running, by tile (R104). -/
  | trimRun
  /-- The pulse chosen for this span, by tile: 0 none, 1 next of the train, 2 of the pending command (R104). -/
  | trimChosen
  /-- The pending TRIM_CMD word plus 1, by tile; 0 none (R104). -/
  | trimCmd
  /-- The OPEN record of the pending TRIM_CMD has been appended, by tile (R104, R113). -/
  | trimCmdOpen
  /-- Direction of the train in progress, by tile: 1 up (R108). -/
  | trainUp
  /-- Target tap of the train in progress, by tile (R113). -/
  | trainTarget
  /-- Channel last served by a train of the tile itself (R104). -/
  | trimServed
  /-- A train is requested, by tile and channel: 1 up, 2 down (R108, R341). -/
  | trimReq
  /-- Spans outside the window, above counted positive and below negative, by tile and channel (R108). -/
  | trimDwell
  /-- Tile spans begun plus 1 at the end of the last pulse, by tile and channel (R104). -/
  | trimEnd
  /-- A pulse has been applied and its samples may carry TRIM, by tile and channel (R107). -/
  | trimTag
  /-- Last tile span, counted by tileN, whose samples carry TRIM, by tile and channel (R107). -/
  | trimTagTo
  /-- The timing set found invalid, by tile and channel (R103). -/
  | suspSet
  /-- Channel of the pulse in progress, by tile (R101). -/
  | pulseCh
  /-- The pulse in progress belongs to the train, by tile (R101). -/
  | pulseTrain
  /-- The copied timing set of the pulse, by tile and edge (R103). -/
  | pulseSet
  /-- Taps moved on a channel in the present campaign visit, by tile and channel (R341). -/
  | calMoved
  /-- BLOCKS of a cell, by tile and channel (R113). -/
  | wearBlocks
  /-- A log record could not be made durable: no further pulses (R113). -/
  | wearStop
  /-- The DRAM ledger has been built (R114). -/
  | ledgerUp
  /-- Cell of the headroom query in progress plus 1; 0 none (R120). -/
  | wearQueryCell
  /-- Flash address of the wear-log region (R463). -/
  | logBase
  /-- Size of the wear-log region in bytes (R463). -/
  | logBytes
  /-- The log half in use (R469). -/
  | logUse
  /-- GEN of the log half in use (R469). -/
  | logGen
  /-- AGE_S at the start of the compaction in progress (R115). -/
  | snapAge
  /-- Span count, unbounded (R281). -/
  | span
  /-- B(0) has passed (R281). -/
  | spanUp
  /-- Grain of the latest span boundary (R124). -/
  | spanAt
  /-- The present device span has 8,000 grains (R124). -/
  | spanLong
  /-- The coming device span has 8,000 grains (R358). -/
  | spanLongNext
  /-- Grain plus 1 of the last change of THROTTLE (R358). -/
  | thrAt
  /-- Spans that the tile has begun, by tile (R144). -/
  | tileN
  /-- Span count of the tile's present span, by tile (R144). -/
  | tileSpan
  /-- Grain at which the tile's present span began, by tile (R144). -/
  | tileSpanAt
  /-- Slot position in force (R243). -/
  | slotPos
  /-- Slot position before the latest slot boundary plus 1; 0 none (R127). -/
  | posPrev
  /-- Grain plus 1 of the latest slot boundary; 0 none (R156). -/
  | bndAt
  /-- Grain plus 1 of the slot boundary before it; 0 none (R156). -/
  | bndAtPrev
  /-- The commit that began the present slot position was suppressed (R156). -/
  | posSupp
  /-- As posSupp, for the position before (R156). -/
  | posSuppPrev
  /-- Grain plus 1 of the latest commit; 0 none (R156). -/
  | cmtAt
  /-- Grain plus 1 of the commit before it; 0 none (R156). -/
  | cmtAtPrev
  /-- Grain plus 1 of the last change of STATE in DRV_ACTIVE, by tile and channel (R156). -/
  | stAt
  /-- Slots completed of the round in progress, by tile and converter (R123). -/
  | convSlot
  /-- Span count of the span to which the round in progress belongs, by tile and converter (R125). -/
  | convSpan
  /-- The round in progress is extra, by tile and converter (R125). -/
  | convExtra
  /-- The converter serves both taps in rounds of 128 slots, by tile and converter (R143). -/
  | convLong
  /-- Failures among the last 16 conversions, as a bit window, by tile and converter (R142). -/
  | convErr
  /-- Consecutive conversions not completed, by tile and converter (R142). -/
  | convOver
  /-- Grain plus 1 of the first failed mark, by tile (R143). -/
  | convMark
  /-- Consecutive low codes, by tile and input (R130). -/
  | lowRun
  /-- Grain plus 1 at which the reference buffer was enabled, by tile; 0 not enabled (R133). -/
  | refAt
  /-- System calibration in progress, by tile: 1 DARK, 2 GAIN INJECT, 3 GAIN ILLUM (R136). -/
  | sysOp
  /-- N of the system calibration in progress, by tile (R135). -/
  | sysN
  /-- Round of the system calibration in progress, by tile and converter; 0 before its first (R135). -/
  | sysRound
  /-- Sum of a system calibration, by tile, input and range (R136). -/
  | sysSum
  /-- Range of an input before a system calibration, by tile and input (R135). -/
  | sysRange
  /-- Open-wire test, by tile: 0 none, 1 begins, 2 the pull is applied, 3 the stage recovers (R138). -/
  | owtPhase
  /-- Input under test, by tile (R138). -/
  | owtInput
  /-- Polarity of the test, by tile: 1 DOWN (R138). -/
  | owtDown
  /-- Verdict of the test before, for a repeated one, by tile: 0 none, 1 OPEN, 2 LEAK (R140). -/
  | owtLast
  /-- The test is to be repeated at once, by tile (R140). -/
  | owtRepeat
  /-- Next of the 256 automatic tests, by tile (R140). -/
  | owtNext
  /-- ADC_OWT_CMD that waits for the span boundary, plus 1, by tile (R140). -/
  | owtCmd
  /-- Rounds are aligned with the span tick (R125). -/
  | aligned
  /-- Records dropped since the last one written, by ring (R148). -/
  | capLost
  /-- Record bank words, by tile, 64 x bank + channel and word: 0..5 as R156, 6 samples arrived, 7 substituted, 8 table block absent (R205). -/
  | loopRec
  /-- PB of the last record the engine read, by tile and channel (R225). -/
  | recPb
  /-- PX of the last record the engine read, by tile and channel (R225). -/
  | recPx
  /-- Grain of the last reset (R186). -/
  | rstAt
  /-- Tells the last reset from others: the count of free values at it plus 1; 0 before any (R186). -/
  | rstSeed
  /-- General register, by tile and 64 x half + number (R200). -/
  | engG
  /-- Predicate P1..P11, by tile and 16 x half + number (R200). -/
  | engP
  /-- Shift register, by tile and 16 x half + number (R200). -/
  | engH
  /-- Output bank entry of 17 bits, by tile and 64 x half + channel (R200). -/
  | engOut
  /-- Input word COND, by tile and channel (R212). -/
  | engCond
  /-- Input word HTRACT, by tile and channel (R212). -/
  | engAct
  /-- VDRV_MV latched for the span, by tile (R203). -/
  | engVdrv
  /-- Engine event input received in this span, by tile and input (R209). -/
  | engEvt
  /-- Running signature, by tile and half (R372). -/
  | engSig
  /-- A CONTRACT message of the subcode has been sent in this span, by tile and subcode (R228). -/
  | ctSent
  /-- Heartbeats sent in this span: bit 0 interlock pulse, bit 1 first message, bit 2 second message, by tile and half (R373). -/
  | hbSent
  /-- Heartbeat messages received by the supervisor in this span: bit 0 first, bit 1 second, by tile and half (R373). -/
  | hbGot
  /-- Consecutive spans in which a lost path has been present, by tile, half and path (R374). -/
  | pathGood
  /-- The decision moves the token, by tile (R375). -/
  | decMove
  /-- The decision loads no bank, by tile (R375). -/
  | decNoLoad
  /-- State of a half from the boundary on, plus 1; 0 unchanged, by tile and half (R375). -/
  | decState
  /-- The decision sets the tile HOLD cause REJOIN, by tile (R380). -/
  | decHold
  /-- The half becomes (2) or became (1) OUT in a way that an automatic rejoin follows, by tile and half (R382). -/
  | outAuto
  /-- Automatic rejoins started, by tile and half (R382). -/
  | autoN
  /-- A rejoin accepted and not begun: half plus 1, by tile (R377). -/
  | rjReq
  /-- A SWAP waits for the token decision, by tile (R391). -/
  | redSwap
  /-- A DISABLE of the half waits for the boundary, by tile and half (R391). -/
  | redDis
  /-- A RESTART waits for the boundary: the halves named, by tile (R384). -/
  | redRestart
  /-- HOLD_DRIFT has been sent in this hold, 1, and HOLD_BOUND, 2, by tile (R385). -/
  | tileDrift
  /-- Model steps since ref was taken plus 1; 0 no ref, by tile (R385). -/
  | holdMs
  /-- Sample history, by tile and 128 x place + input: RANGE and CODE (R410). -/
  | sampHist
  /-- Rounds that the sample history has taken, by tile and converter (R410). -/
  | histN
  /-- HALF of the load in progress (R220). -/
  | mcHalf
  /-- The half entered machine check in this span, by tile and half (R374). -/
  | mchkNew
  /-- A generator token move waits for the next commit decision point (R387, R388, R392). -/
  | slotSwap
  /-- Boundaries since the rejoin of a slot-timer half began plus 1, by half (R388). -/
  | slotJoin
  /-- A path of a slot-timer half is lost and has been reported, by half and path (R374, R388). -/
  | slotPathLost
  /-- Spans in a row in which such a path was present, by half and path (R374, R388). -/
  | slotPathGood
  /-- Boundaries since the last SLOT_CMP plus 1; 0 none (R386). -/
  | slotCmpN
  /-- The management cores are held in reset (R389). -/
  | mgtFail
  /-- Grain plus 1 of the last warm restarts, newest first, 0..2 (R389). -/
  | warmAt
  /-- Grain plus 1 of the last management heartbeat (R389). -/
  | hbAt
  /-- A hold entry found the unacknowledged list full since the last FLT_ACK with ALL 1 (R402). -/
  | unackOvf
  /-- Boundary time, in ns, of the next boundary of the operating list (R243). -/
  | opNext
  /-- Slot position that begins there (R243). -/
  | opNextPos
  /-- Pending start S, in ns (R242). -/
  | pendS
  /-- List memory of the armed list (R239). -/
  | pendMem
  /-- List memory under validation plus 1 (R239). -/
  | armBusy
  /-- Boundary time, in ns, of the stop boundary (R246). -/
  | stopAt
  /-- SLOT_CMD word of the pending stop (R246). -/
  | stopWord
  /-- Grain plus 1 fixed for the coming slot boundary; 0 none fixed (R279). -/
  | fixG
  /-- Bank of the CFG_COMMIT in progress plus 1 (R237, R247). -/
  | cfgReq
  /-- The CFG_COMMIT in progress is guarded (R237). -/
  | cfgGuard
  /-- First grain at which its span boundary may lie (R237). -/
  | cfgFrom
  /-- A stop configuration is held over: 1 until the loops close, 2 from then on (R247). -/
  | cfgHeld
  /-- Next occurrence of a DRAM entry to be broadcast, by list memory (R245). -/
  | ringHead
  /-- Staging bank, by list memory and place: 0 none, 1 requested, 2 valid, 3 not valid (R245). -/
  | ringSt
  /-- DRAM configuration of the copy, by list memory and place (R245). -/
  | ringCfg
  /-- Route solver command in progress: OP plus 1 (R257). -/
  | rteOp
  /-- Code found when it was started (R259). -/
  | rteCode
  /-- The tile lacks READY for the coming commit, by tile (R87). -/
  | unready
  /-- The image has been loaded (R354, R363, R417). -/
  | imgUp
  /-- Consecutive readings outside -60.00..200.00 degrees, by tile (R352). -/
  | tempOut
  /-- The last 100 readings, by tile and place, each plus 2^16 (R353). -/
  | tempHist
  /-- Readings taken, by tile (R353). -/
  | tempN
  /-- A reading has been taken since TILE_TEMP_MAX was read, by tile (R368). -/
  | tempMaxUp
  /-- The sensor value last known plus 2^16, by tile (R352). -/
  | sensLast
  /-- TSENS_LOST has been sent, by tile (R352). -/
  | sensLost
  /-- THM_ROR has been sent and the rise has not fallen below half of the limit, by tile (R353). -/
  | rorSent
  /-- Consecutive readings at THM_SHUT or above, by tile (R359). -/
  | shutRun
  /-- Grain plus 1 of the last reading at THM_RESTART or above, or of the last reset (R360). -/
  | hotAt
  /-- dh of the thermal model, by tile (R354). -/
  | thmDh
  /-- SABLE was entered through the thermal shutdown (R359). -/
  | shutSable
  /-- A fault other than THM_SHUT has driven the Sable line (R360). -/
  | otherFatal
  /-- Grain plus 1 at which the Sable line was driven (R360). -/
  | sableAt
  /-- The flight routine has completed its dump since the Sable line was driven (R360). -/
  | dumpDone
  /-- Consecutive samples outside a window, by rail and window: 0 WARN, 1 FAIL (R363). -/
  | vOut
  /-- First sample of them, by rail and window (R363). -/
  | vFirst
  /-- Consecutive samples inside the window in an excursion, by rail and window (R363). -/
  | vIn
  /-- An excursion of the rail is in progress, by rail and window (R363). -/
  | vExc
  /-- Consecutive counts below HLT_PROC_MIN, by tile (R364). -/
  | procLow
  /-- PROC_SLOW has been sent, by tile (R364). -/
  | procSent
  /-- Lowest tile that no group of the campaign has taken (R339). -/
  | calNext
  /-- Hop count of the occurrence at CAL_START that started the campaign plus 1; 0 none (R418). -/
  | calHop
  /-- Grain plus 1 at which the last campaign ended or was abandoned (R338). -/
  | calEndAt
  /-- Grain at which STAGED was entered (R345). -/
  | calStaged
  /-- Tile spans of the present stage of a visit, by tile (R339, R341). -/
  | calSpans
  /-- Tile spans begun plus 1 when the last train of the visit on a channel completed, by tile and channel (R341). -/
  | calTrain
  /-- Channel last served in the visit, by tile (R341). -/
  | calServed
  /-- Threshold steps taken, by tile and converter (R342). -/
  | calCmpN
  /-- The threshold measurement is over, by tile and converter (R342). -/
  | calCmpDone
  /-- Direction of the delay search, by tile and tree: 0 first vote, 1 down, 2 up (R343). -/
  | skDir
  /-- Steps taken of the delay search, by tile and tree (R343). -/
  | skSteps
  /-- Probes of the vote in progress, by tile and tree (R343). -/
  | skProbes
  /-- Late probes among them, by tile and tree (R343). -/
  | skLate
  /-- The delay search is over, by tile and tree (R343). -/
  | skDone
  /-- Calibration entry, by tile: 1 runs in the next span, 2 runs in this span (R344). -/
  | calEntry
  /-- Staging copy of ADC_GAIN, by tile, input and range; at input + 128 and + 256 the copies of the halves (R344). -/
  | calGain
  /-- The half has run the calibration entry in this span, by tile and half (R344). -/
  | calRan
  /-- loop_code active register of a half, by tile and 64 x half + channel (R66, R204). -/
  | loopAct
  /-- Base of the free values that the compare sequence or the calibration entry last left in data-memory words
  0x1F00..0x1FFF plus 1; 0 none has run, by tile and half (R215). -/
  | dmBase
  /-- That base when such a word was last written through MC_DM_DATA, by tile, 256 x half + word (R230). -/
  | dmOwn
  /-- Reading used for the staging copy, by tile (R344). -/
  | calTemp
  /-- A calibration commit without a configuration commit falls on the coming span boundary (R345). -/
  | calArm
  /-- Grain plus 1 of the last calibration boundary that changed the gains, by tile (R346). -/
  | calAt
  /-- ADC_GAIN before that boundary, by tile, input and range (R346). -/
  | calOldGain
  /-- The first frame of the segment is not yet in the resampler (R192). -/
  | swpFirst
  /-- Repeats of the current sample after the end of the last segment (R193). -/
  | swpTail
  /-- Output instants missed in the present underrun (R195). -/
  | swpMissed
  /-- SWP_STEP of the step that the present underrun missed (R195). -/
  | swpOwed
  /-- Last output of a player channel plus 1; 0 none since START, by player channel (R192). -/
  | swpOut
  /-- Segment last written to SWP_CMD.SEG (R419). -/
  | swpSeg
  /-- Hop count of the occurrence at SWP_START that began the run plus 1; 0 none (R418). -/
  | swpHop
  /-- Grain at which the last cause of the device HOLD cleared (R24). -/
  | relAt
  /-- Grain plus 1 of the latest release boundary (R24). -/
  | relDone
  /-- START.MODE of the image applied (R467). -/
  | startMode
  /-- START word 0 of the image applied (R467). -/
  | startWord
  /-- START words 1..3 of the image applied (R467). -/
  | startBase
  /-- HSTART code of a cell, by tile and channel (R473). -/
  | hstart
  /-- BOOT_ARM is still to come (R473). -/
  | armWait
  /-- Source that the collector served last plus 1; 0 none since reset (R394). -/
  | fltLast
  /-- Group changes latched in this cycle: bit g enable, bit 16 + g disable (R423). -/
  | grpPend
  /-- Staged PTP_INCR_FRAC (R264). -/
  | incrStage
  /-- Grain plus 1 from which the servo silence counts (R270). -/
  | silAt
  /-- Consecutive offsets within the lock threshold (R270). -/
  | lockN
  /-- Grain plus 1 of the last accepted 1PPS edge, or of the setting of EN (R276). -/
  | ppsAt
  /-- PPS_LOSS has been sent since then (R276). -/
  | ppsLost
  /-- Level of the 1PPS output (R277). -/
  | ppsOut
  /-- Grain at which the pulse in progress on the 1PPS output ends (R277). -/
  | ppsEnd
  /-- Bucket Tc of a meter, in 2^-16 bytes, by meter (R319). -/
  | polTc
  /-- Bucket Tp or Te of a meter, in 2^-16 bytes, by meter (R319, R320). -/
  | polTp
  /-- The meter has been enabled and its buckets are set full at the next tick, by meter (R322). -/
  | polNew
  /-- Shaper word in force, by port and queue (R326). -/
  | shpQ
  /-- Credit of a queue, in 1/64 byte, by port and queue (R325). -/
  | shpC
  /-- Profile in force of an input port, by port (R332). -/
  | moveProf
  /-- Table command in progress, by pipeline: OP plus 1 (R297). -/
  | fwdOp
  /-- Records of the BULK_LOAD in progress dealt with, by pipeline (R298). -/
  | bulkN
  /-- Those of them that applied, by pipeline (R297). -/
  | bulkOk
  /-- Those of them that failed, by pipeline (R297). -/
  | bulkBad
  /-- Index of the first that failed plus 1; 0 none; by pipeline (R297). -/
  | bulkFirst
  /-- A DRAM read error has stopped the BULK_LOAD, by pipeline (R297). -/
  | bulkErr
  /-- LPM command in progress (R301). -/
  | lpmOp
  /-- Word of the descriptor in progress, by channel and word 0..7 (R436). -/
  | dmaW
  /-- Bytes of the descriptor that have been issued, by channel (R438). -/
  | dmaPos
  /-- Hop count of the occurrence at DMA_TRIG that began the transfer plus 1; 0 none, by channel (R437). -/
  | dmaHop
  /-- ABORT waits for the units in flight, by channel (R437). -/
  | dmaAbort
  /-- Channel that issued last plus 1 (R438). -/
  | dmaPick
  /-- Sequence number of the next frame to be sent, by link (R449). -/
  | plvTx
  /-- Sequence number of the next frame to be accepted, by link (R449). -/
  | plvRx
  /-- Credit that the host has given, cumulative modulo 2^16, by link and class: 0 P, 1 NP, 2 CPL (R448). -/
  | plvLim
  /-- Credit of the INIT frame of the host, by link and class (R448). -/
  | plvInit
  /-- Credit consumed, cumulative modulo 2^16, by link and class (R448). -/
  | plvUsed
  /-- Buffer units drained and returned to the host, cumulative modulo 2^16, by link and class (R448). -/
  | plvGot
  /-- Last ACK or NAK sent: LTYPE x 4,096 + SEQ; 0 none, by link (R449). -/
  | plvCtl
  /-- Occurrences numbered so far (R170). -/
  | occN
  /-- Number of the occurrence in force plus 1; 0 none was fetched for (R168). -/
  | occNow
  /-- As occNow, before the latest slot boundary (R168). -/
  | occPrev
  /-- The decision for the slot boundary to come: 1 launched, 2 suppressed (R88). -/
  | cmtRes
  /-- The broadcast to the tile met an uncorrectable error, by tile (R87, R234). -/
  | cmtUe
  /-- The tile took the strobe of the guarded commit in progress, by tile (R250). -/
  | took
  /-- The self-test of BOOT has ended and span boundaries pass (R281). -/
  | spanReady
  /-- The flight routine runs (R413). -/
  | flightRun
  /-- Step of BOOT that is awaited: 0 discovery (R462), 3 training (R434), 4 stream (R470), 6 ledger (R114), 10 self-test, 11 none; 20 while RESET_N or the power-on reset is asserted (R470). -/
  | bootStep
  /-- Slot tried or loaded: 0 A, 1 B (R466). -/
  | bootSlot
  /-- Slot that is tried when this one fails plus 1; 0 none (R466). -/
  | bootNext
  /-- Slot that BOOT_SLOT named plus 1; 0 as R466 (R474). -/
  | bootSel
  /-- Bytes of the flash, as discovery found them (R462). -/
  | flashSize
  /-- The flash is in 8D-8D-8D (R462); XSPI_RESET_N returns it to 1S-1S-1S (R497). -/
  | flash8D
  /-- SVN of the loaded image (R474). -/
  | imgSvn
  /-- The loaded image has a FIRMWARE section (R470). -/
  | fwUp
  /-- Entry offset of the firmware (R467). -/
  | fwEntry
  /-- Flash address of the flight-record region (R467). -/
  | frOff
  /-- Bytes of the flight-record region (R467). -/
  | frBytes
  /-- Device command in progress on the management cores: OP plus 1; 0 none (R477). -/
  | cmdOp
  /-- TAP instruction in force: 0 IDCODE, 1 BYPASS, 2 EXTEST, 3 CLAMP, 4 INTEST, 5 SAMPLE (R501). -/
  | tapIr
  /-- Word that the TAP shifts out: the IDCODE, or the bypass bit (R501). -/
  | tapOut
  /-- The output of the present span was computed in HOLD and is discarded, by tile and 64 x half + channel (R27, R28). -/
  | holdCut
  /-- Mode of the tile's latest span boundary, as its code plus 1, by tile (R22). -/
  | modeWas
  /-- A connected spare slice has failed and is still connected, by tile and slice (R82). -/
  | spareBad
  /-- A pulse on the cell was cut by a reset that keeps DRAM, by tile and channel (R106). -/
  | tapCut
  /-- Grains plus 1 of the latest changes into or out of SLOTTED, newest first, 0..3 (R127). -/
  | sltAt
  /-- Grain plus 1 of the latest change of ADC_REF.READY, by tile (R128). -/
  | rdyAt
  /-- Grain plus 1 of the latest swap of the tone lists, by tile (R188). -/
  | ddsAt
  /-- Range plus 1 to which an input returns after its next conversion; 0 none, by tile and input (R135). -/
  | sysBack
  /-- Tile spans begun at the start of the last automatic open-wire test, by tile (R140). -/
  | owtAt
  /-- Grain plus 1 at which the code at the ladder was last found to saturate, by tile and channel (R69, R76). -/
  | satAt
deriving DecidableEq, Repr

/-- The place of an internal word in the store of internal words. -/
def Lat.key (l : Lat) (t i j : Nat) : Nat :=
  2048 * (16384 * (256 * l.ctorIdx + t % 256) + i % 16384) + j % 2048

/-- The whole state of the part and the queue of commands that wait for it. -/
structure State where
  /-- The commands that wait, first in, first out. -/
  pending : List Instr
  /-- Registers: the difference from their reset values, by place (Reg.key). -/
  regs : List (Nat × Word)
  /-- Internal words by place (Lat.key). -/
  lats : List (Nat × Int)
  /-- The registers as they stood when the present grain began (R502). -/
  regs0 : List (Nat × Word)
  /-- The internal words as they stood when the present grain began (R502). -/
  lats0 : List (Nat × Int)
  /-- The mode as it stood when the present grain began (R502). -/
  mode0 : Mode
  /-- Network time at the grain before this one (R279, R281). -/
  time0 : NetTime
  /-- The words of the 512 configuration banks, 512 words each (R232, R234). -/
  banks : List (Nat × Word)
  /-- Pairs of bank words with an ECC error, by 256 x bank + pair: 4 x kind (1 single, 2 double) +
  the words not yet written again (R234). -/
  bankEcc : List (Nat × Nat)
  /-- Control stores (R206): the 256-bit word and its 8 parity bits, by (tile, half, word). -/
  cs : List (Nat × BitVec 264)
  /-- Data memories of the engine halves (R210), by (tile, half, word). -/
  dm : List (Nat × Word)
  /-- Working SRAM bytes by offset (R30). -/
  sram : List Host.Cell
  /-- DRAM bytes by offset from 0x10_0000_0000 (R30, R432); an offset not listed has not been
  written since the reset that left it undefined (R503). -/
  dram : List Host.Cell
  /-- The 32-byte DRAM words, by offset / 32, that hold an uncorrectable error (R435). -/
  dramUe : List Nat
  /-- Flash bytes by flash address (R461). -/
  flash : List Host.Cell
  /-- Snapshots of values wider than 32 bits (R8), by the place of the register word. -/
  snap : List (Nat × Word)
  /-- The answer to the last bus access. -/
  resp : Resp
  /-- Device mode (MGT_MODE.MODE, R22). -/
  mode : Mode
  /-- Mode to which HOLD returns (MGT_MODE.PRIOR). -/
  prior : Mode
  /-- The hardware Sable line (R407). -/
  sable : Bool
  /-- Grains since power-on (R4, R17). -/
  grain : Nat
  /-- Network time (R264). -/
  time : NetTime
  /-- The model's counter of free values (log entry 7). -/
  freeCtr : Nat
  /-- Fault messages sent and not yet accepted, oldest first. -/
  faults : List FaultMsg
  /-- The unacknowledged list (R402). -/
  unacks : List Unack
  /-- Events published since the last routing (R420). -/
  events : List Event
  /-- The commit in preparation (R87). -/
  commit : Option Commit
  /-- The slot history, oldest first (R410). -/
  slotHist : List SlotRec
  /-- Correction-table blocks in the prefetch buffers (R170). -/
  blocks : List Block
  /-- Those blocks as they stood when the present grain began (R214). -/
  blocks0 : List Block
  /-- The occurrences fetched for and still of concern, in the order of their fetch instants (R170). -/
  occs : List Occ
  /-- Wear-log records that wait to be durable, oldest first (R113). -/
  wearQ : List WearRec
  /-- Samples converted and not yet delivered, oldest first (R18). -/
  samples : List Sample
  /-- Capture records in the holding buffers, oldest first (R149). -/
  capQ : List CapRec
  /-- Engine results not yet written (R213). -/
  pipe : List PipeW
  /-- The translation cache (R443), oldest first. -/
  tlb : List Tlb
  /-- DMA units in flight, oldest first (R438). -/
  dmaUnits : List DmaUnit
  /-- Frames in the sweep player's prefetch buffer (R194). -/
  swpBuf : List SwpFrame
  /-- The 16 newest frames of the resampler, oldest first (R192). -/
  swpX : List (List Nat)
  /-- Plovom frames to be sent or acknowledged, oldest first. -/
  plvOut : List PlvFrame
  /-- The Plovom mailbox, oldest first. -/
  mbox : List PlvMsg
  /-- The transmit-stamp FIFOs of the ports, oldest first (R275). -/
  txts : List TxStamp
  /-- Frames in the egress queues, oldest first (R323). -/
  txq : List TxFrame
  /-- The frame sent last on a port. -/
  sent : Option TxFrame
  /-- The MAC tables, by 65,536 x pipeline + position (R290). -/
  mac : List (Nat × MacEnt)
  /-- The learning queues, oldest first (R291). -/
  learnQ : List LearnReq
  /-- The longest-prefix-match memory, longest prefix first (R301). -/
  lpm : List LpmEnt
  /-- The request engine's queue, oldest first (R305). -/
  reqQ : List CircReq
  /-- The request being served (R305). -/
  eng : Option EngReq
  /-- The device-command frame that firmware has still to answer (R479). -/
  mgmt : Option CircReq
deriving DecidableEq, Repr

/-- The state right after power-on reset (R458, R470): BOOT, every register at its reset value,
memory with nothing listed, nothing waiting. -/
def State.reset : State :=
  { pending := [], regs := [], lats := [], regs0 := [], lats0 := [], mode0 := .boot, time0 := ⟨0, 0, 0⟩, banks := [], bankEcc := [], cs := [], dm := [], sram := [], dram := [], dramUe := [],
    flash := [], snap := [], resp := ⟨false, 0⟩, mode := .boot, prior := .boot, sable := false,
    grain := 0, time := ⟨0, 0, 0⟩, freeCtr := 0, faults := [], unacks := [], events := [],
    commit := none, slotHist := [], blocks := [], blocks0 := [], occs := [], wearQ := [], samples := [], capQ := [], pipe := [],
    tlb := [], dmaUnits := [], swpBuf := [], swpX := [], plvOut := [], mbox := [], txts := [],
    txq := [], sent := none, mac := [], learnQ := [], lpm := [], reqQ := [], eng := none, mgmt := none }

end Sys2Proof.Machine
end

