-- ==== Sys2Proof/Machine/Ops.lean ====
section
/-! DEFINITION. The named operations that every meaning is written with: reading and writing
registers, internal words and memories, network time, modes and roles, sending a fault message,
publishing an event, refusing a command. -/
namespace Sys2Proof.Machine

/-! ### Outcomes -/

/-- A command whose operands are well formed has its effect; any other stops (log entry 5). -/
def okIf (c : Bool) (s : State) : Host.Outcome State Fault Refusal :=
  if c then .next s else .fault .illFormed

/-! ### Registers -/

/-- The word that element (i, j) of a register of tile t holds. -/
def State.treg (s : State) (r : Reg) (t : Nat) (i j : Nat := 0) : Nat :=
  (spGet 0#32 s.regs (r.key t i j) ^^^ BitVec.ofNat 32 r.desc.reset).toNat

/-- The state with `v` in element (i, j) of a register of tile t. -/
def State.setTreg (s : State) (r : Reg) (t : Nat) (v : Nat) (i j : Nat := 0) : State :=
  { s with regs := spPut 0#32 s.regs (r.key t i j) (BitVec.ofNat 32 v ^^^ BitVec.ofNat 32 r.desc.reset) }

/-- The word that element (i, j) of a global register holds. -/
def State.reg (s : State) (r : Reg) (i j : Nat := 0) : Nat := s.treg r 0 i j

/-- The state with `v` in element (i, j) of a global register. -/
def State.setReg (s : State) (r : Reg) (v : Nat) (i j : Nat := 0) : State := s.setTreg r 0 v i j

/-- Field [hi:lo] of a register of a tile. -/
def State.tfld (s : State) (r : Reg) (t hi lo : Nat) (i j : Nat := 0) : Nat := bits (s.treg r t i j) hi lo

/-- Field [hi:lo] of a global register. -/
def State.fld (s : State) (r : Reg) (hi lo : Nat) (i j : Nat := 0) : Nat := bits (s.reg r i j) hi lo

/-- The state with field [hi:lo] of a register of a tile replaced. -/
def State.setTfld (s : State) (r : Reg) (t hi lo v : Nat) (i j : Nat := 0) : State :=
  s.setTreg r t (setBits (s.treg r t i j) hi lo v) i j

/-- The state with field [hi:lo] of a global register replaced. -/
def State.setFld (s : State) (r : Reg) (hi lo v : Nat) (i j : Nat := 0) : State := s.setTfld r 0 hi lo v i j

/-- Bit [b] of a register of a tile. -/
def State.tbit (s : State) (r : Reg) (t b : Nat) (i j : Nat := 0) : Bool := bit (s.treg r t i j) b

/-- Bit [b] of a global register. -/
def State.rbit (s : State) (r : Reg) (b : Nat) (i j : Nat := 0) : Bool := bit (s.reg r i j) b

/-- The state with bit [b] of a register of a tile written. -/
def State.setTbit (s : State) (r : Reg) (t b : Nat) (v : Bool) (i j : Nat := 0) : State :=
  s.setTfld r t b b (b2n v) i j

/-- The state with bit [b] of a global register written. -/
def State.setRbit (s : State) (r : Reg) (b : Nat) (v : Bool) (i j : Nat := 0) : State := s.setTbit r 0 b v i j

/-- Bit `n` of a bitmap kept in words of 32 bits (word w, bit b: number 32w + b). -/
def State.mapBit (s : State) (r : Reg) (t n : Nat) : Bool := s.tbit r t (n % 32) (n / 32)

/-- The state with bit `n` of such a bitmap written. -/
def State.setMapBit (s : State) (r : Reg) (t n : Nat) (v : Bool) : State := s.setTbit r t (n % 32) v (n / 32)

/-- The state with `k` added to a counter register that saturates at 32 bits. -/
def State.satAdd (s : State) (r : Reg) (k : Nat := 1) (t : Nat := 0) (i j : Nat := 0) : State :=
  s.setTreg r t (satInc 32 (s.treg r t i j) k) i j

/-- The state with 1 added to a counter register that wraps at 2^32. -/
def State.wrapInc (s : State) (r : Reg) (t : Nat := 0) (i j : Nat := 0) : State :=
  s.setTreg r t ((s.treg r t i j + 1) % 2 ^ 32) i j

/-! ### Internal words -/

/-- An internal word. -/
def State.lat (s : State) (l : Lat) (t i j : Nat := 0) : Int := spGet 0 s.lats (l.key t i j)

/-- The state with an internal word written. -/
def State.setLat (s : State) (l : Lat) (v : Int) (t i j : Nat := 0) : State :=
  { s with lats := spPut 0 s.lats (l.key t i j) v }

/-- An internal word that counts or names. -/
def State.nlat (s : State) (l : Lat) (t i j : Nat := 0) : Nat := (s.lat l t i j).toNat

/-- An internal flag. -/
def State.flag (s : State) (l : Lat) (t i j : Nat := 0) : Bool := decide (s.lat l t i j ≠ 0)

/-- The state with an internal flag written. -/
def State.setFlag (s : State) (l : Lat) (v : Bool) (t i j : Nat := 0) : State :=
  s.setLat l (if v then 1 else 0) t i j

/-! ### Free values -/

/-- The next free value below `2^w`, and the state that has used it (log entry 7). -/
def State.draw (s : State) (w : Nat) : Nat × State :=
  (Config.freeValue s.freeCtr % 2 ^ w, { s with freeCtr := s.freeCtr + 1 })

/-! ### Network time (R264) -/

/-- Network time in whole nanoseconds since its zero. -/
def State.nowNs (s : State) : Nat := 1000000000 * s.time.sec + s.time.ns

/-- Network time in units of 2^-32 ns. -/
def NetTime.total (t : NetTime) : Nat := 2 ^ 32 * (1000000000 * t.sec + t.ns) + t.frac

/-- The time that a count of 2^-32 ns stands for. -/
def NetTime.ofTotal (x : Nat) : NetTime :=
  let n := x / 2 ^ 32
  ⟨n / 1000000000 % 2 ^ 48, n % 1000000000, x % 2 ^ 32⟩

/-- The increment in force for one grain, INCR + trim, unsigned Q1.32 ns (R264). -/
def State.incr (s : State) : Nat :=
  ux 33 ((2 ^ 32 * (s.reg .PTP_INCR_NS % 2) + s.reg .PTP_INCR_FRAC : Nat) + sx 32 (s.reg .PTP_TRIM))

/-- The counter one grain later (R264). -/
def NetTime.advance (t : NetTime) (incr : Nat) : NetTime :=
  let f := t.frac + incr % 2 ^ 32
  let n := t.ns + incr / 2 ^ 32 % 2 + f / 2 ^ 32
  if 1000000000 ≤ n then ⟨(t.sec + 1) % 2 ^ 48, n - 1000000000, f % 2 ^ 32⟩ else ⟨t.sec, n, f % 2 ^ 32⟩

/-- One grain passes: the counter advances (R264), and what stands now is what the boundaries of the next
grain find written (R502). -/
def State.grainPass (s : State) : State :=
  { s with grain := s.grain + 1, time := s.time.advance s.incr, regs0 := s.regs, lats0 := s.lats, mode0 := s.mode, time0 := s.time,
           blocks0 := s.blocks }

/-- The registers and internal words as they stood when the present grain began: what a boundary of this
grain takes of values written by software, since a value that becomes usable at the edge of a boundary
takes effect at the following one (R502). -/
def State.before (s : State) : State := { s with regs := s.regs0, lats := s.lats0 }

/-- A register element as it stood when the present cycle began, set to `v`: what software has cleared in this cycle
was cleared before anything that hardware sets in it (R10; log entry 6: the cycle is the grain). -/
def State.setBefore (s : State) (r : Reg) (t v i j : Nat) : State := { s with regs0 := (s.before.setTreg r t v i j).regs }

/-! ### Modes, tiles and roles -/

/-- The code of a mode (R29). -/
def Mode.code : Mode → Nat
  | .boot => 0
  | .characterise => 1
  | .static => 2
  | .slotted => 3
  | .hold => 4
  | .sable => 5

/-- The tile has at least one cell with a role (R64). -/
def State.inUse (s : State) (t : Nat) : Bool := s.mapBit .CAP_INUSE 0 t

/-- The tiles in use, in rising order. -/
def State.tiles (s : State) : List Nat := (List.range 176).filter s.inUse

/-- The mode that a span boundary finds: a change between CHARACTERISE and STATIC that comes in the grain of the
boundary takes effect at the following one (R22, R502). -/
def State.boundaryMode (s : State) : Mode :=
  match s.mode0, s.mode with
  | .static, .characterise => .static
  | .characterise, .static => .characterise
  | _, m => m

/-- The tile is in per-tile HOLD (R28, R383). -/
def State.tileHold (s : State) (t : Nat) : Bool := s.mapBit .MGT_TILE_HOLD 0 t

/-- The device is in HOLD (R22). -/
def State.inHold (s : State) : Bool := decide (s.mode = .hold)

/-- The mode in which the part works, looking through HOLD to the mode it returns to. -/
def State.under (s : State) : Mode := if s.mode = .hold then s.prior else s.mode

/-- A cell's role (R40, R62): 0 unused, 1 switch, 2 attenuator, 3 spare. -/
def State.role (s : State) (c : Nat) : Nat := s.fld .CFG_FMAP 31 30 c

/-- The cells with a role, in rising order: each lies in a tile in use (R64). -/
def State.cells (s : State) : List Nat :=
  s.tiles.flatMap (fun t => ((List.range 64).map (fun c => 64 * t + c)).filter (fun x => s.role x != 0))

/-- The role of channel c of tile t. -/
def State.chRole (s : State) (t c : Nat) : Nat := s.role (64 * t + c)

/-- The order n of the fabric (R44, R64). -/
def State.order (s : State) : Nat := s.fld .CAP_FABRIC 3 0

/-- The number N of ports (R44). -/
def State.ports (s : State) : Nat := 2 ^ s.order

/-- A campaign is in progress (MGT_MODE.CAMPAIGN): its state is RUN or STAGED (R338). -/
def State.campaign (s : State) : Bool := decide (2 ≤ s.fld .CAL_STATUS 31 30)

/-- Span count (R281). -/
def State.spanCount (s : State) : Nat := s.nlat .span

/-- Spans that a tile has begun, its fallback spans counted once (R144). -/
def State.tileN (s : State) (t : Nat) : Nat := s.nlat .tileN t

/-! ### Fault messages (R393, R394) -/

/-- The class of a kind: 0 corrected, 1 degraded, 2 uncorrectable, 3 fatal (R405). CONTRACT's
class follows its subcode (R398). -/
def kindClass (k : Nat) : Nat :=
  if k ∈ [0x11, 0x13, 0x1A, 0x20, 0x21, 0x23, 0x2D, 0x41, 0x47, 0x56, 0x57, 0x5A, 0x61, 0x71] then 2
  else if k ∈ [0x45, 0x59, 0x5E] then 3
  else if k ∈ [0x01, 0x02, 0x18, 0x1B, 0x2C, 0x31, 0x34, 0x35, 0x36, 0x3B, 0x43, 0x46, 0x50, 0x51, 0x53,
    0x68, 0x70, 0x72, 0x73] then 0
  else 1

/-- A message of a given class joins its source's queue, with the network time of its detection. -/
def State.sendClass (s : State) (src kind cls addr : Nat) (xaddr : Nat := 0) : State :=
  { s with faults := s.faults ++ [⟨src, kind, cls, addr, xaddr, s.time.sec, s.time.ns⟩] }

/-- A message joins its source's queue (R393). -/
def State.send (s : State) (src kind addr : Nat) (xaddr : Nat := 0) : State :=
  s.sendClass src kind (kindClass kind) addr xaddr

/-- Messages of a source that wait in its queue. -/
def State.waiting (s : State) (src : Nat) : Nat := (s.faults.filter (fun m => m.src == src)).length

/-- The reaction to a message: CONTRACT LATE_REC and LATE_BLOCK always take LOG (R399). -/
def State.reaction (s : State) (m : FaultMsg) : Nat :=
  if m.kind = 0x29 ∧ bits m.addr 31 28 ≠ 3 then 0 else s.fld .FLT_REACT 2 0 m.kind

/-- The kinds of RED, CAL, THM and HLT whose address carries a tile in [7:0] (R400). -/
def kindHasTile (k : Nat) : Bool :=
  (decide (0x50 ≤ k ∧ k ≤ 0x5B)) || decide (0x38 ≤ k ∧ k ≤ 0x3B) || decide (0x40 ≤ k ∧ k ≤ 0x45) || k == 0x48

/-- The tile of a fault (R400); a slot-timer half's message names no tile (log entry 72). -/
def FaultMsg.tile (m : FaultMsg) : Option Nat :=
  if m.src < 176 then some m.src
  else if m.src ∈ [0x104, 0x105, 0x106, 0x107] ∧ kindHasTile m.kind = true ∧ bits m.addr 7 0 < 176 then some (bits m.addr 7 0)
  else none

/-- A loop engine's message: discarded and counted when the 16 places of the tile's queue are
taken (R20, R395). -/
def State.sendEngine (s : State) (t kind cls addr : Nat) : State :=
  if 16 ≤ s.waiting t then s.satAdd .FLT_LOST_TILE 1 0 t else s.sendClass t kind cls addr

/-- The Sable line is driven (R407, R411): both histories freeze, and the stamp of its assertion is taken; it stays
driven until reset. -/
def State.assertSable (s : State) : State :=
  if s.sable then s
  else
    let s := ({ s with sable := true }.setLat .sableAt (s.grain + 1)).setFlag .dumpDone false
    let s := (s.setRbit .FLT_REC_STATUS 31 true).setReg .FLT_REC_TIME s.time.ns 0
    let s := (s.setReg .FLT_REC_TIME (s.time.sec % 2 ^ 32) 1).setReg .FLT_REC_TIME (s.time.sec / 2 ^ 32 % 2 ^ 16) 2
    s.setReg .FLT_REC_TIME (s.spanCount % 2 ^ 32) 3

/-- A fault other than THM_SHUT drives the hardware Sable line (R360, R407). -/
def State.driveSable (s : State) : State := s.assertSable.setFlag .otherFatal true

/-! ### Events (R415, R416) -/

/-- Source `src` publishes with hop count `hop`, when its entry is enabled (R415). -/
def State.publish (s : State) (src : Nat) (hop : Nat := 0) : State :=
  let w := s.reg .EVT_SRC src
  if bit w 31 then { s with events := s.events ++ [⟨src, bits w 8 0, hop⟩] } else s

/-- A derived source publishes for an occurrence of hop count `hop` that it has taken (R416); at
HOP 6 it does not, and the loop is counted and reported (R421). -/
def State.publishDerived (s : State) (src hop : Nat) : State :=
  if hop < 6 then s.publish src (hop + 1)
  else
    let w := s.reg .EVT_SRC src
    if bit w 31 then
      let s := (s.satAdd .EVT_LOOP_CNT).setRbit .EVT_STATUS 1 true
      s.send 0x103 0x68 (2 ^ 16 * bits w 8 0 + src)
    else s

/-- A source publishes for a run that an occurrence of hop count `h` - 1 began, or spontaneously when
`h` is 0 (R418). -/
def State.publishFor (s : State) (src h : Nat) : State :=
  if h = 0 then s.publish src else s.publishDerived src (h - 1)

/-! ### Refusals (R11) -/

/-- The block that owns an address, as a source code (R404): the tile, or 0x100 + the place of
the global block in the order of R30. -/
def ownerOf (addr : Nat) : Nat :=
  if 0x02000000 ≤ addr ∧ addr < 0x02100000 then 0x109
  else if 0x01000000 ≤ addr then (addr - 0x01000000) / 0x10000 else 0x100 + (addr - 0x400000) / 0x10000

/-- The REFUSED flag of the block that owns a register, as the status register and its bit,
where the block has one. -/
def refusedFlag (addr : Nat) : Option (Reg × Nat) :=
  if 0x02000000 ≤ addr then some (.CFG_STATUS, 0)
  else if 0x01000000 ≤ addr then
    match addr % 0x10000 / 0x1000 with
    | 1 => some (.DRV_STATUS, 0)
    | 2 => some (.HTR_STATUS, 0)
    | 3 => some (.TRIM_STATUS, 0)
    | 4 => some (.ADC_STATUS, 0)
    | 5 => some (.DDS_STATUS, 0)
    | 6 | 7 => some (.PRF_STATUS, 0)
    | 8 | 9 | 10 | 11 => some (.LOOP_STATUS, 0)
    | 13 => some (.RED_TSTATUS, 0)
    | _ => none
  else
    match (addr - 0x400000) / 0x10000 with
    | 2 => some (.FLT_STATUS, 0)
    | 3 => some (.EVT_STATUS, 0)
    | 4 => some (.RED_STATUS, 0)
    | 5 => some (.THM_STATUS, 0)
    | 7 => some (.CAL_STATUS, 0)
    | 8 => some (.SLOT_STATUS, 0)
    | 9 => some (.CFG_STATUS, 0)
    | 12 => some (.SWP_STATUS, 7)
    | 13 => some (.WEAR_STATUS, 3)
    | 14 => some (.PTP_STATUS, 0)
    | 15 => some (.SIG_REQ_STATUS, 0)
    | 16 => some (.FWD_STATUS, 0)
    | 17 => some (.LPM_STATUS, 8)
    | 18 => some (.POL_STATUS, 0)
    | 20 => some (.MOVE_STATUS, 0)
    | 22 => some (.MMU_STATUS, 0)
    | 24 => some (.PLV_STATUS, 0)
    | _ => none

/-- A write or command at an address is refused (R11): the block's REFUSED flag sets and fault
kind REFUSE is sent with the address; nothing else changes. -/
def State.refuseAddr (s : State) (addr : Nat) : State :=
  let s := match refusedFlag addr with
    | none => s
    | some (r, b) =>
      if r.desc.tiled then s.setTbit r ((addr - 0x01000000) / 0x10000) b true
      else s.setRbit r b true (if r.desc.n1 = 2 then addr % 0x10000 / 0x1000 else 0)
  s.send (ownerOf addr) 0x02 addr

/-- A write or command at register element (i, j) of tile t is refused (R11). -/
def State.refuse (s : State) (r : Reg) (t : Nat := 0) (i j : Nat := 0) : State := s.refuseAddr (r.addr t i j)

/-- The answer to a bus access. -/
def State.respond (s : State) (err : Bool) (data : Nat) : State := { s with resp := ⟨err, data⟩ }

/-- ADDR is logged for an address (R5, R6, R428). -/
def State.addrLog (s : State) (addr : Nat) : State := s.send 0x101 0x01 (addr % 2 ^ 32) (addr / 2 ^ 32 % 256)

/-- An access fault of the bus matrix (R5, R6, R428): error response, and kind ADDR with the
address of the access. -/
def State.addrFault (s : State) (addr : Nat) : State := (s.addrLog addr).respond true 0

/-! ### Mode changes (R22, R29) -/

/-- Where SLOTTED is entered or left (`b`), the grain is noted, before the three noted last (R127). -/
def State.sltMark (s : State) (b : Bool) : State :=
  if b then forUpto 3 (s.setLat .sltAt (s.grain + 1) 0) (fun k r => r.setLat .sltAt (s.lat .sltAt k) (k + 1)) else s

/-- The mode controller enters a mode: the stamp is taken and the mode event published. -/
def State.enterMode (s : State) (m : Mode) : State :=
  if s.mode = m then s
  else
    let s := { s with mode := m }.sltMark (decide (s.mode = Mode.slotted) != decide (m = Mode.slotted))
    let s := s.setReg .MGT_MODE_STAMP_NS s.time.ns
    let s := s.setReg .MGT_MODE_STAMP_S_LO s.time.sec
    let s := s.setReg .MGT_MODE_STAMP_S_HI (s.time.sec / 2 ^ 32)
    s.publish 0x200

/-! ### Memories -/

/-- Usable DRAM in bytes (R433). -/
def State.dramSize (s : State) : Nat := 2 ^ 20 * s.fld .DRAM_SIZE 15 0

/-- The offset in DRAM of a DRAM-window address, when it lies in the usable size (R30). -/
def State.dramOff (s : State) (a : Nat) : Option Nat :=
  if 0x1000000000 ≤ a ∧ a < 0x1000000000 + s.dramSize then some (less a 0x1000000000) else none

/-- A DRAM byte by offset; an undefined value where nothing has been written (R503). -/
def State.dramByte (s : State) (o : Nat) : Byte :=
  match spFind s.dram o with
  | some b => b
  | none => Config.dramByte o s.freeCtr

/-- `n` DRAM bytes from an offset. -/
def State.dramBytes (s : State) (o n : Nat) : List Byte := (List.range n).map (fun k => s.dramByte (o + k))

/-- `n` DRAM bytes from an offset as a little-endian value. -/
def State.dramVal (s : State) (o n : Nat) : Nat := leVal (s.dramBytes o n)

/-- Bytes stored in DRAM from an offset; a write clears the ECC error of the words it fills. -/
def State.dramWrite (s : State) (o : Nat) (bs : List Byte) : State :=
  { s with
    dram := (List.range bs.length).foldl (fun m k => spSet m (o + k) (bs.getD k 0)) s.dram
    dramUe := s.dramUe.filter (fun w => ¬ (o ≤ w * 32 ∧ w * 32 + 32 ≤ o + bs.length)) }

/-- The 32-byte words within `n` bytes from an offset that have not been written (R503). -/
def State.dramFresh (s : State) (o n : Nat) : List Nat :=
  if n = 0 then [] else spBlank ((o + n - 1) / 32 - o / 32 + 1) s.dram (o / 32)

/-- The ECC error of a word that has not been written: 0 none, 1 corrected, more uncorrectable (R503, log entry 56). -/
def State.freshEcc (s : State) (w : Nat) : Nat := (Config.dramEcc w (s.nlat .rstSeed)).toNat

/-- A 32-byte word within `n` bytes from an offset holds an uncorrectable error (R435, R503). -/
def State.dramBad (s : State) (o n : Nat) : Option Nat :=
  match s.dramUe.find? (fun w => o < w * 32 + 32 ∧ w * 32 < o + n) with
  | some w => some w
  | none => (s.dramFresh o n).find? (fun w => 2 ≤ s.freshEcc w)

/-- An uncorrectable DRAM error is met at an offset (R435): counted, recorded and sent. -/
def State.dramError (s : State) (o : Nat) : State :=
  let ch := 2 * bits o 9 8 + bits o 10 10
  let a := 2 ^ 28 * ch + bits o 33 6
  ((s.satAdd .DRAM_UE_CNT).setReg .DRAM_ERR_ADDR a).send 0x117 0x71 a

/-- A corrected DRAM error at an offset (R435): counted and sent. -/
def State.dramCorrected (s : State) (o : Nat) : State :=
  let ch := 2 * bits o 9 8 + bits o 10 10
  (s.satAdd .DRAM_CE_CNT).send 0x117 0x70 (2 ^ 28 * ch + bits o 33 6)

/-- `n` bytes from an offset are read and no word of them is uncorrectable: the corrected errors among the words not
written are met, and each such word is written back (R435, R503). -/
def State.dramMeet (s : State) (o n : Nat) : State :=
  (s.dramFresh o n).foldl (fun s w =>
    if s.freshEcc w = 1 then (s.dramCorrected (32 * w)).dramWrite (32 * w) (s.dramBytes (32 * w) 32) else s) s

/-- A byte of working SRAM by offset; 0 where nothing has been written (log entry 3). -/
def State.sramByte (s : State) (o : Nat) : Byte := spGet 0#8 s.sram o

/-- Bytes stored in working SRAM. -/
def State.sramWrite (s : State) (o : Nat) (bs : List Byte) : State :=
  { s with sram := (List.range bs.length).foldl (fun m k => spPut 0#8 m (o + k) (bs.getD k 0)) s.sram }

/-- A flash byte by flash address; 0xFF, erased, where nothing has been written (log entry 3). -/
def State.flashByte (s : State) (o : Nat) : Byte := spGet 0xFF#8 s.flash o

/-- `n` flash bytes. -/
def State.flashBytes (s : State) (o n : Nat) : List Byte := (List.range n).map (fun k => s.flashByte (o + k))

/-- `n` flash bytes as a little-endian value. -/
def State.flashVal (s : State) (o n : Nat) : Nat := leVal (s.flashBytes o n)

/-- Bytes placed in flash. -/
def State.flashPut (s : State) (o : Nat) (bs : List Byte) : State :=
  { s with flash := (List.range bs.length).foldl (fun m k => spPut 0xFF#8 m (o + k) (bs.getD k 0)) s.flash }

/-- The canonical form of the three memories. -/
def State.memWf (s : State) : Bool := spWf 0#8 s.sram && spWf 0xFF#8 s.flash && spRising s.dram

/-! ### Configuration words (R232, R234, R235) -/

/-- Word w of configuration bank c. -/
def State.bankWord (s : State) (c w : Nat) : Nat := (spGet 0#32 s.banks (512 * c + w)).toNat

/-- A pair with an ECC error after one of its words is written: the error stays until both are
(R234). -/
def eccWrite (l : List (Nat × Nat)) (k w : Nat) : List (Nat × Nat) :=
  let v := spGet 0 l k
  if v = 0 then l
  else
    let m := if w = 0 then v % 4 / 2 * 2 else v % 2
    spPut 0 l k (if m = 0 then 0 else v / 4 * 4 + m)

/-- A word written to a configuration bank. -/
def State.setBankWord (s : State) (c w v : Nat) : State :=
  { s with banks := spPut 0#32 s.banks (512 * c + w) (BitVec.ofNat 32 v),
           bankEcc := eccWrite s.bankEcc (256 * c + w / 2) (w % 2) }

/-- The DRAM offset of DRAM configuration d (R235), when all of it lies in the usable DRAM. -/
def State.dramCfgOff (s : State) (d : Nat) : Option Nat :=
  let a := 2 ^ 32 * s.fld .CFG_DRAM_BASE_HI 7 0 + s.reg .CFG_DRAM_BASE_LO + 2048 * d
  match s.dramOff a with
  | none => none
  | some o => if o + 2048 ≤ s.dramSize then some o else none

/-- Word w of a configuration, in a bank or in the DRAM table. -/
def State.cfgWord (s : State) (dram : Bool) (x w : Nat) : Nat :=
  if dram then
    match s.dramCfgOff x with
    | none => 0
    | some o => s.dramVal (o + 4 * w) 4
  else s.bankWord x w

/-- The switching state of cell c in a configuration bank (R38, R232). -/
def State.bankState (s : State) (b c : Nat) : Bool := bit (s.bankWord b (c / 32)) (c % 32)

/-- The SHUT bit of port j in a configuration bank (R232). -/
def State.bankShut (s : State) (b j : Nat) : Bool := bit (s.bankWord b (0x160 + j / 32)) (j % 32)

/-! ### CRC-32 (R218: polynomial 0x04C1_1DB7 reflected, preset and final XOR all ones) -/

/-- One bit of the reflected CRC-32. -/
def crcBit (c : Nat) : Nat := if c % 2 = 1 then (c / 2) ^^^ 0xEDB88320 else c / 2

/-- One byte taken into a running CRC-32. -/
def crcByte (c b : Nat) : Nat :=
  let c := c ^^^ b
  crcBit (crcBit (crcBit (crcBit (crcBit (crcBit (crcBit (crcBit c)))))))

/-- A running CRC-32 over a list of bytes. -/
def crcRun (c : Nat) : List Byte → Nat
  | [] => c
  | b :: bs => computed (crcByte c b.toNat) (fun c => crcRun c bs)

/-- The CRC-32 of a list of bytes. -/
def crc32 (bs : List Byte) : Nat := crcRun 0xFFFFFFFF bs ^^^ 0xFFFFFFFF

/-! ### Arithmetic of the loop law (R154) -/

/-- Saturation to 32 bits. -/
def sat32 (x : Int) : Int := satS 32 x

/-- A product with a coefficient, shifted right with rounding half toward plus infinity and
saturated (R154). -/
def mulsh (a k : Int) (sh : Nat) : Int :=
  sat32 (if sh = 0 then a * k else asr (a * k + (2 ^ (sh - 1) : Nat)) sh)

/-- A rounding shift right (R154). -/
def rsh (a : Int) (sh : Nat) : Int := if sh = 0 then a else asr (a + (2 ^ (sh - 1) : Nat)) sh

end Sys2Proof.Machine
end

