-- ==== Sys2Proof/Machine/Motion.lean ====
section
/-! DEFINITION. Gentle moves (R178 to R185): the drive axis, the limit sets, the step, and how a
move starts, turns, pauses and ends. -/
namespace Sys2Proof.Machine

/-- The driver code for a position on the drive axis (R179). -/
def State.driveCode (s : State) (t c : Nat) (x : Int) : Nat :=
  let p : Nat := (clampI 0 2147483648 x).toNat
  let k : Nat := p / 2 ^ 28
  let f : Nat := p % 2 ^ 28
  if k = 8 then s.tfld .DRV_CROSS t 11 0 c
  else
    let lo := if k = 0 then s.tfld .DRV_BAR t 11 0 c else s.tfld .PRF_MAP t 11 0 c (k - 1)
    let hi := if k = 7 then s.tfld .DRV_CROSS t 11 0 c else s.tfld .PRF_MAP t 11 0 c k
    ((lo : Int) + asr (((hi : Int) - lo) * f + 2 ^ 27) 28).toNat

/-- A limit set is valid (R180). -/
def limitsValid (v a j : Nat) : Bool := 1 ≤ j && 2 * j ≤ a && a ≤ v && v ≤ 2 ^ 31

/-- The set that a channel names is valid (R180). -/
def State.prfSetOk (s : State) (t c : Nat) : Bool :=
  let k := s.tfld .PRF_CHSET t 1 0 c
  limitsValid (s.treg .PRF_VMAX t k) (s.treg .PRF_AMAX t k) (s.treg .PRF_JMAX t k)

/-- Velocity still gained while a rising acceleration falls to 0 at the jerk limit (R181, the
loop summed up: the terms a - J, a - 2J, ... that stay above 0). -/
def prfGain (j a : Int) : Int :=
  if a ≤ 0 ∨ j ≤ 0 then 0
  else
    let n := (a - 1) / j
    n * a - j * (n * (n + 1) / 2)

/-- Velocity still lost while a falling acceleration rises to 0 at the jerk limit (R181). -/
def prfLost (j a : Int) : Int := prfGain j (-a)

/-- The loop of brake in R181; the fuel bounds it. -/
def prfBrakeLoop (j amax : Int) : Nat → Int → Int → Int → Int
  | 0, _, _, d => d
  | n + 1, v, a, d =>
    let an := max (a - j) (-amax)
    if 0 < a ∨ prfLost j an < v + an then
      let v := v + an
      if v ≤ 0 then d else prfBrakeLoop j amax n v an (d + v)
    else if a < 0 then
      let a := min (a + j) 0
      let v := v + a
      if v ≤ 0 then d else prfBrakeLoop j amax n v a (d + v)
    else d + v

/-- Distance covered when braking at once from velocity v > 0 and acceleration a (R181). The fuel suffices for every
J of 1 or more: at most |a| turns bring a to 0 or below with a velocity of at most |v| + a^2, and from there every
second turn lowers the velocity. -/
def prfBrake (j amax v a : Int) : Int :=
  prfBrakeLoop j amax (2 * (v.natAbs + a.natAbs * a.natAbs) + a.natAbs + 8) v a 0

/-- The sign of an integer. -/
def signI (x : Int) : Int := if x < 0 then -1 else if x = 0 then 0 else 1

/-- What a step of a move gives: the new position, velocity and acceleration, and whether the
move ends after the load of this position (R181). -/
structure PrfStep where
  x : Int
  v : Int
  a : Int
  done : Bool
deriving DecidableEq, Repr

/-- One step of a move toward `cmd` under limits J, A and V (R181). -/
def prfStep (j amax vmax cmd x v a : Int) : PrfStep :=
  let d := cmd - x
  if d.natAbs ≤ j.natAbs ∧ v.natAbs ≤ j.natAbs ∧ a.natAbs ≤ j.natAbs then ⟨cmd, 0, 0, true⟩
  else
    let sg := if d ≠ 0 then signI d else if v ≠ 0 then -signI v else -signI a
    let bd := sg * d
    let bv := sg * v
    let ba := sg * a
    let good := fun an : Int =>
      let vn := bv + an
      decide (vn + prfGain j an ≤ vmax) && decide (-vmax ≤ vn) &&
        (decide (vn ≤ 0) || decide (prfBrake j amax vn an ≤ bd - vn))
    let up := min (ba + j) amax
    let dn := max (ba - j) (-amax)
    let an := if good up then up else if good ba then ba else dn
    let a := sg * an
    let v := sg * (bv + an)
    ⟨x + v, v, a, false⟩

/-- The registers PRF_X, PRF_V and PRF_A follow the exact values (R197). -/
def State.setPrf (s : State) (t c : Nat) (x v a : Int) : State :=
  let s := (s.setLat .prfX x t c).setLat .prfV v t c
  let s := s.setLat .prfA a t c
  let s := s.setTreg .PRF_X t (clampI 0 0xFFFFFFFF x).toNat c
  let s := s.setTreg .PRF_V t (ux 32 v) c
  s.setTreg .PRF_A t (ux 32 a) c

/-- A move is in progress on the channel (R197). -/
def State.prfRunning (s : State) (t c : Nat) : Bool := s.mapBit .PRF_RUN t c

/-- A move ends: no further loads (R181, R185). -/
def State.prfEnd (s : State) (t c : Nat) : State :=
  let s := s.setMapBit .PRF_RUN t c false
  let s := s.setFlag .prfPaused false t c
  s.setFlag .prfLast false t c

/-- A running move meets a HOLD or a campaign (R185): the position of the last load is kept,
velocity and acceleration are 0, and no loads are made. -/
def State.prfPause (s : State) (t c : Nat) : State :=
  if s.prfRunning t c && !s.flag .prfPaused t c then
    let s := s.setPrf t c (s.lat .prfLoad t c) 0 0
    (s.setFlag .prfPaused true t c).setFlag .prfLast false t c
  else s

/-- Every running move of a tile pauses. -/
def State.prfPauseTile (s : State) (t : Nat) : State := forUpto 64 s (fun c s => s.prfPause t c)

/-- Every running move of the device pauses. -/
def State.prfPauseAll (s : State) : State := forIn' s.tiles s (fun t s => s.prfPauseTile t)

/-- Every running move of the device ends (R185). -/
def State.prfEndAll (s : State) : State :=
  forIn' s.tiles s (fun t s => forUpto 64 s (fun c s => if s.prfRunning t c then s.prfEnd t c else s))

/-- At the first grain of a span a running move loads the code of its position and steps on,
or ends with the capture load (R181, R184). -/
def State.prfBoundary (s : State) (t c : Nat) (load : State → Nat → State) : State :=
  if s.prfRunning t c && !s.flag .prfPaused t c then
    let x := s.lat .prfX t c
    let s := (load s (s.driveCode t c x)).setLat .prfLoad x t c
    if s.flag .prfLast t c then s.prfEnd t c
    else
      let k := s.tfld .PRF_CHSET t 1 0 c
      let cmd : Int := s.treg .PRF_CMD t c
      let p := prfStep (s.treg .PRF_JMAX t k) (s.treg .PRF_AMAX t k) (s.treg .PRF_VMAX t k) cmd x
        (s.lat .prfV t c) (s.lat .prfA t c)
      let s := (s.setPrf t c p.x p.v p.a).setFlag .prfLast p.done t c
      if p.x ≠ cmd then s.setMapBit .PRF_LIMITED t c true else s
  else s

/-- The end point of a switching state on the drive axis (R179). -/
def endPoint (state : Bool) : Nat := if state then 0x80000000 else 0

end Sys2Proof.Machine
end

