-- ==== Sys2Proof/Machine/Drive.lean ====
section
/-! DEFINITION. Cell drive (R66 to R97): composing shadow codes, loading the active registers,
the heater output stage, leg loss, spare slices, the current monitor. The two active registers of
an output (R66) that load from one shadow hold the same word, so one register stands for both; those of loop_code
load each from its half's own bank (R204) and stand apart. -/
namespace Sys2Proof.Machine

/-! ### Heater output stage -/

/-- SAT follows a form of the code at the ladder (R76). Where both parts of a channel load in one grain, only
their combined sum counts (R69): a saturation that the first of the two loads of this grain showed and the
second does not is taken back. -/
def State.htrSat (s : State) (t c : Nat) (sat : Bool) : State :=
  if sat then (s.setTbit .HTR_STATUS t 1 true).setLat .satAt (s.grain + 1) t c
  else if s.lat .satAt t c = s.grain + 1 then
    let s := s.setLat .satAt 0 t c
    if s.before.tbit .HTR_STATUS t 1 || (List.range 64).any (fun k => s.lat .satAt t k == s.grain + 1) then s
    else s.setTbit .HTR_STATUS t 1 false
  else s

/-- The heater code at the ladder is formed again from its parts (R76); a channel whose output
has been taken away (R81, R82) gives 0. -/
def State.htrForm (s : State) (t c : Nat) : State :=
  let p := s.treg .HTR_PARTS t c
  let sum : Int := (bits p 15 0 : Nat) + sx 16 (bits p 31 16)
  let out := satU 16 sum
  let s := s.htrSat t c (out ≠ sum)
  if s.flag .htrDead t c then s.setTreg .HTR_ACTIVE t 0 c else s.setTreg .HTR_ACTIVE t out.toNat c

/-- The loop part of a heater code loads (R67). -/
def State.loadLoop (s : State) (t c v : Nat) : State :=
  if s.chRole t c = 0 ∨ s.sable then s else (s.setTfld .HTR_PARTS t 15 0 v c).htrForm t c

/-- The correction part of a heater code loads (R67). -/
def State.loadCorr (s : State) (t c : Nat) (v : Int) : State :=
  if s.chRole t c = 0 ∨ s.sable then s else (s.setTfld .HTR_PARTS t 31 16 (ux 16 v) c).htrForm t c

/-- The loop_code active registers of the two halves take a code each (R66). -/
def State.setLoopAct (s : State) (t c u o : Nat) : State :=
  (s.setLat .loopAct (u % 65536 : Nat) t c).setLat .loopAct (o % 65536 : Nat) t (64 + c)

/-- The selector passes the active register of the drive-token holder (R66, R371). -/
def State.selectLoop (s : State) (t c : Nat) : State :=
  let v := s.nlat .loopAct t (64 * s.tfld .RED_TSTATE t 31 31 + c)
  if v = s.tfld .HTR_PARTS t 15 0 c then s else s.loadLoop t c v

/-- A heater loads its CHARACTERISE code into both halves' registers: corr is 0 and the loop part follows (R76). -/
def State.loadMan (s : State) (t c v : Nat) : State :=
  if s.chRole t c = 0 ∨ s.sable then s
  else ((s.setLoopAct t c v v).setTreg .HTR_PARTS t (v % 65536) c).htrForm t c

/-- The mode boundary of a heater whose mode bit has changed (R77): the output goes to code 0
and the buffer takes the mode of the register, as it was written before this grain (R502). -/
def State.htrModeBoundary (s : State) (t c : Nat) : State :=
  let m := s.before.mapBit .HTR_MODE t c
  let s := s.setFlag .htrBuffer m t c
  let s := (s.setLoopAct t c 0 0).setTreg .HTR_PARTS t 0 c
  (s.setTreg .HTR_ACTIVE t 0 c).setFlag .htrModePend (s.mapBit .HTR_MODE t c != m) t c

/-! ### Switching driver -/

/-- The grain of a change of STATE is kept for the loop records (R156). -/
def State.noteState (s : State) (t c : Nat) (st : Bool) : State :=
  if s.tbit .DRV_ACTIVE t 28 c = st then s else s.setLat .stAt (s.grain + 1) t c

/-- The driver's active register loads (R67): a lost output carries 0 mA (R74), an unused channel
stays at 0. `grp` is the commit group of a load by a strobe. -/
def State.loadDrv (s : State) (t c code : Nat) (fine : Nat) (state profile : Bool) (grp : Nat := 0) : State :=
  if s.chRole t c = 0 ∨ s.sable then s
  else
    let code := if s.flag .drvDead t c then 0 else code % 4096
    let s := s.noteState t c state
    s.setTreg .DRV_ACTIVE t
      (2 ^ 29 * (grp % 4) + 2 ^ 28 * b2n state + 2 ^ 24 * b2n profile + 4096 * (fine % 4096) + code) c

/-- Both codes of a channel at the Sable forcing (R94): at the line, and again when a block code or the slice
that serves the channel changes under it. -/
def State.forceSable (s : State) (t c : Nat) : State :=
  let att := s.chRole t c = 2
  let d := if att then s.tfld .DRV_BLOCK t 11 0 c else 0
  let h := if att then s.tfld .HTR_BLOCK t 15 0 c else 0
  let d := if s.flag .drvDead t c then 0 else d
  let h := if s.flag .htrDead t c then 0 else h
  (s.setTfld .DRV_ACTIVE t 11 0 d c).setTreg .HTR_ACTIVE t h c

/-! ### The shadow (R71, R167, R250, R252) -/

/-- The coming occurrence of a position: the first that has not begun (R170). -/
def State.nextOcc (s : State) (pend : Bool) (p : Nat) : Option Occ :=
  s.occs.find? (fun o => o.pos == p && o.forPend == pend && !o.began)

/-- The block of a tile that serves an occurrence. -/
def State.occBlock (s : State) (t n : Nat) : Option Block := s.blocks.find? (fun b => b.tile == t && b.occs.contains n)

/-- The list of blocks with one replaced. -/
def blockPut (old new : Block) : List Block → List Block
  | [] => []
  | b :: r => if b = old then new :: r else b :: blockPut old new r

/-- The block arrived by the deadline of an occurrence. -/
def Block.inTime (b : Block) (n : Nat) : Bool := b.arrived && !b.late.contains n

/-- The entries of a tile's block for an occurrence as the shadow composer reads them: a table write of the same
grain is not seen (R214). -/
def State.composerEntries (s : State) (b : Block) (t n : Nat) : List Int :=
  match s.blocks0.find? (fun b => b.tile == t && b.occs.contains n) with
  | some old => if old.arrived then old.entries else b.entries
  | none => b.entries

/-- The correction of entry (c, p) for a commit: none where R167 gives none, an inner none where
its block has not arrived in time, so that fine and corr keep their values (R71, R170). -/
def State.correction (s : State) (cm : Commit) (t c : Nat) : Option (Option Int) :=
  match cm.pos, cm.kind with
  | some p, .slot | some p, .start =>
    match s.nextOcc (cm.kind == .start) p with
    | none => none
    | some o =>
      if s.tbit .LOOP_CTRL t 1 && o.en then
        match s.occBlock t o.no with
        | none => some none
        | some b => if b.inTime o.no then some (some ((s.composerEntries b t o.no).getD c 0)) else some none
      else none
  | _, _ => none

/-- The channel's gentle enable counts: GENTLE with a valid limit set (R178). -/
def State.gentle (s : State) (t c : Nat) : Bool := s.tbit .PRF_CHSET t 4 c && s.prfSetOk t c

/-- The commit belongs to STATIC (R237, R247). -/
def CommitKind.isStatic : CommitKind → Bool
  | .staticCommit => true
  | .heldOver => true
  | _ => false

/-- The STATE bit that a cell has in the configuration in force; while none is, the STATE that
DRV_ACTIVE holds (R250). -/
def State.inForceState (s : State) (t c : Nat) : Bool :=
  if s.rbit .CFG_INFORCE 31 then s.tbit .DRV_ACTIVE t 28 c else bit (s.nlat .inForce t (c / 32)) (c % 32)

/-- The commit group of a channel and whether its attenuator is shuttered (R250). -/
def State.groupOf (s : State) (cm : Commit) (t c : Nat) : Nat × Bool :=
  if cm.guard then
    let w := s.reg .CFG_FMAP (64 * t + c)
    let changing := s.bankState cm.bank (64 * t + c) != s.inForceState t c
    let gentle := cm.kind.isStatic && s.under == .static && s.gentle t c
    match bits w 31 30 with
    | 2 =>
      if (cm.wide || s.bankShut cm.bank (bits w 9 0)) && !gentle then (3, true)
      else if changing && !gentle then (3, false) else (0, false)
    | 1 => if changing && !gentle then (if s.order - 1 ≤ bits w 25 21 then (1, false) else (2, false)) else (0, false)
    | 3 => if changing && !gentle then (2, false) else (0, false)
    | _ => (0, false)
  else (0, false)

/-- A channel's shadow is composed for the coming commit (R71). -/
def State.composeCh (s : State) (cm : Commit) (t c : Nat) : State :=
  if s.chRole t c = 0 then s
  else
    let st := s.bankState cm.bank (64 * t + c)
    let man := s.under == .characterise
    let base := if man then s.tfld .DRV_MAN t 11 0 c
      else if st then s.tfld .DRV_CROSS t 11 0 c else s.tfld .DRV_BAR t 11 0 c
    let old : Int := sx 12 (s.tfld .DRV_SHADOW t 23 12 c)
    let fc : Int × Int :=
      if man then (0, 0)
      else match s.correction cm t c with
        | none => (0, 0)
        | some none => (old, s.lat .shCorr t c)
        | some (some e) =>
          (satS 12 (mulsh e (sx 32 (s.treg .LOOP_KRD t c)) (s.tfld .LOOP_SH0 t 28 24 c)),
           satS 16 (mulsh e (sx 32 (s.treg .LOOP_KRH t c)) (s.tfld .LOOP_SH1 t 4 0 c)))
    let sum : Int := base + fc.1
    let code := satU 12 sum
    let s := if code ≠ sum then s.setMapBit .DRV_SAT t c true else s
    let g := s.groupOf cm t c
    let s := s.setTreg .DRV_SHADOW t
      (2 ^ 31 + 2 ^ 29 * g.1 + 2 ^ 28 * b2n st + 4096 * ux 12 fc.1 + code.toNat) c
    (s.setLat .shCorr fc.2 t c).setFlag .shut g.2 t c

/-- A tile composes its 64 shadows. -/
def State.composeTile (s : State) (cm : Commit) (t : Nat) : State := forUpto 64 s (fun c s => s.composeCh cm t c)

/-- A tile leaves HOLD: it loads the configuration that is in preparation, if one has been broadcast, into its
shadow (R78, R93). In HOLD it does not, so that no code changed there enters the shadow. A DRAM configuration whose
staging bank has been given to another by then (R245) it does not load. DEDUCED (log entry 61). -/
def State.composeLeft (s : State) (t : Nat) : State :=
  match s.commit with
  | some c => if c.edge || c.late.isSome || (c.dram && decide (c.edgeAt ≤ s.grain + 48)) || s.flag .cmtUe t || s.flag .unready t then s else s.composeTile c t
  | none => s

/-! ### The load at the strobe edge (R67, R68, R178, R183, R250) -/

/-- The channel's driver and heater correction load their shadows. -/
def State.loadShadow (s : State) (cm : Commit) (t c : Nat) : State :=
  let w := s.treg .DRV_SHADOW t c
  let s := s.loadDrv t c (bits w 11 0) (bits w 23 12) (bit w 28) false (bits w 30 29)
  if s.under == .characterise then s else if cm.kind.isStatic then s.loadCorr t c 0 else s.loadCorr t c (s.lat .shCorr t c)

/-- In STATIC, a channel with a running or a starting move takes the commit's state into the
move and not into its driver (R68, R178, R183). -/
def State.loadGentle (s : State) (t c : Nat) : State :=
  let w := s.treg .DRV_SHADOW t c
  let st := bit w 28
  let old := s.tbit .DRV_ACTIVE t 28 c
  let s := s.loadCorr t c 0
  if s.prfRunning t c then
    if st != old then
      let s := (s.noteState t c st).setTbit .DRV_ACTIVE t 28 st c
      let s := s.setTreg .PRF_CMD t (endPoint st) c
      s.setFlag .prfLast false t c
    else s
  else
    let x : Int := endPoint old
    let s := s.setPrf t c x 0 0
    let s := s.setTreg .PRF_CMD t (endPoint st) c
    let s := s.setMapBit .PRF_RUN t c true
    let s := s.setLat .prfLoad x t c
    s.loadDrv t c (s.driveCode t c x) 0 st true

/-- Group 0 loads at the strobe edge in a tile that takes it (R87, R92, R250). A static commit decided before a
device HOLD completes in it (R26): a channel with a move keeps it, paused, and takes the commit's state into it
(R68, R185): DEDUCED (log entry 25). -/
def State.edgeCh (s : State) (cm : Commit) (t c : Nat) : State :=
  let w := s.treg .DRV_SHADOW t c
  let changing := bit w 28 != s.tbit .DRV_ACTIVE t 28 c
  let isStat := cm.kind.isStatic && s.under == .static
  if s.chRole t c = 0 then s
  else if isStat && s.prfRunning t c then s.loadGentle t c
  else if isStat && changing && s.tbit .PRF_CHSET t 4 c && s.prfSetOk t c then s.loadGentle t c
  else
    let s := if isStat && changing && s.tbit .PRF_CHSET t 4 c then s.setTbit .PRF_STATUS t 1 true else s
    let s := if !isStat && s.prfRunning t c then s.prfEnd t c else s
    if s.flag .shut t c then
      s.loadDrv t c (s.tfld .DRV_BLOCK t 11 0 c) 0 (s.tbit .DRV_ACTIVE t 28 c) false (bits w 30 29)
    else if bits w 30 29 = 0 then s.loadShadow cm t c else s

/-- A later group of a guarded commit loads (R92, R250). -/
def State.groupCh (s : State) (cm : Commit) (g t c : Nat) : State :=
  if s.chRole t c ≠ 0 ∧ s.tfld .DRV_SHADOW t 30 29 c = g then (s.loadShadow cm t c).setFlag .shut false t c else s

/-! ### Leg loss (R72, R73, R74) -/

/-- A leg's commanded share of a driver code (R85): half the code, the odd LSB on leg B; the whole code on the
one leg that is left. -/
def legShare (code : Nat) (legB other : Bool) : Nat :=
  if !other then code else if legB then code - code / 2 else code / 2

/-- A leg of a channel is connected: not lost (R73) and not opened for test (R95). -/
def State.legOn (s : State) (t c : Nat) (legB : Bool) : Bool :=
  if legB then !s.mapBit .DRV_LEGB_LOST t c && !s.tbit .DRV_CTRL t 1
  else !s.mapBit .DRV_LEGA_LOST t c && !s.tbit .DRV_CTRL t 0

/-- The commanded share of a leg (R72, R85): 0 on a leg that is disconnected. -/
def State.legCode (s : State) (t c : Nat) (legB : Bool) : Nat :=
  if s.legOn t c legB then legShare (s.tfld .DRV_ACTIVE t 11 0 c) legB (s.legOn t c (!legB)) else 0

/-- A leg of a channel is lost: disconnected until reset, LEG_LOST sent; with both legs lost the
output is 0 mA and DRIVE_LOST is sent. DESIGN CHOICE (log entry 29): a leg that DRV_CTRL opens for test does
not count as lost, so the departure of the other leg then sends no DRIVE_LOST and leaves the code. -/
def State.legLost (s : State) (t c : Nat) (legB : Bool) : State :=
  let r := if legB then Reg.DRV_LEGB_LOST else Reg.DRV_LEGA_LOST
  let o := if legB then Reg.DRV_LEGA_LOST else Reg.DRV_LEGB_LOST
  if s.mapBit r t c then s
  else
    let s := s.setMapBit r t c true
    let s := s.send t 0x10 (256 * b2n legB + c)
    if s.mapBit o t c then
      let s := s.setFlag .drvDead true t c
      let s := s.setTfld .DRV_ACTIVE t 11 0 0 c
      s.send t 0x11 c
    else s

/-- LEG_DEPARTURE (R72): a leg has departed from its share (State.legCode) for 2 consecutive grains. -/
def execLegDeparture (tile ch : Nat) (legB : Bool) (s : State) : Host.Outcome State Fault Refusal :=
  okIf (tile < 176 && ch < 64) (if s.inUse tile then s.legLost tile ch legB else s)

/-! ### Spare heater slices (R79 to R83) -/

/-- A spare slice is connected to a channel. -/
def State.spareOn (s : State) (t c k : Nat) : Bool := s.tfld .HTR_SPARE t 31 30 k == 1 && s.tfld .HTR_SPARE t 5 0 k == c

/-- The spare slice that serves a channel, if one does: of two, one that has not failed (R83). -/
def State.spareOf (s : State) (t c : Nat) : Option Nat :=
  match firstUpto 2 (fun k => s.spareOn t c k && !s.flag .spareBad t k) with
  | some k => some k
  | none => firstUpto 2 (fun k => s.spareOn t c k)

/-- The lowest free spare slice. -/
def State.freeSpare (s : State) (t : Nat) : Option Nat :=
  firstUpto 2 (fun k => s.tfld .HTR_SPARE t 31 30 k == 0)

/-- A spare slice connects to a channel with its present code and mode (R80 steps 1 to 3). -/
def State.connectSpare (s : State) (t c k : Nat) : State :=
  let s := (s.setTreg .HTR_SPARE t (2 ^ 30 + c) k).setFlag .spareBad false t k
  let s := s.setLat .spareSince s.grain t k
  s.setMapBit .HTR_FAILED t c true

/-- The channel's heater output goes to 0 and stays there (R81, R82). -/
def State.htrKill (s : State) (t c : Nat) : State :=
  (s.setFlag .htrDead true t c).setTreg .HTR_ACTIVE t 0 c

/-- The slice that serves a channel has failed: it is replaced, or the swap is left to software,
or the output is lost (R80, R82). -/
def State.sliceFailed (s : State) (t c : Nat) : State :=
  if s.tbit .HTR_CTRL t 0 then
    let s := match s.spareOf t c with
      | some k => s.setTreg .HTR_SPARE t (2 ^ 31) k
      | none => s
    match s.freeSpare t with
    | some k => (s.connectSpare t c k).send t 0x12 (512 * k + 256 + c)
    | none => ((s.setMapBit .HTR_FAILED t c true).htrKill t c).send t 0x11 c
  else
    let s := match s.spareOf t c with
      | some k => s.setFlag .spareBad true t k
      | none => s
    (s.setMapBit .HTR_FAILED t c true).send t 0x12 c

/-- HEATER_SLICE_FAIL (R79): the comparator marks the slice serving a channel failed. A spare that
differs within 1 ms of its connection points to the load (R81). -/
def execHeaterSliceFail (tile ch : Nat) (s : State) : Host.Outcome State Fault Refusal :=
  okIf (tile < 176 && ch < 64) <|
    if s.inUse tile && !s.flag .htrDead tile ch then
      match s.spareOf tile ch with
      | some k =>
        if (s.grain : Int) - s.lat .spareSince tile k ≤ 1000000 then
          ((s.setTreg .HTR_SPARE tile 0 k).htrKill tile ch).send tile 0x13 ch
        else s.sliceFailed tile ch
      | none => s.sliceFailed tile ch
    else s

/-- HTR_SWAP (R96): the named spare connects to a channel whose slice has failed, or the write is
refused. A failed spare that it replaces is disconnected and counts as failed (R82); one that has not failed
stays connected (R83). In SABLE the forcing acts on the new spare (R83). -/
def State.htrSwap (s : State) (t k c : Nat) : State :=
  if s.tfld .HTR_SPARE t 31 30 k = 0 ∧ s.mapBit .HTR_FAILED t c then
    let s := forUpto 2 s (fun q s =>
      if s.spareOn t c q && s.flag .spareBad t q then (s.setTreg .HTR_SPARE t (2 ^ 31) q).setFlag .spareBad false t q else s)
    let s := (s.connectSpare t c k).setFlag .htrDead false t c
    if s.mode = .sable then s.forceSable t c else s
  else s.refuse .HTR_SWAP t

/-- HTR_SWAP as a command. -/
def execHtrSwap (tile spare ch : Nat) (s : State) : Host.Outcome State Fault Refusal :=
  okIf (tile < 176 && spare < 2 && ch < 64)
    (if s.inUse tile then s.htrSwap tile spare ch else s.addrFault (Reg.addr .HTR_SWAP tile 0 0))

/-! ### Current monitor (R84, R85, R86) -/

/-- A measurement of a driver leg: its current in driver LSB and the bump voltage in mV. -/
def State.measureLeg (s : State) (t c : Nat) (legB : Bool) (i v : Nat) : State :=
  let i := if s.legOn t c legB then i % 4096 else 0
  let s := if legB then s.setTfld .DRV_IMON t 27 16 i c else s.setTfld .DRV_IMON t 11 0 i c
  let s := s.setLat .scanI (s.lat .scanI t + i) t
  s.setLat .scanVI (s.lat .scanVI t + v * i) t

/-- CURRENT_MEASUREMENT (R85): measurement k of the scan (R84: legs A and B of channel k / 2, then
the heaters, then the spare slices), with the measured current and voltage in the units of the
register it updates; for a leg the voltage is the bump's, in mV. -/
def execCurrentMeasurement (tile k current volt : Nat) (s : State) : Host.Outcome State Fault Refusal :=
  okIf (tile < 176 && k < 194 && current < 65536 && volt < 65536) <|
    if s.inUse tile then
      if k < 128 then s.measureLeg tile (k / 2) (k % 2 = 1) current volt
      else if k < 192 then
        match s.spareOf tile (k - 128) with
        | none => s.setTreg .HTR_IMON tile (65536 * volt + current) (k - 128)
        | some _ => s
      else if s.tfld .HTR_SPARE tile 31 30 (k - 192) = 1 then
        s.setTreg .HTR_IMON tile (65536 * volt + current) (s.tfld .HTR_SPARE tile 5 0 (k - 192))
      else s
    else s

/-- A quotient whose last bit the spec leaves to the measurement: the whole part or one more
(log entry 14). -/
def State.nearQuot (s : State) (num : Int) (den : Nat) : Nat × State :=
  let d := s.draw 1
  (((num / den) + d.1).toNat, d.2)

/-- The drift check of one channel at the end of a scan (R86). DESIGN CHOICE (log entry 62): DRIVE_DRIFT is sent
at every scan that differs from the second on. -/
def State.driftCh (s : State) (t c : Nat) : State :=
  if s.legOn t c false ∧ s.legOn t c true then
    let w := s.treg .DRV_IMON t c
    let dif : Int := (bits w 11 0 + bits w 27 16 : Nat) - (s.tfld .DRV_ACTIVE t 11 0 c : Nat)
    if 2 * 4096 < 100 * dif.natAbs then
      let s := if s.flag .driftSeen t c then s.send t 0x14 c else s
      s.setFlag .driftSeen true t c
    else s.setFlag .driftSeen false t c
  else s.setFlag .driftSeen false t c

/-- The dissipation of the heater output stages of a tile in 25 pW units (R85). -/
def State.htrPower (s : State) (t : Nat) : Int :=
  (List.range 64).foldl (fun a c =>
    let w := s.treg .HTR_IMON t c
    a + ((10 * s.reg .HLT_V 2 : Nat) - (bits w 31 16 : Nat) : Int) * (bits w 15 0 : Nat)) 0

/-- MONITOR_SCAN_END (R85): the powers of the scan are formed and the drift check made (R86). -/
def execMonitorScanEnd (tile : Nat) (s : State) : Host.Outcome State Fault Refusal :=
  okIf (tile < 176) <|
    if s.inUse tile then
      let num := ((s.reg .HLT_V 2 : Int) * s.lat .scanI tile - s.lat .scanVI tile) * 12
      let q := s.nearQuot num 409600
      let s := q.2.setTreg .TILE_DRV_PWR tile (min q.1 65535)
      let q := s.nearQuot (s.htrPower tile) 4000000
      let s := q.2.setTreg .TILE_HTR_PWR tile (min q.1 65535)
      let s := (s.setLat .scanI 0 tile).setLat .scanVI 0 tile
      forUpto 64 s (fun c s => s.driftCh tile c)
    else s

/-! ### Strobe delays (R91, R347) -/

/-- A write of SLOT_SKEW_APPLY (R91): latched at the next commit decision point; ignored in a campaign,
and CAL_STATUS.REFUSED sets (R347). -/
def State.skewApply (s : State) (v : Nat) : State :=
  if s.campaign then s.setRbit .CAL_STATUS 0 true else if bit v 0 then s.setFlag .skewReq true else s

/-- SLOT_SKEW_APPLY_WRITE (R91): `value` is the word written. -/
def execSlotSkewApplyWrite (value : Nat) (s : State) : Host.Outcome State Fault Refusal :=
  okIf (value < 2 ^ 32) (s.skewApply value)

end Sys2Proof.Machine
end

