-- ==== Sys2Proof/Machine/Timing.lean ====
section
/-! DEFINITION. Spans of the device and of a tile (R124, R144, R358), slot positions and ages at a
grain (R127, R156), the demodulation reference (R155), the dither phase (R186, R189). -/
namespace Sys2Proof.Machine

/-! ### Spans -/

/-- The tile is in converter fallback (R143). -/
def State.fallback (s : State) (t : Nat) : Bool := s.tbit .ADC_STATUS t 7

/-- Grains in the present device span (R124). -/
def State.devLen (s : State) : Nat := if s.flag .spanLong then 8000 else 4000

/-- Grains in the present span of a tile (R124, R144). -/
def State.tileLen (s : State) (t : Nat) : Nat := if s.fallback t || s.flag .spanLong then 8000 else 4000

/-- The present span of the tile has 8,000 grains. -/
def State.tileLong (s : State) (t : Nat) : Bool := s.fallback t || s.flag .spanLong

/-- Grain at which the tile's present span ends. -/
def State.tileEnd (s : State) (t : Nat) : Nat := s.nlat .tileSpanAt t + s.tileLen t

/-- THROTTLE at an earlier grain g, back to the last change before the latest (R358). -/
def State.throttleAt (s : State) (g : Int) : Bool :=
  let now := decide (2 ≤ s.fld .THM_STATUS 31 30)
  if s.lat .thrAt = 0 ∨ s.lat .thrAt ≤ g + 1 then now else !now

/-- Span boundary B(k) is one at which a fallback span may begin (R143): k is even, or the device
span that begins there has 8,000 grains. -/
def fallbackMayBegin (k : Nat) (long : Bool) : Bool := k % 2 == 0 || long

/-- A tile with a failed converter enters fallback at the boundary at grain b that begins device
span k (R143): a round has passed since the mark. -/
def State.fallbackDue (s : State) (t k b : Nat) (long : Bool) : Bool :=
  (s.tbit .ADC_STATUS t 5 || s.tbit .ADC_STATUS t 6) && !s.fallback t && fallbackMayBegin k long &&
    decide (s.nlat .convMark t + 4000 ≤ b + 1)

/-- Grain of span 0 (R281), while it is to come: the first whose count reaches a whole multiple of 4,000 ns. -/
def State.spanZeroAt (s : State) : Nat :=
  let m := 2 ^ 32 * 4000
  let x := s.time.total % m
  if x < s.incr then s.grain else s.grain + (m - x + s.incr - 1) / s.incr

/-! ### Slot positions -/

/-- The device was in SLOTTED at a grain, back to four changes before now (R127). -/
def State.slottedAt (s : State) (g : Nat) : Bool :=
  decide (s.mode = .slotted) != decide ((List.range 4).countP (fun k => decide ((g : Int) + 1 < s.lat .sltAt k)) % 2 = 1)

/-- The slot position in force at a grain no earlier than the boundary before the latest, and
whether its commit was suppressed; none outside SLOTTED (R127, R156). -/
def State.posAt (s : State) (g : Nat) : Option (Nat × Bool) :=
  if s.slottedAt g = false then none
  else if s.lat .bndAt ≤ g + 1 then some (s.nlat .slotPos, s.flag .posSupp)
  else if s.lat .posPrev = 0 then none
  else some (s.nlat .posPrev - 1, s.flag .posSuppPrev)

/-- Number plus 1 of the slot occurrence in force at such a grain; 0 where there is none (R168). -/
def State.occAt (s : State) (g : Nat) : Nat :=
  if (s.posAt g).isNone then 0 else if s.lat .bndAt ≤ g + 1 then s.nlat .occNow else s.nlat .occPrev

/-- Grains from an instant kept as grain + 1 to grain g; none when there is no such instant at or
before g. -/
def since (g : Nat) (x : Int) : Option Nat := if x = 0 ∨ (g : Int) + 1 < x then none else some (g + 1 - x.toNat)

/-- AGE of a record at its nominal grain (R156). -/
def State.ageAt (s : State) (slotted : Bool) (g : Nat) : Nat :=
  let a := if slotted then since g (s.lat .bndAt) else since g (s.lat .cmtAt)
  let b := if slotted then since g (s.lat .bndAtPrev) else since g (s.lat .cmtAtPrev)
  min 4095 (match a with
    | some x => x
    | none => match b with
      | some x => x
      | none => 4095)

/-- A commit or slot boundary kept as grain + 1 lies within the 8 grains after g. -/
def nearAfter (g : Nat) (x : Int) : Bool := decide ((g : Int) + 1 < x ∧ x ≤ (g : Int) + 9)

/-- EDGE of a record at its nominal grain (R156). -/
def State.edgeAt (s : State) (g : Nat) : Bool :=
  nearAfter g (s.lat .bndAt) || nearAfter g (s.lat .cmtAt) || nearAfter g (s.lat .bndAtPrev) || nearAfter g (s.lat .cmtAtPrev)

/-- STATE of DRV_ACTIVE at a nominal grain (R156). -/
def State.stateAt (s : State) (t c g : Nat) : Bool :=
  let st := s.tbit .DRV_ACTIVE t 28 c
  if (g : Int) + 1 < s.lat .stAt t c then !st else st

/-! ### The reference table (R155) -/

/-- 2^64 × π, cut. -/
def piQ64 : Int := 57952155664616982739

/-- Terms of the sine series, each from the one before; `f` terms are left. -/
def sinTerms (x2 : Int) : Nat → Nat → Int → Int → Int
  | 0, _, _, acc => acc
  | f + 1, k, term, acc =>
    let t := (-(term * x2 / 2 ^ 64)) / ((2 * k : Nat) * (2 * k + 1 : Nat) : Int)
    sinTerms x2 f (k + 1) t (acc + t)

/-- 2^64 × sin(2π q / 4096) for q in 0..1024. -/
def sinQ64 (q : Nat) : Int :=
  let x := piQ64 * q / 2048
  sinTerms (x * x / 2 ^ 64) 11 1 x x

/-- sintab (R155): round half away of 32,767 × sin(2π n / 4096). -/
def sintab (n : Nat) : Int :=
  let m := n % 2048
  let q := if m ≤ 1024 then m else 2048 - m
  let v := (32767 * sinQ64 q * 2 + 2 ^ 64) / 2 ^ 65
  if n % 4096 < 2048 then v else -v

/-- ref (R155): the table at phase [31:20]. -/
def refTab (phase : Nat) : Int := sintab (bits phase 31 20)

/-! ### Dither (R186, R187, R189) -/

/-- The tile's grain counter DDS_N at a grain: 0 until the tile leaves reset (R186, R198). Tiles leave reset up
to 4,096 grains after the first, each at a grain that nothing defines. -/
def State.ddsN (s : State) (t g : Nat) : Nat :=
  let x : Int := (g : Int) - s.lat .rstAt - (Config.tileRelease (s.nlat .rstSeed) t % 4096 : Nat)
  if x < 0 then 0 else ux 32 x

/-- The active tone list of a tile. -/
def State.ddsAct (s : State) (t : Nat) : Nat := b2n (s.tbit .DDS_STATUS t 1)

/-- The tone list that was active at a grain, back to the swap before the latest (R188). -/
def State.ddsListAt (s : State) (t g : Nat) : Nat :=
  if (g : Int) + 1 < s.lat .ddsAt t then 1 - s.ddsAct t else s.ddsAct t

/-- Phase of tone c at a grain (R186), by the list active there (R189). -/
def State.ddsPhase (s : State) (t c g : Nat) : Nat :=
  let l := s.ddsListAt t g
  (s.treg .DDS_FREQ t l c * s.ddsN t g + s.treg .DDS_PHASE t l c) % 2 ^ 32

/-- DV for the coming span of a tile (R189). -/
def State.ditherDV (s : State) (t c : Nat) : Int :=
  let amp := s.tfld .DDS_AMP t 14 0 (s.ddsAct t) c
  let a := if s.flag .spanLongNext then amp / 2 else amp
  asr (a * refTab (s.ddsPhase t c (s.tileEnd t)) + 2 ^ 14) 15

end Sys2Proof.Machine
end

