-- ==== Sys2Proof/Machine/Adc.lean ====
section
/-! DEFINITION. Monitor conversion (R121 to R151): rounds, ranges, calibrated samples, tags, system
calibration, open-wire tests, converter failure, and the capture of samples into ring buffers. -/
namespace Sys2Proof.Machine

/-! ### Ranges (R130, R131) -/

/-- Range of an input's next conversion. -/
def State.rangeNow (s : State) (t i : Nat) : Nat := s.tfld .ADC_RNOW t (2 * (i % 16) + 1) (2 * (i % 16)) (i / 16)

/-- The range of an input's next conversion changes; lowrun starts again at a change. -/
def State.setRange (s : State) (t i r : Nat) : State :=
  if s.rangeNow t i = r then s
  else (s.setTfld .ADC_RNOW t (2 * (i % 16) + 1) (2 * (i % 16)) r (i / 16)).setLat .lowRun 0 t i

/-- Range of an input under R131. -/
def State.rangeSet (s : State) (t i : Nat) : Nat := s.tfld .ADC_RANGE t (2 * (i % 16) + 1) (2 * (i % 16)) (i / 16)

/-- A system calibration is running on a tile. -/
def State.sysBusy (s : State) (t : Nat) : Bool := s.tbit .ADC_STATUS t 8

/-- Inputs convert in the range of ADC_RANGE (R131). -/
def State.rangeFixed (s : State) (t : Nat) : Bool :=
  match s.mode with
  | .slotted => true
  | .boot => true
  | .hold => false
  | .sable => false
  | _ => !s.tbit .ADC_CTRL t 0

/-- The range law of R130 after a conversion. -/
def State.autorange (s : State) (t i code : Nat) : State :=
  let r := s.rangeNow t i
  if 15456 ≤ code ∧ 0 < r then s.setRange t i (r - 1)
  else if code ≤ 1456 ∧ r < 3 then
    let n := s.nlat .lowRun t i + 1
    if n = 3 then s.setRange t i (r + 1) else s.setLat .lowRun n t i
  else s.setLat .lowRun 0 t i

/-- What becomes of an input's range after one of its conversions, outside a system calibration; after one that
has ended, the range before it returns (R135). -/
def State.rangeAfter (s : State) (t i code : Nat) (clean : Bool) : State :=
  if s.rangeFixed t then (s.setRange t i (s.rangeSet t i)).setLat .sysBack 0 t i
  else if s.lat .sysBack t i ≠ 0 then (s.setRange t i (s.nlat .sysBack t i - 1)).setLat .sysBack 0 t i
  else if (s.mode == .characterise || s.mode == .static) && clean then s.autorange t i code else s

/-- The converter, and slot of its round, that serve an input: in fallback the surviving converter
serves both taps of a cell (R143). -/
def State.slotOf (s : State) (t i : Nat) : Nat × Nat :=
  if s.flag .convLong t 0 then (0, 2 * (i % 64) + i / 64)
  else if s.flag .convLong t 1 then (1, 2 * (i % 64) + i / 64)
  else (i / 64, i % 64)

/-- A switch to ADC_RANGE takes effect, for the inputs whose conversion of the round in progress
has passed (R131). -/
def State.rangeFollow (s : State) (t : Nat) : State :=
  if s.rangeFixed t && !s.sysBusy t then
    forUpto 128 s (fun i s =>
      let v := s.slotOf t i
      if v.2 < s.nlat .convSlot t v.1 then s.setRange t i (s.rangeSet t i) else s)
  else s

/-- The ranges of the first conversions, as conversion starts at the end of the image load (R129, R131). -/
def State.rangeInit (s : State) (t : Nat) : State := forUpto 8 s (fun w s => s.setTreg .ADC_RNOW t (s.treg .ADC_RANGE t w) w)

/-- The same on every tile, after a change of mode. -/
def State.rangeFollowAll (s : State) : State := forIn' s.tiles s (fun t s => s.rangeFollow t)

/-! ### Calibrated value (R132) -/

/-- ADC_OFS[i][r]. -/
def State.adcOfs (s : State) (t i r : Nat) : Nat :=
  if r % 2 = 0 then s.tfld .ADC_OFS t 13 0 i (r / 2) else s.tfld .ADC_OFS t 29 16 i (r / 2)

/-- ADC_GAIN[i][r] for a sample of nominal grain `nom`: new gains of a calibration commit apply from
its boundary on (R254, R346). -/
def State.gainFor (s : State) (t i r nom : Nat) : Int :=
  if (nom : Int) + 1 < s.lat .calAt t then s.lat .calOldGain t i r else s.treg .ADC_GAIN t i r

/-- The calibrated sample of a code (R132). -/
def State.adcValue (s : State) (t i r code nom : Nat) : Int :=
  sat32 (asr (((code : Int) - s.adcOfs t i r) * s.gainFor t i r nom + 16384) 15)

/-! ### Capture (R146 to R149) -/

/-- A capture record joins its ring's holding buffer; it is dropped and counted when the 64 places
are taken (R149). -/
def State.capPush (s : State) (ring w0 w1 w2 w3 : Nat) : State :=
  if s.rbit .DMA_CAP_CTRL 0 ring then
    if 64 ≤ (s.capQ.filter (fun q => q.ring == ring)).length then
      (s.satAdd .DMA_CAP_DROP 1 0 ring).setLat .capLost (s.lat .capLost ring + 1) ring
    else { s with capQ := s.capQ ++ [⟨ring, w0, w1, w2, w3⟩] }
  else s

/-- A conversion of an input is captured (R146), with its record (R147). -/
def State.capture (s : State) (m : Sample) (slot code range : Nat) (volt : Option Nat) : State :=
  let t := m.tile
  let w := s.treg .ADC_CAPCTL t
  if bit w 0 && s.mapBit .ADC_CAPSEL t m.input && (!m.extra || bit w 12) && m.span % 2 ^ bits w 11 8 == 0 then
    let w0 := match volt with
      | some v => v
      | none => ux 32 m.p
    let w1 := 2 ^ 30 * b2n volt.isSome + 2 ^ 21 * m.input + 2 ^ 20 * b2n m.extra + 2 ^ 19 * b2n m.sat + 2 ^ 18 * b2n m.trim
      + 2 ^ 17 * b2n m.test + 2 ^ 16 * b2n m.bad + 2 ^ 14 * range + code
    let w2 := (match m.pos with
      | some p => 2 ^ 31 + 2 ^ 16 * p
      | none => 0) + 2 ^ 8 * slot + t
    s.capPush (bits w 6 4) w0 w1 w2 (m.span % 2 ^ 32)
  else s

/-! ### Open-wire tests (R138 to R141) -/

/-- A test begins on an input. -/
def State.owtStart (s : State) (t i : Nat) (down : Bool) : State :=
  let s := (s.setTbit .ADC_STATUS t 3 true).setLat .owtPhase 1 t
  let s := (s.setLat .owtInput i t).setFlag .owtDown down t
  (s.setLat .owtLast 0 t).setFlag .owtRepeat false t

/-- An input has a confirmed fault and is not tested again (R141). -/
def State.owtDone (s : State) (t i : Nat) : Bool := s.mapBit .ADC_OPEN t i || s.mapBit .ADC_LEAK t i

/-- The verdict on a bump voltage in µV (R139): 0 OK, 1 OPEN, 2 LEAK. -/
def owtVerdict (down : Bool) (v : Nat) : Nat :=
  if down then (if 300000 ≤ v then 2 else 0)
  else if 2650000 ≤ v then 1 else if v < 1500000 then 2 else 0

/-- A verdict of the test in progress: the second equal one confirms a fault, any other that is not OK has the
test repeated (R140, R141). -/
def State.owtJudge (s : State) (t i : Nat) (v : Nat) : State :=
  if v ≠ 0 then
    if s.nlat .owtLast t = v then
      let s := s.setFlag .owtRepeat false t
      if v = 1 then (s.setMapBit .ADC_OPEN t i true).send t 0x20 i
      else (s.setMapBit .ADC_LEAK t i true).send t 0x21 i
    else (s.setLat .owtLast v t).setFlag .owtRepeat true t
  else s.setFlag .owtRepeat false t

/-- A conversion of the input under test: the test moves on (R138). DESIGN CHOICE (log entry 32): a test in
progress when a system calibration starts, which suspends testing (R135), stands still and goes on after it. -/
def State.owtConversion (s : State) (t i volt : Nat) : State :=
  if s.flag .owtPhase t && s.nlat .owtInput t == i && !s.sysBusy t then
    match s.nlat .owtPhase t with
    | 1 => s.setLat .owtPhase 2 t
    | 2 => (s.owtJudge t i (owtVerdict (s.flag .owtDown t) volt)).setLat .owtPhase 3 t
    | _ =>
      if s.flag .owtRepeat t then s.setLat .owtPhase 1 t
      else (s.setLat .owtPhase 0 t).setTbit .ADC_STATUS t 3 false
  else s

/-- The next automatic test, as an index of input × 2 + polarity (R140). -/
def State.owtNextTest (s : State) (t : Nat) : Option Nat :=
  ((List.range 256).map (fun k => (s.nlat .owtNext t + k) % 256)).find? (fun x =>
    s.chRole t (x / 2 % 64) != 0 && !s.owtDone t (x / 2))

/-- PERIOD spans of the tile have passed since the last automatic test started (R140). -/
def State.owtDue (s : State) (t : Nat) : Bool := decide (s.nlat .owtAt t + s.tfld .ADC_OWT t 15 0 ≤ s.tileN t)

/-- OWT_AUTO_START (R140): PERIOD spans after the last, an automatic test starts. -/
def execOwtAutoStart (tile : Nat) (s : State) : Host.Outcome State Fault Refusal :=
  okIf (tile < 176) <|
    if s.inUse tile && s.tbit .ADC_OWT tile 31 && !s.flag .owtPhase tile && !s.flag .owtCmd tile && !s.sysBusy tile && s.owtDue tile then
      match s.owtNextTest tile with
      | none => s
      | some x =>
        ((s.owtStart tile (x / 2) (x % 2 = 1)).setLat .owtNext ((x + 1) % 256 : Nat) tile).setLat .owtAt (s.tileN tile) tile
    else s

/-- A write of ADC_OWT_CMD (R140): one test starts at the next span boundary, or the write is
refused. -/
def State.owtCommand (s : State) (t w : Nat) : State :=
  if s.flag .owtPhase t || s.flag .owtCmd t || s.sysBusy t || s.mode == .boot || s.mode == .sable then
    s.refuse .ADC_OWT_CMD t
  else s.setLat .owtCmd (256 * bits w 8 8 + bits w 6 0 + 1) t

/-- At a span boundary of the tile a test that has waited since before its grain begins (R140, R502); an input
with a confirmed fault is not tested again (R141). -/
def State.owtBoundary (s : State) (t : Nat) : State :=
  if s.flag .owtCmd t && s.before.flag .owtCmd t then
    let w := s.nlat .owtCmd t - 1
    let s := s.setLat .owtCmd 0 t
    if s.owtDone t (w % 256) then s else s.owtStart t (w % 256) (256 ≤ w)
  else s

/-- ADC_OWT_CMD: `input` and `down` are the fields of the word written. -/
def execAdcOwtCmd (tile input : Nat) (down : Bool) (s : State) : Host.Outcome State Fault Refusal :=
  okIf (tile < 176 && input < 128) <|
    if s.inUse tile then s.owtCommand tile (256 * b2n down + input) else s.addrFault (Reg.addr .ADC_OWT_CMD tile 0 0)

/-! ### Reference buffer (R133) -/

/-- ADC_REF.EN changes: READY clears with EN, and the 2 ms count from its setting. -/
def State.refEnable (s : State) (t : Nat) (en : Bool) : State :=
  if en then
    if s.tbit .ADC_REF t 0 then s else (s.setTreg .ADC_REF t 1).setLat .refAt (s.grain + 1) t
  else
    let s := if s.tbit .ADC_REF t 1 then s.setLat .rdyAt (s.grain + 1) t else s
    (s.setTreg .ADC_REF t 0).setLat .refAt 0 t

/-- The reference of the tile has been enabled for 2 ms (R133). -/
def State.refSettled (s : State) (t : Nat) : Bool :=
  decide (s.lat .refAt t ≠ 0 ∧ s.nlat .refAt t + 2000000 ≤ s.grain + 1)

/-- REF_READY (R133): 2.000 ms after EN was set. -/
def execRefReady (tile : Nat) (s : State) : Host.Outcome State Fault Refusal :=
  okIf (tile < 176)
    (if s.inUse tile && s.tbit .ADC_REF tile 0 && !s.tbit .ADC_REF tile 1 && s.refSettled tile then
      (s.setTbit .ADC_REF tile 1 true).setLat .rdyAt (s.grain + 1) tile
    else s)

/-- READY at a grain, back to its latest change. -/
def State.readyAt (s : State) (t : Nat) (g : Int) : Bool :=
  if s.lat .rdyAt t ≤ g + 1 then s.tbit .ADC_REF t 1 else !s.tbit .ADC_REF t 1

/-! ### System calibration (R135 to R137) -/

/-- The rounds of an operation: for each range one settling round and N summed ones; for ILLUM four
ranging rounds and N summed ones (R136). -/
def State.sysRounds (s : State) (t : Nat) : Nat :=
  if s.lat .sysOp t = 3 then 4 + s.nlat .sysN t else 4 * (1 + s.nlat .sysN t)

/-- A converter begins a round of the operation: its inputs take the range of the round. -/
def State.sysRoundStart (s : State) (t v : Nat) : State :=
  if s.sysBusy t then
    let n := s.nlat .sysRound t v + 1
    let s := s.setLat .sysRound n t v
    if s.lat .sysOp t = 3 ∨ s.sysRounds t < n then s
    else
      let r := (n - 1) / (1 + s.nlat .sysN t)
      forUpto 128 s (fun i s => if (s.slotOf t i).1 = v then s.setRange t i r else s)
  else s

/-- A conversion within an operation is summed, or ranges the input (R136). -/
def State.sysConversion (s : State) (t v i code : Nat) (p : Int) (clean : Bool) : State :=
  let n := s.nlat .sysRound t v
  if n = 0 ∨ s.sysRounds t < n then s
  else if s.lat .sysOp t = 3 then
    if n ≤ 4 then (if clean then s.autorange t i code else s)
    else s.setLat .sysSum (s.lat .sysSum t i 0 + p) t i 0
  else
    let r := (n - 1) / (1 + s.nlat .sysN t)
    if (n - 1) % (1 + s.nlat .sysN t) = 0 then s else s.setLat .sysSum (s.lat .sysSum t i r + code) t i r

/-- The operation leaves the tile: BUSY clears and every input returns to its range from its next round on
(R135): at once where it has been converted in the round in progress, else after that conversion. -/
def State.sysEnd (s : State) (t : Nat) : State :=
  let s := (s.setTbit .ADC_STATUS t 8 false).setLat .sysOp 0 t
  let s := (s.setLat .sysRound 0 t 0).setLat .sysRound 0 t 1
  forUpto 128 s (fun i s =>
    let v := s.slotOf t i
    let s := if v.2 < s.nlat .convSlot t v.1 ∨ s.nlat .convSlot t v.1 = 0 then s.setRange t i (s.nlat .sysRange t i)
      else s.setLat .sysBack (s.lat .sysRange t i + 1) t i
    forUpto 4 s (fun r s => s.setLat .sysSum 0 t i r))

/-- A device HOLD or a mode change abandons every operation: it writes nothing (R135). -/
def State.sysAbandonAll (s : State) : State := forIn' s.tiles s (fun t s => if s.sysBusy t then s.sysEnd t else s)

/-- An operation starts. -/
def State.sysStart (s : State) (t op avg : Nat) : State :=
  let s := ((s.setTbit .ADC_STATUS t 8 true).setLat .sysOp op t).setLat .sysN (2 ^ avg : Nat) t
  let s := (s.setLat .sysRound 0 t 0).setLat .sysRound 0 t 1
  let s := forUpto 128 s (fun i s => s.setLat .sysRange (s.rangeNow t i) t i)
  if op = 1 then s.setTbit .ADC_STATUS t 4 false else s

/-- A write of ADC_SYSCAL (R135, R150). -/
def State.sysCommand (s : State) (t w : Nat) : State :=
  if s.mode ≠ .characterise ∨ s.sysBusy t ∨ 8 < bits w 7 4 then s.refuse .ADC_SYSCAL t
  else
    match bits w 1 0 with
    | 0 => s
    | 1 => s.sysStart t 1 (bits w 7 4)
    | 2 => s.sysStart t (2 + bits w 2 2) (bits w 7 4)
    | _ => (forUpto 4 s (fun k s => s.setTreg .ADC_BAD t 0 k)).setTbit .ADC_STATUS t 4 true

/-- A system calibration command of a tile: the word written is taken, or the access has no
register behind it. -/
def State.sysWrite (s : State) (t w : Nat) : State :=
  if s.inUse t then s.sysCommand t w else s.addrFault (Reg.addr .ADC_SYSCAL t 0 0)

/-- SYSCAL_DARK (R136): `avg` is the AVG field. -/
def execSyscalDark (tile avg : Nat) (s : State) : Host.Outcome State Fault Refusal :=
  okIf (tile < 176 && avg < 16) (s.sysWrite tile (avg * 16 + 1))

/-- SYSCAL_GAIN_INJECT (R136). -/
def execSyscalGainInject (tile avg : Nat) (s : State) : Host.Outcome State Fault Refusal :=
  okIf (tile < 176 && avg < 16) (s.sysWrite tile (avg * 16 + 2))

/-- SYSCAL_GAIN_ILLUM (R136). -/
def execSyscalGainIllum (tile avg : Nat) (s : State) : Host.Outcome State Fault Refusal :=
  okIf (tile < 176 && avg < 16) (s.sysWrite tile (avg * 16 + 6))

/-- SYSCAL_ACCEPT (R136). -/
def execSyscalAccept (tile avg : Nat) (s : State) : Host.Outcome State Fault Refusal :=
  okIf (tile < 176 && avg < 16) (s.sysWrite tile (avg * 16 + 3))

/-- An input fails its check (R136). -/
def State.sysFail (s : State) (t i : Nat) : State := (s.setMapBit .ADC_BAD t i true).setTbit .ADC_STATUS t 9 true

/-- The injected current of a range, in pA (R136: 0.8 × IFS). -/
def sysInject (r : Nat) : Nat := 800000000 / 10 ^ r

/-- The result of DARK for an input. -/
def State.sysDarkInput (s : State) (t i : Nat) : State :=
  let n := s.nlat .sysN t
  let v := fun r => (s.nlat .sysSum t i r + n / 2) / n
  if (List.range 4).all (fun r => decide (56 ≤ v r ∧ v r ≤ 656)) then
    (s.setTreg .ADC_OFS t (65536 * v 1 + v 0) i 0).setTreg .ADC_OFS t (65536 * v 3 + v 2) i 1
  else s.sysFail t i

/-- The result of GAIN INJECT for an input. -/
def State.sysInjectInput (s : State) (t i : Nat) : State :=
  let n := s.nlat .sysN t
  let d : Nat → Int := fun r => s.lat .sysSum t i r - n * s.adcOfs t i r
  if (List.range 4).all (fun r => decide (11520 * n ≤ d r ∧ d r ≤ 14080 * n)) then
    forUpto 4 s (fun r s =>
      s.setTreg .ADC_GAIN t (min ((2 ^ 15 * sysInject r * n + (d r).toNat / 2) / (d r).toNat) 0xFFFFFFFF) i r)
  else s.sysFail t i

/-- The result of GAIN ILLUM for an input. -/
def State.sysIllumInput (s : State) (t i : Nat) : State :=
  let n := s.nlat .sysN t
  let ref := s.treg .ADC_IREF t i
  let pm : Int := (s.lat .sysSum t i 0 + (n / 2 : Nat)) / n
  if ref = 0 then s
  else if 0 < pm ∧ pm ≤ 2 * ref ∧ (ref : Int) ≤ 2 * pm then
    forUpto 4 s (fun r s =>
      s.setTreg .ADC_GAIN t (min ((s.treg .ADC_GAIN t i r * ref + pm.toNat / 2) / pm.toNat) 0xFFFFFFFF) i r)
  else s.sysFail t i

/-- ADC_BAD of a tile is all 0. -/
def State.sysClean (s : State) (t : Nat) : Bool := (List.range 4).all (fun k => s.treg .ADC_BAD t k == 0)

/-- Every converter that runs has taken all rounds of the operation. -/
def State.sysComplete (s : State) (t : Nat) : Bool :=
  (List.range 2).all (fun v => decide (s.sysRounds t < s.nlat .sysRound t v)
    || s.flag .convLong t (1 - v))

/-- SYSCAL_DONE (R135, R136, R137): an operation whose rounds are complete writes its results. -/
def execSyscalDone (tile : Nat) (s : State) : Host.Outcome State Fault Refusal :=
  okIf (tile < 176) <|
    if s.sysBusy tile && s.sysComplete tile then
      let op := s.nlat .sysOp tile
      let s := forUpto 128 s (fun i s =>
        if s.chRole tile (i % 64) = 0 then s
        else match op with
          | 1 => s.sysDarkInput tile i
          | 2 => s.sysInjectInput tile i
          | _ => s.sysIllumInput tile i)
      let s := if op = 2 && s.sysClean tile then s.setTbit .ADC_STATUS tile 4 true else s
      let s := if 2 ≤ op then s.setTreg .TILE_CAL_TG tile (s.tfld .TILE_TEMP tile 15 0) else s
      s.sysEnd tile
    else s

/-! ### Conversions (R123 to R128, R142, R145) -/

/-- A converter is marked failed (R142, R145). -/
def State.convFail (s : State) (t v : Nat) : State :=
  if s.tbit .ADC_STATUS t (5 + v) then s
  else
    let s := s.setTbit .ADC_STATUS t (5 + v) true
    let s := if s.lat .convMark t = 0 then s.setLat .convMark (s.grain + 1) t else s
    let s := s.send t 0x22 (256 * v)
    if s.tbit .ADC_STATUS t 5 && s.tbit .ADC_STATUS t 6 then s.send t 0x23 0 else s

/-- The failure counts after a conversion (R142). -/
def State.convCount (s : State) (t v : Nat) (ok done : Bool) : State :=
  let w := (s.nlat .convErr t v * 2 + b2n (!(ok && done))) % 65536
  let o := if done then 0 else s.nlat .convOver t v + 1
  let s := (s.setLat .convErr w t v).setLat .convOver o t v
  let s := if ok && done then s
    else s.setTfld .ADC_ERRCNT t (16 * v + 15) (16 * v) (satInc 16 (s.tfld .ADC_ERRCNT t (16 * v + 15) (16 * v)) 1)
  if 8 ≤ popCount 16 w ∨ 2 ≤ o then s.convFail t v else s

/-- The sample may carry the disturbance of a trim pulse (R107). -/
def State.trimTagged (s : State) (t c : Nat) : Bool :=
  s.flag .trimTag t c && ((s.flag .trimRun t && s.nlat .pulseCh t == c) || decide (s.lat .trimTagTo t c ≥ s.tileN t))

/-- Nominal grain of a slot (R126): counted from the span the round belongs to. Before span 0 it is counted from
the grain at which that begins. -/
def State.nominal (s : State) (t v slot : Nat) : Nat :=
  if s.flag .spanUp = false then ((s.spanZeroAt : Int) - 253 + (125 * slot / 2 : Nat)).toNat else
  let k := s.nlat .convSpan t v
  let long := s.tileLong t
  let b : Int := s.nlat .tileSpanAt t
  let start : Int := if s.flag .spanUp && k == s.nlat .tileSpan t then b else b + s.tileLen t
  let len : Int := if s.flag .spanUp && k == s.nlat .tileSpan t then (if long then 8000 else 4000)
    else if s.flag .convLong t v || s.flag .spanLongNext then 8000 else 4000
  let d : Int := if s.flag .convLong t v ∨ s.flag .convExtra t v then -256 else len - 4256
  (start + d + 3 + (125 * slot / 2 : Nat)).toNat

/-- The last conversion of a round ends, and the next round starts: whose span it belongs to,
whether it is extra, and whether it is the first of fallback (R123, R125, R143). The second round of a long span
starts none of these. Before span 0 its length follows THROTTLE (R124). -/
def State.roundStart (s : State) (t v : Nat) : State :=
  let s := s.setLat .convSlot 0 t v
  if s.flag .spanUp then
    let k := s.spanCount + 1
    let b := s.nlat .spanAt + s.devLen
    let s := if !s.flag .convExtra t v && s.fallbackDue t k b (s.flag .spanLongNext) && !s.tbit .ADC_STATUS t (5 + v) then
      s.setFlag .convLong true t v else s
    let s := if s.flag .convLong t v then (s.setLat .convSpan k t v).setFlag .convExtra false t v
      else if s.flag .convExtra t v then s.setFlag .convExtra false t v
      else if s.nlat .convSpan t v = k then s
      else (s.setLat .convSpan k t v).setFlag .convExtra (s.flag .spanLongNext) t v
    s.sysRoundStart t v
  else ((s.setLat .convSpan 0 t v).setFlag .convExtra (s.throttleAt s.grain) t v).sysRoundStart t v

/-- The monitor input of a slot (R123, R143). -/
def State.inputOf (s : State) (t v slot : Nat) : Nat :=
  if s.flag .convLong t v then slot / 2 + 64 * (slot % 2) else 64 * v + slot

/-- Slots of a round (R123, R143). -/
def State.roundLen (s : State) (t v : Nat) : Nat := if s.flag .convLong t v then 128 else 64

/-- The sample that a conversion yields (R127, R128, R132), with what its record shows of its nominal grain (R156).
READY counts at the sampling instant, 62.5 grains before the result. -/
def State.sampleOf (s : State) (t v slot code : Nat) (ok done : Bool) : Sample :=
  let i := s.inputOf t v slot
  let nom := s.nominal t v slot
  let pos := s.posAt nom
  let slotted := pos.isSome
  { tile := t, conv := v, input := i, span := s.nlat .convSpan t v, extra := s.flag .convExtra t v || !s.flag .aligned
    p := s.adcValue t i (s.rangeNow t i) code nom
    bad := !ok || !done || s.tbit .ADC_STATUS t (5 + v) || !s.readyAt t ((s.grain : Int) - 62)
    test := s.nlat .owtInput t == i && 2 ≤ s.nlat .owtPhase t
    trim := s.trimTagged t (i % 64), sat := code == 0 || code == 16383, nom := nom
    pos := pos.map Prod.fst
    nocommit := match pos with
      | some p => p.2
      | none => false
    occ := s.occAt nom, state := s.stateAt t (i % 64) nom, age := s.ageAt slotted nom, edge := s.edgeAt nom
    theta := s.ddsPhase t (i % 64) nom }

/-- The sample history of a tile keeps a sample of a delivered round (R410), unless the histories
are frozen (R411). It holds 64 whole rounds and the one in progress, 65 places in turn. -/
def State.history (s : State) (m : Sample) (range code : Nat) : State :=
  if m.extra || s.rbit .FLT_REC_STATUS 31 then s
  else s.setLat .sampHist (16384 * range + code : Nat) m.tile (s.nlat .histN m.tile m.conv % 65 * 128 + m.input)

/-- A delivered round of the sample history is complete. -/
def State.historyRound (s : State) (t v : Nat) : State :=
  if s.flag .convExtra t v || !s.flag .aligned || s.rbit .FLT_REC_STATUS 31 then s
  else
    let s := s.setLat .histN (s.lat .histN t v + 1) t v
    if s.flag .convLong t v then s.setLat .histN (s.lat .histN t v) t (1 - v) else s

/-- A converter finishes the conversion of a slot. -/
def State.conversion (s : State) (t v slot code : Nat) (ok done : Bool) (volt : Nat) : State :=
  let code := if done then code else 0
  let s := s.convCount t v ok done
  let m := s.sampleOf t v slot code ok done
  let i := m.input
  let range := s.rangeNow t i
  let voltNow := s.nlat .owtInput t == i && s.nlat .owtPhase t == 2
  let s := { s with samples := s.samples ++ [m] }
  let s := s.history m range code
  let s := s.capture m slot code range (if voltNow then some volt else none)
  let clean := !m.bad && !m.test
  let s := if s.sysBusy t && s.lat .sysRound t v != 0 then s.sysConversion t v i code m.p clean
    else if s.sysBusy t then s else s.rangeAfter t i code clean
  let s := s.owtConversion t i volt
  if slot + 1 = s.roundLen t v then (s.historyRound t v).roundStart t v else s.setLat .convSlot (slot + 1) t v

/-- CONVERSION_COMPLETE (R123): converter `conv` of a tile ends the conversion of a slot of its
round with a code; `ok` is its residue check, `done` says that it completed within its slot, and
`volt` is the bump voltage in µV that the test path gives, for an input under test. Conversion runs
from the end of the image load (R129), when the tile is in use; a failed converter rests in
fallback (R143). -/
def execConversionComplete (tile conv slot code : Nat) (ok done : Bool) (volt : Nat) (s : State) :
    Host.Outcome State Fault Refusal :=
  okIf (tile < 176 && conv < 2 && slot < 128 && code < 16384 && volt < 2 ^ 32) <|
    if s.inUse tile && s.flag .imgUp && slot < s.roundLen tile conv && !(s.flag .convLong tile (1 - conv) && s.nlat .convSlot tile conv == 0) then
      s.conversion tile conv slot code ok done volt
    else s

/-! ### Delivery to the record bank (R126, R156, R205, R225) -/

/-- Record bank of the tile's present span (R205). -/
def State.bankNow (s : State) (t : Nat) : Nat := (s.tileN t + 1) % 2

/-- Word 3 of a record but for SUBST, from a sample of it (R156). -/
def Sample.recWord3 (m : Sample) : Nat :=
  let posv := match m.pos with
    | some p => p
    | none => 0
  2 ^ 31 * b2n m.pos.isSome + 2 ^ 30 * b2n m.state + 2 ^ 29 * b2n m.nocommit + 2 ^ 14 * posv + 2 ^ 13 * b2n m.edge + m.age

/-- The tag bits of a sample in word 3. -/
def Sample.tagBits (m : Sample) : Nat :=
  2 ^ 27 * b2n m.sat + 2 ^ 26 * b2n m.trim + 2 ^ 25 * b2n m.test + 2 ^ 24 * b2n m.bad

/-- A sample is written into its record: the Mb sample gives PB, THETA and the words of the nominal
grain, the Mx sample PX; the tags of both are joined. Word 6 shows which have arrived. A sample that comes after
its span has ended finds its bank given away and is dropped (R205, R225). -/
def State.deliver (s : State) (m : Sample) : State :=
  let t := m.tile
  let c := m.input % 64
  let bank := if m.span = s.nlat .tileSpan t ∧ s.flag .spanUp then s.bankNow t else 1 - s.bankNow t
  let k := 64 * bank + c
  if s.flag .loopRec t k 7 || (s.flag .spanUp && decide (m.span < s.nlat .tileSpan t)) then s
  else
    let old := if s.flag .loopRec t k 6 then s.nlat .loopRec t k 3 else 0
    let tags := (2 ^ 24 * bits old 27 24) ||| m.tagBits
    let s :=
      if m.input < 64 then
        let s := ((s.setLat .loopRec m.p t k 0).setLat .loopRec m.theta t k 2).setLat .loopRec (m.occ : Nat) t k 9
        s.setLat .loopRec (setBits m.recWord3 27 24 (bits tags 27 24)) t k 3
      else
        let s := s.setLat .loopRec m.p t k 1
        s.setLat .loopRec (setBits old 27 24 (bits tags 27 24)) t k 3
    s.setLat .loopRec (s.nlat .loopRec t k 6 ||| (1 + m.input / 64)) t k 6

/-- SAMPLE_DELIVERED (R18, R126): the oldest sample of a converter on its way is usable in the ENG
domain. A sample of an extra round goes to capture only (R125, R128). -/
def execSampleDelivered (tile conv : Nat) (s : State) : Host.Outcome State Fault Refusal :=
  okIf (tile < 176 && conv < 2) <|
    match s.samples.find? (fun m => m.tile == tile && m.conv == conv) with
    | none => s
    | some m =>
      let s := { s with samples := s.samples.erase m }
      if m.extra then s else s.deliver m

end Sys2Proof.Machine
end

