-- ==== Sys2Proof/Machine/Engine.lean ====
section
/-! DEFINITION. The loop engine halves (R200 to R217, R225 to R228, R372, R373): microwords, the
operations of every slot, the record and table checks of the contract, machine checks, signatures
and heartbeats. -/
namespace Sys2Proof.Machine

/-! ### Stores of a half -/

/-- A control-store word with its parity: bits [255:0] the word, [263:256] the parity bits. -/
def State.csWord (s : State) (t h w : Nat) : Nat := (spGet 0#264 s.cs (4096 * (t * 2 + h) + w)).toNat

/-- A control-store word is written. -/
def State.setCs (s : State) (t h w v : Nat) : State :=
  { s with cs := spPut 0#264 s.cs (4096 * (t * 2 + h) + w) (BitVec.ofNat 264 v) }

/-- A data-memory word (R200). -/
def State.dmWord (s : State) (t h a : Nat) : Nat := (spGet 0#32 s.dm (8192 * (t * 2 + h) + a)).toNat

/-- A data-memory word is written. -/
def State.setDm (s : State) (t h a v : Nat) : State :=
  { s with dm := spPut 0#32 s.dm (8192 * (t * 2 + h) + a) (BitVec.ofNat 32 v) }

/-- Even parity of a 32-bit field: its parity bit (R206). -/
def parity32 (v : Nat) : Nat := popCount 32 v % 2

/-- The eight parity bits of a word (R206). -/
def parityBits (w : Nat) : Nat :=
  (List.range 8).foldl (fun a k => a + parity32 (bits w (32 * k + 31) (32 * k)) * 2 ^ k) 0

/-- A word with its parity. -/
def withParity (w : Nat) : Nat := w % 2 ^ 256 + 2 ^ 256 * parityBits w

/-! ### Half states (R369) -/

/-- State code of a half. -/
def State.halfState (s : State) (t h : Nat) : Nat := s.tfld .RED_TSTATE t (8 * h + 3) (8 * h)

/-- The state code of a half is written; RED_SIMPLEX_TILE follows. -/
def State.setHalf (s : State) (t h v : Nat) : State :=
  let s := s.setTfld .RED_TSTATE t (8 * h + 3) (8 * h) v
  s.setMapBit .RED_SIMPLEX_TILE 0 t (s.halfState t 0 != 2 && s.halfState t 1 != 2)

/-- The half that holds the drive token (R371). -/
def State.token (s : State) (t : Nat) : Nat := s.tfld .RED_TSTATE t 31 31

/-- The half is in machine check (R216). -/
def State.inMchk (s : State) (t h : Nat) : Bool := s.tbit .MC_STATUS t (1 + h)

/-- The half executes the span program (R369). -/
def State.executes (s : State) (t h : Nat) : Bool :=
  (s.halfState t h == 1 || s.halfState t h == 2 || s.halfState t h == 6) && !s.inMchk t h
    && s.mode != .boot && s.mode != .sable

/-- The half whose operations act on what the tile has once: the token holder, or the other while
the holder does not execute. -/
def State.acts (s : State) (t h : Nat) : Bool := s.token t == h || !s.executes t (s.token t)

/-! ### Faults seen by the program -/

/-- Asynchronous predicate inputs P12..P15 (R209); P15 sees the tile's unacknowledged faults with tile-HOLD reaction,
and those still on their way to the log, from whatever source (R400). -/
def State.asyncIn (s : State) (t n : Nat) : Bool :=
  match n with
  | 0 => s.inHold || s.tileHold t
  | 1 => s.flag .engEvt t 0
  | 2 => s.flag .engEvt t 1
  | _ => s.unacks.any (fun u => u.tile == some t) || s.faults.any (fun m => m.tile == some t && s.reaction m == 2)

/-! ### Operands -/

/-- A general register. -/
def State.gReg (s : State) (t h n : Nat) : Nat := s.nlat .engG t (64 * h + n)

/-- A pair of general registers as a 64-bit value (R200). -/
def State.gPair (s : State) (t h n : Nat) : Nat := s.gReg t h n + 2 ^ 32 * s.gReg t h (n + 1)

/-- A predicate as read by a word (R200, R209). -/
def State.pReg (s : State) (t h n : Nat) : Bool :=
  if n = 0 then true else if n < 12 then s.flag .engP t (16 * h + n) else s.asyncIn t (n - 12)

/-- The value of a source operand code (R208). -/
def State.source (s : State) (t h word code : Nat) : Nat :=
  if code < 48 then s.gReg t h code
  else match code with
    | 49 => ux 32 (sx 24 (bits word 247 224))
    | 50 => 256 * bits word 247 224
    | 51 => s.nlat .engVdrv t
    | 52 => s.nlat .tileSpan t % 2 ^ 32
    | _ => 0

/-- The 64-bit value of an even source operand code. -/
def State.source64 (s : State) (t h word code : Nat) : Nat :=
  if code < 48 then s.gPair t h code else ux 64 (sx 32 (s.source t h word code))

/-! ### Results -/

/-- A result lands in a register latency grains later (R213). -/
def State.result (s : State) (t h g lat kind ix val : Nat) : State :=
  { s with pipe := s.pipe ++ [⟨t, h, g + lat, kind, ix, val⟩] }

/-- A 32-bit result to a destination operand code; code 48 discards it (R208). -/
def State.resultG (s : State) (t h g lat dst : Nat) (val : Int) : State :=
  if dst < 48 then s.result t h g lat 0 dst (ux 32 val) else s

/-- A 64-bit result to a pair. -/
def State.resultPair (s : State) (t h g lat dst : Nat) (val : Int) : State :=
  if dst < 48 then
    (s.result t h g lat 0 dst (ux 64 val % 2 ^ 32)).result t h g lat 0 (dst + 1) (ux 64 val / 2 ^ 32)
  else s

/-- A register is written. -/
def State.land (s : State) (p : PipeW) : State :=
  match p.kind with
  | 0 => s.setLat .engG p.val p.tile (64 * p.half + p.ix)
  | 1 => s.setLat .engP p.val p.tile (16 * p.half + p.ix)
  | _ => s.setLat .engH p.val p.tile (16 * p.half + p.ix)

/-- The results of a half that a word at program grain g reads are written. -/
def State.landUpto (s : State) (t h g : Nat) : State :=
  let mine := s.pipe.filter (fun p => p.tile == t && p.half == h && p.at_ ≤ g)
  let s1 := { s with pipe := s.pipe.filter (fun p => !(p.tile == t && p.half == h && p.at_ ≤ g)) }
  forIn' mine s1 (fun p s => s.land p)

/-- The results of a half that have not landed are dropped. -/
def State.dropPipe (s : State) (t h : Nat) : State :=
  { s with pipe := s.pipe.filter (fun p => !(p.tile == t && p.half == h)) }

/-! ### Arithmetic (R164, R211) -/

/-- The results of a half that are due at the end of a program grain from CYCLES to 3,839 are not written (R202); later
ones are (R213). -/
def State.endPipe (s : State) (t h : Nat) : State :=
  { s with pipe := s.pipe.filter (fun p => !(p.tile == t && p.half == h && p.at_ ≤ 3840)) }

/-- Index of the highest 1 bit of a signed value; 0 when it is not positive. -/
def msbI (x : Int) : Nat := if x ≤ 0 then 0 else Nat.log2 x.toNat

/-- GN and GS of R164 for wb; 0x7FFF_FFFF and 30 when wb is not positive. -/
def gnorm (wb : Int) : Nat × Nat :=
  if wb ≤ 0 then (0x7FFFFFFF, 30)
  else
    let g := 30 - msbI wb
    (min (2 ^ (61 + g) / wb.toNat) (2 ^ 31 - 1), 30 + g)

/-- The ratio of R160: (px - pb) × 2^31 / (px + pb), cut toward 0; 0 when the sum is not positive. -/
def ratioOf (pb px : Int) : Int :=
  let s := px + pb
  if s ≤ 0 then 0 else sat32 (tdiv (2 ^ 31 * (px - pb)) s)

/-! ### The compute slots (R211) -/

/-- The slot executes (R209). -/
def State.slotRuns (s : State) (t h f : Nat) : Bool := s.pReg t h (bits f 25 22) != bit f 26

/-- An ALU operation. -/
def State.alu (s : State) (t h g word f : Nat) : State :=
  let dst := bits f 21 16
  let sa := bits f 15 10
  let sb := bits f 9 4
  let x := bits f 3 0
  let ua := s.source t h word sa
  let ub := s.source t h word sb
  let a := sx 32 ua
  let b := sx 32 ub
  let w := fun v => s.resultG t h g 1 dst v
  let p := fun (v : Bool) => s.result t h g 1 1 x (b2n v)
  match bits f 31 27 with
  | 0x01 => w (sat32 (a + b))
  | 0x02 => w (sat32 (a - b))
  | 0x03 => w (a + b)
  | 0x04 => w (a - b)
  | 0x05 => w (ua &&& ub : Nat)
  | 0x06 => w (ua ||| ub : Nat)
  | 0x07 => w (ua ^^^ ub : Nat)
  | 0x08 => w (ua * 2 ^ (ub % 32) : Nat)
  | 0x09 => w (rsh a (ub % 32))
  | 0x0A => w (asr a (ub % 32))
  | 0x0B => w (ua / 2 ^ (ub % 32) : Nat)
  | 0x0C => w (min a b)
  | 0x0D => w (max a b)
  | 0x0E => w (min ua ub : Nat)
  | 0x0F => w (max ua ub : Nat)
  | 0x10 => w a
  | 0x11 => s.resultG t h g 2 dst (refTab ua)
  | 0x12 => w (msbI a)
  | 0x13 => s.result t h g 1 2 x (ua % 64)
  | 0x14 => p (decide (a < b))
  | 0x15 => p (decide (ua < ub))
  | 0x16 => p (decide (ua = ub))
  | 0x17 => p (decide (ua &&& ub ≠ 0))
  | 0x18 => s.resultPair t h g 1 dst (s.source64 t h word sa + s.source64 t h word sb : Nat)
  | 0x19 => s.resultPair t h g 1 dst ((s.source64 t h word sa : Int) - s.source64 t h word sb)
  | 0x1A => w (sat32 (sx 64 (s.source64 t h word sa)))
  | 0x1B => s.resultPair t h g 1 dst a
  | _ => s

/-- A multiplier operation. -/
def State.mul (s : State) (t h g word f : Nat) : State :=
  let dst := bits f 21 16
  let ua := s.source t h word (bits f 15 10)
  let ub := s.source t h word (bits f 9 4)
  let hx := s.nlat .engH t (16 * h + bits f 3 0)
  match bits f 31 27 with
  | 0x01 => s.resultG t h g 3 dst (mulsh (sx 32 ua) (sx 32 ub) (hx % 32))
  | 0x02 => s.resultG t h g 3 dst (mulsh (sx 32 ua) (sx 32 ub) hx)
  | 0x03 => s.resultPair t h g 3 dst (sx 32 ua * sx 32 ub)
  | 0x04 => s.resultPair t h g 3 dst (ua * ub : Nat)
  | _ => s

/-- A divider operation. -/
def State.divide (s : State) (t h g word f : Nat) : State :=
  let dst := bits f 21 16
  let ca := bits f 15 10
  let cb := bits f 9 4
  match bits f 31 27 with
  | 0x01 => s.resultG t h g 16 dst (ratioOf (sx 32 (s.source t h word ca)) (sx 32 (s.source t h word cb)))
  | 0x02 =>
    let b := sx 64 (s.source64 t h word cb)
    s.resultG t h g 34 dst (if b = 0 then 0 else sat32 (tdiv (sx 64 (s.source64 t h word ca)) b))
  | 0x03 =>
    let b := s.source64 t h word cb
    s.resultPair t h g 66 dst (if b = 0 then 2 ^ 64 - 1 else s.source64 t h word ca / b : Nat)
  | 0x04 =>
    let n := gnorm (sx 32 (s.source t h word ca))
    (s.resultG t h g 34 dst n.1).result t h g 34 2 (bits f 3 0) n.2
  | _ => s

/-! ### Contract messages (R228) -/

/-- A CONTRACT message of a tile, at most one per subcode and span. -/
def State.contract (s : State) (t sub cls addr : Nat) : State :=
  if s.flag .ctSent t sub then s else (s.setFlag .ctSent true t sub).sendEngine t 0x29 cls (2 ^ 28 * sub + addr)

/-- The newest LATE_REC message of a tile in its queue takes a lower channel and its grain. -/
def lowerLate (t addr : Nat) : List FaultMsg → List FaultMsg
  | [] => []
  | m :: r =>
    if m.src = t ∧ m.kind = 0x29 ∧ bits m.addr 31 28 = 1 then { m with addr := min addr m.addr } :: r
    else m :: lowerLate t addr r

/-- A LATE_REC message: sent at the first substituted record of a span. A lower channel substituted later in the span
replaces the channel named while the message waits in its queue, so that it names the lowest (R228, log entry 68). -/
def State.contractLate (s : State) (t addr : Nat) : State :=
  match s.nlat .ctSent t 1 with
  | 0 => (s.sendEngine t 0x29 0 addr).setLat .ctSent (if s.waiting t < 16 then 2 else 1) t 1
  | 2 => { s with faults := (lowerLate t addr s.faults.reverse).reverse }
  | _ => s

/-- A data-memory access beyond the contract is suppressed (R227). -/
def State.rangeFault (s : State) (t h g : Nat) : State :=
  (s.setTbit .MC_FLAGS t 1 true).contract t 3 2 (2 ^ 27 * h + g)

/-! ### Signature (R372) -/

/-- An 8-byte item joins the running signature. -/
def State.sigItem (s : State) (t h v a : Nat) : State :=
  s.setLat .engSig (crcRun (s.nlat .engSig t h) (leBytes 4 v ++ leBytes 2 a ++ leBytes 2 0)) t h

/-! ### Load and store (R207, R212, R227) -/

/-- A data-memory address is within the program's range (R227). -/
def State.dmOk (s : State) (t a : Nat) : Bool := a ≤ s.tfld .MC_DMHI t 12 0 && a < 0x1F00

/-- A word is stored; a word of the state area joins the signature. -/
def State.dmStore (s : State) (t h a v : Nat) : State :=
  let s := s.setDm t h a v
  if a < 0x800 then s.sigItem t h v a else s

/-- A load or store. `r` is the state at the start of the grain, whose data memory loads read. -/
def State.lsu (s r : State) (t h g f : Nat) : State :=
  let reg := bits f 21 16
  let ax := bits f 15 13
  let a := if ax = 0 then bits f 12 0 else (bits f 12 0 + r.gReg t h (40 + ax) % 8192) % 8192
  let a1 := (a + 1) % 8192
  match bits f 31 27 with
  | 0x01 => if s.dmOk t a then s.resultG t h g 2 reg (r.dmWord t h a) else (s.rangeFault t h g).resultG t h g 2 reg 0
  | 0x02 => if s.dmOk t a then s.dmStore t h a (r.gReg t h reg) else s.rangeFault t h g
  | 0x03 =>
    if s.dmOk t a && s.dmOk t a1 then s.resultPair t h g 2 reg (r.dmWord t h a + 2 ^ 32 * r.dmWord t h a1 : Nat)
    else (s.rangeFault t h g).resultPair t h g 2 reg 0
  | 0x04 =>
    if s.dmOk t a && s.dmOk t a1 then (s.dmStore t h a (r.gReg t h reg)).dmStore t h a1 (r.gReg t h (reg + 1))
    else s.rangeFault t h g
  | _ => s

/-! ### Records and tables (R156, R167, R214, R225, R226) -/

/-- Index of channel c's record in the bank of the tile's present span. -/
def State.recIx (s : State) (t c : Nat) : Nat := 64 * s.bankNow t + c

/-- The nominal grain of channel c's delivered sample in the tile's present span (R126). -/
def State.recNominal (s : State) (t c : Nat) : Nat :=
  let j := if s.fallback t then 2 * c else c
  let d : Int := if s.fallback t || !s.flag .spanLong then -256 else 3744
  ((s.nlat .tileSpanAt t : Int) + d + 3 + (125 * j / 2 : Nat)).toNat

/-- The Mb sample of channel c of the tile's present span: the one converted and still on its way, or, where none
is, what its nominal grain gives (R225). -/
def State.recSample (s : State) (t c : Nat) : Sample :=
  match s.samples.find? (fun m => m.tile == t && m.input == c && !m.extra && m.span == s.nlat .tileSpan t) with
  | some m => m
  | none =>
    let n := s.recNominal t c
    let pos := s.posAt n
    { tile := t, conv := 0, input := c, span := 0, extra := false, p := 0, bad := false, test := false
      trim := false, sat := false, nom := n, pos := pos.map Prod.fst
      nocommit := match pos with
        | some p => p.2
        | none => false
      occ := s.occAt n, state := s.stateAt t c n, age := s.ageAt pos.isSome n, edge := s.edgeAt n, theta := s.ddsPhase t c n }

/-- The record of channel c is substituted for the rest of the span (R225): the words of its nominal grain stand. -/
def State.substitute (s : State) (t c g : Nat) : State :=
  let k := s.recIx t c
  let s :=
    if s.nlat .loopRec t k 6 % 2 = 1 then s
    else
      let m := s.recSample t c
      let old := if s.flag .loopRec t k 6 then s.nlat .loopRec t k 3 else 0
      ((s.setLat .loopRec m.theta t k 2).setLat .loopRec (m.occ : Nat) t k 9).setLat .loopRec (setBits m.recWord3 27 24 (bits old 27 24)) t k 3
  let s := (s.setLat .loopRec (s.lat .recPb t c) t k 0).setLat .loopRec (s.lat .recPx t c) t k 1
  let s := s.setLat .loopRec 2 t k 7
  let s := (s.setTbit .LOOP_STATUS t 1 true).setTbit .MC_FLAGS t 0 true
  (s.satAdd .MC_LATE_REC 1 t).contractLate t (2 ^ 28 + 2 ^ 16 * c + g)

/-- At REC_GRAIN the record of a channel is checked (R225). -/
def State.recCheck (s : State) (t c g : Nat) : State :=
  let k := s.recIx t c
  if s.tfld .MC_REC t 11 0 c ≠ g ∨ s.lat .loopRec t k 7 ≠ 0 then s
  else if s.nlat .loopRec t k 6 = 3 then s.setLat .loopRec 1 t k 7
  else s.substitute t c g

/-- The slot occurrence of channel c's record, when it carries one (R168). -/
def State.recOcc (s : State) (t c : Nat) : Option Nat :=
  let n := s.nlat .loopRec t (s.recIx t c) 9
  if n = 0 then none else some (n - 1)

/-- The block that serves channel c's record arrived by its deadline (R214, R226). -/
def State.recBlock (s : State) (t c : Nat) : Option Block :=
  match s.recOcc t c with
  | none => none
  | some n =>
    match s.occBlock t n with
    | none => none
    | some b => if b.inTime n && s.lat .loopRec t (s.recIx t c) 8 != 2 then some b else none

/-- The occurrence of channel c's record lies in a learning cycle (R168). -/
def State.recLearns (s : State) (t c : Nat) : Bool :=
  match s.recOcc t c with
  | none => false
  | some n => s.occs.any (fun o => o.no == n && o.learning)

/-- At TBL_GRAIN the block of a channel's record is checked (R226). -/
def State.tblCheck (s : State) (t c g : Nat) : State :=
  let k := s.recIx t c
  if s.tfld .MC_REC t 27 16 c ≠ g ∨ s.lat .loopRec t k 8 ≠ 0 then s
  else
    match s.recBlock t c with
    | none => s.setLat .loopRec 2 t k 8
    | some _ => s.setLat .loopRec 1 t k 8

/-- A table entry is written (R168, R214): EN is 1, or the occurrence has no block (R170). -/
def State.tableWrite (s : State) (t c : Nat) (v : Int) : State :=
  match s.recBlock t c with
  | none => s
  | some b =>
    if s.tbit .LOOP_CTRL t 1 && s.tbit .LOOP_CTRL t 2 && s.recLearns t c then
      { s with blocks := blockPut b { b with entries := b.entries.set c v } s.blocks }
    else s

/-- A record word as the engine reads it (R156, R189, R225). -/
def State.recWord (s : State) (t c w : Nat) : Nat :=
  let k := s.recIx t c
  let moving := s.prfRunning t c && !s.flag .prfPaused t c
  match w with
  | 3 => s.nlat .loopRec t k 3 + 2 ^ 28 * b2n (s.lat .loopRec t k 7 == 2)
  | 4 => 2 ^ 31 * b2n moving + ux 16 (s.ditherDV t c)
  | 5 => if moving then s.treg .PRF_A t c else 0
  | w => ux 32 (s.lat .loopRec t k w)

/-- The LOOP coefficient words, in the order of their offsets from 0x1000 (R176). -/
def coefReg : Nat → Reg
  | 0 => .LOOP_RLIM
  | 1 => .LOOP_KI
  | 2 => .LOOP_KP
  | 3 => .LOOP_KRL
  | 4 => .LOOP_KRD
  | 5 => .LOOP_KRH
  | 6 => .LOOP_KFFV
  | 7 => .LOOP_KFFA
  | 8 => .LOOP_SH0
  | 9 => .LOOP_SH1
  | 10 => .LOOP_DPH
  | 11 => .LOOP_ULIM
  | 12 => .LOOP_PMIN
  | 13 => .LOOP_WMIN
  | 14 => .LOOP_RSET
  | _ => .LOOP_PTGT

/-- A coefficient word as it reads: 0 in LOOP_PMIN reads as 1 (R176). -/
def State.coefWord (s : State) (t c w : Nat) : Nat :=
  let v := s.treg (coefReg w) t c
  if w = 12 ∧ v = 0 then 1 else v

/-- An I/O operation (R212). `r` is the state at the start of the grain. -/
def State.iou (s r : State) (t h g f : Nat) : State :=
  let reg := bits f 21 16
  let c := bits f 15 10
  let w := bits f 9 6
  match bits f 31 27 with
  | 0x01 =>
    let k := r.recIx t c
    let s := (s.setLat .recPb (r.lat .loopRec t k 0) t c).setLat .recPx (r.lat .loopRec t k 1) t c
    s.resultG t h g 2 reg (r.recWord t c w)
  | 0x02 => s.resultG t h g 1 reg (if w = 0 then r.lat .engCond t c else r.lat .engAct t c)
  | 0x03 => s.resultG t h g 2 reg (r.coefWord t c w)
  | 0x04 => s.resultG t h g 2 reg (if w = 0 then r.treg .LOOP_CTRL t else r.treg .LOOP_VNOM t : Nat)
  | 0x05 =>
    let v : Nat := r.gReg t h reg % 2 ^ 17
    let s := (s.setLat .engOut v t (64 * h + c)).setFlag .holdCut (r.inHold || r.tileHold t) t (64 * h + c)
    s.sigItem t h v (0x8000 + c)
  | 0x06 =>
    s.resultG t h g 4 reg (match r.recBlock t c with
      | none => 0
      | some b => b.entries.getD c 0)
  | 0x07 => if s.acts t h then s.tableWrite t c (sx 16 (r.gReg t h reg)) else s
  | 0x08 =>
    if s.acts t h then
      if w = 0 then s.satAdd .LOOP_HELD 1 t else s.setMapBit .LOOP_DIM t c true
    else s
  | _ => s

/-! ### Execution (R202, R213, R216) -/

/-- A half enters machine check (R216, R217, R228): its word does not execute, its state is kept,
MCHK is sent; a rejoin of that half ends (R379). -/
def State.machineCheck (s : State) (t h cause par ix : Nat) : State :=
  let a := 2 ^ 28 * cause + 2 ^ 27 * h + 2 ^ 16 * par + ix
  let s := (s.setTbit .MC_STATUS t (1 + h) true).setTreg .MC_MCHK t a h
  let s := if cause = 1 then s.setTbit .MC_FLAGS t 2 true else s
  let s := (s.dropPipe t h).sendEngine t 0x28 1 a
  if s.tfld .RED_REJOIN t 31 30 ≠ 0 ∧ s.tfld .RED_REJOIN t 29 29 = h then
    (((s.setTreg .RED_REJOIN t 0).setHalf t h 0).send 0x104 0x55 (2 * 2 ^ 10 + 2 ^ 8 * h + t)).setFlag .mchkNew true t h
  else (s.setHalf t h 3).setFlag .mchkNew true t h

/-- The word of a half executes: every slot reads the state at the start of the grain. -/
def State.executeWord (r : State) (t h g word : Nat) : State :=
  let f := fun k => bits word (32 * k + 31) (32 * k)
  let s := r
  let run := fun (s : State) (k : Nat) (op : State → State) => if r.slotRuns t h (f k) then op s else s
  let s := run s 6 (fun s => s.lsu r t h g (f 6))
  let s := run s 5 (fun s => s.iou r t h g (f 5))
  let out := fun (s : State) (n : State) => { s with pipe := s.pipe ++ n.pipe.drop r.pipe.length }
  let s := run s 4 (fun s => out s (r.mul t h g word (f 4)))
  let s := run s 3 (fun s => out s (r.mul t h g word (f 3)))
  let s := run s 2 (fun s => out s (r.alu t h g word (f 2)))
  let s := run s 1 (fun s => out s (r.alu t h g word (f 1)))
  run s 0 (fun s => out s (r.divide t h g word (f 0)))

/-- CYCLES of the loaded contract. -/
def State.cycles (s : State) (t : Nat) : Nat := s.tfld .MC_CYCLES t 11 0

/-- A half fetches the word of a program grain, with the parity bits that fail at the fetch beyond
those that the stored word shows, and the index fetched (R216). -/
def State.fetch (s : State) (t h g ix perr : Nat) : Option Nat × State :=
  let w := s.csWord t h (ix % 4096)
  let bad := (w / 2 ^ 256) ^^^ parityBits w ^^^ perr
  if bad ≠ 0 then (none, s.machineCheck t h 1 bad (ix % 4096))
  else if ix ≠ g then (none, s.machineCheck t h 2 0 (ix % 4096))
  else (some w, s)

/-- The compare sequence or the calibration entry uses data-memory words 0x1F00..0x1FFF of a half (R215): what it
leaves there is free (log entry 7). -/
def State.dmScratch (s : State) (t h : Nat) : State :=
  { s.setLat .dmBase (s.freeCtr + 1 : Nat) t h with freeCtr := s.freeCtr + 256 }

/-- A data-memory word as MC_DM_DATA reads it (R230). -/
def State.dmPort (s : State) (t h a : Nat) : Nat :=
  let b := s.nlat .dmBase t h
  if a < 0x1F00 ∨ b = 0 ∨ s.nlat .dmOwn t (256 * h + a % 256) = b then s.dmWord t h a
  else Config.freeValue (b - 1 + a % 256) % 2 ^ 32

/-- The staged gain of an input and range (R344). -/
def stagedGain (gain : Nat) (tcg dT : Int) : Int :=
  clampI 0 (2 ^ 32 - 1) (asr ((gain : Int) * (2 ^ 31 + tcg * dT) + 2 ^ 30) 31)

/-- The last word of the calibration entry has run in a half of a tile in MEASURE: it has formed its staging copy of
the gains, each of them an item of its signature (R344, R372). -/
def State.entryGains (s : State) (t h : Nat) : State :=
  if s.tfld .TILE_CAL_STATUS t 1 0 = 2 then
    let dT := s.lat .calTemp t - sx 16 (s.treg .TILE_CAL_TG t)
    let tcg := sx 16 (s.reg .CAL_TCG)
    let s := forUpto 128 s (fun i s =>
      if s.chRole t (i % 64) = 0 then s
      else forUpto 4 s (fun r s =>
        let g := stagedGain (s.treg .ADC_GAIN t i r) tcg dT
        (s.setLat .calGain g t (i + 128 * (h + 1)) r).sigItem t h g.toNat (0x4000 + 4 * i + r)))
    s.setFlag .calRan true t h
  else s

/-- The compare and interlock sequence of a half (R372, R373). -/
def State.sequence (s : State) (t h g : Nat) : State :=
  if g = 3840 then (s.dmScratch t h).setLat .hbSent (s.nlat .hbSent t h ||| 2 : Nat) t h
  else if g = 3904 then
    (s.setTreg .RED_SIG t (s.nlat .engSig t h ^^^ 0xFFFFFFFF) h).setLat .hbSent (s.nlat .hbSent t h ||| 5 : Nat) t h
  else s

/-- A half fetches a word of the calibration entry, words 3,968 to 4,095, which runs from program grain 0 (R223). -/
def State.entryGrain (s : State) (t h g ix perr : Nat) : State :=
  if g < 128 then
    match s.fetch t h (3968 + g) ix perr with
    | (none, s) => s
    | (some _, s) => if g = 127 then (s.entryGains t h).dmScratch t h else s
  else s

/-- A half executes program grain g. -/
def State.halfGrain (s : State) (t h g ix perr : Nat) : State :=
  let s := s.landUpto t h (if g = 0 then 4096 else g)
  let s := if g = 0 then s.setLat .engSig 0xFFFFFFFF t h else s
  if g < 3840 then
    if s.tbit .MC_STATUS t 3 then s.entryGrain t h g ix perr
    else if g < s.cycles t then
      match s.fetch t h g ix perr with
      | (none, s) => s
      | (some w, s) =>
        let s := s.executeWord t h g w
        if g + 1 = s.cycles t then (s.landUpto t h (g + 1)).endPipe t h else s
    else s
  else
    match s.fetch t h g ix perr with
    | (none, s) => s
    | (some _, s) => s.sequence t h g

/-- PROGRAM_GRAIN (R202): program grain `g` of a half of a tile. `ix` is the index of the word that
its fetch delivers and `perr` the parity bits that fail at the fetch; an undisturbed half has
ix = g (3,968 + g where the calibration entry runs, R223) and perr = 0. The tile's record and
table checks of the grain come first (R225, R226). In the self-test of BOOT both halves run the entry. -/
def execProgramGrain (tile half g ix perr : Nat) (s : State) : Host.Outcome State Fault Refusal :=
  okIf (tile < 176 && half < 2 && g < 3968 && ix < 4096 && perr < 256) <|
    if s.inUse tile && s.flag .spanUp && s.mode != .boot && s.mode != .sable then
      let s := if g < s.cycles tile && !s.tbit .MC_STATUS tile 3 then
          forUpto 64 s (fun c s => (s.recCheck tile c g).tblCheck tile c g)
        else s
      if s.executes tile half then s.halfGrain tile half g ix perr else s
    else if s.inUse tile && s.mode == .boot && s.tbit .MC_STATUS tile 3 && !s.inMchk tile half then
      s.entryGrain tile half g ix perr
    else s

end Sys2Proof.Machine
end

