-- ==== Sys2Proof/Machine/Micro.lean ====
section
/-! DEFINITION. The loop-program loader (R206 to R224, R230, R231): the contract block, its checks,
the load into the control stores, and the control-store port. -/
namespace Sys2Proof.Machine

/-! ### A program image (R218)

An image is read through a function from byte offset to byte. -/

/-- A 32-bit word of an image. -/
def imgW (rd : Nat → Byte) (o : Nat) : Nat := leVal ((List.range 4).map (fun k => rd (o + k)))

/-- Microword w of an image. -/
def imgWord (rd : Nat → Byte) (w : Nat) : Nat := leVal ((List.range 32).map (fun k => rd (320 + 32 * w + k)))

/-- CYCLES of an image. -/
def imgCycles (rd : Nat → Byte) : Nat := bits (imgW rd 8) 11 0

/-- Field k of a microword: 7 CTRL, 6 LSU, 5 IOU, 4 MUL0, 3 MUL1, 2 ALU0, 1 ALU1, 0 DIV (R206). -/
def mwField (word k : Nat) : Nat := bits word (32 * k + 31) (32 * k)

/-- Every reserved bit of the contract block is 0 (R218). -/
def imgReservedOk (rd : Nat → Byte) : Bool :=
  bits (imgW rd 4) 31 16 == 0 && bits (imgW rd 8) 15 12 == 0 && bits (imgW rd 8) 31 28 == 0 &&
  bits (imgW rd 12) 7 3 == 0 && bits (imgW rd 12) 31 12 == 0 && bits (imgW rd 24) 31 13 == 0 &&
  (List.range 8).all (fun k => imgW rd (32 + 4 * k) == 0) &&
  (List.range 64).all (fun c => bits (imgW rd (64 + 4 * c)) 15 12 == 0 && bits (imgW rd (64 + 4 * c)) 31 28 == 0)

/-! ### Operations and operands (R207, R208, R211, R212) -/

/-- The unit of a field of the microword. -/
inductive Unit8 where
  | alu
  | mul
  | div
deriving DecidableEq, Repr

/-- The unit of compute field k, 4..0. -/
def unitOf (k : Nat) : Unit8 := if 3 ≤ k then .mul else if 1 ≤ k then .alu else .div

/-- The operation is defined for its unit. -/
def opDefined (u : Unit8) (op : Nat) : Bool :=
  match u with
  | .alu => op ≤ 0x1B
  | .mul => op ≤ 4
  | .div => op ≤ 4

/-- The destination, source A and source B of an operation are pairs. -/
def opPairs (u : Unit8) (op : Nat) : Bool × Bool × Bool :=
  match u, op with
  | .alu, 0x18 => (true, true, true)
  | .alu, 0x19 => (true, true, true)
  | .alu, 0x1A => (false, true, false)
  | .alu, 0x1B => (true, false, false)
  | .mul, 0x03 => (true, false, false)
  | .mul, 0x04 => (true, false, false)
  | .div, 0x02 => (false, true, true)
  | .div, 0x03 => (true, true, true)
  | _, _ => (false, false, false)

/-- The operation writes a predicate. -/
def opCompares (u : Unit8) (op : Nat) : Bool :=
  match u with
  | .alu => 0x14 ≤ op && op ≤ 0x17
  | _ => false

/-- Latency of a compute operation (R211). -/
def opLatency (u : Unit8) (op : Nat) : Nat :=
  match u, op with
  | .alu, 0x11 => 2
  | .alu, _ => 1
  | .mul, _ => 3
  | .div, 0x01 => 16
  | .div, 0x03 => 66
  | .div, _ => 34

/-- A compute field passes check 0x04 (R219). -/
def computeOk (u : Unit8) (f : Nat) : Bool :=
  let op := bits f 31 27
  let p := opPairs u op
  op == 0 || (opDefined u op && bits f 21 16 ≤ 48 && bits f 15 10 ≤ 52 && bits f 9 4 ≤ 52 &&
    (!p.1 || bits f 16 16 == 0) && (!p.2.1 || bits f 10 10 == 0) && (!p.2.2 || bits f 4 4 == 0) &&
    (!opCompares u op || (1 ≤ bits f 3 0 && bits f 3 0 ≤ 11)))

/-- A load/store field passes check 0x04. -/
def lsuOk (f : Nat) : Bool :=
  let op := bits f 31 27
  op == 0 || (op ≤ 4 && bits f 21 16 ≤ 47 && (op < 3 || bits f 16 16 == 0))

/-- An I/O field passes check 0x04. -/
def iouOk (f : Nat) : Bool :=
  let op := bits f 31 27
  let w := bits f 9 6
  bits f 5 0 == 0 && (op == 0 || (op ≤ 8 && bits f 21 16 ≤ 47 &&
    match op with
    | 0x01 => w ≤ 5
    | 0x02 => w ≤ 1
    | 0x04 => w ≤ 1 && bits f 15 10 == 0
    | 0x08 => w ≤ 1
    | _ => true))

/-- A microword passes check 0x04. -/
def wordOk (w : Nat) : Bool :=
  bits (mwField w 7) 30 24 == 0 && lsuOk (mwField w 6) && iouOk (mwField w 5) &&
  (List.range 5).all (fun k => computeOk (unitOf k) (mwField w k))

/-! ### Conflicts (R213) -/

/-- The results of a compute field: latency, kind (0 G, 1 P, 2 H) and index. -/
def computeLands (u : Unit8) (f : Nat) : List (Nat × Nat × Nat) :=
  let op := bits f 31 27
  let l := opLatency u op
  let dst := bits f 21 16
  let x := bits f 3 0
  let g := if dst = 48 then [] else if (opPairs u op).1 then [(l, 0, dst), (l, 0, dst + 1)] else [(l, 0, dst)]
  if op = 0 then []
  else if opCompares u op then [(1, 1, x)]
  else match u, op with
    | .alu, 0x13 => [(1, 2, x)]
    | .div, 0x04 => g ++ [(l, 2, x)]
    | _, _ => g

/-- The results of a microword. -/
def wordLands (w : Nat) : List (Nat × Nat × Nat) :=
  let ls := mwField w 6
  let io := mwField w 5
  let r := bits ls 21 16
  let q := bits io 21 16
  (match bits ls 31 27 with
    | 0x01 => [(2, 0, r)]
    | 0x03 => [(2, 0, r), (2, 0, r + 1)]
    | _ => []) ++
  (match bits io 31 27 with
    | 0x01 => [(2, 0, q)]
    | 0x02 => [(1, 0, q)]
    | 0x03 => [(2, 0, q)]
    | 0x04 => [(2, 0, q)]
    | 0x06 => [(4, 0, q)]
    | _ => []) ++
  (List.range 5).flatMap (fun k => computeLands (unitOf k) (mwField w k))

/-- What lands in grain g, issued at grains 0..n-1 (R213: at the end of issue + latency - 1). -/
def landsAt (rd : Nat → Byte) (n g : Nat) : List (Nat × Nat) :=
  [1, 2, 3, 4, 16, 34, 66].flatMap (fun l =>
    if l ≤ g + 1 ∧ g + 1 - l < n then
      ((wordLands (imgWord rd (g + 1 - l))).filter (fun x => x.1 == l)).map Prod.snd
    else [])

/-- No element occurs twice. -/
def noRepeat : List (Nat × Nat) → Bool
  | [] => true
  | a :: r => !r.contains a && noRepeat r

/-- Grains for which the divider is busy from the issue of an operation on (R213). -/
def divBusy (op : Nat) : Nat :=
  match op with
  | 0 => 0
  | 1 => 2
  | 3 => 64
  | _ => 32

/-- No divider operation of words from g on issues while the divider is busy until `free`. -/
def divFree (rd : Nat → Byte) : Nat → Nat → Nat → Bool
  | 0, _, _ => true
  | n + 1, g, free =>
    let op := bits (mwField (imgWord rd g) 0) 31 27
    if op = 0 then divFree rd n (g + 1) free else decide (free ≤ g) && divFree rd n (g + 1) (g + divBusy op)

/-! ### The checks (R219) -/

/-- I/O operation of word w: its OP and channel. -/
def ioOf (rd : Nat → Byte) (w : Nat) : Nat × Nat :=
  let f := mwField (imgWord rd w) 5
  (bits f 31 27, bits f 15 10)

/-- The first word whose I/O operation is one of a list and names channel c; 0xFFF for none. -/
def firstIo (rd : Nat → Byte) (n : Nat) (ops : List Nat) (c : Nat) : Nat :=
  match firstUpto n (fun w => ops.contains (ioOf rd w).1 && (ioOf rd w).2 == c) with
  | some w => w
  | none => 0xFFF

/-- Channel c is in CHMASK. -/
def imgServes (rd : Nat → Byte) (c : Nat) : Bool := bit (imgW rd (16 + 4 * (c / 32))) (c % 32)

/-- The asynchronous predicates that a program selects (R209), as the ASYNC field. -/
def imgAsync (rd : Nat → Byte) (n : Nat) : Nat :=
  (List.range 4).foldl (fun a p =>
    a + b2n ((List.range n).any (fun w => (List.range 7).any (fun k =>
      let f := mwField (imgWord rd w) k
      bits f 31 27 != 0 && bits f 25 22 == 12 + p))) * 2 ^ p) 0

/-- A load/store field keeps within DMHI where its address is fixed. -/
def lsuWithin (f hi : Nat) : Bool :=
  let op := bits f 31 27
  op == 0 || bits f 15 13 != 0 || (bits f 12 0 + (if 3 ≤ op then 1 else 0) ≤ hi)

/-- Check 0x07 (R219). -/
def imgGrainsOk (rd : Nat → Byte) (n : Nat) : Bool :=
  (List.range 64).all (fun c =>
    bits (imgW rd (64 + 4 * c)) 11 0 == firstIo rd n [1] c && bits (imgW rd (64 + 4 * c)) 27 16 == firstIo rd n [6, 7] c) &&
  (List.range n).all (fun w => !([1, 5, 6, 7].contains (ioOf rd w).1) || imgServes rd (ioOf rd w).2) &&
  bit (imgW rd 12) 2 == (List.range n).any (fun w => [6, 7].contains (ioOf rd w).1)

/-- Check 0x08 (R219). -/
def imgEarlyOk (rd : Nat → Byte) : Bool :=
  (List.range 64).all (fun c =>
    let r := bits (imgW rd (64 + 4 * c)) 11 0
    r == 0xFFF || (decide (125 * (c + 1) / 2 ≤ r + 242) && decide (r ≤ bits (imgW rd (64 + 4 * c)) 27 16)))

/-- The program serves the channels in use of a tile (check 0x0B). -/
def State.imgServesTile (s : State) (rd : Nat → Byte) (t : Nat) : Bool :=
  (List.range 64).all (fun c => s.chRole t c == 0 || (imgServes rd c &&
    (bits (imgW rd 12) 1 0 == 0 || bits (imgW rd (64 + 4 * c)) 11 0 != 0xFFF)))

/-- The first check of R219 that a program fails for a list of target tiles; 0 for none. -/
def State.programCheck (s : State) (rd : Nat → Byte) (tiles : List Nat) : Nat :=
  let n := imgCycles rd
  let kinds := bits (imgW rd 12) 1 0
  let hi := bits (imgW rd 24) 12 0
  if imgW rd 0 ≠ 0x54434D4C ∨ bits (imgW rd 4) 15 0 ≠ 0x0101 then 0x01
  else if ¬ (1 ≤ n ∧ n ≤ 3840 ∧ (List.range n).all (fun w => bit (imgWord rd w) 255 == (w + 1 == n)) = true) then 0x02
  else if crc32 ((List.range (32 * n)).map (fun k => rd (320 + k))) ≠ imgW rd 28 then 0x03
  else if ¬ (imgReservedOk rd && (List.range n).all (fun w => wordOk (imgWord rd w))) then 0x04
  else if ¬ ((List.range (n + 66)).all (fun g => noRepeat (landsAt rd n g)) && divFree rd n 0 0) then 0x05
  else if ¬ ((List.range n).all (fun w => (ioOf rd w).1 != 5 || w ≤ bits (imgW rd 8) 27 16) && bits (imgW rd 8) 27 16 < n) then 0x06
  else if ¬ imgGrainsOk rd n then 0x07
  else if ¬ imgEarlyOk rd then 0x08
  else if bits (imgW rd 12) 11 8 ≠ imgAsync rd n ∨ (kinds ≠ 0 ∧ bits (imgW rd 12) 11 8 ≠ 0) then 0x09
  else if 0x1EFF < hi ∨ ¬ (List.range n).all (fun w => lsuWithin (mwField (imgWord rd w) 6) hi) then 0x0A
  else if ¬ tiles.all (fun t => s.imgServesTile rd t) then 0x0B
  else 0

/-! ### The load (R221) -/

/-- A half's control store takes a program: its words, NOP words up to 3,839, and the boot ROM's
words from 3,840 on. -/
def State.loadHalf (s : State) (rd : Nat → Byte) (t h : Nat) : State :=
  forUpto 4096 s (fun w s =>
    s.setCs t h w (withParity (if w < imgCycles rd then imgWord rd w
      else if w < 3840 then 0 else Config.seqWord w % 2 ^ 256)))

/-- A tile's MC registers take the contract. -/
def State.loadContract (s : State) (rd : Nat → Byte) (t : Nat) : State :=
  let s := s.setTreg .MC_CYCLES t (imgW rd 8)
  let s := s.setTreg .MC_KINDS t (imgW rd 12)
  let s := (s.setTreg .MC_CHMASK t (imgW rd 16) 0).setTreg .MC_CHMASK t (imgW rd 20) 1
  let s := (s.setTreg .MC_DMHI t (imgW rd 24)).setTreg .MC_CRC t (imgW rd 28)
  forUpto 64 s (fun c s => s.setTreg .MC_REC t (imgW rd (64 + 4 * c)) c)

/-- A half named by HALF (R231): 0 both, 1 Umber, 2 Ochre. -/
def halfNamed (sel h : Nat) : Bool := sel == 0 || sel == h + 1

/-- A reloaded half leaves machine check (R224): it is OUT until it rejoins or restarts. -/
def State.reloaded (s : State) (t h : Nat) : State :=
  if s.inMchk t h then
    let s := s.setTbit .MC_STATUS t (1 + h) false
    if s.halfState t h = 3 then s.setHalf t h 0 else s
  else s

/-- A tile takes a program in the halves named; `bad` says that a readback differs. -/
def State.loadTile (s : State) (rd : Nat → Byte) (t sel : Nat) (bad : Bool) : State :=
  let s := forUpto 2 s (fun h s => if halfNamed sel h then s.loadHalf rd t h else s)
  let s := s.loadContract rd t
  if bad then s.setTbit .MC_STATUS t 0 false
  else (forUpto 2 s (fun h s => if halfNamed sel h then s.reloaded t h else s)).setTbit .MC_STATUS t 0 true

/-! ### MC_LOAD (R220, R221, R231) -/

/-- The tiles in use that MC_LOAD_TILES names. -/
def State.loadTargets (s : State) : List Nat := s.tiles.filter (fun t => s.mapBit .MC_LOAD_TILES 0 t)

/-- A load is running. -/
def State.loadBusy (s : State) : Bool := s.rbit .MC_LOAD_STATUS 31

/-- The tile is idle for the MC block: the device in CHARACTERISE or the tile in HOLD (R220, R230). -/
def State.mcIdle (s : State) (t : Nat) : Bool := s.mode == .characterise || s.tileHold t || s.inHold

/-- The tile may not leave HOLD: it holds no valid program (R229), or a load into it is running (R220). -/
def State.mustHold (s : State) (t : Nat) : Bool := !s.tbit .MC_STATUS t 0 || (s.loadBusy && s.mapBit .MC_LOAD_TILES 0 t)

/-- A target tile may be loaded in the halves named (R220). -/
def State.loadAllowed (s : State) (t sel : Nat) : Bool :=
  if sel = 0 then s.mcIdle t else s.inMchk t (sel - 1) && s.mode != .sable

/-- A write of START (R220). -/
def State.mcLoadStart (s : State) : State :=
  let sel := s.fld .MC_LOAD_CTRL 1 0
  if s.loadBusy then s.refuse .MC_LOAD_CMD
  else if ¬ s.loadTargets.all (fun t => s.loadAllowed t sel) then (s.refuse .MC_LOAD_CMD).setReg .MC_LOAD_STATUS (2 ^ 30 + 0x0C)
  else
    let s := forUpto 6 s (fun k s => s.setReg .MC_LOAD_FAIL 0 k)
    (s.setReg .MC_LOAD_STATUS (2 ^ 31)).setLat .mcHalf sel

/-- MC_LOAD_START (R220): START is written. -/
def execMcLoadStart (s : State) : Host.Outcome State Fault Refusal := okIf true s.mcLoadStart

/-- The load ends with a code. -/
def State.mcLoadEnd (s : State) (code : Nat) : State := s.setReg .MC_LOAD_STATUS (2 ^ 30 + code)

/-- The load completes, with the tiles whose readback differs (R219, R221). -/
def State.mcLoadDone (s : State) (bad : List Nat) : State :=
  let a := 2 ^ 32 * s.fld .MC_LOAD_ADDR_HI 7 0 + s.reg .MC_LOAD_ADDR_LO
  let sel := s.nlat .mcHalf
  match s.dramOff a with
  | none => s.mcLoadEnd 0x0E
  | some o =>
    let rd := fun k => s.dramByte (o + k)
    let len := 320 + 32 * imgCycles rd
    if s.dramSize < o + len then s.mcLoadEnd 0x0E
    else match s.dramBad o len with
      | some w => (s.dramError (w * 32)).mcLoadEnd 0x0E
      | none =>
        let s := s.dramMeet o len
        let code := s.programCheck rd s.loadTargets
        if code ≠ 0 then s.mcLoadEnd code
        else
          let s1 := forIn' s.loadTargets s (fun t s =>
            let s := s.loadTile rd t sel (bad.contains t)
            if bad.contains t then s.setMapBit .MC_LOAD_FAIL 0 t true else s)
          s1.mcLoadEnd (if s.loadTargets.any (fun t => bad.contains t) then 0x0D else 0)

/-- MC_LOAD_DONE (R221): `bad` names the tiles whose readback differs. -/
def execMcLoadDone (bad : List Nat) (s : State) : Host.Outcome State Fault Refusal :=
  okIf (bad.all (fun t => t < 176)) (if s.loadBusy then s.mcLoadDone bad else s)

/-- A read of MC_CS_DATA[0] captures the addressed word (R230). -/
def State.csRead (s : State) (t : Nat) : State :=
  let w := s.csWord t (s.tfld .MC_CS_ADDR t 16 16) (s.tfld .MC_CS_ADDR t 11 0)
  let s := forUpto 8 s (fun k s => s.setTreg .MC_CS_DATA t (mwField w k) k)
  (s.setTreg .MC_CS_PAR t (w / 2 ^ 256)).respond false (mwField w 0)

/-- CONTROL_STORE_READ (R230): the read of MC_CS_DATA[0] of a tile. -/
def execControlStoreRead (tile : Nat) (s : State) : Host.Outcome State Fault Refusal :=
  okIf (tile < 176) (if s.inUse tile then s.csRead tile else s.addrFault (Reg.addr .MC_CS_DATA tile 0 0))

end Sys2Proof.Machine
end

