-- ==== Sys2Proof/Machine/Trim.lean ====
section
/-! DEFINITION. Non-volatile trim and the wear ledger (R98 to R120): timing sets, the sequencer,
re-centring, the ledger in DRAM and its log in flash, headroom. -/
namespace Sys2Proof.Machine

/-! ### The ledger (R111) -/

/-- Offset in DRAM of the ledger entry of a cell. -/
def State.ledgerOff (s : State) (cell : Nat) : Nat :=
  less (2 ^ 32 * s.fld .WEAR_BASE_HI 7 0 + s.reg .WEAR_BASE_LO) 0x1000000000 + 64 + 16 * cell

/-- COUNT of a cell: pulses applied since the ledger was created. -/
def State.wearCount (s : State) (cell : Nat) : Nat := s.dramVal (s.ledgerOff cell) 4

/-- BUDGET of a cell. -/
def State.wearBudget (s : State) (cell : Nat) : Nat := s.dramVal (s.ledgerOff cell + 4) 4

/-- The tile's copy of the ledger word at byte 8 is written through to the ledger (R119). -/
def State.ledgerTap (s : State) (t c : Nat) : State :=
  s.dramWrite (s.ledgerOff (64 * t + c) + 8) (leBytes 4 (s.tfld .TRIM_TAP t 15 0 c))

/-- A field of the ledger word of a channel is written, in the tile's copy and in the ledger. -/
def State.setTap (s : State) (t c hi lo v : Nat) : State := (s.setTfld .TRIM_TAP t hi lo v c).ledgerTap t c

/-- Reading an entry that holds an uncorrectable error makes its cell RETIRED and TAP_UNKNOWN
until reset (R435). -/
def State.ledgerCheck (s : State) (t c : Nat) : State :=
  let o := s.ledgerOff (64 * t + c)
  match s.dramBad o 16 with
  | none => s.dramMeet o 16
  | some _ =>
    let s := s.dramError o
    (s.setTfld .TRIM_TAP t 15 15 1 c).setTfld .TRIM_TAP t 12 12 1 c

/-- The channel is retired (R116). -/
def State.retired (s : State) (t c : Nat) : Bool := s.tbit .TRIM_TAP t 15 c

/-- The channel's tap is not known (R106). -/
def State.tapUnknown (s : State) (t c : Nat) : Bool := s.tbit .TRIM_TAP t 12 c

/-! ### Log records (R113) -/

/-- A record is appended; it waits in order until it is durable. -/
def State.appendRec (s : State) (cell kind value : Nat) : State :=
  { s with wearQ := s.wearQ ++ [⟨cell, kind, value, s.reg .WEAR_AGE_S⟩] }

/-- A record of a cell waits to be durable: a step on that cell waits for it. -/
def State.recWaits (s : State) (cell : Nat) : Bool := s.wearQ.any (fun r => r.cell == cell && r.kind != 3)

/-- BLOCKS of a cell: the last RESERVE value (R113). -/
def State.wearBlocks (s : State) (cell : Nat) : Nat := s.nlat .wearBlocks (cell / 64) (cell % 64)

/-- The next pulse on a cell would pass its reservation. -/
def State.needsReserve (s : State) (cell : Nat) : Bool :=
  decide (4096 * s.wearBlocks cell < s.wearCount cell + 1)

/-- The reservation that the next pulse needs is appended, when it is not waiting already. -/
def State.reserve (s : State) (cell : Nat) : State :=
  if s.needsReserve cell && !s.recWaits cell then s.appendRec cell 0 (s.wearBlocks cell + 1) else s

/-! ### Timing sets (R101) -/

/-- A timing set is valid, from edge e on: levels within range, times rising, an end within eight. -/
def State.tsetFrom (s : State) (t k : Nat) : Nat → Nat → Int → Bool
  | 0, _, _ => false
  | n + 1, e, last =>
    let w := s.treg .TRIM_TSET t k e
    let time : Int := bits w 31 16
    let level := bits w 7 0
    if level ≤ 200 ∧ last < time then (if level = 0 then true else State.tsetFrom s t k n (e + 1) time) else false

/-- Timing set k of a tile is valid (R101). -/
def State.tsetOk (s : State) (t k : Nat) : Bool :=
  let w := s.treg .TRIM_TSET t k 0
  bits w 31 16 == 0 && bits w 7 0 != 0 && s.tsetFrom t k 8 0 (-1)

/-! ### Conditions (R104, R105) -/

/-- The tile is visited by a campaign (R338: it is in a stage). -/
def State.inVisit (s : State) (t : Nat) : Bool := s.tfld .TILE_CAL_STATUS t 1 0 != 0

/-- TRIM_CMD is refused in the tile's present condition (R105). -/
def State.trimCmdBarred (s : State) (t : Nat) : Bool :=
  !((s.mode == .characterise || s.mode == .static) && !s.tileHold t && !s.inVisit t)

/-- COOL whole spans have passed since the last pulse on the channel (R104). -/
def State.cooled (s : State) (t c : Nat) : Bool :=
  decide (s.lat .trimEnd t c = 0 ∨ s.lat .trimEnd t c + s.tfld .TRIM_CTRL t 23 20 < s.tileN t + 1)

/-- A train is in progress on the tile. -/
def State.trainOpen (s : State) (t : Nat) : Bool := s.tbit .TRIM_BUSY t 31

/-- The tap a train in a direction would reach, when that lies in 0..63 (R109). -/
def State.trainTarget (s : State) (t c : Nat) (up : Bool) : Option Nat :=
  let k := s.tfld .TRIM_TAP t 5 0 c
  if up then (if k < 63 then some (k + 1) else none) else (if 0 < k then some (k - 1) else none)

/-- A request past the end of the taps (R109): END sets, and TRIM_END is sent once an excursion. -/
def State.trainPastEnd (s : State) (t c : Nat) : State :=
  if s.tbit .TRIM_TAP t 17 c then s else (s.setTbit .TRIM_TAP t 17 true c).send t 0x19 c

/-- A train opens on a channel (R104, R111): TRIM_BUSY and the ledger show it. -/
def State.openTrain (s : State) (t c target : Nat) (up : Bool) : State :=
  let s := s.setTreg .TRIM_BUSY t (2 ^ 31 + c)
  let s := s.setFlag .trainUp up t
  let s := s.setLat .trainTarget target t
  ((s.setTfld .TRIM_TAP t 11 11 (b2n up) c).setTfld .TRIM_TAP t 10 6 0x10 c).ledgerTap t c

/-- A train of the tile's own, re-centring or campaign, is chosen: its OPEN record is appended
(R113) and it opens. One past the end of the taps ends the re-centring of the channel in a visit (R341): it counts
as more taps than MAXTAP allows. -/
def State.chooseTrain (s : State) (t c : Nat) (up : Bool) : State :=
  match s.trainTarget t c up with
  | none => if s.inVisit t then (s.trainPastEnd t c).setLat .calMoved 16 t c else s.trainPastEnd t c
  | some k => (s.appendRec (64 * t + c) 1 (b2n up * 64 + k)).openTrain t c k up

/-- The direction that re-centring needs for a channel whose code lies above (or below) its
window (R108). -/
def State.recentreUp (s : State) (t : Nat) (above : Bool) : Bool := above != s.tbit .TRIM_CTRL t 16

/-- The pending TRIM_CMD of a tile, as the word written. -/
def State.trimCmd (s : State) (t : Nat) : Option Nat :=
  if s.lat .trimCmd t = 0 then none else some (s.nlat .trimCmd t - 1)

/-- The channel may receive its next pulse at this span (R103, R104, R113, R116). -/
def State.pulseReady (s : State) (t c : Nat) : Bool :=
  s.cooled t c && !s.recWaits (64 * t + c) && !s.tbit .TRIM_TAP t 16 c && !s.retired t c

/-- The next pulse of a pending TRIM_CMD is prepared: its records are appended and, when nothing
holds it back, it is chosen (R104, R113). -/
def State.chooseCmd (s : State) (t w : Nat) : State :=
  let c := bits w 5 0
  if s.retired t c then s.setLat .trimCmd 0 t
  else if bits w 31 30 = 2 ∧ ¬ s.flag .trimCmdOpen t then
    match s.trainTarget t c (bit w 29) with
    | none => (s.trainPastEnd t c).setLat .trimCmd 0 t
    | some k =>
      let s := s.appendRec (64 * t + c) 1 (b2n (bit w 29) * 64 + k)
      let s := if s.needsReserve (64 * t + c) then s.appendRec (64 * t + c) 0 (s.wearBlocks (64 * t + c) + 1) else s
      s.setFlag .trimCmdOpen true t
  else
    let s := s.reserve (64 * t + c)
    if s.pulseReady t c then s.setLat .trimChosen 2 t else s

/-- The next requesting channel after the one last served (R104 step 2). DESIGN CHOICE (log entry 63): before any
train has been served the round starts at channel 1, the one after channel 0. -/
def State.nextRequest (s : State) (t : Nat) : Option Nat :=
  ((List.range 64).map (fun k => (s.nlat .trimServed t + 1 + k) % 64)).find? (fun c =>
    s.flag .trimReq t c && !s.tapUnknown t c && !s.retired t c && !s.recWaits (64 * t + c))

/-- PAUSED follows HOLD while a train is in progress (R105, R119). -/
def State.trimPaused (s : State) (t : Nat) : State :=
  if s.trainOpen t then s.setTbit .TRIM_BUSY t 30 (s.inHold || s.tileHold t) else s

/-- At the first grain of a span the sequencer chooses the next pulse (R104, R105). DESIGN CHOICE (log entry
63): in CHARACTERISE, where no re-centring train starts, one that is in progress goes on (R104 step 2). -/
def State.trimChoose (s : State) (t : Nat) : State :=
  let s := s.trimPaused t
  if s.flag .trimRun t then s
  else
    let s := s.setLat .trimChosen 0 t
    if s.inHold || s.tileHold t || s.flag .wearStop || s.mode == .boot || s.mode == .sable then s
    else if s.trainOpen t then
      let c := s.tfld .TRIM_BUSY t 5 0
      let s := s.reserve (64 * t + c)
      if s.pulseReady t c then s.setLat .trimChosen 1 t else s
    else
      match s.trimCmd t with
      | some w => s.chooseCmd t w
      | none =>
        if (s.mode == .static || s.mode == .slotted) && (s.inVisit t || s.tbit .TRIM_CTRL t 24) then
          match s.nextRequest t with
          | none => s
          | some c =>
            let up := decide (s.lat .trimReq t c = 1)
            let s := ((s.setLat .trimServed c t).setLat .trimReq 0 t c).chooseTrain t c up
            if s.trainOpen t then s.reserve (64 * t + c) else s
        else s

/-- A pending TRIM_CMD is discarded when the tile enters a condition that bars it (R104): no pulse
is made; when its OPEN record has been appended, a TAP record with the unchanged tap follows. -/
def State.trimDiscard (s : State) (t : Nat) : State :=
  match s.trimCmd t with
  | none => s
  | some w =>
    let c := bits w 5 0
    let s := if s.flag .trimCmdOpen t then s.appendRec (64 * t + c) 2 (s.tfld .TRIM_TAP t 5 0 c) else s
    let s := (s.setLat .trimCmd 0 t).setFlag .trimCmdOpen false t
    let s := if s.lat .trimChosen t = 2 then s.setLat .trimChosen 0 t else s
    s.setTbit .TRIM_STATUS t 0 true

/-- The pending TRIM_CMD of every tile is discarded. -/
def State.trimDiscardAll (s : State) : State := forIn' s.tiles s (fun t s => s.trimDiscard t)

/-! ### The pulse (R101, R103, R106, R107, R116) -/

/-- A pulse starts with a timing set, or the set is found invalid (R103). -/
def State.startPulse (s : State) (t c k : Nat) (cmd train : Bool) : State :=
  if s.tsetOk t k then
    let s := s.setFlag .trimRun true t
    let s := s.setTbit .TRIM_STATUS t 2 true
    let s := s.setLat .pulseCh c t
    let s := s.setFlag .pulseTrain train t
    let s := forUpto 8 s (fun e s => s.setLat .pulseSet (s.treg .TRIM_TSET t k e) t e)
    let s := s.setFlag .trimTag true t c
    if cmd then (s.setLat .trimCmd 0 t).setFlag .trimCmdOpen false t else s
  else
    let s := s.setTbit .TRIM_STATUS t 1 true
    let s := (s.send t 0x18 c).setTbit .TRIM_TAP t 16 true c
    let s := s.setLat .suspSet k t c
    if cmd then (s.setLat .trimCmd 0 t).setFlag .trimCmdOpen false t else s

/-- TRIM_PULSE_START (R104 step 3): at grain START the chosen pulse starts, unless a record has failed to become
durable meanwhile (R113). -/
def execTrimPulseStart (tile : Nat) (s : State) : Host.Outcome State Fault Refusal :=
  okIf (tile < 176) <|
    let k := s.nlat .trimChosen tile
    let s1 := s.setLat .trimChosen 0 tile
    if !s.inUse tile || s.inHold || s.tileHold tile || s.sable || s.flag .wearStop then s1
    else if k = 1 then
      let c := s.tfld .TRIM_BUSY tile 5 0
      let set := if s.flag .trainUp tile then s.tfld .TRIM_CHSET tile 2 0 c else s.tfld .TRIM_CHSET tile 6 4 c
      s1.startPulse tile c set false true
    else if k = 2 then
      match s.trimCmd tile with
      | none => s1
      | some w =>
        let c := bits w 5 0
        if bits w 31 30 = 1 then s1.startPulse tile c (bits w 26 24) true false
        else
          match s.trainTarget tile c (bit w 29) with
          | none => s1
          | some k =>
            let set := if bit w 29 then s.tfld .TRIM_CHSET tile 2 0 c else s.tfld .TRIM_CHSET tile 6 4 c
            (s1.openTrain tile c k (bit w 29)).startPulse tile c set true true
    else s1

/-- The thresholds of R116 after a pulse; each acts once. -/
def State.wearThresholds (s : State) (t c : Nat) (report : Bool) : State :=
  let cell := 64 * t + c
  let n := s.wearCount cell
  let b := s.wearBudget cell
  let act := fun (reached : Bool) (f kind : Nat) (s : State) =>
    if reached && !s.tbit .TRIM_TAP t f c then
      let s := s.setTap t c f f 1
      let s := if 14 ≤ f then s.setMapBit .WEAR_LOW_TILE 0 t true else s
      if report then s.send 0x10D kind cell else s
    else s
  let s := act (b * s.fld .WEAR_ALARM 7 0 ≤ n * 100) 13 0x1B s
  let s := act (b * s.fld .WEAR_ALARM 15 8 ≤ n * 100) 14 0x1C s
  act (b ≤ n) 15 0x1D s

/-- One pulse on a cell is counted in the ledger (R111). -/
def State.countPulse (s : State) (t c : Nat) : State :=
  let s := s.ledgerCheck t c
  let o := s.ledgerOff (64 * t + c)
  let n := s.wearCount (64 * t + c) + 1
  (s.dramWrite o (leBytes 4 n)).dramWrite (o + 12) (leBytes 4 (s.reg .WEAR_AGE_S))

/-- The open train of a tile ends: the sequencer is free (R116, R119). -/
def State.closeTrain (s : State) (t c : Nat) : State :=
  ((s.setTreg .TRIM_BUSY t 0).setTfld .TRIM_TAP t 11 6 0 c).ledgerTap t c

/-- Pulses per tap; 0 is read as 16 (R119). -/
def State.pulsesPerTap (s : State) (t : Nat) : Nat :=
  let n := s.tfld .TRIM_DWELL t 19 16
  if n = 0 then 16 else n

/-- A pulse of the open train has been applied (R98, R113, R116). DEDUCED (log entry 31): a train that completes on
a cell whose tap is unknown leaves it so, since R106 names ASSIGN alone. -/
def State.trainPulse (s : State) (t c : Nat) : State :=
  let n := s.tfld .TRIM_BUSY t 9 6 + 1
  if s.pulsesPerTap t ≤ n then
    let k := s.nlat .trainTarget t
    let s := (s.closeTrain t c).setTap t c 5 0 k
    let s := s.setTbit .TRIM_TAP t 17 false c
    let s := s.appendRec (64 * t + c) 2 k
    let s := s.setLat .trimDwell 0 t c
    (s.setLat .calMoved (s.lat .calMoved t c + 1) t c).setLat .calTrain (s.tileN t + 1) t c
  else if s.retired t c then (s.closeTrain t c).setTap t c 12 12 1
  else (s.setTfld .TRIM_BUSY t 9 6 n).setTap t c 9 6 n

/-- The pulse in progress of a tile stops: its lines go to 0 V (State.trow, State.tcol; R51). -/
def State.pulseOff (s : State) (t c : Nat) : State :=
  let s := (s.setFlag .trimRun false t).setTbit .TRIM_STATUS t 2 false
  let s := s.setLat .trimEnd (s.tileN t + 1) t c
  s.setLat .trimTagTo (s.tileN t + 1) t c

/-- TRIM_PULSE_END (R101): the pulse in progress ends at its last edge; the count, the train, the
tap and the wear thresholds follow. -/
def execTrimPulseEnd (tile : Nat) (s : State) : Host.Outcome State Fault Refusal :=
  okIf (tile < 176) <|
    if s.flag .trimRun tile then
      let c := s.nlat .pulseCh tile
      let s := (s.pulseOff tile c).countPulse tile c
      let s := s.wearThresholds tile c true
      if s.flag .pulseTrain tile then s.trainPulse tile c else s.ledgerTap tile c
    else s

/-- A pulse cut under R59: it counts as one write and the tap is unknown (R106). -/
def State.cutPulse (s : State) (t : Nat) : State :=
  if s.flag .trimRun t then
    let c := s.nlat .pulseCh t
    let s := (s.pulseOff t c).countPulse t c
    let s := s.wearThresholds t c true
    let s := if s.flag .pulseTrain t then s.closeTrain t c else s
    (s.setTap t c 12 12 1).setFlag .tapCut true t c
  else s

/-- Every pulse of the device is cut (R59). -/
def State.cutPulses (s : State) : State := forIn' s.tiles s (fun t s => s.cutPulse t)

/-! ### TRIM_CMD (R119) -/

/-- A TRIM_CMD that is refused whatever its operation: barred (R105), a train in progress, another
command pending (R104), a retired channel. -/
def State.trimCmdRefused (s : State) (t c : Nat) : Bool :=
  s.trimCmdBarred t || s.trainOpen t || (s.trimCmd t).isSome || s.retired t c || s.chRole t c == 0

/-- A write of TRIM_CMD (R119): `w` is the word. -/
def State.trimCommand (s : State) (t w : Nat) : State :=
  let c := bits w 5 0
  match bits w 31 30 with
  | 1 => if s.trimCmdRefused t c then s.refuse .TRIM_CMD t else s.setLat .trimCmd (w + 1) t
  | 2 =>
    if s.trimCmdRefused t c then s.refuse .TRIM_CMD t
    else match s.trainTarget t c (bit w 29) with
      | none => s.trainPastEnd t c
      | some _ => s.setLat .trimCmd (w + 1) t
  | 3 =>
    if s.mode ≠ .characterise ∨ s.trimCmdRefused t c then s.refuse .TRIM_CMD t
    else
      let s := (s.setTfld .TRIM_TAP t 12 6 0 c).setTfld .TRIM_TAP t 17 17 0 c
      let s := s.setFlag .tapCut false t c
      (s.setTap t c 5 0 (bits w 13 8)).appendRec (64 * t + c) 2 (bits w 13 8)
  | _ => s

/-- TRIM_CMD_PULSE (R119): one pulse with the named timing set, no tap change. -/
def execTrimCmdPulse (tile ch : Nat) (up : Bool) (set : Nat) (s : State) : Host.Outcome State Fault Refusal :=
  okIf (tile < 176 && ch < 64 && set < 8) <|
    if s.inUse tile then s.trimCommand tile (2 ^ 30 + 2 ^ 29 * b2n up + 2 ^ 24 * set + ch)
    else s.addrFault (Reg.addr .TRIM_CMD tile 0 0)

/-- TRIM_CMD_TRAIN (R119): one tap move. -/
def execTrimCmdTrain (tile ch : Nat) (up : Bool) (s : State) : Host.Outcome State Fault Refusal :=
  okIf (tile < 176 && ch < 64) <|
    if s.inUse tile then s.trimCommand tile (2 ^ 31 + 2 ^ 29 * b2n up + ch)
    else s.addrFault (Reg.addr .TRIM_CMD tile 0 0)

/-- TRIM_CMD_ASSIGN (R119): the tap is set and TAP_UNKNOWN cleared. -/
def execTrimCmdAssign (tile ch tap : Nat) (s : State) : Host.Outcome State Fault Refusal :=
  okIf (tile < 176 && ch < 64 && tap < 64) <|
    if s.inUse tile then s.trimCommand tile (3 * 2 ^ 30 + 2 ^ 8 * tap + ch)
    else s.addrFault (Reg.addr .TRIM_CMD tile 0 0)

/-- An edge of a timing set is written; every channel whose pulse found the set invalid is no
longer suspended (R103). -/
def State.writeTset (s : State) (t k e v : Nat) : State :=
  let s := s.setTreg .TRIM_TSET t (v &&& 0xFFFF00FF) k e
  forUpto 64 s (fun c s =>
    if s.tbit .TRIM_TAP t 16 c && s.nlat .suspSet t c == k then s.setTbit .TRIM_TAP t 16 false c else s)

/-- TRIM_TSET_WRITE (R103). -/
def execTrimTsetWrite (tile set edge value : Nat) (s : State) : Host.Outcome State Fault Refusal :=
  okIf (tile < 176 && set < 8 && edge < 8 && value < 2 ^ 32) <|
    if s.inUse tile then s.writeTset tile set edge value else s.addrFault (Reg.addr .TRIM_TSET tile set edge)

/-! ### Re-centring (R108, R109) -/

/-- The loop part of a channel lies above its trim window. -/
def State.trimAbove (s : State) (t c : Nat) : Bool := decide (s.tfld .TRIM_WIN t 31 16 < s.tfld .HTR_PARTS t 15 0 c)

/-- The loop part of a channel lies below its trim window. -/
def State.trimBelow (s : State) (t c : Nat) : Bool := decide (s.tfld .HTR_PARTS t 15 0 c < s.tfld .TRIM_WIN t 15 0)

/-- At a span boundary, before the sequencer chooses: an END excursion ends inside the window (R109), and outside
a campaign visit a request ends whose loop has opened or whose code has left the side it was made for (R108). -/
def State.recentreDrop (s : State) (t c : Nat) : State :=
  let above := s.trimAbove t c
  let below := s.trimBelow t c
  let s := if !above && !below && s.tbit .TRIM_TAP t 17 c then s.setTbit .TRIM_TAP t 17 false c else s
  let req := s.nlat .trimReq t c
  if req = 0 ∨ s.inVisit t = true then s
  else if s.mapBit .LOOP_ISOPEN t c || (!above && !below) || req != (if s.recentreUp t above then 1 else 2) then
    s.setLat .trimReq 0 t c
  else s

/-- At a span boundary, after the sequencer has chosen: the dwell count of a closed loop, and the request that it
brings, which is served from the next span on (R108 and its worked example). -/
def State.recentreCount (s : State) (t c : Nat) : State :=
  let above := s.trimAbove t c
  if s.mapBit .LOOP_ISOPEN t c then s
  else if !above && !s.trimBelow t c then s.setLat .trimDwell 0 t c
  else
    let old := s.lat .trimDwell t c
    let n : Int := if above then (if 0 < old then old + 1 else 1) else (if old < 0 then old - 1 else -1)
    let s := s.setLat .trimDwell n t c
    if s.tfld .TRIM_DWELL t 15 0 ≤ n.natAbs && s.tbit .TRIM_CTRL t 24 && !s.inVisit t && !s.trainOpen t
        && !s.tapUnknown t c && !s.retired t c then
      s.setLat .trimReq (if s.recentreUp t above then 1 else 2) t c
    else s

/-- The trims of a tile at a span boundary: requests that end, the choice of the next pulse, the dwell counts. -/
def State.trimBoundary (s : State) (t : Nat) : State :=
  let s := forUpto 64 s (fun c s => if s.chRole t c = 0 then s else s.recentreDrop t c)
  let s := s.trimChoose t
  if s.mode == .static || s.mode == .slotted then
    forUpto 64 s (fun c s => if s.chRole t c = 0 then s else s.recentreCount t c)
  else s

/-! ### Flash log (R113, R115, R469) -/

/-- Bytes in one half of the log region. -/
def State.logHalf (s : State) : Nat := s.nlat .logBytes / 2

/-- Flash address of half h of the log region. -/
def State.logAddr (s : State) (h : Nat) : Nat := s.nlat .logBase + h * s.logHalf

/-- The 8 bytes of a record (R113). -/
def WearRec.bytes (r : WearRec) : List Byte :=
  leBytes 4 (2 ^ 18 * (r.cell % 2 ^ 14) + 2 ^ 16 * (r.kind % 4) + r.value % 2 ^ 16) ++ leBytes 4 r.age

/-- The records of a snapshot (R115): for every cell in use its reservation and its tap, and one AGE record.
DESIGN CHOICE (log entry 64): a cell without a reservation gets a RESERVE record of VALUE 0, which a rebuild
reads as COUNT 0. -/
def State.logSnapshot (s : State) (age : Nat) : List WearRec :=
  (s.cells.flatMap (fun x =>
    [WearRec.mk x 0 (s.wearBlocks x) age, WearRec.mk x 2 (s.tfld .TRIM_TAP (x / 64) 5 0 (x % 64)) age])) ++
    [WearRec.mk 0x3FFF 3 0 age]

/-- AGE_S of the oldest record that waits, or now: AGE_S never decreases along the log (R469), and the waiting
records follow the snapshot. -/
def State.logAge (s : State) : Nat :=
  match s.wearQ with
  | [] => s.reg .WEAR_AGE_S
  | r :: _ => r.age

/-- Compaction starts where the half in use has no room for another record (R115): its records go
into the other half, after the place of the snapshot. -/
def State.logRoom (s : State) : State :=
  if s.logHalf < s.reg .WEAR_LOG_FILL + 8 ∧ ¬ s.rbit .WEAR_STATUS 1 then
    let s := s.setRbit .WEAR_STATUS 1 true
    let s := s.setLat .snapAge s.logAge
    let s := s.setLat .logUse (1 - s.nlat .logUse : Nat)
    s.setReg .WEAR_LOG_FILL (16 + 8 * (2 * s.cells.length + 1))
  else s

/-- A record is programmed at the end of the log half in use; a half that is then full starts the
compaction into the other half (R115). -/
def State.logPut (s : State) (r : WearRec) : State :=
  let n := s.reg .WEAR_LOG_FILL
  let s := (s.flashPut (s.logAddr (s.nlat .logUse) + n) r.bytes).setReg .WEAR_LOG_FILL (n + 8)
  (if r.kind = 0 then s.setLat .wearBlocks r.value (r.cell / 64) (r.cell % 64) else s).logRoom

/-- WEAR_RECORD_DURABLE (R113): the oldest waiting record is in flash, or it could not be made
durable, WEAR_NVM is sent and no further pulse starts until reset. -/
def execWearRecordDurable (ok : Bool) (s : State) : Host.Outcome State Fault Refusal :=
  okIf true <|
    match s.wearQ with
    | [] => s
    | r :: q =>
      let s := { s with wearQ := q }
      if ok then s.logPut r
      else (((s.setRbit .WEAR_STATUS 2 true).setFlag .wearStop true).send 0x10D 0x1A 0)

/-- Every byte of a flash range is erased. -/
def State.flashErase (s : State) (a n : Nat) : State :=
  { s with flash := s.flash.filter (fun e => ¬ (a ≤ e.1 ∧ e.1 < a + n)) }

/-- LOG_COMPACTION_DONE (R115, R469): the snapshot and then the header are in the new half, and the
full half is erased. -/
def execLogCompactionDone (s : State) : Host.Outcome State Fault Refusal :=
  okIf true <|
    if s.rbit .WEAR_STATUS 1 then
      let h := s.nlat .logUse
      let recs := s.logSnapshot (s.nlat .snapAge)
      let gen := s.nlat .logGen + 1
      let s := s.flashPut (s.logAddr h + 16) (recs.flatMap WearRec.bytes)
      let s := s.flashPut (s.logAddr h) (leBytes 4 0x474F4C57 ++ leBytes 4 gen ++ leBytes 8 0)
      let s := s.flashErase (s.logAddr (1 - h)) s.logHalf
      (s.setLat .logGen gen).setRbit .WEAR_STATUS 1 false
    else s

/-- AGE_TICK (R112): one powered second; an AGE record every 3,600 s. -/
def execAgeTick (s : State) : Host.Outcome State Fault Refusal :=
  okIf true <|
    let a := s.reg .WEAR_AGE_S + 1
    let s := s.setReg .WEAR_AGE_S a
    let s := if s.flag .ledgerUp then s.dramWrite (s.ledgerOff 0 - 52) (leBytes 4 a) else s
    if a % 3600 = 0 && s.flag .ledgerUp then s.appendRec 0x3FFF 3 0 else s

/-! ### Headroom (R117) -/

/-- The headroom of a cell: the allowance of its age less its count, saturated. -/
def State.headroom (s : State) (cell : Nat) : Int :=
  sat32 ((s.wearBudget cell * s.reg .WEAR_AGE_S / s.reg .WEAR_LIFE_S : Nat) - (s.wearCount cell : Nat))

/-- A write of WEAR_QUERY (R120). DESIGN CHOICE (log entry 63): one that comes while an earlier query is being
computed takes its place. -/
def State.wearQuery (s : State) (w : Nat) : State :=
  if 11263 < bits w 13 0 then s.refuse .WEAR_QUERY
  else (s.setRbit .WEAR_STATUS 0 false).setLat .wearQueryCell (bits w 13 0 + 1)

/-- WEAR_QUERY (R120): `cell` is field [13:0] of the word written. -/
def execWearQuery (cell : Nat) (s : State) : Host.Outcome State Fault Refusal :=
  okIf (cell < 2 ^ 14) (s.wearQuery cell)

/-- WEAR_QUERY_DONE (R117): the result of the query in progress. -/
def execWearQueryDone (s : State) : Host.Outcome State Fault Refusal :=
  okIf true <|
    if s.lat .wearQueryCell = 0 then s
    else
      let c := s.nlat .wearQueryCell - 1
      let s := s.ledgerCheck (c / 64) (c % 64)
      let s := s.setReg .WEAR_HEADROOM (ux 32 (s.headroom c))
      (s.setRbit .WEAR_STATUS 0 true).setLat .wearQueryCell 0

end Sys2Proof.Machine
end

