-- ==== Sys2Proof/Machine/Pins.lean ====
section
/-! DEFINITION. The signal bumps of a tile site (R49 to R51, R58, R59): what each carries in a state. -/
namespace Sys2Proof.Machine

/-- What an output or input bump of a tile site is held at (R51, R58). -/
inductive Bump where
  /-- High impedance. -/
  | hiZ
  /-- The output of a driver or heater at a code (R70, R75). -/
  | code (n : Nat)
  /-- 0 V. -/
  | gnd
  /-- The trim pulse. -/
  | pulse
  /-- 3.3 V from VDRV. -/
  | vdrv
  /-- 0.60 V, a monitor input in service. -/
  | bias
deriving DecidableEq, Repr

/-- The site of a tile is at high impedance (R58): at power-up and under RESET_N, and where the tile is not in
use, which is powered down after BOOT (R32). -/
def State.siteOff (s : State) (t : Nat) : Bool := s.lat .bootStep == 20 || (s.mode != .boot && !s.inUse t)

/-- DRV[c] of a tile. -/
def State.drvBump (s : State) (t c : Nat) : Bump := if s.siteOff t then .hiZ else .code (s.tfld .DRV_ACTIVE t 11 0 c)

/-- HTR[c] of a tile. -/
def State.htrBump (s : State) (t c : Nat) : Bump := if s.siteOff t then .hiZ else .code (s.tfld .HTR_ACTIVE t 15 0 c)

/-- MB[c] and MX[c] of a tile. -/
def State.monBump (s : State) (t : Nat) : Bump := if s.siteOff t then .hiZ else .bias

/-- TROW[k] of a tile (R50, R51): the row of the channel that is pulsed carries the pulse, every other 0 V. -/
def State.trow (s : State) (t k : Nat) : Bump :=
  if s.siteOff t then .hiZ else if s.flag .trimRun t && s.nlat .pulseCh t / 8 == k then .pulse else .gnd

/-- TCOL[k] of a tile (R50, R51): during a pulse the column of the channel is held at 0 V and every other at
3.3 V; else every one at 0 V. -/
def State.tcol (s : State) (t k : Nat) : Bump :=
  if s.siteOff t then .hiZ else if s.flag .trimRun t && s.nlat .pulseCh t % 8 != k then .vdrv else .gnd

/-! ### Where the bumps stand (R485 to R487), in tenths of a micrometre -/

/-- The signals of a tile site. -/
inductive Signal where
  | mb
  | mx
  | htr
  | drv
  | trow
  | tcol
deriving DecidableEq, Repr

/-- The signal, and its index, of the bump in column i and row j of a tile site (R486). -/
def siteBump (i j : Nat) : Signal × Nat :=
  if j < 4 then (.mb, 16 * j + i)
  else if j < 8 then (.mx, 16 * (j - 4) + i)
  else if j < 12 then (.htr, 16 * (j - 8) + i)
  else if j < 16 then (.drv, 16 * (j - 12) + i)
  else if i < 8 then (.trow, i)
  else (.tcol, i - 8)

/-- Column and row of a signal's bump (R486). -/
def bumpSite : Signal → Nat → Nat × Nat
  | .mb, k => (k % 16, k / 16)
  | .mx, k => (k % 16, k / 16 + 4)
  | .htr, k => (k % 16, k / 16 + 8)
  | .drv, k => (k % 16, k / 16 + 12)
  | .trow, k => (k, 16)
  | .tcol, k => (k + 8, 16)

/-- The origin of the tile cell of tile t (R485). -/
def cellOrigin (t : Nat) : Nat × Nat := (10000 + 15000 * (t % 16), 30000 + 25000 * (t / 16))

/-- Where the bump (i, j) of tile t stands on the fabric face (R485). -/
def bumpAt (t i j : Nat) : Nat × Nat := ((cellOrigin t).1 + 5625 + 250 * i, (cellOrigin t).2 + 10500 + 250 * j)

/-- The fabric die's pad that a place on the fabric face meets, in the fabric die's own coordinates (R487). -/
def fabricPad (p : Nat × Nat) : Nat × Nat := (260000 - p.1, p.2)

/-- What a signal of a tile carries (R49). -/
def State.bump (s : State) (t : Nat) : Signal → Nat → Bump
  | .mb, _ => s.monBump t
  | .mx, _ => s.monBump t
  | .htr, k => s.htrBump t k
  | .drv, k => s.drvBump t k
  | .trow, k => s.trow t k
  | .tcol, k => s.tcol t k

end Sys2Proof.Machine
end

