-- ==== Sys2Proof/Machine/Red.lean ====
section
/-! DEFINITION. Redundant halves (R369 to R392): the token decision, rejoin, tile HOLD, the slot
timer pair and the management cores. -/
namespace Sys2Proof.Machine

/-! ### Tile HOLD (R28, R383) -/

/-- The stage of a tile's visit (R339): 0 none, 1 RECENTRE, 2 MEASURE. -/
def State.calStage (s : State) (t : Nat) : Nat := s.tfld .TILE_CAL_STATUS t 1 0

/-- The stage changes. -/
def State.setCalStage (s : State) (t v : Nat) : State := s.setTfld .TILE_CAL_STATUS t 1 0 v

/-- A tile's staged values are discarded: what is staged reads what is in force (R339, R346). -/
def State.calDiscard (s : State) (t : Nat) : State :=
  let s := forUpto 2 s (fun k s => s.setTreg .TILE_CMPT_NEXT t (s.treg .TILE_CMPT t k) k)
  forUpto 2 s (fun k s => s.setTreg .TILE_SKEW_NEXT t (s.treg .TILE_SKEW t k) k)

/-- A tile's calibration entry no longer runs or waits. -/
def State.calEntryOff (s : State) (t : Nat) : State := (s.setLat .calEntry 0 t).setTbit .MC_STATUS t 3 false

/-- A tile is skipped (R339). -/
def State.calSkip (s : State) (t : Nat) : State :=
  (((s.setCalStage t 0).calEntryOff t).calDiscard t).setMapBit .CAL_SKIP_TILE 0 t true

/-- A tile enters HOLD (R28): its codes freeze, running moves pause (R185), a pending TRIM_CMD is
discarded (R104), a campaign's visit to it is skipped (R339), and its change of HOLD is published. The drift estimate
of a tile that a device HOLD already holds goes on (R385). -/
def State.enterTileHold (s : State) (t : Nat) : State :=
  if s.tileHold t then s
  else
    let s := s.setMapBit .MGT_TILE_HOLD 0 t true
    let s := ((s.prfPauseTile t).trimDiscard t).trimPaused t
    let s := if s.calStage t = 0 then s else s.calSkip t
    let s := if s.inHold then s else (s.setLat .holdMs 0 t).setLat .tileDrift 0 t
    s.publish t

/-- A cause of tile HOLD is set: 0 CMD, 1 FAULT, 2 REJOIN. -/
def State.setTileCause (s : State) (t cause : Nat) : State := (s.setTbit .RED_THCAUSE t cause true).enterTileHold t

/-- A tile leaves HOLD at the first span boundary at which no cause is set, unless it holds no valid
program (R229) or one is being loaded into it (R220). A cause that clears in the grain of the boundary counts at the following one (R502). -/
def State.leaveTileHold (s : State) (t : Nat) : State :=
  if s.tileHold t && s.before.treg .RED_THCAUSE t == 0 && s.treg .RED_THCAUSE t == 0 && !s.mustHold t then
    let s := s.setMapBit .MGT_TILE_HOLD 0 t false
    let s := if s.inHold then s else (s.setLat .holdMs 0 t).composeLeft t
    s.publish t
  else s

/-- The unacknowledged list lets a tile's FAULT cause clear (R402). -/
def State.tileAcked (s : State) (t : Nat) : Bool :=
  !s.unacks.any (fun u => u.tile == some t) && !s.flag .unackOvf

/-! ### Half states and rejoin (R375 to R384) -/

/-- A rejoin ends with its half OUT (R377, R379): cause 0 CS, 1 mismatch, 2 machine check, 3 DISABLE
or reset; after the first two an automatic rejoin may follow (R382). -/
def State.rejoinFail (s : State) (t h cause : Nat) : State :=
  let s := (s.setTreg .RED_REJOIN t 0).setHalf t h 0
  let s := if cause < 2 then s.setLat .outAuto 1 t h else s
  s.send 0x104 0x55 (2 ^ 10 * cause + 2 ^ 8 * h + t)

/-- The drive token moves to half h (R371). -/
def State.moveToken (s : State) (t h : Nat) : State :=
  ((s.setTfld .RED_TSTATE t 31 31 h).setHalf t h 1).satAdd .RED_TOKEN_CNT 1 t

/-- A rejoin of half h would be accepted (R377). -/
def State.rejoinOk (s : State) (t h : Nat) : Bool :=
  s.halfState t h == 0 && s.halfState t (1 - h) == 1 && !s.loadBusy && s.tfld .TILE_CAL_STATUS t 1 0 != 2

/-- Data memory of half h as far as the program reaches, 0x0000..0x1EFF, becomes that of the other
half (R377). -/
def State.copyDm (s : State) (t h : Nat) : State :=
  forUpto 0x1F00 s (fun a s => s.setDm t h a (s.dmWord t (1 - h) a))

/-- The registers and the output bank of half h become those of the other half (R377). -/
def State.copyRegs (s : State) (t h : Nat) : State :=
  let s := forUpto 48 s (fun n s => s.setLat .engG (s.lat .engG t (64 * (1 - h) + n)) t (64 * h + n))
  let s := forUpto 16 s (fun n s => s.setLat .engP (s.lat .engP t (16 * (1 - h) + n)) t (16 * h + n))
  let s := forUpto 16 s (fun n s => s.setLat .engH (s.lat .engH t (16 * (1 - h) + n)) t (16 * h + n))
  forUpto 64 s (fun c s => s.setLat .engOut (s.lat .engOut t (64 * (1 - h) + c)) t (64 * h + c))

/-- The state of half h is set to 0 (R384). -/
def State.zeroHalf (s : State) (t h : Nat) : State :=
  let s := forUpto 0x1F00 s (fun a s => s.setDm t h a 0)
  let s := forUpto 48 s (fun n s => s.setLat .engG 0 t (64 * h + n))
  let s := forUpto 16 s (fun n s => (s.setLat .engP 0 t (16 * h + n)).setLat .engH 0 t (16 * h + n))
  (forUpto 64 s (fun c s => s.setLat .engOut 0 t (64 * h + c))).dropPipe t h

/-- Control-store words 0..3,967 of the two halves are equal, parity included (R377). -/
def State.sameCs (s : State) (t : Nat) : Bool := (List.range 3968).all (fun w => s.csWord t 0 w == s.csWord t 1 w)

/-- RED_REJOIN is written: phase, half, spans done in the phase. -/
def State.setRejoin (s : State) (t phase h n : Nat) : State := s.setTreg .RED_REJOIN t (2 ^ 30 * phase + 2 ^ 29 * h + n)

/-- A rejoin begins its CHECK. -/
def State.beginCheck (s : State) (t h : Nat) : State := (s.setRejoin t 1 h 0).setHalf t h 4

/-- A rejoin moves on at a span boundary (R377). -/
def State.rejoinAdvance (s : State) (t : Nat) : State :=
  let w := s.treg .RED_REJOIN t
  let h := bits w 29 29
  let n := bits w 6 0
  match bits w 31 30 with
  | 0 =>
    if s.flag .rjReq t && s.before.flag .rjReq t then
      let h := s.nlat .rjReq t - 1
      let s := s.setLat .rjReq 0 t
      if s.halfState t h == 0 && s.halfState t (1 - h) == 1 then s.beginCheck t h else s
    else s
  | 1 => if s.sameCs t then ((s.setRejoin t 2 h 0).setHalf t h 5).copyDm t h else s.rejoinFail t h 0
  | 2 =>
    if n = 0 then (s.setRejoin t 2 h 1).copyDm t h
    else (((s.copyDm t h).copyRegs t h).setRejoin t 3 h 0).setHalf t h 6
  | _ => if n + 1 = 64 then (s.setTreg .RED_REJOIN t 0).setHalf t h 2 else s.setRejoin t 3 h (n + 1)

/-- The automatic rejoin of a half that became OUT before this boundary (R382); one that R377 does not allow there is
not tried again (log entry 72). -/
def State.autoRejoin (s : State) (t h : Nat) : State :=
  if s.lat .outAuto t h = 1 then
    let s := s.setLat .outAuto 0 t h
    if s.rbit .RED_CTRL 31 && s.nlat .autoN t h < s.fld .RED_CTRL 26 24 && s.rejoinOk t h
        && s.tfld .RED_REJOIN t 31 30 == 0 && !s.flag .rjReq t then
      (s.setLat .autoN (s.lat .autoN t h + 1) t h).beginCheck t h
    else s
  else s

/-- A RESTART takes effect (R384). -/
def State.restartHalves (s : State) (t sel : Nat) : State :=
  let first := if sel % 2 = 1 then 0 else 1
  let s := forUpto 2 s (fun h s => if bit sel h then s.zeroHalf t h else s.setHalf t h 0)
  let s := (s.setTreg .RED_REJOIN t 0).setLat .rjReq 0 t
  let s := if s.token t = first then s else s.satAdd .RED_TOKEN_CNT 1 t
  let s := (s.setTfld .RED_TSTATE t 31 31 first).setHalf t first 1
  let s := if sel = 3 then (s.setRejoin t 3 1 0).setHalf t 1 6 else s
  s.setTbit .RED_THCAUSE t 2 false

/-- A DISABLE takes effect (R391): it is dropped where the token can no longer move. -/
def State.disableHalf (s : State) (t h : Nat) : State :=
  let s := (s.setFlag .redDis false t h).setLat .outAuto 0 t h
  if s.halfState t h = 1 then
    if s.halfState t (1 - h) = 2 then (s.moveToken t (1 - h)).setHalf t h 0 else s
  else if s.tfld .RED_REJOIN t 31 30 ≠ 0 ∧ s.tfld .RED_REJOIN t 29 29 = h then s.rejoinFail t h 3
  else s.setHalf t h 0

/-- The token decision of the span that ends takes effect (R375). -/
def State.applyDecision (s : State) (t : Nat) : State :=
  let s := forUpto 2 s (fun h s => if s.flag .decState t h then s.setHalf t h (s.nlat .decState t h - 1) else s)
  let s := if s.flag .decMove t then s.moveToken t (1 - s.token t) else s
  let s := if s.flag .decHold t then s.setTileCause t 2 else s
  let s := forUpto 2 s (fun h s =>
    let s := s.setLat .decState 0 t h
    if s.lat .outAuto t h = 2 then s.setLat .outAuto 1 t h else s)
  (s.setLat .decMove 0 t).setLat .decHold 0 t

/-- The pair of a tile at the boundary at which one of its spans begins: the decision, the commands that were
pending before this grain (R502), the rejoin, and the heartbeats of the new span. -/
def State.redBoundary (s : State) (t : Nat) : State :=
  let s := forUpto 2 s (fun h s => s.autoRejoin t h)
  let s := s.applyDecision t
  let s := forUpto 2 s (fun h s => if s.flag .redDis t h && s.before.flag .redDis t h then s.disableHalf t h else s)
  let s := s.rejoinAdvance t
  let s := if s.flag .redRestart t && s.before.flag .redRestart t then (s.restartHalves t (s.nlat .redRestart t)).setLat .redRestart 0 t else s
  forUpto 2 s (fun h s => (s.setLat .hbSent 0 t h).setLat .hbGot 0 t h)

/-! ### Heartbeats and the token decision (R373 to R375) -/

/-- HEARTBEAT_RECEIVED (R373): the supervisor receives a half's first or second heartbeat message
of the span. -/
def execHeartbeatReceived (tile half : Nat) (second : Bool) (s : State) : Host.Outcome State Fault Refusal :=
  okIf (tile < 176 && half < 2) <|
    if s.inUse tile && bit (s.nlat .hbSent tile half) (1 + b2n second) then
      s.setLat .hbGot (s.nlat .hbGot tile half ||| (1 + b2n second) : Nat) tile half
    else s

/-- A path of a half in one span (R374): path 0 interlock, 1 management. A lost path is reported
once, until it has been present for 16 consecutive spans. -/
def State.judgePath (s : State) (t h path : Nat) (present : Bool) : State :=
  let b := 18 + 2 * h + path
  let s :=
    if present then
      if s.tbit .RED_TSTATE t b then
        let n := s.nlat .pathGood t h path + 1
        if 16 ≤ n then (s.setTbit .RED_TSTATE t b false).setLat .pathGood 0 t h path else s.setLat .pathGood n t h path
      else s
    else
      let s := s.setLat .pathGood 0 t h path
      if s.tbit .RED_TSTATE t b then s
      else (s.setTbit .RED_TSTATE t b true).send 0x104 (0x50 + path) (2 ^ 8 * h + t)
  s.setMapBit .RED_PATH_TILE 0 t (s.tfld .RED_TSTATE t 21 18 != 0)

/-- How a half is judged: alive, dead, in machine check since this span, or not executing. -/
inductive Judged where
  | alive
  | dead
  | mchk
  | idle
deriving DecidableEq, Repr

/-- The judgement of a half (R374): `ilk` and `mgt` say which paths were present. -/
def State.judge (s : State) (t h : Nat) (ilk mgt : Bool) : Judged :=
  if s.flag .mchkNew t h then .mchk
  else if s.executes t h then (if ilk || mgt then .alive else .dead)
  else .idle

/-- A path of a half that is judged dead: a missing one breaks the run of spans in which it was present (R374). -/
def State.pathRun (s : State) (t h path : Nat) (present : Bool) : State :=
  if present then s.judgePath t h path true else s.setLat .pathGood 0 t h path

/-- The faults and path states that follow from a judgement; a half in machine check is judged dead, whatever its paths
say. -/
def State.judged (s : State) (t h : Nat) (j : Judged) (ilk mgt : Bool) : State :=
  match j with
  | .alive => (s.judgePath t h 0 ilk).judgePath t h 1 mgt
  | .dead | .mchk => ((s.pathRun t h 0 ilk).pathRun t h 1 mgt).send 0x104 0x52 (2 ^ 8 * h + t)
  | .idle => s

/-- The next state of a half, for the boundary. -/
def State.decideState (s : State) (t h v : Nat) : State := s.setLat .decState (v + 1) t h

/-- A half goes OUT in a way that an automatic rejoin may follow (R382). -/
def State.decideOut (s : State) (t h : Nat) : State := (s.decideState t h 0).setLat .outAuto 2 t h

/-- What becomes of a holder that failed: OUT when dead, MCHK when in machine check. -/
def State.holderGone (s : State) (t h : Nat) (j : Judged) : State :=
  if j = .dead then s.decideOut t h else s

/-- The signatures of both halves are compared (R375): on the interlock path, or else by the
supervisor; none when the comparison has to be skipped. -/
def State.compareSig (s : State) (t : Nat) (ilk0 ilk1 verdict : Bool) : Option Bool :=
  if (ilk0 && ilk1) || (verdict && bit (s.nlat .hbGot t 0) 1 && bit (s.nlat .hbGot t 1) 1) then
    some (s.treg .RED_SIG t 0 == s.treg .RED_SIG t 1)
  else none

/-- The comparison row of R375 for two executing halves, both alive. -/
def State.decideCompare (s : State) (t hold oth : Nat) (same : Option Bool) : State :=
  let swap := fun (s : State) =>
    if s.flag .redSwap t && s.halfState t oth == 2 then
      (s.setFlag .decMove true t).decideState t hold 2
    else s
  match same with
  | none => swap (s.setTbit .RED_TSTATUS t 2 true)
  | some true => swap s
  | some false =>
    let s := (s.satAdd .RED_MISMATCH_CNT 1 t).setTbit .RED_TSTATUS t 1 true
    if s.halfState t oth = 2 then
      ((s.setFlag .decNoLoad true t).decideOut t oth).send 0x104 0x54 (2 ^ 8 * oth + t)
    else
      ((s.decideOut t oth).setTreg .RED_REJOIN t 0).send 0x104 0x55 (2 ^ 10 + 2 ^ 8 * oth + t)

/-- The rows of R375 for a holder that is dead or in machine check; `os` is the state of the other
half, OUT when it is dead too. -/
def State.decideFailed (s : State) (t hold oth os : Nat) (jh : Judged) : State :=
  let s := s.holderGone t hold jh
  if os = 2 ∨ os = 6 then
    let s := if os = 6 then s.setTreg .RED_REJOIN t 0 else s
    (s.setFlag .decMove true t).send 0x104 0x53 (2 ^ 9 * b2n (os == 6) + 2 ^ 8 * oth + t)
  else
    let s := s.setFlag .decNoLoad true t
    if os = 4 ∨ os = 5 then
      let s := (s.decideState t oth 0).setTreg .RED_REJOIN t 0
      (s.setFlag .decHold true t).send 0x104 0x56 (2 ^ 8 * hold + t)
    else s.send 0x104 0x57 (2 ^ 8 * hold + t)

/-- The token decision of a tile (R375). -/
def State.tokenDecision (s : State) (t : Nat) (ilk0 ilk1 verdict : Bool) : State :=
  let mgt := fun h => verdict && bit (s.nlat .hbGot t h) 0
  let i0 := ilk0 && bit (s.nlat .hbSent t 0) 0
  let i1 := ilk1 && bit (s.nlat .hbSent t 1) 0
  let j0 := s.judge t 0 i0 (mgt 0)
  let j1 := s.judge t 1 i1 (mgt 1)
  let s := (s.judged t 0 j0 i0 (mgt 0)).judged t 1 j1 i1 (mgt 1)
  let s := (s.setFlag .mchkNew false t 0).setFlag .mchkNew false t 1
  let hold := s.token t
  let oth := 1 - hold
  let jh := if hold = 0 then j0 else j1
  let jo := if hold = 0 then j1 else j0
  let s := if jo = .dead then
      let s := s.decideOut t oth
      if s.halfState t oth = 6 then s.setTreg .RED_REJOIN t 0 else s
    else s
  let os := if jo = .dead then 0 else s.halfState t oth
  let s :=
    if jh = .dead ∨ jh = .mchk then s.decideFailed t hold oth os jh
    else if jh = .alive ∧ jo = .alive ∧ s.halfState t hold = 1 then
      s.decideCompare t hold oth (s.compareSig t i0 i1 verdict)
    else s
  s.setFlag .redSwap false t

/-- TOKEN_DECISION (R375): program grain 3,968 of a tile's span. `ilkU` and `ilkO` say that the
interlock line carried Umber's and Ochre's pulse, `verdict` that the supervisor's verdict reached
the tile by program grain 3,952. -/
def execTokenDecision (tile : Nat) (ilkU ilkO verdict : Bool) (s : State) : Host.Outcome State Fault Refusal :=
  okIf (tile < 176) <|
    if s.inUse tile && s.flag .spanUp && s.mode != .boot && s.mode != .sable then s.tokenDecision tile ilkU ilkO verdict
    else s

/-! ### Tile commands (R391) -/

/-- HOLD and RELEASE are legal in STATIC and SLOTTED, and in HOLD from either. -/
def State.tileCmdMode (s : State) : Bool := s.under == .static || s.under == .slotted

/-- A RELEASE leaves a cause of the tile's HOLD set (R383). -/
def State.causeStays (s : State) (t : Nat) : Bool :=
  s.tbit .RED_THCAUSE t 2 || (s.tbit .RED_THCAUSE t 1 && !s.tileAcked t)

/-- RELEASE (R383, R220, R229): one that leaves a cause set clears only CMD and completes with status STATE, which sets
REFUSED: DEDUCED (log entry 72). -/
def State.tileRelease (s : State) (t : Nat) : State :=
  if s.loadBusy && s.mapBit .MC_LOAD_TILES 0 t then s.refuse .RED_TCMD t
  else if s.causeStays t then (s.setTbit .RED_THCAUSE t 0 false).refuse .RED_TCMD t
  else (s.setTbit .RED_THCAUSE t 0 false).setTbit .RED_THCAUSE t 1 false

/-- A write of RED_TCMD (R391). -/
def State.tileCommand (s : State) (t w : Nat) : State :=
  let sel := bits w 1 0
  let h := sel - 1
  match bits w 31 28 with
  | 1 => if s.tileCmdMode then s.setTileCause t 0 else s.refuse .RED_TCMD t
  | 2 => if s.tileCmdMode then s.tileRelease t else s.refuse .RED_TCMD t
  | 3 => if (sel == 1 || sel == 2) && s.rejoinOk t h then s.setLat .rjReq (h + 1 : Nat) t else s.refuse .RED_TCMD t
  | 4 =>
    if sel != 0 && s.tileHold t && s.halfState t 0 != 4 && s.halfState t 0 != 5 && s.halfState t 1 != 4
        && s.halfState t 1 != 5 && (List.range 2).all (fun k => !(bit sel k && s.inMchk t k)) then
      s.setLat .redRestart sel t
    else s.refuse .RED_TCMD t
  | 5 =>
    if (sel == 1 || sel == 2) && (s.halfState t h != 1 || s.halfState t (1 - h) == 2) then s.setFlag .redDis true t h
    else s.refuse .RED_TCMD t
  | 6 => if s.halfState t (1 - s.token t) == 2 then s.setFlag .redSwap true t else s.refuse .RED_TCMD t
  | _ => s.refuse .RED_TCMD t

/-- A RED_TCMD access of a tile. -/
def State.tileCmdWrite (s : State) (t w : Nat) : State :=
  if s.inUse t then s.tileCommand t w else s.addrFault (Reg.addr .RED_TCMD t 0 0)

/-- TILE_HOLD_CMD (R383, R391). -/
def execTileHoldCmd (tile : Nat) (s : State) : Host.Outcome State Fault Refusal :=
  okIf (tile < 176) (s.tileCmdWrite tile (1 * 2 ^ 28))

/-- TILE_RELEASE_CMD (R383, R391). -/
def execTileReleaseCmd (tile : Nat) (s : State) : Host.Outcome State Fault Refusal :=
  okIf (tile < 176) (s.tileCmdWrite tile (2 * 2 ^ 28))

/-- TILE_REJOIN (R377): `halves` is the HALVES field. -/
def execTileRejoin (tile halves : Nat) (s : State) : Host.Outcome State Fault Refusal :=
  okIf (tile < 176 && halves < 4) (s.tileCmdWrite tile (3 * 2 ^ 28 + halves))

/-- TILE_RESTART (R384). -/
def execTileRestart (tile halves : Nat) (s : State) : Host.Outcome State Fault Refusal :=
  okIf (tile < 176 && halves < 4) (s.tileCmdWrite tile (4 * 2 ^ 28 + halves))

/-- TILE_DISABLE (R391). -/
def execTileDisable (tile halves : Nat) (s : State) : Host.Outcome State Fault Refusal :=
  okIf (tile < 176 && halves < 4) (s.tileCmdWrite tile (5 * 2 ^ 28 + halves))

/-- TILE_SWAP (R391). -/
def execTileSwap (tile : Nat) (s : State) : Host.Outcome State Fault Refusal :=
  okIf (tile < 176) (s.tileCmdWrite tile (6 * 2 ^ 28))

/-! ### Slot timer pair (R386 to R388) -/

/-- State of a slot-timer half. -/
def State.slotHalf (s : State) (h : Nat) : Nat := s.fld .RED_SLOT_STATE (8 * h + 3) (8 * h)

/-- The state of a slot-timer half is written. -/
def State.setSlotHalf (s : State) (h v : Nat) : State := s.setFld .RED_SLOT_STATE (8 * h + 3) (8 * h) v

/-- The half that holds the generator token. -/
def State.slotToken (s : State) : Nat := s.fld .RED_SLOT_STATE 31 31

/-- The half may take the generator token: in step, its tree sound (R387). -/
def State.slotEligible (s : State) (h : Nat) : Bool := s.slotHalf h == 2 && !s.rbit .RED_SLOT_STATE (16 + h)

/-- The generator token moves when a move waits and the other half may take it (R387, R388). -/
def State.slotTokenMove (s : State) : State :=
  if s.flag .slotSwap then
    let s := s.setFlag .slotSwap false
    let hold := s.slotToken
    if s.slotEligible (1 - hold) then
      let s := (s.setFld .RED_SLOT_STATE 31 31 (1 - hold)).setSlotHalf (1 - hold) 1
      if s.slotHalf hold = 1 then s.setSlotHalf hold 2 else s
    else s
  else s

/-- No slot-timer half is left: SLOT_LOST, fatal, drives the Sable line (R388, R407). -/
def State.slotLost (s : State) : State := (s.send 0x104 0x5E 0).driveSable

/-- A slot-timer half is out of service (R388): the token leaves a holder at the next commit decision
point, and with no half left that may take it SLOT_LOST is sent (log entry 72). -/
def State.slotHalfDead (s : State) (h : Nat) : State :=
  if s.slotHalf h = 0 then s
  else
    let s := (s.setSlotHalf h 0).setLat .slotJoin 0 h
    if s.slotHalf (1 - h) = 0 ∨ (s.slotToken = h ∧ s.slotEligible (1 - h) = false) then s.slotLost
    else if s.slotToken = h then s.setFlag .slotSwap true else s

/-- A path of a slot-timer half in one span, as R374 judges it (R388): path 0 interlock, 1 management. -/
def State.slotPath (s : State) (h path : Nat) (present : Bool) : State :=
  if present then
    if s.flag .slotPathLost h path then
      let n := s.nlat .slotPathGood h path + 1
      if 16 ≤ n then (s.setFlag .slotPathLost false h path).setLat .slotPathGood 0 h path else s.setLat .slotPathGood n h path
    else s
  else
    let s := s.setLat .slotPathGood 0 h path
    if s.flag .slotPathLost h path then s
    else (s.setFlag .slotPathLost true h path).send 0x104 (0x50 + path) (2 ^ 8 * h + 0xFF)

/-- A slot-timer half is judged from the two paths of the span (R374, R388): bit 0 of `hb` the interlock path, bit 1
the management path. Its messages name tile 0xFF, which is none: DESIGN CHOICE (log entry 72). -/
def State.slotJudge (s : State) (h hb : Nat) : State :=
  if s.slotHalf h = 0 then s
  else if hb % 4 = 0 then
    (((s.setLat .slotPathGood 0 h 0).setLat .slotPathGood 0 h 1).send 0x104 0x52 (2 ^ 8 * h + 0xFF)).slotHalfDead h
  else (s.slotPath h 0 (bit hb 0)).slotPath h 1 (bit hb 1)

/-- The slot-timer pair at a span boundary (R388): the heartbeats of the span, and the progress of a rejoin. -/
def State.slotPairBoundary (s : State) (hbU hbO : Nat) : State :=
  let s := (s.slotJudge 0 hbU).slotJudge 1 hbO
  forUpto 2 s (fun h s =>
    if s.flag .slotJoin h then
      let n := s.nlat .slotJoin h + 1
      if n = 2 then (s.setSlotHalf h 6).setLat .slotJoin n h
      else if n = 66 then (s.setSlotHalf h 2).setLat .slotJoin 0 h
      else s.setLat .slotJoin n h
    else s)

/-- A write of RED_SLOT_CMD (R388, R392). -/
def State.slotPairCommand (s : State) (w : Nat) : State :=
  let sel := bits w 1 0
  let h := sel - 1
  match bits w 31 28 with
  | 3 =>
    if (sel == 1 || sel == 2) && s.slotHalf h == 0 && s.slotHalf (1 - h) == 1 then
      (s.setSlotHalf h 5).setLat .slotJoin 1 h
    else s.refuse .RED_SLOT_CMD
  | 6 => if s.slotEligible (1 - s.slotToken) then s.setFlag .slotSwap true else s.refuse .RED_SLOT_CMD
  | _ => s.refuse .RED_SLOT_CMD

/-- SLOT_TIMER_REJOIN (R388): `halves` is the HALVES field. -/
def execSlotTimerRejoin (halves : Nat) (s : State) : Host.Outcome State Fault Refusal :=
  okIf (halves < 4) (s.slotPairCommand (3 * 2 ^ 28 + halves))

/-- SLOT_TIMER_SWAP (R392). -/
def execSlotTimerSwap (s : State) : Host.Outcome State Fault Refusal := okIf true (s.slotPairCommand (6 * 2 ^ 28))

/-! ### Management cores (R389) -/

/-- A warm restart: counted; a fourth within 60 s holds the cores in reset. -/
def State.warmRestart (s : State) : State :=
  let s1 := s.satAdd .RED_MGT_RESTARTS
  let third := s.lat .warmAt 2
  let s1 := ((s1.setLat .warmAt (s.lat .warmAt 1) 2).setLat .warmAt (s.lat .warmAt 0) 1).setLat .warmAt (s.grain + 1) 0
  if third ≠ 0 ∧ (s.grain : Int) + 1 - third ≤ 60000000000 then (s1.setFlag .mgtFail true).send 0x104 0x61 0
  else s1.setLat .hbAt (s.grain + 1)

/-- LOCKSTEP_MISMATCH (R389). -/
def execLockstepMismatch (s : State) : Host.Outcome State Fault Refusal :=
  okIf true (if s.flag .mgtFail then s else (s.send 0x104 0x5F 0).warmRestart)

/-- RED_MGT_HB has not been written for RED_MGT_WDT µs; the watchdog runs from the end of BOOT (log entry 21). -/
def State.wdtDue (s : State) : Bool :=
  s.flag .hbAt && decide (s.fld .RED_MGT_WDT 15 0 ≠ 0 ∧ s.nlat .hbAt + 1000 * s.fld .RED_MGT_WDT 15 0 ≤ s.grain + 1)

/-- WATCHDOG_EXPIRY (R389). -/
def execWatchdogExpiry (s : State) : Host.Outcome State Fault Refusal :=
  okIf true (if s.flag .mgtFail || !s.wdtDue then s else (s.send 0x104 0x60 0).warmRestart)

/-- MGT_HEARTBEAT_WRITE (R389, R392): any write restarts the watchdog. -/
def execMgtHeartbeatWrite (s : State) : Host.Outcome State Fault Refusal := okIf true (s.setLat .hbAt (s.grain + 1))

end Sys2Proof.Machine
end

