-- ==== Sys2Proof/Machine/Thermal.lean ====
section
/-! DEFINITION. Tile sensors, the thermal model, device levels, the shutdown path, the voltage and
process monitors (R351 to R368), and the drift estimate of tiles in HOLD (R385). -/
namespace Sys2Proof.Machine

/-! ### Sensors (R351, R352) -/

/-- The tiles one column or one row away in the grid of 16 columns and 11 rows (R49, R352). -/
def gridNeighbours (t : Nat) : List Nat :=
  (if t % 16 = 0 then [] else [t - 1]) ++ (if t % 16 = 15 then [] else [t + 1]) ++
    (if t < 16 then [] else [t - 16]) ++ (if t < 160 then [t + 16] else [])

/-- The sensor of a tile is read (R351): in a tile in use, from the release of reset on; until a fabric map stands,
in every tile: DESIGN CHOICE (log entry 48). -/
def State.sensed (s : State) (t : Nat) : Bool :=
  s.lat .bootStep != 20 && (s.inUse t || (s.tiles.isEmpty && !s.flag .imgUp))

/-- The tiles whose sensors are read. -/
def State.sensedTiles (s : State) : List Nat := (List.range 176).filter s.sensed

/-- The grid neighbours in use (R352), or whose sensors are read before a map stands. -/
def State.neighbours (s : State) (t : Nat) : List Nat := (gridNeighbours t).filter s.sensed

/-- The tile's sensor has failed. -/
def State.sensFail (s : State) (t : Nat) : Bool := s.tbit .TILE_TEMP t 31

/-- The tile's own reading. -/
def State.reading (s : State) (t : Nat) : Int := sx 16 (s.treg .TILE_TEMP t)

/-- The highest of a list of values. -/
def maxI : List Int → Option Int
  | [] => none
  | a :: r => match maxI r with
    | none => some a
    | some b => some (max a b)

/-- The sensor value of a tile (R352): its reading, or for a failed sensor the highest reading among its
neighbours, none where there is no neighbour. -/
def State.sensorNow (s : State) (t : Nat) : Option Int :=
  if s.sensFail t then maxI ((s.neighbours t).map s.reading) else some (s.reading t)

/-- The sensor value, the last one known where nothing gives one. -/
def State.sensor (s : State) (t : Nat) : Int := (s.sensorNow t).getD (s.lat .sensLast t - 65536)

/-- The sensor values of a tile and its neighbours are kept. -/
def State.keepSensors (s : State) (t : Nat) : State :=
  forIn' (t :: s.neighbours t) s (fun u s =>
    match s.sensorNow u with
    | some v => s.setLat .sensLast (v + 65536) u
    | none => s)

/-- A tile whose sensor and all neighbours have failed is reported once (R352). -/
def State.checkLost (s : State) (t : Nat) : State :=
  if s.sensFail t && (s.neighbours t).all s.sensFail && !s.flag .sensLost t then
    (s.setFlag .sensLost true t).send 0x105 0x41 t
  else s

/-- A sensor fails after 4 consecutive readings out of range (R352). -/
def State.sensorCheck (s : State) (t : Nat) (raw : Int) : State :=
  if raw < -6000 ∨ 20000 < raw then
    let n := s.nlat .tempOut t + 1
    let s := s.setLat .tempOut n t
    if 4 ≤ n ∧ s.sensFail t = false then
      let s := (s.setTbit .TILE_TEMP t 31 true).send 0x105 0x40 t
      forIn' (t :: s.neighbours t) s (fun u s => s.checkLost u)
    else s
  else s.setLat .tempOut 0 t

/-- The rise over 10.0 ms is checked (R353). -/
def State.riseCheck (s : State) (t : Nat) (v : Int) : State :=
  let k := s.nlat .tempN t % 100
  let old := s.lat .tempHist t k
  let s := (s.setLat .tempHist (v + 65536) t k).setLat .tempN (s.lat .tempN t + 1) t
  if old = 0 then s
  else
    let rise := v - (old - 65536)
    let lim : Int := s.reg .THM_ROR
    if lim < rise then
      let s := s.setTbit .TILE_HLT_STATUS t 0 true
      if s.flag .rorSent t then s
      else (s.setFlag .rorSent true t).send 0x105 0x42 (2 ^ 16 * ux 16 rise + t)
    else if 2 * rise < lim then s.setFlag .rorSent false t
    else s

/-- The shutdown path fires (R359): THM_SHUT is sent, the line is driven, and what fired is recorded. What fired
first and drove the line stays recorded: DESIGN CHOICE (log entry 48). -/
def State.thermalShut (s : State) (t : Nat) (v : Int) (model : Bool) : State :=
  let s := s.send 0x105 0x45 (2 ^ 16 * ux 16 v + 256 * b2n model + t)
  if s.flag .shutSable then s
  else
    let s := s.setReg .THM_SHUT_INFO (2 ^ 31 + 2 ^ 24 * b2n model + 2 ^ 16 * t + ux 16 v)
    if s.sable then s else s.assertSable.setFlag .shutSable true

/-- The sensor part of the shutdown path (R359): 2 consecutive readings at THM_SHUT. -/
def State.shutCheck (s : State) (t : Nat) : State :=
  if sx 16 (s.reg .THM_SHUT) ≤ s.sensor t then
    let n := s.nlat .shutRun t + 1
    let s := s.setLat .shutRun (min n 3) t
    if n = 2 then s.thermalShut t (s.sensor t) false else s
  else s.setLat .shutRun 0 t

/-- TILE_TEMP_MAX follows (R368). -/
def State.tempMax (s : State) (t : Nat) (v : Int) : State :=
  if s.flag .tempMaxUp t && decide (v ≤ sx 16 (s.treg .TILE_TEMP_MAX t)) then s
  else (s.setTreg .TILE_TEMP_MAX t (ux 16 v)).setFlag .tempMaxUp true t

/-- A reading of a tile's diode, in 0.01 degrees (R351). -/
def State.tempReading (s : State) (t : Nat) (raw : Int) : State :=
  let v := clampI (-6000) 20000 raw
  let s := (s.setTfld .TILE_TEMP t 15 0 (ux 16 v)).tempMax t v
  let s := ((s.sensorCheck t raw).keepSensors t).riseCheck t v
  let s := if sx 16 (s.reg .THM_RESTART) ≤ s.sensor t then s.setLat .hotAt (s.grain + 1) else s
  s.shutCheck t

/-- TEMP_READING (R351): a tile reads its diode. -/
def execTempReading (tile : Nat) (raw : Int) (s : State) : Host.Outcome State Fault Refusal :=
  okIf (decide (tile < 176)) (if s.sensed tile then s.tempReading tile raw else s)

/-! ### The model and the levels (R354 to R358) -/

/-- The model runs (R354). -/
def State.modelRuns (s : State) : Bool := s.flag .imgUp && s.rbit .THM_CTRL 0 && s.mode != .sable

/-- The power of a tile, in 100 µW (R354). -/
def State.tilePower (s : State) (t : Nat) : Nat :=
  s.tfld .TILE_DRV_PWR t 15 0 + s.tfld .TILE_HTR_PWR t 15 0 + s.fld .THM_PCORE 15 0

/-- The rise that a tile tends to (R354). -/
def State.riseTarget (s : State) (t : Nat) : Int :=
  let pn := ((s.neighbours t).map s.tilePower).foldl (· + ·) 0
  (((s.tilePower t * s.fld .THM_KR 23 0 t + 2 ^ 15) / 2 ^ 16 + (pn * s.fld .THM_KN 15 0 + 2 ^ 15) / 2 ^ 16 : Nat) : Int)

/-- The hot-spot temperature that THM_HOT reads. -/
def State.hot (s : State) (t : Nat) : Int := sx 16 (s.reg .THM_HOT t)

/-- dh and hot of one tile take their new values, while the model runs (R354); else they keep the last. -/
def State.modelTile (s : State) (t : Nat) : State :=
  if s.modelRuns = false then s
  else
    let dh := s.lat .thmDh t
    let dh := dh + asr ((s.riseTarget t - dh) * s.fld .THM_ALPHA 15 0 + 2 ^ 15) 16
    let s := s.setLat .thmDh dh t
    s.setReg .THM_HOT (2 ^ 16 * ux 16 (satS 16 dh) + ux 16 (satS 16 (s.sensor t + dh))) t

/-- With MODEL 0, dh is 0 and hot is the sensor value (R354). -/
def State.modelOff (s : State) : State :=
  forIn' s.tiles s (fun t s => (s.setLat .thmDh 0 t).setReg .THM_HOT (ux 16 (satS 16 (s.sensor t))) t)

/-- A write of THM_CTRL (R354, R366). -/
def State.thmCtrlWrite (s : State) (w : Nat) : State :=
  let s := s.setReg .THM_CTRL (andNot (s.reg .THM_CTRL) Reg.THM_CTRL.desc.rw ||| (w &&& Reg.THM_CTRL.desc.rw))
  if s.rbit .THM_CTRL 0 then s else s.modelOff

/-- What THM_HOT reads (R354). -/
def State.hotValue (s : State) (t : Nat) : Nat :=
  if s.rbit .THM_CTRL 0 || !s.inUse t then s.reg .THM_HOT t else ux 16 (satS 16 (s.sensor t))

/-- The device temperature (R355): the value, its tile, and whether the model gave it. -/
def State.deviceTemp (s : State) : Option (Int × Nat × Bool) :=
  let cand := s.sensedTiles.flatMap (fun t => (if s.modelRuns then [(s.hot t, t, true)] else []) ++ [(s.sensor t, t, false)])
  cand.foldl (fun (b : Option (Int × Nat × Bool)) c =>
    match b with
    | none => some c
    | some x => if x.1 < c.1 then some c else b) none

/-- The device level: 0 NORMAL, 1 WARN, 2 THROTTLE. -/
def State.thmLevel (s : State) : Nat := s.fld .THM_STATUS 31 30

/-- The level is entered; a change of THROTTLE keeps its grain (R358). -/
def State.setLevel (s : State) (l : Nat) : State :=
  let s := if (l = 2) ≠ (s.thmLevel = 2) then s.setLat .thrAt (s.grain + 1) else s
  s.setFld .THM_STATUS 31 30 l

/-- The table of R356 for a device temperature; `a` is its address field. -/
def State.levelStep (s : State) (v : Int) (a : Nat) : State :=
  let warn := sx 16 (s.reg .THM_WARN)
  let thr := sx 16 (s.reg .THM_THROT)
  let hyst : Int := s.fld .THM_HYST 15 0
  match s.thmLevel with
  | 0 =>
    if thr ≤ v then ((s.send 0x105 0x43 a).send 0x105 0x44 a).setLevel 2
    else if warn ≤ v then ((s.send 0x105 0x43 a).setLevel 1).publish 0x21D
    else s
  | 1 =>
    if thr ≤ v then ((s.send 0x105 0x44 a).setLevel 2).publish 0x21F
    else if v < warn - hyst then (s.setLevel 0).publish 0x21E
    else s
  | _ =>
    if v < warn - hyst then ((s.setLevel 0).publish 0x220).publish 0x21E
    else if v < thr - hyst then (s.setLevel 1).publish 0x220
    else s

/-- The model part of the shutdown path (R359). -/
def State.modelShut (s : State) : State :=
  if s.modelRuns && !s.flag .shutSable then
    match s.tiles.find? (fun t => decide (sx 16 (s.reg .THM_SHUT) ≤ s.hot t)) with
    | some t => s.thermalShut t (s.hot t) true
    | none => s
  else s

/-! ### Drift in HOLD (R385) -/

/-- The drift estimate of one tile in HOLD. -/
def State.holdDrift (s : State) (t : Nat) : State :=
  if s.tileHold t || s.inHold then
    let n := s.nlat .holdMs t
    let hot := if s.modelRuns then s.hot t else s.sensor t
    let s := if n = 0 then s.setTreg .RED_HOLD_REF t (ux 16 hot) else s
    let ms := min n (2 ^ 32 - 1)
    let dT := (hot - sx 16 (s.treg .RED_HOLD_REF t)).natAbs
    let est := min 0xFFFF ((dT * s.fld .RED_HOLD_KPHI 15 0 + 2 ^ 7) / 2 ^ 8 + ms * s.fld .RED_HOLD_KAGE 15 0 / 1000)
    let s := s.setTreg .RED_HOLD_EST t (2 ^ 16 * min ms 0xFFFF + est)
    let s := s.setLat .holdMs (min (n + 1) (2 ^ 32)) t
    let bound := s.fld .RED_HOLD_BOUND 15 0
    let s := if bound / 2 ≤ est ∧ s.nlat .tileDrift t % 2 = 0 then
        (s.setLat .tileDrift (s.nlat .tileDrift t + 1) t).send 0x104 0x58 (2 ^ 16 * est + t)
      else s
    if bound ≤ est ∧ s.rbit .RED_CTRL 30 ∧ s.nlat .tileDrift t < 2 then
      ((s.setLat .tileDrift (s.nlat .tileDrift t + 2) t).send 0x104 0x59 (2 ^ 16 * est + t)).driveSable
    else s
  else s

/-- One step of the model (R354, R355, R356, R359, R385). -/
def State.modelStep (s : State) : State :=
  let s := forIn' s.tiles s (fun t s => s.modelTile t)
  let s := match s.deviceTemp with
    | none => s
    | some (v, t, m) =>
      let s := s.setReg .THM_TDEV (2 ^ 24 * b2n m + 2 ^ 16 * t + ux 16 v)
      s.levelStep v (2 ^ 16 * ux 16 v + t)
  let s := s.modelShut
  forIn' s.tiles s (fun t s => s.holdDrift t)

/-- MODEL_STEP (R354): once every 1.000 ms. -/
def execModelStep (s : State) : Host.Outcome State Fault Refusal := okIf true s.modelStep

/-- THERM_N is asserted (R361). -/
def State.thermN (s : State) : Bool :=
  (s.mode == .sable && s.flag .shutSable) ||
    (if s.rbit .THM_CTRL 30 then s.thmLevel == 2 else decide (1 ≤ s.thmLevel))

/-! ### Voltage and process monitors (R362 to R364) -/

/-- A sample lies inside window w of its rail: 0 HLT_VWARN, 1 HLT_VFAIL. -/
def State.inWindow (s : State) (r w mv : Nat) : Bool :=
  let x := if w = 0 then s.reg .HLT_VWARN r else s.reg .HLT_VFAIL r
  decide (bits x 15 0 ≤ mv ∧ mv ≤ bits x 31 16)

/-- One sample judged against one window (R363). -/
def State.railJudge (s : State) (r mv w : Nat) : State :=
  if s.inWindow r w mv then
    let s := s.setLat .vOut 0 r w
    if s.flag .vExc r w then
      let n := s.nlat .vIn r w + 1
      if 1000 ≤ n then (s.setFlag .vExc false r w).setLat .vIn 0 r w else s.setLat .vIn n r w
    else s
  else
    let s := s.setLat .vIn 0 r w
    if s.flag .vExc r w then s
    else
      let n := s.nlat .vOut r w + 1
      let s := if n = 1 then s.setLat .vFirst mv r w else s
      if 4 ≤ n then
        let s := (s.setLat .vOut 0 r w).setFlag .vExc true r w
        let s := s.setRbit .HLT_VSTAT (8 * w + r) true
        s.send 0x106 (0x46 + w) (2 ^ 16 * s.nlat .vFirst r w + r)
      else s.setLat .vOut n r w

/-- A rail is sampled (R362, R363). -/
def State.railSample (s : State) (r mv : Nat) : State :=
  let s := s.setReg .HLT_V mv r
  if s.flag .imgUp then (s.railJudge r mv 0).railJudge r mv 1 else s

/-- RAIL_SAMPLE (R363): rail `rail` reads `mv`. -/
def execRailSample (rail mv : Nat) (s : State) : Host.Outcome State Fault Refusal :=
  okIf (decide (rail < 8 ∧ mv < 65536)) (s.railSample rail mv)

/-- A tile's ring oscillator is counted (R364). -/
def State.ringOsc (s : State) (t count : Nat) : State :=
  let s := s.setTreg .TILE_PROC t count
  if count < s.fld .HLT_PROC_MIN 19 0 then
    let n := s.nlat .procLow t + 1
    let s := s.setLat .procLow (min n 8) t
    if 8 ≤ n ∧ s.flag .procSent t = false then
      ((s.setFlag .procSent true t).setTbit .TILE_HLT_STATUS t 1 true).send 0x106 0x48 (256 * count + t)
    else s
  else s.setLat .procLow 0 t

/-- RING_OSC_COUNT (R364): a tile in use counts `count` periods. -/
def execRingOscCount (tile count : Nat) (s : State) : Host.Outcome State Fault Refusal :=
  okIf (decide (tile < 176 ∧ count < 2 ^ 20)) (if s.inUse tile then s.ringOsc tile count else s)

end Sys2Proof.Machine
end

