-- ==== Sys2Proof/Machine/Cal.lean ====
section
/-! DEFINITION. Calibration campaigns (R336 to R350). -/
namespace Sys2Proof.Machine

/-! ### The campaign state (R336 to R338) -/

/-- CAL_STATUS.STATE: 0 IDLE, 1 PENDING, 2 RUN, 3 STAGED. -/
def State.calState (s : State) : Nat := s.fld .CAL_STATUS 31 30

/-- The state changes. -/
def State.setCalState (s : State) (v : Nat) : State := s.setFld .CAL_STATUS 31 30 v

/-- The start conditions (R338). -/
def State.calStartOk (s : State) : Bool := (s.mode == .static || s.mode == .slotted) && s.thmLevel != 2

/-- A tile's visit begins with its RECENTRE stage (R339 to R341, R350); a TRIM_CMD that is still pending is discarded
(R104, R105). -/
def State.calVisit (s : State) (t : Nat) : State :=
  let s := ((s.trimDiscard t).setTreg .TILE_CAL_STATUS t 1).setLat .calSpans 0 t
  let s := (s.setLat .calServed 63 t).calEntryOff t
  forUpto 64 s (fun c s => ((s.setLat .calMoved 0 t c).setLat .calTrain 0 t c).setLat .trimReq 0 t c)

/-- The next group begins; a tile in HOLD is skipped; with no tile left the campaign is STAGED
(R339). `fuel` bounds the groups that are skipped whole. -/
def State.calGroup : Nat → State → State
  | 0, s => s
  | fuel + 1, s =>
    let ts := (s.tiles.filter (fun t => decide (s.nlat .calNext ≤ t))).take (s.fld .CAL_CTRL 19 16)
    match ts.getLast? with
    | none => (s.setCalState 3).setLat .calStaged s.grain
    | some l =>
      let s := s.setLat .calNext (l + 1)
      let s := forIn' ts s (fun t s => if s.tileHold t then s.calSkip t else s.calVisit t)
      if ts.any (fun t => s.calStage t != 0) then s else State.calGroup fuel s

/-- The present group has finished: the next begins (R339). -/
def State.calGroupDone (s : State) : State :=
  if s.calState = 2 ∧ s.tiles.all (fun t => s.calStage t == 0) then State.calGroup 177 s else s

/-- RUN is entered (R338): `cmd` says whether a command started it, `hop` as Lat.calHop. -/
def State.calRun (s : State) (cmd : Bool) (hop : Nat) : State :=
  let s := (s.setCalState 2).setRbit .CAL_STATUS 1 false
  let s := s.setFld .CAL_TRIGGER 31 30 (if cmd then 2 else 1)
  let s := forUpto 6 s (fun w s => (s.setReg .CAL_DONE_TILE 0 w).setReg .CAL_SKIP_TILE 0 w)
  let s := (s.setLat .calHop hop).publishFor 0x21B hop
  State.calGroup 177 (s.setLat .calNext 0)

/-- A campaign ends: the end event is published, with the hop count of its start (R418). -/
def State.calEnd (s : State) : State :=
  ((s.setCalState 0).setLat .calEndAt (s.grain + 1)).publishFor 0x21C (s.nlat .calHop)

/-- A campaign is abandoned (R336). -/
def State.calAbandon (s : State) : State :=
  if s.campaign then
    let s := forIn' s.tiles s (fun t s => ((s.setCalStage t 0).calEntryOff t).calDiscard t)
    let s := (s.setRbit .CAL_STATUS 2 true).send 0x107 0x3B 0
    (s.setLat .calArm 0).calEnd
  else s

/-- PENDING is left for IDLE (R338). -/
def State.calClearPending (s : State) : State :=
  if s.calState = 1 then (s.setCalState 0).setRbit .CAL_STATUS 1 false else s

/-- CAL_CMD START, from a write or from the CAL_START input (R338, R419). In PENDING with the start conditions unmet the
table lists no row: nothing happens. -/
def State.calStart (s : State) (hop : Nat) : State :=
  if s.calState < 2 ∧ s.calStartOk then s.calRun true hop
  else if s.calState = 1 then s
  else s.refuse .CAL_CMD

/-- CAL_CMD ABORT (R338). -/
def State.calAbort (s : State) : State := s.calClearPending.calAbandon

/-- CAL_START (R338). -/
def execCalStart (s : State) : Host.Outcome State Fault Refusal := okIf true (s.calStart 0)

/-- CAL_ABORT (R338). -/
def execCalAbort (s : State) : Host.Outcome State Fault Refusal := okIf true s.calAbort

/-- A write to CAL_CMD (R349). -/
def State.calCmdWrite (s : State) (w : Nat) : State :=
  match bits w 1 0 with
  | 1 => s.calStart 0
  | 2 => s.calAbort
  | _ => s.refuse .CAL_CMD

/-- A tile triggers (R337). -/
def State.calTriggers (s : State) (t : Nat) : Bool :=
  !s.tileHold t && !s.inHold &&
    decide (s.fld .CAL_CTRL 15 0 < (s.sensor t - sx 16 (s.treg .TILE_CAL_TREF t)).natAbs)

/-- CAL_TRIGGER_CHECK (R337): once every 1.000 ms. -/
def execCalTriggerCheck (s : State) : Host.Outcome State Fault Refusal :=
  okIf true <|
    if s.rbit .CAL_CTRL 31 ∧ s.calState = 0 ∧ s.mode ≠ .boot ∧ s.mode ≠ .sable then
      match s.tiles.find? s.calTriggers with
      | some t => ((s.setFld .CAL_TRIGGER 7 0 t).setCalState 1).setRbit .CAL_STATUS 1 true
      | none => s
    else s

/-- CAL_HOLDOFF has passed since the last campaign (R338). -/
def State.calHeldOff (s : State) : Bool :=
  decide (s.lat .calEndAt = 0 ∨ s.nlat .calEndAt + 1000000 * s.fld .CAL_HOLDOFF 15 0 ≤ s.grain + 1)

/-- CAMPAIGN_PENDING_START (R338). -/
def execCampaignPendingStart (s : State) : Host.Outcome State Fault Refusal :=
  okIf true (if s.calState = 1 ∧ s.calStartOk ∧ s.calHeldOff then s.calRun false 0 else s)

/-! ### RECENTRE (R341) -/

/-- Distance of a channel's loop_code from the middle of its window. -/
def State.calOffset (s : State) (t c : Nat) : Int :=
  (s.tfld .HTR_PARTS t 15 0 c : Int) - ((s.tfld .TRIM_WIN t 31 16 + s.tfld .TRIM_WIN t 15 0) / 2 : Nat)

/-- A channel is eligible but for SETTLE (R341), as its ledger entry says. -/
def State.calWanted (s : State) (t c : Nat) : Bool :=
  s.chRole t c != 0 && s.tfld .LOOP_ST t 31 30 c == 2 && !s.mapBit .LOOP_ISOPEN t c &&
    decide (s.fld .CAL_CWIN 15 0 < (s.calOffset t c).natAbs) && !s.retired t c && !s.tapUnknown t c &&
    !s.tbit .TRIM_TAP t 17 c && decide ((s.reg .WEAR_MOVE_COST : Int) ≤ s.headroom (64 * t + c)) &&
    decide (s.nlat .calMoved t c < s.fld .CAL_CWIN 31 28)

/-- SETTLE whole spans have passed since the channel's last train of the visit. -/
def State.calSettled (s : State) (t c : Nat) : Bool :=
  decide (s.lat .calTrain t c = 0 ∨ s.nlat .calTrain t c + s.fld .CAL_TIMING 15 0 ≤ s.tileN t)

/-- MEASURE is entered (R342, R343): the staged values start from those in force; a failed
converter is not measured. It waits while a rejoin of the tile is in CHECK or COPY (R377). -/
def State.calMeasure (s : State) (t : Nat) : State :=
  if [1, 2].contains (s.tfld .RED_REJOIN t 31 30) then s
  else
  let s := ((s.setCalStage t 2).setLat .calSpans 0 t).calDiscard t
  let s := forUpto 2 s (fun k s =>
    (s.setLat .calCmpN 0 t k).setFlag .calCmpDone (s.tbit .ADC_STATUS t (5 + k)) t k)
  forUpto 2 s (fun k s =>
    let s := ((s.setLat .skDir 0 t k).setLat .skSteps 0 t k).setLat .skProbes 0 t k
    (s.setLat .skLate 0 t k).setFlag .skDone false t k)

/-- A span boundary of a tile in RECENTRE (R341): the next train is issued, or the stage ends, after 16,384 spans at the
latest (the first boundary of the stage begins its first span). -/
def State.calRecentre (s : State) (t : Nat) : State :=
  let n := s.nlat .calSpans t + 1
  let s := s.setLat .calSpans n t
  if 16384 < n then s.calMeasure t
  else if s.trainOpen t || (List.range 64).any (fun c => s.flag .trimReq t c) then s
  else
    let s := forUpto 64 s (fun c s => if s.calWanted t c then s.ledgerCheck t c else s)
    match ((List.range 64).map (fun k => (s.nlat .calServed t + 1 + k) % 64)).find?
        (fun c => s.calWanted t c && s.calSettled t c) with
    | some c =>
      (s.setLat .calServed c t).setLat .trimReq (if s.recentreUp t (decide (0 < s.calOffset t c)) then 1 else 2) t c
    | none => if (List.range 64).any (s.calWanted t) then s else s.calMeasure t

/-! ### MEASURE (R342 to R344) -/

/-- All measurements of a tile are done: the calibration entry runs in its next span (R344). -/
def State.calCheckDone (s : State) (t : Nat) : State :=
  if s.calStage t = 2 ∧ s.lat .calEntry t = 0 ∧ (List.range 2).all (fun k => s.flag .calCmpDone t k && s.flag .skDone t k) then
    s.setLat .calEntry 1 t
  else s

/-- A block of 1,024 conversions of a converter has given n1 decisions of 1 (R342). -/
def State.calCompare (s : State) (t k n1 : Nat) : State :=
  if s.calStage t = 2 ∧ s.flag .calCmpDone t k = false then
    let v := sx 6 (s.treg .TILE_CMPT_NEXT t k)
    let n := s.nlat .calCmpN t k + 1
    let s := s.setLat .calCmpN n t k
    let d : Int := if 544 < n1 ∧ -32 < v then -1 else if n1 < 480 ∧ v < 31 then 1 else 0
    if d = 0 then (s.setFlag .calCmpDone true t k).calCheckDone t
    else if 24 ≤ n then
      let s := (s.setTreg .TILE_CMPT_NEXT t (s.treg .TILE_CMPT t k) k).setTbit .TILE_CAL_STATUS t 4 true
      ((s.send 0x107 0x38 (256 * k + t)).setFlag .calCmpDone true t k).calCheckDone t
    else s.setTreg .TILE_CMPT_NEXT t (ux 6 (v + d)) k
  else s

/-- COMPARATOR_BLOCK_DONE (R342). -/
def execComparatorBlockDone (tile conv ones : Nat) (s : State) : Host.Outcome State Fault Refusal :=
  okIf (decide (tile < 176 ∧ conv < 2 ∧ ones ≤ 1024)) (s.calCompare tile conv ones)

/-- One tap up or down of a delay setting (R343), none when COARSE would leave 0..31. -/
def skewStep (w : Nat) (up : Bool) : Option Nat :=
  let f := bits w 8 0
  let c := bits w 13 9
  if up then
    if f + 1 ≤ 511 then some (512 * c + (f + 1))
    else if c + 1 ≤ 31 then some (512 * (c + 1) + (f + 1 - 500)) else none
  else
    if 1 ≤ f then some (512 * c + (f - 1))
    else if 1 ≤ c then some (512 * (c - 1) + 499) else none

/-- The delay search of a tree fails (R343). -/
def State.skewFail (s : State) (t k : Nat) : State :=
  let s := (s.setTreg .TILE_SKEW_NEXT t (s.treg .TILE_SKEW t k) k).setTbit .TILE_CAL_STATUS t 5 true
  (s.send 0x107 0x39 (256 * k + t)).setFlag .skDone true t k

/-- The search takes a step (R343): it fails past 64 steps or past the range. -/
def State.skewMove (s : State) (t k : Nat) (up : Bool) : State :=
  let n := s.nlat .skSteps t k + 1
  match skewStep (s.treg .TILE_SKEW_NEXT t k) up with
  | none => s.skewFail t k
  | some w => if 64 < n then s.skewFail t k else (s.setLat .skSteps n t k).setTreg .TILE_SKEW_NEXT t w k

/-- A vote of 16 probes is complete (R343). -/
def State.skewVote (s : State) (t k : Nat) (late : Bool) : State :=
  match s.nlat .skDir t k with
  | 0 => (s.setLat .skDir (if late then 1 else 2) t k).skewMove t k (!late)
  | 1 =>
    if late then s.skewMove t k false
    else
      match skewStep (s.treg .TILE_SKEW_NEXT t k) true with
      | none => s.skewFail t k
      | some w => (s.setTreg .TILE_SKEW_NEXT t w k).setFlag .skDone true t k
  | _ => if late then s.setFlag .skDone true t k else s.skewMove t k true

/-- A probe edge of a tile in MEASURE is later than its reference edge, or not (R343). -/
def State.skewProbe (s : State) (t k : Nat) (late : Bool) : State :=
  if s.calStage t = 2 ∧ s.flag .skDone t k = false then
    let n := s.nlat .skProbes t k + 1
    let l := s.nlat .skLate t k + b2n late
    if 16 ≤ n then
      let s := (s.setLat .skProbes 0 t k).setLat .skLate 0 t k
      (s.skewVote t k (decide (9 ≤ l))).calCheckDone t
    else (s.setLat .skProbes n t k).setLat .skLate l t k
  else s

/-- PROBE_MARKER (R343): a probe on a tree as one tile sees it. -/
def execProbeMarker (tile tree : Nat) (late : Bool) (s : State) : Host.Outcome State Fault Refusal :=
  okIf (decide (tile < 176 ∧ tree < 2)) (s.skewProbe tile tree late)

/-- The calibration entry has run (R344): the copy of the half that holds the token is staged, and the visit ends. -/
def State.calFinish (s : State) (t : Nat) : State :=
  let h := s.token t
  let s := forUpto 128 s (fun i s =>
    if s.chRole t (i % 64) = 0 then s
    else forUpto 4 s (fun r s => s.setLat .calGain (s.lat .calGain t (i + 128 * (h + 1)) r) t i r))
  ((s.setCalStage t 0).calEntryOff t).setMapBit .CAL_DONE_TILE 0 t true

/-- The calibration entry runs in the span that begins (R223, R344): its reading is that of the span. -/
def State.calEntryRun (s : State) (t : Nat) : State :=
  let s := ((s.setLat .calEntry 2 t).setTbit .MC_STATUS t 3 true).setLat .calTemp (s.sensor t) t
  (s.setFlag .calRan false t 0).setFlag .calRan false t 1

/-- What ends at a span boundary of a tile before its loops are judged: the stage that the calibration entry has
closed (R344), and the group all of whose members have finished or been skipped (R339). An entry that the half with
the token did not run to its end runs again. -/
def State.calBoundaryEnd (s : State) (t : Nat) : State :=
  let s :=
    if s.calStage t = 0 ∨ s.lat .calEntry t ≠ 2 then s
    else if s.flag .calRan t (s.token t) then s.calFinish t
    else (s.calEntryOff t).setLat .calEntry 1 t
  s.calGroupDone

/-- What begins at a span boundary of a tile after its loops are judged. -/
def State.calBoundaryBegin (s : State) (t : Nat) : State :=
  match s.calStage t with
  | 1 => s.calRecentre t
  | 2 =>
    let s := s.setLat .calSpans (s.nlat .calSpans t + 1) t
    let s := forUpto 2 s (fun k s => if s.tbit .ADC_STATUS t (5 + k) then s.setFlag .calCmpDone true t k else s)
    let s := s.calCheckDone t
    if s.lat .calEntry t = 1 then s.calEntryRun t else s
  | _ => s

/-- MEASURE_TIMEOUT (R339): a tile whose MEASURE stage has exceeded MSPANS spans is skipped. -/
def execMeasureTimeout (tile : Nat) (s : State) : Host.Outcome State Fault Refusal :=
  okIf (decide (tile < 176)) <|
    if s.calStage tile = 2 ∧ s.fld .CAL_TIMING 31 16 < s.nlat .calSpans tile then
      ((s.send 0x107 0x3A tile).calSkip tile).calGroupDone
    else s

/-! ### The calibration commit (R345, R346) -/

/-- The boundary B, `ahead` grains away, may be the calibration boundary (R345). -/
def State.calQualifies (s : State) (ahead : Nat) : Bool :=
  s.calState == 3 && decide (s.nlat .calStaged + 2400 ≤ s.grain + ahead)

/-- The staged values of one tile come into force (R346). -/
def State.calApplyTile (s : State) (t : Nat) : State :=
  let s := forUpto 2 s (fun k s => s.setTreg .TILE_CMPT t (s.treg .TILE_CMPT_NEXT t k) k)
  let s := forUpto 128 s (fun i s =>
    if s.chRole t (i % 64) = 0 then s
    else forUpto 4 s (fun r s =>
      (s.setLat .calOldGain (s.treg .ADC_GAIN t i r) t i r).setTreg .ADC_GAIN t (s.nlat .calGain t i r) i r))
  let s := s.setLat .calAt (s.grain + 1) t
  let rd := ux 16 (s.lat .calTemp t)
  (s.setTreg .TILE_CAL_TREF t rd).setTreg .TILE_CAL_TG t rd

/-- The calibration boundary (R346). -/
def State.calApply (s : State) : State :=
  let s := forIn' (s.tiles.filter (fun t => s.mapBit .CAL_DONE_TILE 0 t)) s (fun t s => s.calApplyTile t)
  let s := (s.setLat .calArm 0).wrapInc .CAL_COUNT
  let s := (s.setReg .CAL_LAST_NS s.time.ns).setReg .CAL_LAST_S_LO s.time.sec
  (s.setReg .CAL_LAST_S_HI (s.time.sec / 2 ^ 32 % 2 ^ 16)).calEnd

end Sys2Proof.Machine
end

