-- ==== Sys2Proof/Machine/Slots.lean ====
section
/-! DEFINITION. Configurations, commits outside SLOTTED, slot lists and their commands, staging of
DRAM configurations, and the fixing of a boundary's grain (R232 to R249, R279). What a boundary
itself does stands in Commit.lean. -/
namespace Sys2Proof.Machine

/-! ### Configuration banks and their ECC (R233, R234) -/

/-- Kind of the error that a pair of bank words holds: 0 none, 1 single-bit, 2 double-bit. -/
def State.eccKind (s : State) (k : Nat) : Nat := spGet 0 s.bankEcc k / 4

/-- An error strikes a pair. -/
def State.eccStrike (s : State) (kind k : Nat) : State :=
  { s with bankEcc := spPut 0 s.bankEcc k (max (s.eccKind k) kind * 4 + 3) }

/-- A read meets the error of a pair (R234). -/
def State.eccMeet (s : State) (k : Nat) : State :=
  match s.eccKind k with
  | 0 => s
  | 1 => ({ s with bankEcc := spPut 0 s.bankEcc k 0 }.setRbit .CFG_STATUS 1 true).send 0x109 0x2C (8 * k)
  | _ => (s.setRbit .CFG_STATUS 2 true).send 0x109 0x2D (8 * k)

/-- The pairs of a bank that hold an error. -/
def State.eccPairs (s : State) (b : Nat) : List Nat := (s.bankEcc.map (·.1)).filter (fun k => k / 256 == b)

/-- A bank read whole meets every error in it. -/
def State.eccMeetBank (s : State) (b : Nat) : State := (s.eccPairs b).foldl State.eccMeet s

/-- The bank holds a double-bit error. -/
def State.bankHasUe (s : State) (b : Nat) : Bool := (s.eccPairs b).any (fun k => s.eccKind k == 2)

/-- A configuration is valid (R233). -/
def State.cfgValid (s : State) (dram : Bool) (x : Nat) : Bool :=
  let w := fun k => s.cfgWord dram x k
  let a := w 0x180
  bit a 31 && bits a 30 16 == 0 && bits a 15 8 == 1 && bits a 7 4 == 0 && bits a 3 0 == s.order &&
    bits (w 0x182) 30 17 == 0 && (List.range 0x7C).all (fun k => w (0x184 + k) == 0) &&
    (List.range 1024).all (fun j => decide (j < s.ports) || !bit (w (0x160 + j / 32)) (j % 32)) &&
    (List.range 352).all (fun k => w k == 0 || (List.range 32).all (fun i => !bit (w k) i || s.role (32 * k + i) != 0)) &&
    w 0x183 == crc32 ((List.range 0x183).flatMap (fun k => leBytes 4 (w k)))

/-- A bank configuration is read to check it: its errors are met, and one with a double-bit error
counts as not valid (R234). -/
def State.checkBank (s : State) (b : Nat) : Bool × State :=
  (!s.bankHasUe b && s.cfgValid false b, s.eccMeetBank b)

/-- A DRAM configuration is read to check it: an uncorrectable DRAM error makes it not valid (R245,
R435). -/
def State.checkDramCfg (s : State) (d : Nat) : Bool × State :=
  match s.dramCfgOff d with
  | none => (false, s)
  | some o =>
    match s.dramBad o 2048 with
    | some w => (false, s.dramError (32 * w))
    | none => (decide (d < s.fld .CFG_DRAM_COUNT 16 0) && (s.dramMeet o 2048).cfgValid true d, s.dramMeet o 2048)

/-! ### Lists (R238 to R240) -/

/-- DURATION of entry e of list memory m. -/
def State.slotDur (s : State) (m e : Nat) : Nat := s.reg .SLOT_ENTRY0 m e

/-- Word 1 of entry e of list memory m. -/
def State.slotW1 (s : State) (m e : Nat) : Nat := s.reg .SLOT_ENTRY1 m e

/-- The length of a list, when an entry has LAST (R238). -/
def State.listLen (s : State) (m : Nat) : Option Nat :=
  (firstUpto 1024 (fun e => bit (s.slotW1 m e) 31)).map (· + 1)

/-- The entries that a list takes up: up to its LAST, or all. -/
def State.listSpan (s : State) (m : Nat) : Nat := (s.listLen m).getD 1024

/-- The sum of the durations of entries a to b - 1 (R243). -/
def State.durSum (s : State) (m a b : Nat) : Nat := forUpto (b - a) 0 (fun k x => x + s.slotDur m (a + k))

/-- A list names a bank. -/
def State.listNames (s : State) (m b : Nat) : Bool :=
  (List.range (s.listSpan m)).any (fun e => !bit (s.slotW1 m e) 27 && bits (s.slotW1 m e) 15 0 == b)

/-- The positions of a list whose entries name DRAM configurations. -/
def State.dramPositions (s : State) (m : Nat) : List Nat :=
  (List.range (s.listSpan m)).filter (fun e => bit (s.slotW1 m e) 27)

/-- An operating list is in force. -/
def State.running (s : State) : Bool := s.rbit .SLOT_STATUS 5

/-- A pending list is armed. -/
def State.armed (s : State) : Bool := s.rbit .SLOT_STATUS 6

/-- A stop is pending. -/
def State.stopping (s : State) : Bool := s.rbit .SLOT_STATUS 7

/-- List memory of the operating list. -/
def State.opMem (s : State) : Nat := s.fld .SLOT_STATUS 4 4

/-- List memory m holds the operating or the armed list. -/
def State.listUsed (s : State) (m : Nat) : Bool :=
  (s.running && s.opMem == m) || (s.armed && s.nlat .pendMem == m)

/-- List memory m is idle (R240); one under validation counts as armed. -/
def State.listIdle (s : State) (m : Nat) : Bool := !s.listUsed m && s.nlat .armBusy != m + 1

/-- The staging ring of list memory m is in use (R245). -/
def State.ringUsed (s : State) (m : Nat) : Bool := s.listUsed m && !(s.dramPositions m).isEmpty

/-- The bank and target banks that a running solver command names (R257). -/
def State.solverNames (s : State) (b : Nat) : Bool :=
  let names := fun w => !bit w 31 && bits w 15 0 == b
  match s.nlat .rteOp with
  | 2 => names (s.reg .RTE_ARG1)
  | 3 | 4 | 5 => names (s.reg .RTE_ARG0) || names (s.reg .RTE_ARG1)
  | 6 | 7 => names (s.reg .RTE_ARG0)
  | _ => false

/-- Bank b is idle (R234). -/
def State.bankIdle (s : State) (b : Nat) : Bool :=
  !(s.listUsed 0 && s.listNames 0 b) && !(s.listUsed 1 && s.listNames 1 b) &&
    !(s.ringUsed 0 && decide (480 ≤ b ∧ b < 496)) && !(s.ringUsed 1 && decide (496 ≤ b ∧ b < 512)) &&
    s.nlat .cfgReq != b + 1 && !s.solverNames b

/-- Network time, rounded up to a whole nanosecond. -/
def State.nowCeil (s : State) : Nat := (s.time.total + (2 ^ 32 - 1)) / 2 ^ 32

/-! ### CFG_COMMIT (R237) -/

/-- A write to CFG_COMMIT. -/
def State.cfgCommit (s : State) (bank : Nat) (guard : Bool) : State :=
  let (ok, s) := s.checkBank bank
  if !ok then (s.setRbit .CFG_STATUS 3 true).refuse .CFG_COMMIT
  else if (s.mode = .characterise ∨ s.mode = .static ∧ s.armed = false) ∧ s.rbit .CFG_STATUS 4 = false then
    let s := s.setRbit .CFG_STATUS 4 true
    let s := (s.setLat .cfgReq (bank + 1)).setFlag .cfgGuard guard
    (s.setLat .cfgFrom (s.grain + 2000)).setLat .cfgHeld 0
  else s.refuse .CFG_COMMIT

/-- CFG_COMMIT (R237): a bank and a GUARD bit. -/
def execCfgCommit (bank : Nat) (guard : Bool) (s : State) : Host.Outcome State Fault Refusal :=
  okIf (decide (bank < 512)) (s.cfgCommit bank guard)

/-! ### Staging (R245) -/

/-- The copy of occurrence q of the DRAM entries of list memory m is requested. -/
def State.ringRequest (s : State) (m q : Nat) : State :=
  let ps := s.dramPositions m
  if ps.isEmpty then s
  else
    let s := s.setLat .ringCfg (bits (s.slotW1 m (ps.getD (q % ps.length) 0)) 15 0) m (q % 16)
    s.setLat .ringSt 1 m (q % 16)

/-- The first 16 copies are requested at the arm instant. -/
def State.ringStart (s : State) (m : Nat) : State :=
  forUpto 16 (s.setLat .ringHead 0 m) (fun q s => s.ringRequest m q)

/-- The ring is released. -/
def State.ringEnd (s : State) (m : Nat) : State :=
  forUpto 16 (s.setLat .ringHead 0 m) (fun k s => (s.setLat .ringSt 0 m k).setLat .ringCfg 0 m k)

/-- The broadcast of an occurrence has ended: its bank is refilled with the next such occurrence. -/
def State.ringAdvance (s : State) (m : Nat) : State :=
  let q := s.nlat .ringHead m
  (s.setLat .ringHead (q + 1) m).ringRequest m (q + 16)

/-- A requested copy arrives in its staging bank and is checked. -/
def State.stagingArrive (s : State) (m k : Nat) : State :=
  if s.lat .ringSt m k = 1 then
    let d := s.nlat .ringCfg m k
    let (ok, s) := s.checkDramCfg d
    let s := match s.dramCfgOff d with
      | none => s
      | some o => forUpto 512 s (fun w s => s.setBankWord (480 + 16 * m + k) w (s.dramVal (o + 4 * w) 4))
    s.setLat .ringSt (if ok then 2 else 3) m k
  else s

/-- STAGING_COPY_ARRIVAL (R245): the copy of a place of a ring arrives. -/
def execStagingCopyArrival (mem place : Nat) (s : State) : Host.Outcome State Fault Refusal :=
  okIf (decide (mem < 2 ∧ place < 16)) (s.stagingArrive mem place)

/-! ### ARM, DISARM, STOP (R239 to R242, R246) -/

/-- A bank that the list names is used by a solver command or a CFG_COMMIT in progress (R239). -/
def State.armClash (s : State) (m : Nat) : Bool :=
  (List.range (s.listSpan m)).any (fun e =>
    let w := s.slotW1 m e
    !bit w 27 && (s.nlat .cfgReq == bits w 15 0 + 1 || s.solverNames (bits w 15 0)))

/-- A write of ARM (R239): the list memory that is neither operating nor armed; memory 0 when
neither is. -/
def State.slotArm (s : State) : State :=
  let m := if s.running then 1 - s.opMem else 0
  if (s.under = .static ∨ s.under = .slotted) ∧ s.armed = false ∧ s.lat .armBusy = 0 ∧ s.stopping = false ∧
      s.armClash m = false then s.setLat .armBusy (m + 1)
  else s.refuse .SLOT_CMD

/-- SLOT_ARM (R239). -/
def execSlotArm (s : State) : Host.Outcome State Fault Refusal := okIf true s.slotArm

/-- The failure of entry e in itself (R239), 0 when it has none. -/
def State.entryCode (s : State) (m e : Nat) : Nat × State :=
  let w := s.slotW1 m e
  let dram := bit w 27
  let x := bits w 15 0
  if s.slotDur m e < 1000 then (2, s)
  else if bits w 26 16 ≠ 0 ∨ (dram = true ∧ s.fld .CFG_DRAM_COUNT 16 0 ≤ x) ∨ (dram = false ∧ 512 ≤ x) then (3, s)
  else if dram then (if e = 0 then 5 else 0, s)
  else
    let (ok, s) := s.checkBank x
    (if ok then 0 else 4, s)

/-- The entries checked in index order until the first failure: the code and the entry. -/
def State.entriesCode (s : State) (m : Nat) : Nat → Nat → Nat × Nat × State
  | 0, _ => (0, 0, s)
  | n + 1, e =>
    let (c, s) := s.entryCode m e
    if c = 0 then s.entriesCode m n (e + 1) else (c, e, s)

/-- Validation of a list of n entries (R239). -/
def State.listCheck (s : State) (m n : Nat) : Nat × Nat × State :=
  let (c, e, s) := s.entriesCode m n 0
  if c ≠ 0 then (c, e, s)
  else if 2 ^ 40 ≤ s.durSum m 0 n then (6, 0, s)
  else if 1000000000 ≤ s.reg .SLOT_BASE_NS then (7, 0, s)
  else (0, 0, s)

/-- Validation of a list (R239): the code and the entry of the first failure. -/
def State.listCode (s : State) (m : Nat) : Nat × Nat × State :=
  if (s.listLen m).isNone then (1, 0, s) else s.listCheck m (s.listSpan m)

/-- SLOT_BASE in nanoseconds of network time. -/
def State.slotBase (s : State) : Nat :=
  1000000000 * (2 ^ 32 * s.fld .SLOT_BASE_S_HI 15 0 + s.reg .SLOT_BASE_S_LO) + s.reg .SLOT_BASE_NS

/-- The pending start (R242), and whether it is late: `need` is the arm instant plus 2,000 ns. -/
def startTime (base need tc : Nat) : Nat × Bool :=
  if need ≤ base then (base, false)
  else (base + max 1 ((need - base + tc - 1) / tc) * tc, true)

/-- SLOT_START reads a time. -/
def State.setStart (s : State) (ns : Nat) : State :=
  let sec := ns / 1000000000
  ((s.setReg .SLOT_START_NS (ns % 1000000000)).setReg .SLOT_START_S_LO sec).setReg .SLOT_START_S_HI
    (sec / 2 ^ 32 % 2 ^ 16)

/-- The arm instant (R239, R242, R245). -/
def State.armDone (s : State) : State :=
  if s.lat .armBusy = 0 then s
  else
    let m := s.nlat .armBusy - 1
    let s := s.setLat .armBusy 0
    let (c, e, s) := s.listCode m
    if c ≠ 0 then s.setReg .SLOT_ARMERR (2 ^ 24 * c + e)
    else
      let n := s.listSpan m
      let tc := s.durSum m 0 n
      let st := startTime s.slotBase (s.nowCeil + 2000) tc
      let s := if st.2 then s.setRbit .SLOT_STATUS 1 true else s
      let s := (s.setLat .pendS st.1).setLat .pendMem m
      let s := (s.setStart st.1).setRbit .SLOT_STATUS 6 true
      let s := (s.setReg .SLOT_PEND_TC_LO tc).setReg .SLOT_PEND_TC_HI (tc / 2 ^ 32)
      (s.setReg .SLOT_PEND_LEN n).ringStart m

/-- ARM_VALIDATION_DONE (R242). -/
def execArmValidationDone (s : State) : Host.Outcome State Fault Refusal := okIf true s.armDone

/-- Occurrences are dropped; a block that serves no other is freed without write-back (R170). -/
def State.dropOccs (s : State) (p : Occ → Bool) : State :=
  let gone := (s.occs.filter p).map (·.no)
  let bs := s.blocks.map (fun b => { b with occs := b.occs.filter (fun n => !gone.contains n) })
  { s with occs := s.occs.filter (fun o => !p o), blocks := bs.filter (fun b => !b.occs.isEmpty) }

/-- Fetched blocks of the armed list are freed without write-back (R240). -/
def State.freePending (s : State) : State := s.dropOccs (fun o => o.forPend)

/-- A write of DISARM (R240). -/
def State.slotDisarm (s : State) : State :=
  if s.armed ∧ s.nowCeil + 2000 ≤ s.nlat .pendS then
    let s := (s.setRbit .SLOT_STATUS 6 false).freePending
    s.ringEnd (s.nlat .pendMem)
  else s.refuse .SLOT_CMD

/-- SLOT_DISARM (R240). -/
def execSlotDisarm (s : State) : Host.Outcome State Fault Refusal := okIf true s.slotDisarm

/-- The first boundary of the operating list at `need` or later, of position 0 only when `atEnd`;
`fuel` bounds the search from boundary time `t` of position `p`. -/
def State.stopSearch (s : State) (m n need : Nat) (atEnd : Bool) : Nat → Nat → Nat → Nat
  | 0, t, _ => t
  | fuel + 1, t, p =>
    if need ≤ t ∧ (atEnd = false ∨ p = 0) then t
    else s.stopSearch m n need atEnd fuel (t + s.slotDur m p) (if p + 1 < n then p + 1 else 0)

/-- A write of STOP (R246). -/
def State.slotStop (s : State) (bank : Nat) (guard atEnd : Bool) : State :=
  if s.mode = .slotted ∧ s.armed = false ∧ s.lat .armBusy = 0 ∧ s.stopping = false ∧ s.running then
    let (ok, s) := s.checkBank bank
    if ok then
      let m := s.opMem
      let n := s.listSpan m
      let t := s.stopSearch m n (s.nowCeil + 2000) atEnd (4 * n + 8) (s.nlat .opNext) (s.nlat .opNextPos)
      let s := (s.setRbit .SLOT_STATUS 7 true).setLat .stopAt t
      s.setLat .stopWord (512 * b2n guard + bank)
    else s.refuse .SLOT_CMD
  else s.refuse .SLOT_CMD

/-- SLOT_STOP (R246): the stop configuration, its GUARD bit and ATEND. -/
def execSlotStop (bank : Nat) (guard atEnd : Bool) (s : State) : Host.Outcome State Fault Refusal :=
  okIf (decide (bank < 512)) (s.slotStop bank guard atEnd)

/-- A write to SLOT_CMD, by its OP (R261). -/
def State.slotCmdWrite (s : State) (w : Nat) : State :=
  match bits w 31 28 with
  | 1 => s.slotArm
  | 2 => s.slotDisarm
  | 3 => s.slotStop (bits w 8 0) (bit w 26) (bit w 27)
  | _ => s.refuse .SLOT_CMD

/-! ### The coming slot boundary (R243, R244, R279) -/

/-- The next boundary of the operating list that is not cancelled (R244). -/
def State.nextOp (s : State) : Option Nat :=
  if s.running then
    let t := s.nlat .opNext
    if s.armed && decide (s.nlat .pendS < t + 1000) then none else some t
  else none

/-- The boundary time of the coming slot boundary, and whether it is the switchover at S. -/
def State.nextSlot (s : State) : Option (Nat × Bool) :=
  match s.nextOp with
  | some t => some (t, false)
  | none => if s.armed then some (s.nlat .pendS, true) else none

/-- The grain of a boundary at `t` ns, seen from the present grain (R279). -/
def State.fixedGrain (s : State) (t : Nat) : Nat :=
  let rem := 2 ^ 32 * t - s.time.total
  s.grain + (rem + s.incr - 1) / s.incr

/-- The slot timer fixes the grain of the coming boundary at the fix grain, the first at which network time is
512 ns before it or later (R279). -/
def State.fixBoundary (s : State) : State :=
  match s.nextSlot with
  | none => s
  | some (t, _) =>
    if s.lat .fixG = 0 ∧ 2 ^ 32 * t ≤ s.time.total + 512 * 2 ^ 32 ∧ s.time0.total + 512 * 2 ^ 32 < 2 ^ 32 * t then
      s.setLat .fixG (s.fixedGrain t + 1)
    else s

/-- BOUNDARY_FIX_GRAIN (R279). -/
def execBoundaryFixGrain (s : State) : Host.Outcome State Fault Refusal := okIf true s.fixBoundary

/-- The slot position begun last occurs again (R244): the position, and the boundary after it. -/
def State.setNextOp (s : State) (m p t : Nat) : State :=
  (s.setLat .opNext (t + s.slotDur m p)).setLat .opNextPos (if p + 1 < s.listSpan m then p + 1 else 0)

end Sys2Proof.Machine
end

