-- ==== Sys2Proof/Machine/Mmu.lean ====
section
/-! DEFINITION. Which initiator reaches which target (R428), accesses to memory by the engines,
translation by the I/O memory management unit (R441 to R443), and the capture rings' writes (R148). -/
namespace Sys2Proof.Machine

/-! ### Targets (R30, R428) -/

/-- The targets of the bus matrix. -/
inductive Target where
  | rom
  | sram
  | reg
  | tile
  | cfgb
  | dram
deriving DecidableEq, Repr

/-- The initiator ports of the bus matrix. -/
inductive Port where
  | core
  | plv
  | dma
  | cap
  | swp
deriving DecidableEq, Repr

/-- The target of an address and the offset in it, where the map has one (R30). -/
def State.target (s : State) (a : Nat) : Option (Target × Nat) :=
  let remap := s.rbit .MGT_REMAP 0
  let win := fun (o : Nat) (rom : Bool) => if rom then (if o < 0x20000 then some (Target.rom, o) else none) else some (Target.sram, o)
  if a < 0x100000 then win a (!remap)
  else if a < 0x200000 then win (less a 0x100000) remap
  else if a < 0x400000 then none
  else if a < 0x5A0000 then
    if 0x480000 ≤ a ∧ a < 0x490000 ∨ 0x4E0000 ≤ a ∧ a < 0x4F0000 then some (.tile, a) else some (.reg, a)
  else if a < 0x1000000 then none
  else if a < 0x1B00000 then some (.tile, a)
  else if a < 0x2000000 then none
  else if a < 0x2100000 then some (.cfgb, less a 0x2000000)
  else (s.dramOff a).map (fun o => (Target.dram, o))

/-- The access paths of R428. -/
def pathOk (p : Port) (t : Target) (write : Bool) : Bool :=
  match p, t with
  | .core, .rom | .plv, .rom => !write
  | .core, _ | .plv, _ => true
  | .dma, .sram | .dma, .cfgb | .dma, .dram => true
  | .cap, .dram => write
  | .swp, .dram => !write
  | _, _ => false

/-! ### Configuration banks on the bus (R234) -/

/-- A write to a bank word; refused while its bank is not idle. -/
def State.bankWrite (s : State) (o v : Nat) : State :=
  let c := o / 2048
  if s.bankIdle c then s.setBankWord c (o % 2048 / 4) v else s.refuseAddr (0x2000000 + o)

/-- A read of a bank word: none where its pair has a double-bit error. -/
def State.bankRead (s : State) (o : Nat) : Option Nat × State :=
  let k := o / 8
  let r := if s.eccKind k = 2 then none else some (s.bankWord (o / 2048) (o % 2048 / 4))
  (r, s.eccMeet k)

/-! ### Memory accesses of the engines -/

/-- What a memory read of an engine gives: bytes, an error response, or an uncorrectable DRAM
error (R435, R437). -/
inductive MemRes where
  | ok (bs : List Byte)
  | bus
  | ue
deriving DecidableEq, Repr

/-- `n` bank words from an offset, the state last. -/
def State.bankReads (s : State) (o : Nat) : Nat → Option (List Byte) × State
  | 0 => (some [], s)
  | n + 1 =>
    let (r, s) := s.bankRead o
    let (q, s) := s.bankReads (o + 4) n
    (match r, q with
      | some v, some bs => some (leBytes 4 v ++ bs)
      | _, _ => none, s)

/-- Bytes of the boot ROM (log entry 11). -/
def romBytes (o n : Nat) : List Byte := (List.range n).map (fun k => Config.bootRom (o + k))

/-- A read of `n` bytes of DRAM by an engine (R435, R503). -/
def State.dramRead (s : State) (o n : Nat) : MemRes × State :=
  match s.dramBad o n with
  | some w => (.ue, s.dramError (32 * w))
  | none => (.ok ((s.dramMeet o n).dramBytes o n), { s.dramMeet o n with freeCtr := (s.dramMeet o n).freeCtr + 1 })

/-- A read of `n` bytes by an engine at a management address, all within one target. -/
def State.memGet (s : State) (p : Port) (a n : Nat) : MemRes × State :=
  match s.target a, s.target (a + n - 1) with
  | some (t, o), some (t', _) =>
    if t ≠ t' ∨ pathOk p t false = false then (.bus, s.addrLog a)
    else
      match t with
      | .rom => (.ok (romBytes o n), s)
      | .sram => (.ok ((List.range n).map (fun k => s.sramByte (o + k))), s)
      | .dram => s.dramRead o n
      | .cfgb =>
        if o % 4 = 0 ∧ n % 4 = 0 then
          let (r, s) := s.bankReads o (n / 4)
          match r with
          | some bs => (.ok bs, s)
          | none => (.bus, s)
        else (.bus, s.addrLog a)
      | _ => (.bus, s.addrLog a)
  | _, _ => (.bus, s.addrLog a)

/-- A write of bytes by an engine at a management address; whether it completed without an error
response. -/
def State.memPut (s : State) (p : Port) (a : Nat) (bs : List Byte) : Bool × State :=
  match s.target a, s.target (a + bs.length - 1) with
  | some (t, o), some (t', _) =>
    if t ≠ t' ∨ pathOk p t true = false then (false, s.addrLog a)
    else
      match t with
      | .sram => (true, s.sramWrite o bs)
      | .dram => (true, s.dramWrite o bs)
      | .cfgb =>
        if o % 4 = 0 ∧ bs.length % 4 = 0 then
          (true, forUpto (bs.length / 4) s (fun k s => s.bankWrite (o + 4 * k) (leVal (slice bs (4 * k) 4))))
        else (false, s.addrLog a)
      | _ => (false, s.addrLog a)
  | _, _ => (false, s.addrLog a)

/-! ### Translation (R441 to R443) -/

/-- Causes of a translation fault (R443). -/
inductive XCause where
  | invalid
  | perm
  | format
  | walk
  | stream
deriving DecidableEq, Repr

/-- CAUSE codes (R443). -/
def XCause.code : XCause → Nat
  | .invalid => 0
  | .perm => 1
  | .format => 2
  | .walk => 3
  | .stream => 4

/-- A table entry read from the DRAM window; none for a read that meets an error (R435). -/
def State.tableEntry (s : State) (a : Nat) : Option Nat × State :=
  match s.dramOff a, s.dramOff (a + 7) with
  | some o, some _ =>
    match s.dramBad o 8 with
    | some w => (none, s.dramError (32 * w))
    | none => (some ((s.dramMeet o 8).dramVal o 8), s.dramMeet o 8)
  | _, _ => (none, s.addrLog a)

/-- The walk from a table at a level: `left` levels lie below it (R442). -/
def State.walk (s : State) (iova : Nat) : Nat → Nat → (Sum XCause (Nat × Nat × Bool × Bool)) × State
  | left, table =>
    let ix := iova / 2 ^ (12 + 9 * left) % 512
    let (e, s) := s.tableEntry (table + 8 * ix)
    match e with
    | none => (.inl .walk, s)
    | some e =>
      let leaf := bit e 1
      if !bit e 0 then (.inl .invalid, s)
      else if bits e 11 4 ≠ 0 ∨ bits e 63 40 ≠ 0 ∨ (leaf = true ∧ left = 2) ∨ (leaf = false ∧ left = 0) ∨
          (leaf = true ∧ left = 1 ∧ bits e 20 12 ≠ 0) then (.inl .format, s)
      else if leaf then (.inr (4096 * bits e 39 12, 2 ^ (12 + 9 * left), bit e 2, bit e 3), s)
      else
        match left with
        | 0 => (.inl .format, s)
        | l + 1 => s.walk iova l (4096 * bits e 39 12)

/-- A cached translation of a stream and address. -/
def State.tlbHit (s : State) (stream iova : Nat) : Option Tlb :=
  s.tlb.find? (fun e => e.stream == stream && decide (e.iova ≤ iova ∧ iova < e.iova + e.size))

/-- A leaf joins the cache of 128 translations; which one it takes the place of is not specified. -/
def State.tlbAdd (s : State) (e : Tlb) : State :=
  if s.tlb.length < 128 then { s with tlb := s.tlb ++ [e] }
  else
    let (v, s) := s.draw 7
    { s with tlb := s.tlb.take v ++ s.tlb.drop (v + 1) ++ [e] }

/-- A translation fault is sent and counted (R443). -/
def State.xlateFault (s : State) (stream iova : Nat) : State :=
  (s.satAdd .MMU_FAULT_CNT).send 0x116 0x72 (2 ^ 27 * stream + iova / 4096 % 2 ^ 27)

/-- One translation (R441 to R443): the management address, or the cause of the fault. -/
def State.translate (s : State) (stream iova : Nat) (write : Bool) : (Sum XCause Nat) × State :=
  if !s.rbit .MMU_STREAM 31 stream then (.inl .stream, s.xlateFault stream iova)
  else
    let use := fun (s : State) (e : Tlb) =>
      if (if write then e.wr else e.rd) then ((Sum.inr (e.pa + (iova - e.iova)) : Sum XCause Nat), s)
      else (Sum.inl XCause.perm, s.xlateFault stream iova)
    match s.tlbHit stream iova with
    | some e => use s e
    | none =>
      let (r, s) := s.walk iova 2 (2 ^ 32 * s.fld .MMU_ROOT_HI 7 0 stream + 4096 * s.fld .MMU_ROOT_LO 31 12 stream)
      match r with
      | .inl c => (.inl c, s.xlateFault stream iova)
      | .inr (pa, size, rd, wr) =>
        let e : Tlb := ⟨stream, iova / size * size, size, pa, rd, wr⟩
        use (s.tlbAdd e) e

/-- The runs of management addresses of `n` bytes from an IOVA, page by page; `fuel` bounds the
pages. The fault gives its IOVA and cause. -/
def State.translateRange (s : State) (stream : Nat) (write : Bool) :
    Nat → Nat → Nat → (Sum (Nat × XCause) (List (Nat × Nat))) × State
  | 0, _, _ => (.inr [], s)
  | fuel + 1, iova, n =>
    if n = 0 then (.inr [], s)
    else
      let k := min n (4096 - iova % 4096)
      let (r, s) := s.translate stream (iova % 2 ^ 39) write
      match r with
      | .inl c => (.inl (iova % 2 ^ 39, c), s)
      | .inr pa =>
        let (q, s) := s.translateRange stream write fuel (iova + k) (n - k)
        match q with
        | .inl f => (.inl f, s)
        | .inr l => (.inr ((pa, k) :: l), s)

/-! ### MMU_INV (R443, R454) -/

/-- MMU_INV_ALL (R443). -/
def execMmuInvAll (s : State) : Host.Outcome State Fault Refusal := okIf true { s with tlb := [] }

/-- The translations of one stream are invalidated. -/
def State.invStream (s : State) (stream : Nat) : State := { s with tlb := s.tlb.filter (fun e => e.stream != stream) }

/-- MMU_INV_STREAM (R443). -/
def execMmuInvStream (stream : Nat) (s : State) : Host.Outcome State Fault Refusal :=
  okIf (decide (stream < 32)) (s.invStream stream)

/-- The translation of the page that MMU_INV_IOVA names is invalidated. -/
def State.invPage (s : State) (stream : Nat) : State :=
  let a := 2 ^ 32 * s.fld .MMU_INV_IOVA_HI 6 0 + 4096 * s.fld .MMU_INV_IOVA_LO 31 12
  { s with tlb := s.tlb.filter (fun e => !(e.stream == stream && decide (e.iova ≤ a ∧ a < e.iova + e.size))) }

/-- MMU_INV_PAGE (R443). -/
def execMmuInvPage (stream : Nat) (s : State) : Host.Outcome State Fault Refusal :=
  okIf (decide (stream < 32)) (s.invPage stream)

/-- A write to MMU_INV (R454). -/
def State.mmuInvWrite (s : State) (w : Nat) : State :=
  match bits w 31 28 with
  | 1 => { s with tlb := [] }
  | 2 => s.invStream (bits w 20 16)
  | 3 => s.invPage (bits w 20 16)
  | _ => s.refuse .MMU_INV

/-! ### Capture rings (R148, R149) -/

/-- The four words of a capture record as bytes (R147). -/
def CapRec.bytes (r : CapRec) : List Byte := leBytes 4 r.w0 ++ leBytes 4 r.w1 ++ leBytes 4 r.w2 ++ leBytes 4 r.w3

/-- Bytes of a ring. -/
def State.ringSize (s : State) (r : Nat) : Nat := 2 ^ s.fld .DMA_CAP_SIZE 4 0 r

/-- A record is dropped and counted (R148). -/
def State.capDrop (s : State) (r : Nat) : State :=
  (s.satAdd .DMA_CAP_DROP 1 0 r).setLat .capLost (s.lat .capLost r + 1) r

/-- One record is written at WP (R148): whether it reached DRAM. DESIGN CHOICE (log entry 34): a record that a
translation fault drops is not counted in DMA_CAP_DROP. -/
def State.capPut (s : State) (r : Nat) (bs : List Byte) : Bool × State :=
  let wp := s.reg .DMA_CAP_WP r
  let iova := 2 ^ 32 * s.fld .DMA_CAP_BASE_HI 7 0 r + 4096 * s.fld .DMA_CAP_BASE_LO 31 12 r + wp
  let (x, s) := s.translate (16 + r) (iova % 2 ^ 39) true
  match x with
  | .inl _ => (false, (s.setRbit .DMA_CAP_CTRL 0 false r).setRbit .DMA_CAP_CTRL 2 true r)
  | .inr pa =>
    let (ok, s) := s.memPut .cap pa bs
    if !ok then (false, s)
    else
      let size := s.ringSize r
      let next := (wp + 16) % size
      let rp := s.reg .DMA_CAP_RP r
      let thr := 1024 * s.fld .DMA_CAP_CTRL 31 16 r
      let s := s.setReg .DMA_CAP_WP next r
      let s := if next = 0 ∧ s.rbit .DMA_CAP_CTRL 1 r then s.wrapInc .DMA_CAP_WRAP 0 r else s
      let fill := fun w => (w + size - rp % size) % size
      (true, if fill wp < thr ∧ thr ≤ fill next then s.publish (0x205 + r) else s)

/-- The oldest record of a ring's holding buffer is written, preceded by a drop marker after drops. -/
def State.capWrite (s : State) (r : Nat) : State :=
  match s.capQ.find? (fun q => q.ring == r) with
  | none => s
  | some q =>
    let s := { s with capQ := s.capQ.erase q }
    if !s.rbit .DMA_CAP_CTRL 0 r then s
    else
      let size := s.ringSize r
      let wp := s.reg .DMA_CAP_WP r
      let rp := s.reg .DMA_CAP_RP r
      let lost := s.nlat .capLost r
      let need := if lost = 0 then 16 else 32
      let full := !s.rbit .DMA_CAP_CTRL 1 r &&
        ((wp + 16) % size == rp % size || (need == 32 && (wp + 32) % size == rp % size))
      if full then s.capDrop r
      else if lost = 0 then (s.capPut r q.bytes).2
      else
        let (ok, s) := s.capPut r (CapRec.bytes ⟨r, lost, 3 * 2 ^ 30, 0, s.spanCount % 2 ^ 32⟩)
        if ok then ((s.setLat .capLost 0 r).capPut r q.bytes).2 else s

/-- CAPTURE_RECORD_WRITTEN (R148): the capture engine writes the oldest record of a ring. -/
def execCaptureRecordWritten (ring : Nat) (s : State) : Host.Outcome State Fault Refusal :=
  okIf (decide (ring < 8)) (s.capWrite ring)

/-- EN of a ring goes from 0 to 1 (R148). -/
def State.capEnable (s : State) (r : Nat) : State :=
  let s := ((s.setReg .DMA_CAP_WP 0 r).setReg .DMA_CAP_RP 0 r).setReg .DMA_CAP_WRAP 0 r
  (s.setLat .capLost 0 r).setRbit .DMA_CAP_CTRL 0 true r

/-- CAPTURE_RING_ENABLE (R148). -/
def execCaptureRingEnable (ring : Nat) (s : State) : Host.Outcome State Fault Refusal :=
  okIf (decide (ring < 8)) (if s.rbit .DMA_CAP_CTRL 0 ring then s else s.capEnable ring)

end Sys2Proof.Machine
end

