-- ==== Sys2Proof/Machine/Sweep.lean ====
section
/-! DEFINITION. Dither list swap (R187, R188) and the sweep player (R190 to R196). -/
namespace Sys2Proof.Machine

/-! ### Dither lists (R188) -/

/-- A write of 1 to DDS_SWAP.SWAP: PEND sets; any write is refused while it is set. -/
def State.ddsSwap (s : State) (t : Nat) : State :=
  if s.tbit .DDS_STATUS t 2 then s.refuse .DDS_SWAP t else s.setTbit .DDS_STATUS t 2 true

/-- DDS_SWAP (R188). -/
def execDdsSwap (tile : Nat) (s : State) : Host.Outcome State Fault Refusal :=
  okIf (decide (tile < 176)) (if s.inUse tile then s.ddsSwap tile else s.addrFault (Reg.DDS_SWAP.addr tile 0 0))

/-- At a span boundary a swap that was pending before its grain takes place (R188, R502). -/
def State.ddsBoundary (s : State) (t : Nat) : State :=
  if s.tbit .DDS_STATUS t 2 && s.before.tbit .DDS_STATUS t 2 then
    ((s.setTbit .DDS_STATUS t 2 false).setTbit .DDS_STATUS t 1 (!s.tbit .DDS_STATUS t 1)).setLat .ddsAt (s.grain + 1) t
  else s

/-! ### The resampler (R192) -/

/-- 2^64 x sin(2 pi n / 4096). -/
def sinFull (n : Nat) : Int :=
  let m := n % 2048
  let v := sinQ64 (if m ≤ 1024 then m else 2048 - m)
  if n % 4096 < 2048 then v else -v

/-- 32767 g(u) for u = k / 32 with |k| < 256, rounded half away from 0 (R192). -/
def firG (k : Nat) : Int :=
  if k = 0 then 32767
  else if 256 ≤ k then 0
  else
    let num := 32767 * sinFull (64 * k) * (2 ^ 64 + sinFull (8 * k + 1024)) * 32
    let den : Int := 2 * 2 ^ 64 * piQ64 * k
    let q := (2 * num.natAbs + den.natAbs) / (2 * den.natAbs)
    if num < 0 then -(q : Int) else q

/-- fir[ph][t] (R192); g is even. -/
def fir (ph t : Nat) : Int := firG (32 * ((t : Int) - 7) - ph).natAbs

/-- The output of player channel p for the frames in the resampler, oldest first (R192). -/
def resample (xs : List (List Nat)) (ph p : Nat) : Nat :=
  let y := (List.range 16).foldl (fun (a : Int) t => a + fir ph t * ((xs.getD t []).getD p 0 : Nat)) 0
  (clampI 0 65535 (asr (y + 2 ^ 14) 15)).toNat

/-! ### Player state -/

/-- SWP_STATUS.STATE: 0 IDLE, 1 RUN, 2 UNDERRUN, 3 PAUSED, 4 DONE. -/
def State.swpState (s : State) : Nat := s.fld .SWP_STATUS 2 0

/-- The state changes. -/
def State.setSwpState (s : State) (v : Nat) : State := s.setFld .SWP_STATUS 2 0 v

/-- The player holds a current sample. -/
def State.swpBusy (s : State) : Bool := decide (1 ≤ s.swpState ∧ s.swpState ≤ 3)

/-- Segment of the current sample. -/
def State.swpCur (s : State) : Nat := s.fld .SWP_POS 31 24

/-- Frame index of the current sample. -/
def State.swpIx (s : State) : Nat := s.fld .SWP_POS 23 0

/-- A jump is pending. -/
def State.swpJump (s : State) : Bool := s.rbit .SWP_JUMP 31

/-- NEXT of a segment, when its STOP is 0. -/
def State.swpNext (s : State) (g : Nat) : Option Nat :=
  if s.rbit .SWP_SEG_CTRL 0 g then none else some (s.fld .SWP_SEG_CTRL 15 8 g)

/-- A frame is in the buffer. -/
def State.swpHas (s : State) (g i : Nat) : Bool := s.swpBuf.any (fun f => f.seg == g && f.ix == i)

/-- The last 4 KiB of the segment playing are fetched (R194): its last frame is in the buffer or is
the current one. -/
def State.swpTailFetched (s : State) : Bool :=
  let n := s.fld .SWP_SEG_LEN 23 0 s.swpCur
  s.swpIx + 1 == n || s.swpHas s.swpCur (n - 1)

/-- A segment is active (R194). -/
def State.segActive (s : State) (g : Nat) : Bool :=
  (s.swpBusy && (s.swpCur == g || (s.swpTailFetched && s.swpNext s.swpCur == some g))) ||
    s.swpBuf.any (fun f => f.seg == g) || (s.swpJump && s.fld .SWP_JUMP 7 0 == g)

/-- The last outputs are copied to HTR_MAN of the mapped cells (R196). -/
def State.swpCopy (s : State) : State :=
  forUpto 64 s (fun p s =>
    let m := s.reg .SWP_MAP p
    if bit m 31 ∧ s.lat .swpOut p ≠ 0 then
      s.setTreg .HTR_MAN (bits m 13 0 / 64) (s.nlat .swpOut p - 1) (bits m 13 0 % 64)
    else s)

/-! ### Commands (R196) -/

/-- SWP_CMD START, from a write or from the SWP_START input. -/
def State.swpStart (s : State) (g hop : Nat) : State :=
  if s.mode = .characterise ∧ s.swpBusy = false then
    let s := (s.setSwpState 1).setReg .SWP_POS (2 ^ 24 * g)
    let s := (s.setReg .SWP_FRAC 0).setLat .swpHop hop
    let s := ((s.setFlag .swpFirst true).setLat .swpTail 0).setLat .swpMissed 0
    let s := forUpto 64 s (fun p s => s.setLat .swpOut 0 p)
    { s with swpBuf := [], swpX := [] }
  else s.refuse .SWP_CMD

/-- SWP_CMD STOP. -/
def State.swpStop (s : State) : State :=
  if s.swpBusy then
    let s := (s.swpCopy.setSwpState 0).setRbit .SWP_JUMP 31 false
    { s with swpBuf := [], swpX := [] }
  else s.refuse .SWP_CMD

/-- SWP_CMD RESUME. -/
def State.swpResume (s : State) : State :=
  if s.mode = .characterise ∧ s.swpState = 3 then s.setSwpState 1 else s.refuse .SWP_CMD

/-- A device HOLD pauses the player (R22, R196). -/
def State.swpPause (s : State) : State :=
  if s.swpState = 1 ∨ s.swpState = 2 then (s.setSwpState 3).setLat .swpMissed 0 else s

/-- SWP_CMD_START (R196): SEG and OP START written. -/
def execSwpCmdStart (seg : Nat) (s : State) : Host.Outcome State Fault Refusal :=
  okIf (decide (seg < 256)) ((s.setLat .swpSeg seg).swpStart seg 0)

/-- SWP_CMD_STOP (R196): SEG of the word written is kept for the SWP_START input. -/
def execSwpCmdStop (seg : Nat) (s : State) : Host.Outcome State Fault Refusal :=
  okIf (decide (seg < 256)) (s.setLat .swpSeg seg).swpStop

/-- SWP_CMD_RESUME (R196). -/
def execSwpCmdResume (seg : Nat) (s : State) : Host.Outcome State Fault Refusal :=
  okIf (decide (seg < 256)) (s.setLat .swpSeg seg).swpResume

/-- A write to SWP_CMD, by its OP (R199). -/
def State.swpCmdWrite (s : State) (w : Nat) : State :=
  let s := s.setLat .swpSeg (bits w 15 8)
  match bits w 1 0 with
  | 1 => s.swpStart (bits w 15 8) 0
  | 2 => s.swpStop
  | 3 => s.swpResume
  | _ => s.refuse .SWP_CMD

/-- A write to SWP_JUMP (R193). -/
def State.swpJumpWrite (s : State) (g : Nat) : State := s.setReg .SWP_JUMP (2 ^ 31 + g % 256)

/-- SWP_JUMP_WRITE (R193). -/
def execSwpJumpWrite (seg : Nat) (s : State) : Host.Outcome State Fault Refusal :=
  okIf (decide (seg < 256)) (s.swpJumpWrite seg)

/-! ### Prefetch (R194, R195) -/

/-- The player fetches this frame now: ahead of the current sample in its segment, or among the first
32 of the segment that may follow. -/
def State.swpWants (s : State) (g i : Nat) : Bool :=
  s.swpBusy && decide (s.swpBuf.length < 256) && decide (i < s.fld .SWP_SEG_LEN 23 0 g) && !s.swpHas g i &&
    ((s.swpCur == g && (decide (s.swpIx < i) || (s.flag .swpFirst && i == 0))) ||
      (s.swpJump && s.fld .SWP_JUMP 7 0 == g && decide (i < 32)) ||
      (s.swpTailFetched && s.swpNext s.swpCur == some g && decide (i < 32)))

/-- A frame is read through the player's stream (R191): a translation fault sets XLATE, and a frame
that meets an error does not arrive (R195, R435). -/
def State.swpFetch (s : State) (g i : Nat) : State :=
  if s.swpWants g i then
    let iova := 2 ^ 32 * s.fld .SWP_SEG_HI 7 0 g + s.reg .SWP_SEG_LO g + 128 * i
    let (x, s) := s.translate 24 (iova % 2 ^ 39) false
    match x with
    | .inl _ => s.setRbit .SWP_STATUS 9 true
    | .inr pa =>
      let (r, s) := s.memGet .swp pa 128
      match r with
      | .ok bs => { s with swpBuf := s.swpBuf ++ [⟨g, i, (List.range 64).map (fun p => leVal (slice bs (2 * p) 2))⟩] }
      | _ => s
  else s

/-- SWEEP_FRAME_ARRIVAL (R195): `n` frames of a segment arrive in the buffer. -/
def execSweepFrameArrival (seg first n : Nat) (s : State) : Host.Outcome State Fault Refusal :=
  okIf (decide (seg < 256 ∧ first < 2 ^ 24 ∧ n ≤ 256)) (forUpto n s (fun k s => s.swpFetch seg (first + k)))

/-! ### The output instant (R192, R193, R195) -/

/-- The codes of a frame in the buffer. -/
def State.swpCodes (s : State) (g i : Nat) : List Nat :=
  match s.swpBuf.find? (fun f => f.seg == g && f.ix == i) with
  | some f => f.codes
  | none => []

/-- An output instant at which the frame due is not in the buffer. -/
def State.swpUnder (s : State) : State :=
  let s := if s.swpState = 1 then
      (((((s.setSwpState 2).satAdd .SWP_UNDER_N).setRbit .SWP_STATUS 8 true).setLat .swpMissed 0).setLat .swpOwed
        (s.reg .SWP_STEP)).publish 0x20D
    else s
  (s.satAdd .SWP_UNDER_CNT).setLat .swpMissed (s.lat .swpMissed + 1)

/-- The step is made: an underrun ends, with its marker when MARK is 1 (R195). -/
def State.swpBack (s : State) : State :=
  if s.swpState = 2 then
    let s := s.setSwpState 1
    if s.rbit .SWP_CTRL 0 then
      s.capPush (s.fld .SWP_CTRL 6 4) (s.nlat .swpMissed) (2 * 2 ^ 30 + s.swpCur) 0 (s.spanCount % 2 ^ 32)
    else s
  else s

/-- The step of P at this output instant: SWP_STEP, or in an underrun the step that was missed (R195, log entry 65). -/
def State.swpStride (s : State) : Nat := if s.swpState = 2 then s.nlat .swpOwed else s.reg .SWP_STEP

/-- The outputs of the present position (R192). The heater of a cell in a tile in HOLD keeps its code (R28): DEDUCED
(log entry 37). -/
def State.swpOutputs (s : State) : State :=
  let ph := s.fld .SWP_FRAC 23 19
  forUpto 64 s (fun p s =>
    let m := s.reg .SWP_MAP p
    if bit m 31 then
      let v := resample s.swpX ph p
      let s := s.setLat .swpOut (v + 1) p
      if s.tileHold (bits m 13 0 / 64) then s else s.loadMan (bits m 13 0 / 64) (bits m 13 0 % 64) v
    else s)

/-- A frame enters the resampler as the new current sample. -/
def State.swpPush (s : State) (codes : List Nat) : State := { s with swpX := s.swpX.drop (s.swpX.length - 15) ++ [codes] }

/-- The player enters DONE (R196). -/
def State.swpFinish (s : State) : State :=
  let s := s.swpCopy.setSwpState 4
  let s := { s with swpBuf := [], swpX := [] }
  s.publishFor 0x20E (s.nlat .swpHop)

/-- The next frame of the sequence becomes current: `jump` when the pending target is taken. -/
def State.swpEnter (s : State) (g i : Nat) (jump : Bool) : State :=
  let s := s.swpPush (s.swpCodes g i)
  let s := { s with swpBuf := s.swpBuf.filter (fun f => !(f.seg == g && f.ix == i)) }
  let s := if jump then s.setRbit .SWP_JUMP 31 false else s
  let s := if i = 0 then
      { s with swpBuf := s.swpBuf.filter (fun f => f.seg == g || (s.swpJump && f.seg == s.fld .SWP_JUMP 7 0)) }
    else s
  s.setReg .SWP_POS (2 ^ 24 * g + i)

/-- The step of one output instant, the first frame being in the resampler. -/
def State.swpStep (s : State) : State :=
  let f := s.fld .SWP_FRAC 23 0 + s.swpStride
  if f < 2 ^ 24 then ((s.setReg .SWP_FRAC f).swpBack).swpOutputs
  else
    let f := less f (2 ^ 24)
    let cur := s.swpCur
    let last := s.swpIx + 1 == s.fld .SWP_SEG_LEN 23 0 cur
    let tail := s.nlat .swpTail
    if tail ≠ 0 ∨ (last = true ∧ s.swpJump = false ∧ s.swpNext cur = none) then
      if 8 ≤ tail then s.swpFinish
      else
        let s := (s.setLat .swpTail (tail + 1)).swpPush (s.swpX.getLastD [])
        ((s.setReg .SWP_FRAC f).swpBack).swpOutputs
    else
      let jump := last && s.swpJump
      let g := if jump then s.fld .SWP_JUMP 7 0 else if last then (s.swpNext cur).getD 0 else cur
      let i := if last then 0 else s.swpIx + 1
      if s.swpHas g i then (((s.setReg .SWP_FRAC f).swpBack).swpEnter g i jump).swpOutputs else s.swpUnder

/-- An output instant (R192): the player runs only in CHARACTERISE (R190). -/
def State.swpInstant (s : State) : State :=
  if s.mode = .characterise ∧ (s.swpState = 1 ∨ s.swpState = 2) then
    if s.flag .swpFirst then
      if s.swpHas s.swpCur 0 then
        let x := s.swpCodes s.swpCur 0
        let s := (s.setFlag .swpFirst false).swpEnter s.swpCur 0 false
        { s with swpX := List.replicate 16 x }.swpStep
      else s.swpUnder
    else s.swpStep
  else s

/-- OUTPUT_INSTANT (R192): every 1.000 µs. -/
def execOutputInstant (s : State) : Host.Outcome State Fault Refusal := okIf true s.swpInstant

end Sys2Proof.Machine
end

