-- ==== Sys2Proof/Machine/Modes.lean ====
section
/-! DEFINITION. Device modes (R21 to R29): device HOLD and its release, the mode commands, and the
transition that ends BOOT. -/
namespace Sys2Proof.Machine

/-! ### Device HOLD (R22, R24, R26) -/

/-- The device is in one of the modes from which HOLD is entered. -/
def State.inRun (s : State) : Bool := s.mode == .characterise || s.mode == .static || s.mode == .slotted

/-- A MODE command has changed the mode in the present grain. HOLD stands before that row of the table, and a cause of
HOLD of the same cycle is taken first: the command is then refused in HOLD (R13, R22). -/
def State.modeSame (s : State) : Bool :=
  s.mode0 == .static && s.mode == .characterise || s.mode0 == .characterise && s.mode == .static

/-- HOLD is entered from a mode (R22): the sweep player stops, a campaign and system calibrations are
abandoned, moves pause, pending trim commands are discarded, and the drift estimate of a tile that
was not in HOLD starts anew (R385). -/
def State.enterHold (s : State) : State :=
  let first := s.modeSame
  let s := { s with prior := if first then s.mode0 else s.mode }.enterMode .hold
  let s := if first then (s.setFld .MGT_CMD_STATUS 7 0 1).refuse .MGT_CMD else s
  let s := s.swpPause.calAbandon
  let s := s.sysAbandonAll.trimDiscardAll
  let s := s.prfPauseAll
  forIn' s.tiles s (fun t s =>
    let s := s.trimPaused t
    if s.tileHold t then s else (s.setLat .holdMs 0 t).setLat .tileDrift 0 t)

/-- A cause of device HOLD is set: 0 PIN, 1 CMD, 2 FAULT. In BOOT the cause is kept (R24). -/
def State.setHoldCause (s : State) (cause : Nat) : State :=
  let s := s.setRbit .MGT_HOLD_CAUSE cause true
  if s.inRun then s.enterHold else s

/-- A cause of device HOLD clears; when it is the last, the release boundary is awaited (R24). -/
def State.clearHoldCause (s : State) (cause : Nat) : State :=
  if s.rbit .MGT_HOLD_CAUSE cause then
    let s := s.setRbit .MGT_HOLD_CAUSE cause false
    if s.reg .MGT_HOLD_CAUSE = 0 then s.setLat .relAt s.grain else s
  else s

/-- The reference buffer of every tile in use has been enabled for at least 2 ms. -/
def State.refsSettled (s : State) : Bool :=
  s.tiles.all s.refSettled

/-- The release boundary (R24): the mode returns to PRIOR. A tile that may not leave HOLD stays in it by itself
(R220, R229, log entry 69). A stop configuration held over is committed
from the first span boundary at least 2,000 ns after the loops close (R247). -/
def State.releaseBoundary (s : State) : State :=
  if s.mode = .hold ∧ s.reg .MGT_HOLD_CAUSE = 0 ∧ s.nlat .relAt < s.grain ∧ s.refsSettled then
    let s := (s.enterMode s.prior).setLat .relDone (s.grain + 1)
    let s := forIn' s.tiles s (fun t s =>
      if s.tileHold t then s
      else if s.mustHold t then (s.setMapBit .MGT_TILE_HOLD 0 t true).publish t
      else (s.setLat .holdMs 0 t).composeLeft t)
    let s := if s.lat .cfgHeld = 1 then (s.setLat .cfgHeld 2).setLat .cfgFrom (s.grain + 2000) else s
    s.rangeFollowAll
  else s

/-- HOLD_RELEASE_BOUNDARY (R24). -/
def execHoldReleaseBoundary (s : State) : Host.Outcome State Fault Refusal := okIf true s.releaseBoundary

/-! ### The end of BOOT (R22, R473) -/

/-- Each heater's loop part takes the cell's HSTART code, which HTR_MAN takes too (R473). -/
def State.loadHstart (s : State) : State :=
  forIn' s.tiles s (fun t s => forUpto 64 s (fun c s =>
    if s.chRole t c = 0 then s
    else (s.setTreg .HTR_MAN t (s.nlat .hstart t c) c).loadMan t c (s.nlat .hstart t c)))

/-- TILE_CAL_TREF of every tile in use takes the tile's reading (R337). -/
def State.trefStart (s : State) : State :=
  forIn' s.tiles s (fun t s => s.setTreg .TILE_CAL_TREF t (ux 16 (s.sensor t)))

/-- Every bucket is set full at the end of BOOT (R328). -/
def State.moveFill (s : State) : State :=
  forUpto 1024 s (fun i s =>
    let k := s.fld .MOVE_PORT 3 0 i
    let s := s.setLat .moveProf k i
    (s.setReg .MOVE_TC (2 ^ 16 * s.fld .MOVE_CBS 15 0 k) i).setReg .MOVE_TP (2 ^ 16 * s.fld .MOVE_PBS 15 0 k) i)

/-- BOOT has run its steps (R22): with the pin asserted BOOT waits; else the start mode, or HOLD when
the device FAULT cause is set. -/
def State.bootFinish (s : State) : State :=
  if s.rbit .MGT_HOLD_CAUSE 0 then s.setRbit .MGT_MODE 10 true
  else
    let s := (s.setRbit .MGT_MODE 10 false).trefStart.moveFill
    let char := s.lat .startMode = 1
    let s := if char then s else s.loadHstart
    let m := if char then Mode.characterise else Mode.static
    if s.rbit .MGT_HOLD_CAUSE 2 then { s with prior := m }.enterMode .hold else s.enterMode m

/-- HOLD_REQ_N_ASSERTED (R22): the filtered falling edge is recognised. -/
def execHoldReqNAsserted (s : State) : Host.Outcome State Fault Refusal := okIf true (s.setHoldCause 0)

/-- HOLD_REQ_N_DEASSERTED (R24, R22): the pin cause clears; a BOOT that waited completes. -/
def execHoldReqNDeasserted (s : State) : Host.Outcome State Fault Refusal :=
  okIf true <|
    let s := s.clearHoldCause 0
    if s.mode = .boot ∧ s.rbit .MGT_MODE 10 = true then s.bootFinish else s

/-! ### Mode commands (R22, R241, R134, R190, R220, R229) -/

/-- A list is armed, or under validation to be armed (R241). -/
def State.armedOrArming (s : State) : Bool := s.armed || s.lat .armBusy != 0

/-- MODE CHARACTERISE: the status code of R476, and the state after it. -/
def State.modeCharacterise (s : State) : Nat × State :=
  if s.mode = .static ∧ s.armedOrArming = false then
    let s := (s.enterMode .characterise).calClearPending.calAbandon
    (0, s)
  else (1, s)

/-- A tile lets the device enter STATIC (R134, R229). -/
def State.staticTileOk (s : State) (t : Nat) : Bool :=
  s.tbit .ADC_REF t 1 && s.tbit .ADC_STATUS t 4 && s.tbit .MC_STATUS t 0 &&
    (s.tbit .MC_KINDS t 0 || s.tbit .MC_KINDS t 1)

/-- MODE STATIC: the status code of R476, and the state after it. -/
def State.modeStatic (s : State) : Nat × State :=
  if s.mode = .characterise ∧ s.tiles.all s.staticTileOk ∧ s.swpState ∉ [1, 2, 3] ∧ s.loadBusy = false then
    (0, (s.enterMode .static).sysAbandonAll)
  else (1, s)

/-- HOLD: the status code, and the state after it (R474). -/
def State.deviceHold (s : State) : Nat × State :=
  if s.inRun ∨ s.mode = .hold then (0, s.setHoldCause 1) else (1, s)

/-- RELEASE: the status code, and the state after it (R24). -/
def State.deviceRelease (s : State) : Nat × State :=
  if s.mode = .hold then
    let stays := s.rbit .MGT_HOLD_CAUSE 2 && (s.unacks.any (fun u => u.tile.isNone) || s.flag .unackOvf)
    let s := if stays then s else s.clearHoldCause 2
    (b2n stays, s.clearHoldCause 1)
  else (1, s)

end Sys2Proof.Machine
end

