-- ==== Sys2Proof/Machine/Route.lean ====
section
/-! DEFINITION. The fabric's wiring (R44 to R46) and the route solver (R251, R255 to R260). A cell
of the fabric is named by its place: 512 x (stage + 1) + row, the spare stage being 0. Where several
results conform, Config.routeChoice picks (log entry 12). -/
namespace Sys2Proof.Machine

/-! ### Wiring (R45, R46) -/

/-- rotr of R46. -/
def rotr (x k : Nat) : Nat :=
  let m := 2 ^ k
  x / m * m + x % m / 2 + x % 2 * 2 ^ (k - 1)

/-- rotl of R46. -/
def rotl (x k : Nat) : Nat :=
  let m := 2 ^ k
  x / m * m + 2 * x % m + x / 2 ^ (k - 1) % 2

/-- The line on which output line x of a column enters the next; column 0 is the spare stage and
column k + 1 stage k (R46). -/
def nextLine (n col x : Nat) : Nat :=
  if col = 0 then rotr x n
  else if col + 1 ≤ n then rotr x (n - (col - 1))
  else if col ≤ 2 * n - 2 then rotl x ((col - 1) + 3 - n)
  else x

/-- Columns of cells ahead of the attenuators. -/
def columns (n : Nat) : Nat := 2 * n

/-- The place of the cell of a column that takes a line. -/
def placeOf (col line : Nat) : Nat := 512 * col + line / 2

/-- The output line of a cell for an input line, in bar or cross (R38). -/
def throughCell (cross : Bool) (line : Nat) : Nat := if cross then line / 2 * 2 + (1 - line % 2) else line

/-- The places that light from an input fibre passes, and the port it reaches, under the states
given by place; `k` columns are left. -/
def traceFrom (n : Nat) (st : Nat → Bool) : Nat → Nat → Nat → List Nat × Nat
  | 0, _, line => ([], line)
  | k + 1, col, line =>
    let p := placeOf col line
    let r := traceFrom n st k (col + 1) (nextLine n col (throughCell (st p) line))
    (p :: r.1, r.2)

/-- The path of input fibre i. -/
def tracePath (n : Nat) (st : Nat → Bool) (i : Nat) : List Nat × Nat := traceFrom n st (columns n) 0 i

/-! ### The fabric map by place -/

/-- The switch and spare cells by place: (place, cell). -/
def State.cellTable (s : State) : List (Nat × Nat) :=
  s.cells.filterMap (fun c =>
    let w := s.reg .CFG_FMAP c
    match bits w 31 30 with
    | 1 => some (512 * (bits w 25 21 + 1) + bits w 9 0, c)
    | 3 => some (bits w 9 0, c)
    | _ => none)

/-- The attenuator cells by port: (port, cell). -/
def State.attTable (s : State) : List (Nat × Nat) :=
  s.cells.filterMap (fun c =>
    let w := s.reg .CFG_FMAP c
    if bits w 31 30 = 2 then some (bits w 9 0, c) else none)

/-- A cell of a table. -/
def tableCell (l : List (Nat × Nat)) (k : Nat) : Option Nat := (l.find? (fun e => e.1 == k)).map (·.2)

/-- The STATE bits of a configuration, by place. -/
def State.cfgStates (s : State) (tb : List (Nat × Nat)) (dram : Bool) (x : Nat) (p : Nat) : Bool :=
  match tableCell tb p with
  | some c => bit (s.cfgWord dram x (c / 32)) (c % 32)
  | none => false

/-- The attenuator of a port is in pass in a configuration. -/
def State.cfgPass (s : State) (at_ : List (Nat × Nat)) (dram : Bool) (x j : Nat) : Bool :=
  match tableCell at_ j with
  | some c => !bit (s.cfgWord dram x (c / 32)) (c % 32)
  | none => false

/-- The cell at a place is marked faulted. -/
def State.placeFault (s : State) (tb : List (Nat × Nat)) (p : Nat) : Bool :=
  match tableCell tb p with
  | some c => s.mapBit .RTE_FAULT 0 c
  | none => true

/-- The attenuator of a port is marked faulted. -/
def State.attFault (s : State) (at_ : List (Nat × Nat)) (j : Nat) : Bool :=
  match tableCell at_ j with
  | some c => s.mapBit .RTE_FAULT 0 c
  | none => false

/-! ### Search for paths

A partial configuration is a list of (place, state), one for every cell that a path uses. -/

/-- The lines by which a column is entered from which port j can still be reached; listed from the
last column back, `k` columns. -/
def backLines (n j : Nat) : Nat → List (List Nat)
  | 0 => [[j]]
  | k + 1 =>
    let r := backLines n j k
    let next := r.headD []
    let col := columns n - (k + 1)
    (List.range (2 ^ n)).filter (fun x =>
      next.contains (nextLine n col (throughCell false x)) || next.contains (nextLine n col (throughCell true x))) :: r

/-- The states of a cell to try, in the order of the solver's choice: bar only for a spare cell
unless `cross` lets it cross (R256). -/
def stateOrder (cross : Nat → Bool) (col p seed : Nat) : List Bool :=
  if col = 0 then (if cross p then [false, true] else [false])
  else if Config.routeChoice seed % 2 = 0 then [false, true] else [true, false]

/-- The paths by which a line reaches the port, as lists of (place, state), in the order of the
solver's choice: the first list gives for each column the lines that may enter it. `used` gives the
cells that other paths hold, `bad` the faulted ones, `cross` the spare cells that may cross. -/
def pathsFrom (n : Nat) (cross : Nat → Bool) (used : Nat → Option Bool) (bad : Nat → Bool) :
    List (List Nat) → Nat → Nat → Nat → List (List (Nat × Bool))
  | [], _, _, _ => []
  | back :: rest, col, line, seed =>
    if !back.contains line then []
    else if rest.isEmpty then [[]]
    else
      let p := placeOf col line
      if bad p then []
      else
        let go := fun b : Bool =>
          (pathsFrom n cross used bad rest (col + 1) (nextLine n col (throughCell b line)) (2 * seed + 1 + b2n b)).map
            (fun q => (p, b) :: q)
        match used p with
        | some b => go b
        | none => (stateOrder cross col p (64 * seed + col)).flatMap go

/-- The state that a partial configuration gives a place. -/
def partState (l : List (Nat × Bool)) (p : Nat) : Option Bool := (l.find? (fun e => e.1 == p)).map (·.2)

/-- Circuits routed one after the other beside the cells held, with backtracking: the cells then
held, if all of them can be routed. -/
def routeAll (n : Nat) (cross : Nat → Bool) (bad : Nat → Bool) :
    List (Nat × Nat) → List (Nat × Bool) → Nat → Option (List (Nat × Bool))
  | [], held, _ => some held
  | (i, j) :: r, held, seed =>
    (pathsFrom n cross (partState held) bad (backLines n j (columns n)) 0 i seed).findSome?
      (fun path => routeAll n cross bad r (held ++ path) (3 * seed + 1))

/-- The sublists of `k` elements of a list, in order. -/
def combos {α : Type} : Nat → List α → List (List α)
  | 0, _ => [[]]
  | _ + 1, [] => []
  | k + 1, a :: r => (combos k r).map (a :: ·) ++ combos (k + 1) r

/-- A list turned by the solver's choice. -/
def turned {α : Type} (seed : Nat) (l : List α) : List α :=
  let k := Config.routeChoice seed % l.length
  l.drop k ++ l.take k

/-- The result with the fewest spare cells let into cross, none where no cell is faulted: a spare cell crosses only
where a fault calls for it (R256). -/
def leastCross {α : Type} (n : Nat) (faults : Bool) (f : (Nat → Bool) → Option α) : Option α :=
  if faults then
    (List.range (2 ^ (n - 1) + 1)).findSome? (fun k =>
      (combos k (List.range (2 ^ (n - 1)))).findSome? (fun xs => f (fun p => xs.contains p)))
  else f (fun _ => false)

/-- The least set of circuits left out so that the others can be routed: the circuits left out and
the cells held. -/
def routeMost (n : Nat) (faults : Bool) (bad : Nat → Bool) (cs : List (Nat × Nat)) (seed : Nat) :
    List (Nat × Nat) × List (Nat × Bool) :=
  ((List.range (cs.length + 1)).findSome? (fun k =>
    (turned seed (combos k cs)).findSome? (fun out =>
      (leastCross n faults (fun cross => routeAll n cross bad (cs.filter (fun c => !out.contains c)) [] seed)).map
        (fun h => (out, h))))).getD (cs, [])

/-! ### The commands (R257) -/

/-- The configuration that an argument register names. -/
def cfgArg (w : Nat) : Bool × Nat := (bit w 31, bits w 15 0)

/-- The index of a configuration lies in its range (R259). -/
def State.cfgArgOk (s : State) (a : Bool × Nat) : Bool :=
  if a.1 then decide (a.2 < s.fld .CFG_DRAM_COUNT 16 0) && (s.dramCfgOff a.2).isSome else decide (a.2 < 512)

/-- A DRAM configuration is named by the operating or armed list. -/
def State.dramNamed (s : State) (d : Nat) : Bool :=
  (List.range 2).any (fun m => s.listUsed m && (s.dramPositions m).any (fun e => bits (s.slotW1 m e) 15 0 == d))

/-- A target is idle (R257). -/
def State.targetIdle (s : State) (a : Bool × Nat) : Bool := if a.1 then !s.dramNamed a.2 else s.bankIdle a.2

/-- The code with which a command completes for its arguments and the mode alone (R259). -/
def State.rtePre (s : State) (op : Nat) : Nat :=
  let src := cfgArg (s.reg .RTE_ARG0)
  let tgt := cfgArg (s.reg .RTE_ARG1)
  let a := s.reg .RTE_ARG2
  let useSrc := decide (2 ≤ op ∧ op ≤ 6)
  let useTgt := decide (1 ≤ op ∧ op ≤ 4)
  let inBad := decide ((op = 2 ∨ op = 3 ∨ op = 5) ∧ s.ports ≤ bits a 9 0)
  let outBad := decide (op = 2 ∧ s.ports ≤ bits a 25 16)
  if s.mode = .boot ∨ s.mode = .sable then 6
  else if op = 0 ∨ 7 < op ∨ (useSrc = true ∧ s.cfgArgOk src = false) ∨ (useTgt = true ∧ s.cfgArgOk tgt = false) ∨
      inBad = true ∨ outBad = true ∨ (op = 7 ∧ 11264 ≤ bits a 13 0) then 5
  else if useTgt = true ∧ s.targetIdle tgt = false then 6
  else 0

/-- A write to RTE_CMD with OP `op` (R257, R259): while BUSY it ends with STATE and the running
command goes on. -/
def State.rteStart (s : State) (op : Nat) : State :=
  if s.rbit .RTE_STATUS 31 then s.setFld .RTE_STATUS 7 0 6
  else ((s.setLat .rteCode (s.rtePre op)).setLat .rteOp (op + 1)).setReg .RTE_STATUS (2 ^ 31)

/-- A source is read and checked (R257). -/
def State.checkCfg (s : State) (a : Bool × Nat) : Bool × State := if a.1 then s.checkDramCfg a.2 else s.checkBank a.2

/-- A word written to a configuration. -/
def State.setCfgWord (s : State) (a : Bool × Nat) (w v : Nat) : State :=
  if a.1 then
    match s.dramCfgOff a.2 with
    | none => s
    | some o => s.dramWrite (o + 4 * w) (leBytes 4 v)
  else s.setBankWord a.2 w v

/-- The CRC of a configuration is written (R232). -/
def State.setCfgCrc (s : State) (a : Bool × Nat) : State :=
  s.setCfgWord a 0x183 (crc32 ((List.range 0x183).flatMap (fun k => leBytes 4 (s.cfgWord a.1 a.2 k))))

/-- TAG of a target is read to be kept: the error that its pair holds is met (R234, R435). -/
def State.meetTag (s : State) (a : Bool × Nat) : State :=
  if a.1 then
    match s.dramCfgOff a.2 with
    | none => s
    | some o =>
      match s.dramBad (o + 0x604) 4 with
      | some w => s.dramError (32 * w)
      | none => s.dramMeet (o + 0x604) 4
  else s.eccMeet (256 * a.2 + 0xC0)

/-- A target is written whole (R256): the STATE bit of every cell; TAG is kept. -/
def State.writeTarget (s : State) (a : Bool × Nat) (st : Nat → Bool) : State :=
  let s := s.meetTag a
  let tag := s.cfgWord a.1 a.2 0x181
  let s := forUpto 352 s (fun w s =>
    s.setCfgWord a w ((List.range 32).foldl (fun v b => v + b2n (st (32 * w + b)) * 2 ^ b) 0))
  let s := forUpto 32 s (fun w s => s.setCfgWord a (0x160 + w) 0)
  let s := s.setCfgWord a 0x180 (2 ^ 31 + 0x100 + s.order)
  let s := (s.setCfgWord a 0x181 tag).setCfgWord a 0x182 (2 ^ 31)
  let s := forUpto 0x7C s (fun w s => s.setCfgWord a (0x184 + w) 0)
  s.setCfgCrc a

/-- RTE_LIST takes a list of circuits (R263). -/
def State.setRteList (s : State) (l : List (Nat × Nat)) : State :=
  let s := s.setReg .RTE_LIST_N (min 256 l.length)
  forUpto (min 256 l.length) s (fun k s =>
    let c := l.getD k (0, 0)
    s.setReg .RTE_LIST (2 ^ 16 * c.2 + c.1) k)

/-- The STATE bit of cell c for states given by place and the set of ports in pass. -/
def State.cellBit (s : State) (st : Nat → Bool) (pass : Nat → Bool) (c : Nat) : Bool :=
  let w := s.reg .CFG_FMAP c
  match bits w 31 30 with
  | 1 => st (512 * (bits w 25 21 + 1) + bits w 9 0)
  | 3 => st (bits w 9 0)
  | 2 => !pass (bits w 9 0)
  | _ => false

/-- Any faulted cell is marked. -/
def State.anyFault (s : State) : Bool := (List.range 352).any (fun w => s.reg .RTE_FAULT w != 0)

/-- What the solver's choice depends on (R260): the faulted cells, the permutation and the source. -/
def State.rteSeed (s : State) (op : Nat) : Nat :=
  let src := cfgArg (s.reg .RTE_ARG0)
  let l := (List.range 352).map (fun w => s.reg .RTE_FAULT w) ++
    (if op = 1 then (List.range 1024).map (fun i => s.reg .RTE_PERM i)
     else s.reg .RTE_ARG2 :: (List.range 512).map (fun w => s.cfgWord src.1 src.2 w))
  l.foldl (fun a x => 2 ^ 32 * a + x) 1

/-- SOLVE (R256, R257): the code and the state. -/
def State.rteSolve (s : State) : Nat × State :=
  let n := s.order
  let reqs := ((List.range 1024).filter (fun i => s.rbit .RTE_PERM 31 i)).map (fun i => (i, s.fld .RTE_PERM 9 0 i))
  if reqs.any (fun c => decide (s.ports ≤ c.1 ∨ s.ports ≤ c.2)) then (5, s)
  else if (List.range (s.ports)).any (fun j => decide (1 < (reqs.filter (fun c => c.2 == j)).length)) then (4, s)
  else
    let tb := s.cellTable
    let at_ := s.attTable
    let bad := s.placeFault tb
    let seed := s.rteSeed 1
    let (dark, able) := (reqs.filter (fun c => s.attFault at_ c.2), reqs.filter (fun c => !s.attFault at_ c.2))
    let (left, held) := routeMost n s.anyFault bad able seed
    let out := dark ++ left
    let st := fun p => match partState held p with
      | some b => b
      | none => if p < 512 ∨ bad p then false else Config.routeChoice (seed + p) % 2 == 1
    let pass := fun j => reqs.any (fun c => c.2 == j && !out.contains c)
    let s := (s.writeTarget (cfgArg (s.reg .RTE_ARG1)) (s.cellBit st pass)).setRteList out
    (if out.isEmpty then 0 else 3, s)

/-- The live circuits of a source (R255): (input, port, its path). -/
def State.liveCircuits (s : State) (src : Bool × Nat) : List (Nat × Nat × List Nat) :=
  let tb := s.cellTable
  let at_ := s.attTable
  (List.range s.ports).filterMap (fun i =>
    let r := tracePath s.order (s.cfgStates tb src.1 src.2) i
    if s.cfgPass at_ src.1 src.2 r.2 then some (i, r.2, r.1) else none)

/-- A live circuit passes a cell marked faulted, its attenuator among them. -/
def State.hurt (s : State) (tb at_ : List (Nat × Nat)) (c : Nat × Nat × List Nat) : Bool :=
  s.attFault at_ c.2.1 || c.2.2.any (s.placeFault tb)

/-- The target that ADD and DROP write (R256 to R258): the held parts as the plan has them, the ports of the circuits
that stand in pass, every other switch cell as in the source, every other spare cell and every faulted one bar. -/
def State.rteFinish (s : State) (src tgt : Bool × Nat) (ports : List Nat) (held : List (Nat × Bool)) : State :=
  let tb := s.cellTable
  let st := fun p => match partState held p with
    | some b => b
    | none => decide (512 ≤ p) && !s.placeFault tb p && s.cfgStates tb src.1 src.2 p
  s.writeTarget tgt (s.cellBit st (fun k => ports.contains k))

/-- The cells that live circuits hold. -/
def heldBy (old : Nat → Bool) (l : List (Nat × Nat × List Nat)) : List (Nat × Bool) :=
  l.flatMap (fun c => c.2.2.map (fun p => (p, old p)))

/-- Step 2 of ADD (R258): a path for the new circuit through cells on no live path. -/
def State.addFree (s : State) (tb : List (Nat × Nat)) (live : List (Nat × Nat × List Nat)) (i j seed : Nat) :
    Option (List (Nat × Bool)) :=
  leastCross s.order s.anyFault (fun cross =>
    (pathsFrom s.order cross (fun _ => none) (fun p => s.placeFault tb p || live.any (fun c => c.2.2.contains p))
      (backLines s.order j (columns s.order)) 0 i seed).head?)

/-- Step 3 of ADD (R258): the least set of the circuits of `free` that must move so that those of `must` can be
routed, no more than 16 moving in all (`moving` of them already do), and the cells then held. -/
def State.addMove (s : State) (tb : List (Nat × Nat)) (old : Nat → Bool) (must : List (Nat × Nat))
    (free : List (Nat × Nat × List Nat)) (moving seed : Nat) :
    Option (List (Nat × Nat × List Nat) × List (Nat × Bool)) :=
  (List.range (17 - moving)).findSome? (fun k =>
    (turned seed (combos k free)).findSome? (fun mv =>
      (leastCross s.order s.anyFault (fun cross =>
        routeAll s.order cross (s.placeFault tb) (must ++ mv.map (fun c => (c.1, c.2.1)))
          (heldBy old (free.filter (fun c => !mv.contains c))) seed)).map (fun h => (mv, h))))

/-- Some path that passes no faulted cell reaches the port. -/
def State.reachable (s : State) (tb at_ : List (Nat × Nat)) (c : Nat × Nat) : Bool :=
  !s.attFault at_ c.2 &&
    !(pathsFrom s.order (fun _ => true) (fun _ => none) (s.placeFault tb) (backLines s.order c.2 (columns s.order)) 0 c.1 0).isEmpty

/-- ADD (R258): the code and the state. DEDUCED (log entry 70): a live circuit whose path passes a cell marked faulted
must move (R256); where faulted cells leave it or the new circuit without a path, ADD ends with UNROUTABLE (R259). -/
def State.rteAdd (s : State) : Nat × State :=
  let a := s.reg .RTE_ARG2
  let new := (bits a 9 0, bits a 25 16)
  let src := cfgArg (s.reg .RTE_ARG0)
  let tgt := cfgArg (s.reg .RTE_ARG1)
  let live := s.liveCircuits src
  if live.any (fun c => c.1 == new.1 || c.2.1 == new.2) then (4, s)
  else
    let tb := s.cellTable
    let at_ := s.attTable
    let seed := s.rteSeed 2
    let old := s.cfgStates tb src.1 src.2
    let forced := (live.filter (s.hurt tb at_)).map (fun c => (c.1, c.2.1))
    let free := live.filter (fun c => !s.hurt tb at_ c)
    let lost := (new :: forced).filter (fun c => !s.reachable tb at_ c)
    let kept := forced.filter (fun c => !lost.contains c)
    let must := (new :: forced).filter (fun c => !lost.contains c)
    let ports := (must ++ free.map (fun c => (c.1, c.2.1))).map (·.2)
    let direct := if lost.isEmpty && forced.isEmpty then s.addFree tb live new.1 new.2 seed else none
    match direct with
    | some path => (0, (s.rteFinish src tgt ports (path ++ heldBy old live)).setRteList [])
    | none =>
      match s.addMove tb old must free kept.length seed with
      | some (mv, held) =>
        let s := s.rteFinish src tgt ports held
        if lost.isEmpty then (1, s.setRteList (kept ++ mv.map (fun c => (c.1, c.2.1)))) else (3, s.setRteList lost)
      | none => (2, s.setRteList [])

/-- DROP (R257): the attenuator of the port that the input reaches goes dark. DEDUCED (log entry 70): so do those of
circuits that pass a cell marked faulted (R256). -/
def State.rteDrop (s : State) : State :=
  let src := cfgArg (s.reg .RTE_ARG0)
  let tb := s.cellTable
  let at_ := s.attTable
  let old := s.cfgStates tb src.1 src.2
  let j := (tracePath s.order old (s.fld .RTE_ARG2 9 0)).2
  let stay := (s.liveCircuits src).filter (fun c => c.2.1 != j && !s.hurt tb at_ c)
  s.rteFinish src (cfgArg (s.reg .RTE_ARG1)) (stay.map (·.2.1)) (heldBy old stay)

/-- The ports that SHUTMASK names (R251): their light path in the predecessor or in the new
configuration passes a cell whose state differs between the two. -/
def State.shutPorts (s : State) (pred new : Bool × Nat) : List Nat :=
  let tb := s.cellTable
  let a := s.cfgStates tb pred.1 pred.2
  let b := s.cfgStates tb new.1 new.2
  (List.range s.ports).flatMap (fun i =>
    let pa := tracePath s.order a i
    let pb := tracePath s.order b i
    (if pa.1.any (fun p => a p != b p) then [pa.2] else []) ++ (if pb.1.any (fun p => a p != b p) then [pb.2] else []))

/-- The target of SHUTMASK is read (R234, R435): an uncorrectable error makes it unreadable. -/
def State.readTarget (s : State) (a : Bool × Nat) : Bool × State :=
  if a.1 then
    match s.dramCfgOff a.2 with
    | none => (false, s)
    | some o =>
      match s.dramBad o 2048 with
      | some w => (false, s.dramError (32 * w))
      | none => (true, s.dramMeet o 2048)
  else (!s.bankHasUe a.2, s.eccMeetBank a.2)

/-- SHUTMASK (R251): the code and the state. The target is left valid (R256): its STATE stands but for the bits of
cells without a role. DEDUCED (log entry 70): a target that cannot be read ends the command with SRCBAD (R234). -/
def State.rteShutmask (s : State) : Nat × State :=
  let src := cfgArg (s.reg .RTE_ARG0)
  let tgt := cfgArg (s.reg .RTE_ARG1)
  let (ok, s) := s.readTarget tgt
  if !ok then (7, s)
  else
    let ps := s.shutPorts src tgt
    let s := s.writeTarget tgt (fun c => s.role c != 0 && bit (s.cfgWord tgt.1 tgt.2 (c / 32)) (c % 32))
    let s := forUpto 32 s (fun w s =>
      s.setCfgWord tgt (0x160 + w) ((List.range 32).foldl (fun v b => v + b2n (ps.contains (32 * w + b)) * 2 ^ b) 0))
    (0, (s.setCfgWord tgt 0x182 (2 ^ 16 * b2n src.1 + src.2)).setCfgCrc tgt)

/-- TRACE (R257, R263). -/
def State.rteTrace (s : State) : State :=
  let src := cfgArg (s.reg .RTE_ARG0)
  let tb := s.cellTable
  let r := tracePath s.order (s.cfgStates tb src.1 src.2) (s.fld .RTE_ARG2 9 0)
  let lit := s.cfgPass s.attTable src.1 src.2 r.2
  let attBad := s.attFault s.attTable r.2
  s.setReg .RTE_RESULT (2 ^ 31 * b2n lit + 2 ^ 30 * b2n (attBad || r.1.any (s.placeFault tb)) + r.2)

/-- EXTRACT (R257). -/
def State.rteExtract (s : State) : State :=
  let live := s.liveCircuits (cfgArg (s.reg .RTE_ARG0))
  forUpto s.ports s (fun i s =>
    match live.find? (fun c => c.1 == i) with
    | some c => s.setReg .RTE_PERM (2 ^ 31 + c.2.1) i
    | none => s.setReg .RTE_PERM 0 i)

/-- A cell is marked faulted (R257, R403). -/
def State.markCell (s : State) (c : Nat) : State := s.setMapBit .RTE_FAULT 0 c true

/-- The command carried out, and its code. -/
def State.rteRun (s : State) (op : Nat) : Nat × State :=
  match op with
  | 1 => s.rteSolve
  | 2 => s.rteAdd
  | 3 => (0, s.rteDrop)
  | 4 => s.rteShutmask
  | 5 => (0, s.rteTrace)
  | 6 => (0, s.rteExtract)
  | _ => (0, s.markCell (s.fld .RTE_ARG2 13 0))

/-- A command completes (R259): its code, and the cycles it took. -/
def State.rteDone (s : State) (cycles : Nat) : State :=
  if s.lat .rteOp = 0 then s
  else
    let op := s.nlat .rteOp - 1
    let (code, s) :=
      if s.lat .rteCode ≠ 0 then (s.nlat .rteCode, s)
      else if 2 ≤ op ∧ op ≤ 6 then
        let (ok, s) := s.checkCfg (cfgArg (s.reg .RTE_ARG0))
        if ok then s.rteRun op else (7, s)
      else s.rteRun op
    let s := ((s.setLat .rteOp 0).setLat .rteCode 0).setReg .RTE_TIME cycles
    s.setReg .RTE_STATUS (2 ^ 30 + code)

/-- RTE_SOLVE (R257). -/
def execRteSolve (s : State) : Host.Outcome State Fault Refusal := okIf true (s.rteStart 1)

/-- RTE_ADD (R258). -/
def execRteAdd (s : State) : Host.Outcome State Fault Refusal := okIf true (s.rteStart 2)

/-- RTE_DROP (R257). -/
def execRteDrop (s : State) : Host.Outcome State Fault Refusal := okIf true (s.rteStart 3)

/-- RTE_SHUTMASK (R251). -/
def execRteShutmask (s : State) : Host.Outcome State Fault Refusal := okIf true (s.rteStart 4)

/-- RTE_TRACE (R257). -/
def execRteTrace (s : State) : Host.Outcome State Fault Refusal := okIf true (s.rteStart 5)

/-- RTE_EXTRACT (R257). -/
def execRteExtract (s : State) : Host.Outcome State Fault Refusal := okIf true (s.rteStart 6)

/-- RTE_MARK (R257). -/
def execRteMark (s : State) : Host.Outcome State Fault Refusal := okIf true (s.rteStart 7)

/-- ROUTE_SOLVER_DONE (R259): the command in progress completes after `cycles` MGT cycles. -/
def execRouteSolverDone (cycles : Nat) (s : State) : Host.Outcome State Fault Refusal :=
  okIf (decide (cycles < 2 ^ 32)) (s.rteDone cycles)

end Sys2Proof.Machine
end

