-- ==== Sys2Proof/Machine/Faults.lean ====
section
/-! DEFINITION. The fault collector (R393 to R403, R411, R413, R414). -/
namespace Sys2Proof.Machine

/-! ### Acceptance (R394) -/

/-- The source served next: the first that holds a message after the source last served, in rising
order, wrapping to the lowest. -/
def State.nextSource (s : State) : Option Nat :=
  let srcs := s.faults.map (·.src)
  let after := srcs.filter (fun x => decide (s.nlat .fltLast ≤ x))
  (if after.isEmpty then srcs else after).min?

/-- The head message of a source's queue. -/
def State.headOf (s : State) (src : Nat) : Option FaultMsg := s.faults.find? (fun m => m.src == src)

/-- The queue without the head message of a source. -/
def dropHead (src : Nat) : List FaultMsg → List FaultMsg
  | [] => []
  | m :: r => if m.src = src then r else m :: dropHead src r

/-! ### Classes, reactions and the tile of a fault (R398 to R400) -/

/-- The reaction taken: THOLD on a fault without a tile acts as DHOLD (R400). -/
def State.taken (s : State) (m : FaultMsg) : Nat :=
  let r := s.reaction m
  if r = 2 ∧ m.tile = none then 3 else r

/-! ### The log (R396, R397) -/

/-- Place in the log of the entry with a sequence number. -/
def logPlace (seq : Nat) : Nat := seq % 1024

/-- A message repeats the newest entry (R397). A stamp before that of the entry lies less than
1 ms after it. -/
def State.merges (s : State) (m : FaultMsg) : Bool :=
  let q := s.reg .FLT_SEQ
  let e := logPlace q
  let w0 := s.reg .FLT_LOG e 0
  let old := (1000000000 * (2 ^ 32 * (s.reg .FLT_LOG e 4 % 2 ^ 16) + s.reg .FLT_LOG e 3) + s.reg .FLT_LOG e 2 : Nat)
  s.rbit .FLT_CTRL 0 && q != 0 && m.cls != 3 && bits w0 31 20 == m.src && bits w0 19 12 == m.kind &&
    s.reg .FLT_LOG e 1 == m.addr % 2 ^ 32 && decide (1000000000 * m.sec + m.ns < old + 1000000)

/-- A word of the newest entry's REPEAT (R397). -/
def State.mergeEntry (s : State) : State :=
  let e := logPlace (s.reg .FLT_SEQ)
  s.setFld .FLT_LOG 31 16 (min 0xFFFF (s.fld .FLT_LOG 31 16 e 4 + 1)) e 4

/-- The eight words of an entry (R396). -/
def entryWords (m : FaultMsg) (react : Nat) (unack : Bool) (seq span : Nat) : List Nat :=
  [2 ^ 20 * m.src + 2 ^ 12 * m.kind + 2 ^ 10 * m.cls + react * 2 ^ 7 + b2n unack * 2 ^ 6, m.addr % 2 ^ 32, m.ns,
    m.sec % 2 ^ 32, m.sec / 2 ^ 32 % 2 ^ 16, seq, span % 2 ^ 32, if m.kind = 0x01 then m.xaddr else 0]

/-- An entry is made: the log, its number, the first fatal entry (R396). -/
def State.newEntry (s : State) (m : FaultMsg) (react : Nat) (unack : Bool) : State :=
  let q := (s.reg .FLT_SEQ + 1) % 2 ^ 32
  let ws := entryWords m react unack q s.spanCount
  let s := s.setReg .FLT_SEQ q
  let s := forUpto 8 s (fun w s => s.setReg .FLT_LOG (ws.getD w 0) (logPlace q) w)
  let s := if 1024 < q then s.setRbit .FLT_STATUS 3 true else s
  if m.cls = 3 ∧ s.reg .FLT_FATAL 5 = 0 then forUpto 8 s (fun w s => s.setReg .FLT_FATAL (ws.getD w 0) w) else s

/-- An entry joins the unacknowledged list (R402), or finds it full. -/
def State.joinUnacks (s : State) (tile : Option Nat) : State :=
  if s.unacks.length < 256 then { s with unacks := s.unacks ++ [⟨s.reg .FLT_SEQ, tile⟩] }
  else (s.setRbit .FLT_STATUS 4 true).setFlag .unackOvf true

/-! ### Effects of a message -/

/-- The actions of a reaction, made again by a merged message (R397, R399). -/
def State.applyReact (s : State) (m : FaultMsg) (r : Nat) : State :=
  match r with
  | 2 => match m.tile with
    | some t => s.setTileCause t 1
    | none => s.setHoldCause 2
  | 3 => s.setHoldCause 2
  | 4 => if m.kind = 0x45 then (if s.sable then s else s.assertSable.setFlag .shutSable true) else s.driveSable
  | _ => s

/-- Cells marked faulted by a message (R403). -/
def State.markFault (s : State) (m : FaultMsg) : State :=
  if m.kind = 0x11 ∨ m.kind = 0x13 then s.markCell (64 * m.src + bits m.addr 5 0)
  else if m.kind = 0x20 ∨ m.kind = 0x21 then s.markCell (64 * m.src + bits m.addr 6 0 % 64)
  else s

/-- A message is logged or merged, and its reaction applied (R394 to R403). -/
def State.acceptMsg (s : State) (m : FaultMsg) : State :=
  let s := (s.satAdd .FLT_CNT 1 0 m.cls).markFault m
  let r := s.taken m
  if s.merges m then s.mergeEntry.applyReact m r
  else
    let hold := r == 2 || r == 3
    let s := s.newEntry m r (hold && decide (s.unacks.length < 256))
    let s := if hold then s.joinUnacks (if r = 2 then m.tile else none) else s
    let s := if 1 ≤ r then (s.setRbit .FLT_STATUS 1 true).publish 0x201 else s
    s.applyReact m r

/-- One MGT cycle of the collector (R394). -/
def State.accept (s : State) : State :=
  match s.nextSource with
  | none => s
  | some src =>
    match s.headOf src with
    | none => s
    | some m => ({ s with faults := dropHead src s.faults }.setLat .fltLast (src + 1)).acceptMsg m

/-- FAULT_MESSAGE_ACCEPT (R394). -/
def execFaultMessageAccept (s : State) : Host.Outcome State Fault Refusal := okIf true s.accept

/-! ### FLT_ACK (R402) -/

/-- The UNACK bit of an entry clears, where the log still holds it. -/
def State.clearUnack (s : State) (seq : Nat) : State :=
  let e := logPlace seq
  if s.reg .FLT_LOG e 5 = seq then s.setFld .FLT_LOG 6 6 0 e 0 else s

/-- FLT_ACK with ALL 0: SEQ [30:0] names the entry. -/
def State.ackOne (s : State) (seq : Nat) : State :=
  match s.unacks.find? (fun u => u.seq % 2 ^ 31 == seq % 2 ^ 31) with
  | none => s
  | some u => { s with unacks := s.unacks.filter (fun v => v.seq != u.seq) }.clearUnack u.seq

/-- FLT_ACK with ALL 1. -/
def State.ackAll (s : State) : State :=
  let s' := forIn' s.unacks s (fun u s => s.clearUnack u.seq)
  { s' with unacks := [] }.setFlag .unackOvf false

/-- FLT_ACK_ONE (R402). -/
def execFltAckOne (seq : Nat) (s : State) : Host.Outcome State Fault Refusal := okIf (decide (seq < 2 ^ 31)) (s.ackOne seq)

/-- FLT_ACK_ALL (R402). -/
def execFltAckAll (s : State) : Host.Outcome State Fault Refusal := okIf true s.ackAll

/-! ### Flight record commands (R411, R413, R414) -/

/-- Histories are frozen. -/
def State.frozen (s : State) : Bool := s.rbit .FLT_REC_STATUS 31

/-- FLT_REC_CMD UNFREEZE. -/
def State.unfreeze (s : State) : State :=
  ((s.setRbit .FLT_REC_STATUS 31 false).setRbit .FLT_REC_STATUS 30 false).setFlag .dumpDone false

/-- A write of FLT_REC_CMD (R414). -/
def State.recCmdWrite (s : State) (w : Nat) : State :=
  match bits w 1 0 with
  | 1 => (s.setRbit .FLT_REC_STATUS 30 true).setFlag .dumpDone true
  | 2 => s.unfreeze
  | _ => s.refuse .FLT_REC_CMD

/-- FLT_REC_UNFREEZE (R411). -/
def execFltRecUnfreeze (s : State) : Host.Outcome State Fault Refusal := okIf true s.unfreeze

end Sys2Proof.Machine
end

