-- ==== Sys2Proof/Machine/Events.lean ====
section
/-! DEFINITION. The event router (R415 to R427). -/
namespace Sys2Proof.Machine

/-! ### Indices (R418, R419) -/

/-- The index names a source. -/
def evtSource (i : Nat) : Bool :=
  decide (i < 0xB0) || decide (0x200 ≤ i ∧ i ≤ 0x230) || decide (0x240 ≤ i ∧ i ≤ 0x25F) || decide (0x260 ≤ i ∧ i ≤ 0x267)

/-- The index names a consumer input. -/
def evtInput (i : Nat) : Bool :=
  decide (i < 0xB0) || decide (0x100 ≤ i ∧ i < 0x1B0) || decide (0x200 ≤ i ∧ i ≤ 0x23A) || decide (0x240 ≤ i ∧ i ≤ 0x27F)

/-- Every input, in rising order. -/
def evtInputs : List Nat := (List.range 640).filter evtInput

/-- The tile that an entry belongs to. -/
def evtTile (input : Bool) (i : Nat) : Option Nat :=
  if i < 0xB0 then some i else if input && decide (0x100 ≤ i ∧ i < 0x1B0) then some (i - 0x100) else none

/-! ### Pending occurrences -/

/-- An input holds an occurrence. -/
def State.evtPend (s : State) (i : Nat) : Bool := s.rbit .EVT_INST 31 i

/-- HOP of the occurrence that an input holds. -/
def State.evtHop (s : State) (i : Nat) : Nat := s.fld .EVT_INST 29 27 i

/-- An input takes its occurrence. -/
def State.evtTake (s : State) (i : Nat) : State := s.setRbit .EVT_INST 31 false i

/-! ### Routing (R420, R423) -/

/-- A group is enabled. -/
def State.evtGroupOn (s : State) (c : Nat) : Bool := s.rbit .EVT_GROUPS (c / 32)

/-- An occurrence of hop count `hop` and source `src` reaches an input. GRP_EN and GRP_DIS take theirs
at once; a tile input sets P13 or P14 (R209). -/
def State.evtLatch (s : State) (i hop src : Nat) : State :=
  if 0x260 ≤ i then s.setLat .grpPend (s.nlat .grpPend ||| 2 ^ (i - 0x260) : Nat)
  else if s.evtPend i then (s.setRbit .EVT_INST 30 true i).setRbit .EVT_STATUS 2 true
  else
    let ovr := b2n (s.rbit .EVT_INST 30 i)
    let s := s.setReg .EVT_INST (2 ^ 31 + 2 ^ 30 * ovr + 2 ^ 27 * hop + src) i
    if i < 0x200 then s.setFlag .engEvt true (i % 0x100) (i / 0x100) else s

/-- One input sees the events of the cycle. -/
def State.evtRoute (s : State) (evs : List Event) (i : Nat) : State :=
  let w := s.reg .EVT_SUB i
  let set := if bit w 31 then evs.filter (fun e => e.chan == bits w 8 0) else []
  match (set.map (·.src)).min? with
  | none => s
  | some src =>
    let hop := (set.map (·.hop)).foldl max 0
    let s := if 1 < set.length then s.satAdd .EVT_MERGED (set.length - 1) 0 i else s
    s.evtLatch i hop src

/-- The group changes latched in this cycle take effect; disable wins (R423). -/
def State.evtGroups (s : State) : State :=
  let w := s.nlat .grpPend
  let g := (s.reg .EVT_GROUPS ||| w % 2 ^ 16)
  (s.setReg .EVT_GROUPS (andNot g (w / 2 ^ 16))).setLat .grpPend 0

/-- The events published in the last cycle are routed. -/
def State.evtCycle (s : State) : State :=
  let evs := s.events
  let s := { s with events := [] }
  if s.rbit .EVT_CTRL 0 then
    let s := s.satAdd .EVT_DROP_CNT (evs.filter (fun e => !s.evtGroupOn e.chan)).length
    let live := evs.filter (fun e => s.evtGroupOn e.chan)
    (forIn' evtInputs s (fun i s => s.evtRoute live i)).evtGroups
  else s

/-- EVENT_ROUTING (R420). -/
def execEventRouting (s : State) : Host.Outcome State Fault Refusal := okIf true s.evtCycle

/-! ### Consumers (R419, R421) -/

/-- A relay takes an occurrence and publishes it on (R421). -/
def State.relayTake (s : State) (r : Nat) : State :=
  if s.evtPend (0x240 + r) then (s.evtTake (0x240 + r)).publishDerived (0x240 + r) (s.evtHop (0x240 + r)) else s

/-- RELAY_INPUT (R421). -/
def execRelayInput (relay : Nat) (s : State) : Host.Outcome State Fault Refusal := okIf (decide (relay < 32)) (s.relayTake relay)

/-- SWP_START takes an occurrence. -/
def State.swpStartTake (s : State) : State :=
  if s.evtPend 0x238 then (s.evtTake 0x238).swpStart (s.nlat .swpSeg) (s.evtHop 0x238 + 1) else s

/-- SWP_START_INPUT (R419). -/
def execSwpStartInput (s : State) : Host.Outcome State Fault Refusal := okIf true s.swpStartTake

/-- SWP_STOP takes an occurrence. -/
def State.swpStopTake (s : State) : State := if s.evtPend 0x239 then (s.evtTake 0x239).swpStop else s

/-- SWP_STOP_INPUT (R419). -/
def execSwpStopInput (s : State) : Host.Outcome State Fault Refusal := okIf true s.swpStopTake

/-- CAL_START takes an occurrence. -/
def State.calStartTake (s : State) : State :=
  if s.evtPend 0x23A then (s.evtTake 0x23A).calStart (s.evtHop 0x23A + 1) else s

/-- CAL_START_INPUT (R419). -/
def execCalStartInput (s : State) : Host.Outcome State Fault Refusal := okIf true s.calStartTake

/-- PEND of a firmware interrupt is written with 1: its occurrence is taken, unless it came in the present cycle
(R10, R419). -/
def State.irqTake (s : State) (i : Nat) : State :=
  if s.before.evtPend i then (s.evtTake i).setBefore .EVT_INST 0 (setBits (s.before.reg .EVT_INST i) 31 31 0) i 0 else s

/-- INTERRUPT_TAKE (R419): a firmware interrupt's PEND is written with 1. -/
def execInterruptTake (irq : Nat) (s : State) : Host.Outcome State Fault Refusal :=
  okIf (decide (irq < 32)) (s.irqTake (0x200 + irq))

/-! ### Writes (R424 to R426) -/

/-- The initiator is firmware. -/
def isCore (ini : Initiator) : Bool := ini == .core

/-- OWNER of a channel: 0 firmware, 1 host, 2 tile. -/
def State.evtOwner (s : State) (c : Nat) : Nat := s.fld .EVT_CH 17 16 c

/-- A channel is secure. -/
def State.evtSec (s : State) (c : Nat) : Bool := s.rbit .EVT_CH 15 c

/-- A write that enables an entry naming channel c is allowed (R424, R425). -/
def State.evtMayEnable (s : State) (ini : Initiator) (input : Bool) (i c : Nat) : Bool :=
  (isCore ini || s.evtOwner c == 1) &&
    (s.evtOwner c != 2 ||
      (if input then (match evtTile true i with
        | some t => t == s.fld .EVT_CH 7 0 c
        | none => true)
      else i == s.fld .EVT_CH 7 0 c || decide (0x260 ≤ i))) &&
    !(s.evtSec c && input && decide (0x220 ≤ i ∧ i < 0x228))

/-- The register of an entry. -/
def evtReg (input : Bool) : Reg := if input then .EVT_SUB else .EVT_SRC

/-- A write to EVT_SRC[i], or to EVT_SUB[i] when `input`. -/
def State.evtEntryWrite (s : State) (ini : Initiator) (input : Bool) (i v : Nat) : State :=
  let r := evtReg input
  if (if input then evtInput i else evtSource i) = false then s.addrFault (r.addr 0 i 0)
  else
    let old := s.fld r 8 0 i
    let c := bits v 8 0
    let tileOk := match evtTile input i with
      | some t => s.inUse t
      | none => true
    if tileOk && (isCore ini || !(s.evtSec old || s.evtSec c)) && (!bit v 31 || s.evtMayEnable ini input i c) then
      (s.setReg r (2 ^ 31 * b2n (bit v 31) + c) i).respond false 0
    else (s.refuse r 0 i).respond false 0

/-- EVENT_ENTRY_WRITE (R424). -/
def execEventEntryWrite (ini : Initiator) (input : Bool) (index value : Nat) (s : State) : Host.Outcome State Fault Refusal :=
  okIf (decide (index < 1024 ∧ value < 2 ^ 32)) (s.evtEntryWrite ini input index value)

/-- A write to EVT_SWPUB (R418, R425). -/
def State.swPublish (s : State) (ini : Initiator) (k : Nat) : State :=
  if !isCore ini && s.evtSec (s.fld .EVT_SRC 8 0 (0x260 + k)) then (s.refuse .EVT_SWPUB).respond false 0
  else (s.publish (0x260 + k)).respond false 0

/-- SOFTWARE_PUBLISH (R418). -/
def execSoftwarePublish (ini : Initiator) (k : Nat) (s : State) : Host.Outcome State Fault Refusal :=
  okIf (decide (k < 8)) (s.swPublish ini k)

end Sys2Proof.Machine
end

