-- ==== Sys2Proof/Machine/Dma.lean ====
section
/-! DEFINITION. The DMA engine (R436 to R440), and the frames that the T1024 sends on the Plovom
links (R446 to R449). -/
namespace Sys2Proof.Machine

/-! ### Frames to the host (R446 to R449) -/

/-- STATE of a link: 0 DOWN, 1 ALIGN, 2 INIT, 3 UP. -/
def State.plvState (s : State) (l : Nat) : Nat := s.fld .PLV_LSTATUS 1 0 l

/-- A link is UP. -/
def State.plvUp (s : State) (l : Nat) : Bool := s.plvState l == 3

/-- The credit class of a transaction type (R447): 0 P, 1 NP, 2 CPL. -/
def plvClass (ttype : Nat) : Nat :=
  if ttype = 1 ∨ ttype = 2 ∨ ttype = 6 then 1 else if ttype = 8 then 2 else 0

/-- Buffer units of a transaction with `n` bytes of data (R448). -/
def plvUnits (n : Nat) : Nat := (16 + n + 15) / 16

/-- The credit left for a class. -/
def State.credit (s : State) (l k : Nat) : Nat :=
  (s.nlat .plvLim l k + 2 ^ 16 - s.nlat .plvUsed l k % 2 ^ 16) % 2 ^ 16

/-- The frames of a link that wait for an acknowledgement. -/
def State.unacked (s : State) (l : Nat) : List PlvFrame := s.plvOut.filter (fun f => f.link == l && f.seq.isSome)

/-- A frame may be sent now: its link is UP, its credit covers it, and the replay buffer holds it. -/
def State.maySend (s : State) (f : PlvFrame) : Bool :=
  s.plvUp f.link && decide (plvUnits f.data.length ≤ s.credit f.link (plvClass f.ttype)) &&
    decide ((s.unacked f.link).length < 2048) &&
    decide (((s.unacked f.link).map (fun g => 24 + g.data.length)).sum + 24 + f.data.length ≤ 131072)

/-- The frames that wait are sent in order, class by class: `held` names the classes whose older
frame could not go. -/
def State.pumpOver (s : State) (l : Nat) : List PlvFrame → List Nat → List PlvFrame → State
  | [], _, done => { s with plvOut := done }
  | f :: r, held, done =>
    let k := plvClass f.ttype
    if f.link ≠ l ∨ f.seq.isSome = true ∨ k ∈ held then s.pumpOver l r held (done ++ [f])
    else if s.maySend f then
      let q := s.nlat .plvTx l
      let s := (s.setLat .plvTx ((q + 1) % 4096 : Nat) l).setLat .plvUsed ((s.nlat .plvUsed l k + plvUnits f.data.length) % 2 ^ 16 : Nat) l k
      { s with plvOut := done ++ [{ f with seq := some q }] ++ r }.pumpOver l r held (done ++ [{ f with seq := some q }])
    else s.pumpOver l r (k :: held) (done ++ [f])

/-- Frames that wait on a link are sent as far as its credit goes. -/
def State.pump (s : State) (l : Nat) : State := s.pumpOver l s.plvOut [] []

/-- A frame joins the queue of its link. -/
def State.post (s : State) (l ttype tag status addr len : Nat) (data : List Byte) : State :=
  { s with plvOut := s.plvOut ++ [PlvFrame.mk l none ttype tag status addr data len 0] }.pump l

/-- A frame would leave at once on a link. -/
def State.wouldSend (s : State) (l ttype n : Nat) : Bool :=
  s.maySend (PlvFrame.mk l none ttype 0 0 0 (List.replicate n 0#8) n 0) &&
    !s.plvOut.any (fun f => f.link == l && f.seq.isNone && plvClass f.ttype == plvClass ttype)

/-! ### Channels (R437) -/

/-- STATE of a channel: 0 IDLE, 1 RUN, 2 ARMED, 3 PARKED, 4 ERROR. -/
def State.dmaState (s : State) (ch : Nat) : Nat := s.fld .DMA_CH_STATUS 31 29 ch

/-- The state of a channel is written. -/
def State.setDmaState (s : State) (ch v : Nat) : State := s.setFld .DMA_CH_STATUS 31 29 v ch

/-- CODE of a channel is written. -/
def State.setDmaCode (s : State) (ch v : Nat) : State := s.setFld .DMA_CH_STATUS 7 0 v ch

/-- Word w of the descriptor in progress. -/
def State.dmaWord (s : State) (ch w : Nat) : Nat := s.nlat .dmaW ch w

/-- LEN of the descriptor in progress. -/
def State.dmaLen (s : State) (ch : Nat) : Nat := bits (s.dmaWord ch 0) 23 0

/-- IOVA of the descriptor in progress. -/
def State.dmaCur (s : State) (ch : Nat) : Nat := 2 ^ 32 * s.fld .DMA_CH_CUR_HI 6 0 ch + s.reg .DMA_CH_CUR_LO ch

/-- The fault registers of a channel take a translation fault (R439). -/
def State.dmaFault (s : State) (ch iova : Nat) (write : Bool) (c : XCause) (desc : Bool) : State :=
  let s := s.setReg .DMA_CH_FAULT_LO (iova % 2 ^ 32) ch
  s.setReg .DMA_CH_FAULT_HI (2 ^ 12 * b2n desc + 2 ^ 9 * c.code + 2 ^ 8 * b2n write + iova / 2 ^ 32 % 2 ^ 7) ch

/-- A translation fault parks the channel (R437, R439). -/
def State.dmaPark (s : State) (ch iova : Nat) (write : Bool) (c : XCause) (desc : Bool) : State :=
  ((s.dmaFault ch iova write c desc).setDmaState ch 3).setDmaCode ch 1

/-- Word 1 of the descriptor is written (R436). -/
def State.dmaWriteBack (s : State) (ch code : Nat) : State :=
  let (r, s) := s.translate ch ((s.dmaCur ch + 4) % 2 ^ 39) true
  match r with
  | .inl _ => s
  | .inr pa => (s.memPut .dma pa (leBytes 4 (2 ^ 31 + code))).2

/-- A descriptor ends with an error: CODE to the status register and, when it was fetched, to its
word 1 (R437). The units of the channel still in flight no longer count. -/
def State.dmaError (s : State) (ch code : Nat) (fetched : Bool) : State :=
  let s := { s with dmaUnits := s.dmaUnits.map (fun (u : DmaUnit) => if u.ch = ch then { u with stray := true } else u) }
  let s := (s.setDmaState ch 4).setDmaCode ch code
  if fetched then s.dmaWriteBack ch code else s

/-- A descriptor is valid (R436). -/
def descValid (w0 w1 w3 w5 w7 : Nat) (src dst : Bool) : Bool :=
  bits w0 23 0 != 0 && !bit w0 28 && bits w0 25 24 == 0 && bits w1 30 8 == 0 && !(src && dst) &&
    (src || bits w3 31 7 == 0) && (dst || bits w5 31 7 == 0) && (bit w0 31 || bits w7 31 7 == 0)

/-- The descriptor at an IOVA is fetched (R436, R437). -/
def State.dmaFetch (s : State) (ch iova : Nat) : State :=
  let s := (s.setReg .DMA_CH_CUR_LO (iova % 2 ^ 32) ch).setReg .DMA_CH_CUR_HI (iova / 2 ^ 32 % 2 ^ 7) ch
  let s := (s.setReg .DMA_CH_DONE 0 ch).setLat .dmaPos 0 ch
  let (r, s) := s.translate ch (iova % 2 ^ 39) false
  match r with
  | .inl c => s.dmaPark ch iova false c true
  | .inr pa =>
    let (m, s) := s.memGet .dma pa 32
    match m with
    | .bus => s.dmaError ch 2 false
    | .ue => s.dmaError ch 3 false
    | .ok bs =>
      let w := fun k => leVal (slice bs (4 * k) 4)
      let s := forUpto 8 s (fun k s => s.setLat .dmaW (w k : Nat) ch k)
      if descValid (w 0) (w 1) (w 3) (w 5) (w 7) (bit (w 0) 27) (bit (w 0) 26) then
        s.setDmaState ch (if bit (w 0) 29 then 2 else 1)
      else s.dmaError ch 5 true

/-- The successor of the descriptor in progress. -/
def State.dmaNext (s : State) (ch : Nat) : Nat :=
  2 ^ 32 * (s.dmaWord ch 7 % 2 ^ 7) + s.dmaWord ch 6 / 32 * 32

/-- The last byte of a descriptor has been written (R436, R437). -/
def State.dmaDescDone (s : State) (ch : Nat) : State :=
  let s := (s.setDmaCode ch 0).dmaWriteBack ch 0
  let w0 := s.dmaWord ch 0
  let s := if bit w0 30 then s.publishFor (0x221 + ch) (s.nlat .dmaHop ch) else s
  if bit w0 31 then s.setDmaState ch 0 else s.dmaFetch ch (s.dmaNext ch)

/-- The channel has units in flight that count for it. -/
def State.dmaBusy (s : State) (ch : Nat) : Bool := s.dmaUnits.any (fun u => u.ch == ch && !u.stray)

/-- An ABORT ends the channel once its units have completed (R437). -/
def State.dmaAbortEnd (s : State) (ch : Nat) : State :=
  if s.flag .dmaAbort ch && !s.dmaBusy ch then
    ((s.setFlag .dmaAbort false ch).setDmaState ch 0).setDmaCode ch 6
  else s

/-! ### Commands (R437) -/

/-- START. -/
def State.dmaStart (s : State) (ch : Nat) : State :=
  if s.dmaState ch = 0 ∨ s.dmaState ch = 4 then
    (s.setLat .dmaHop 0 ch).dmaFetch ch (2 ^ 32 * s.fld .DMA_CH_DESC_HI 6 0 ch + s.fld .DMA_CH_DESC_LO 31 5 ch * 32)
  else s.refuse .DMA_CH_CMD 0 ch

/-- DMA_START (R437). -/
def execDmaStart (ch : Nat) (s : State) : Host.Outcome State Fault Refusal := okIf (decide (ch < 16)) (s.dmaStart ch)

/-- RESUME: a descriptor fetch is made again, or issue restarts at the resume point (R439). -/
def State.dmaResume (s : State) (ch : Nat) : State :=
  if s.dmaState ch = 3 ∧ s.flag .dmaAbort ch = false then
    if s.rbit .DMA_CH_FAULT_HI 12 ch then s.dmaFetch ch (s.dmaCur ch) else s.setDmaState ch 1
  else s.refuse .DMA_CH_CMD 0 ch

/-- DMA_RESUME (R439). -/
def execDmaResume (ch : Nat) (s : State) : Host.Outcome State Fault Refusal := okIf (decide (ch < 16)) (s.dmaResume ch)

/-- ABORT. -/
def State.dmaAbort (s : State) (ch : Nat) : State :=
  if 1 ≤ s.dmaState ch ∧ s.dmaState ch ≤ 3 then (s.setFlag .dmaAbort true ch).dmaAbortEnd ch
  else s.refuse .DMA_CH_CMD 0 ch

/-- DMA_ABORT (R437). -/
def execDmaAbort (ch : Nat) (s : State) : Host.Outcome State Fault Refusal := okIf (decide (ch < 16)) (s.dmaAbort ch)

/-- A write to DMA_CH_CMD (R453). -/
def State.dmaCmdWrite (s : State) (ch w : Nat) : State :=
  match bits w 31 28 with
  | 1 => s.dmaStart ch
  | 2 => s.dmaResume ch
  | 3 => s.dmaAbort ch
  | _ => s.refuse .DMA_CH_CMD 0 ch

/-- DMA_TRIG: an ARMED channel takes the occurrence and runs (R437, R419). -/
def State.dmaTrig (s : State) (ch : Nat) : State :=
  if s.evtPend (0x228 + ch) ∧ s.dmaState ch = 2 ∧ s.flag .dmaAbort ch = false then
    ((s.evtTake (0x228 + ch)).setLat .dmaHop (s.evtHop (0x228 + ch) + 1 : Nat) ch).setDmaState ch 1
  else s

/-- DMA_TRIG_INPUT (R437). -/
def execDmaTrigInput (ch : Nat) (s : State) : Host.Outcome State Fault Refusal := okIf (decide (ch < 16)) (s.dmaTrig ch)

/-! ### Units (R438 to R440) -/

/-- A channel has a unit to issue. -/
def State.dmaReady (s : State) (ch : Nat) : Bool :=
  s.dmaState ch == 1 && !s.flag .dmaAbort ch && decide (s.nlat .dmaPos ch < s.dmaLen ch)

/-- The channel that issues next: the highest PRIO, round-robin among equals (R438). -/
def State.dmaChoose (s : State) : Option Nat :=
  let ready := (List.range 16).filter s.dmaReady
  let top := (ready.map (fun ch => s.fld .DMA_CH_CTRL 1 0 ch)).foldl max 0
  let best := ready.filter (fun ch => s.fld .DMA_CH_CTRL 1 0 ch == top)
  let after := best.filter (fun ch => decide (s.nlat .dmaPick ≤ ch))
  (if after.isEmpty then best else after).head?

/-- The lowest tag that no request of a link uses. -/
def State.freeTag (s : State) (l : Nat) : Nat :=
  ((List.range 256).find? (fun g => !s.dmaUnits.any (fun u => u.srcHost && u.link == l && u.tag == g && u.data.isNone))).getD 0

/-- The management runs of one side of a unit; a host address stands for itself. -/
def State.dmaSide (s : State) (ch : Nat) (host write : Bool) (a n : Nat) : (Sum (Nat × XCause) (List (Nat × Nat))) × State :=
  if host then (.inr [(a % 2 ^ 64, n)], s) else s.translateRange ch write 3 a n

/-- A unit is translated and issued, or the channel parks (R439). -/
def State.dmaIssueCh (s : State) (ch : Nat) : State :=
  let pos := s.nlat .dmaPos ch
  let w0 := s.dmaWord ch 0
  let src := s.dmaWord ch 2 + 2 ^ 32 * s.dmaWord ch 3 + pos
  let dst := s.dmaWord ch 4 + 2 ^ 32 * s.dmaWord ch 5 + pos
  let n := min (s.dmaLen ch - pos) (64 - dst % 64)
  let l := s.fld .DMA_CH_CTRL 8 8 ch
  let s := s.setLat .dmaPick (ch + 1 : Nat)
  let (a, s) := s.dmaSide ch (bit w0 27) false src n
  match a with
  | .inl (f, c) => s.dmaPark ch f false c false
  | .inr rs =>
    let (b, s) := s.dmaSide ch (bit w0 26) true dst n
    match b with
    | .inl (f, c) => s.dmaPark ch f true c false
    | .inr ws =>
      let tag := s.freeTag l
      let u : DmaUnit := ⟨ch, pos, n, rs, ws, bit w0 27, bit w0 26, l, tag, none, false⟩
      let s := { s with dmaUnits := s.dmaUnits ++ [u] }.setLat .dmaPos (pos + n : Nat) ch
      if bit w0 27 then s.post l 6 tag 0 (src % 2 ^ 64) n [] else s

/-- DMA_UNIT_ISSUE (R438, R439): with fewer than 8 units in flight. -/
def State.dmaIssue (s : State) : State :=
  if s.dmaUnits.length < 8 then
    match s.dmaChoose with
    | none => s
    | some ch => s.dmaIssueCh ch
  else s

/-- DMA_UNIT_ISSUE. -/
def execDmaUnitIssue (s : State) : Host.Outcome State Fault Refusal := okIf true s.dmaIssue

/-- The bytes of the runs of a unit's source. -/
def State.dmaGather (s : State) : List (Nat × Nat) → MemRes × State
  | [] => (.ok [], s)
  | (a, n) :: r =>
    let (m, s) := s.memGet .dma a n
    match m with
    | .ok bs =>
      let (q, s) := s.dmaGather r
      (match q with
        | .ok cs => .ok (bs ++ cs)
        | e => e, s)
    | e => (e, s)

/-- The bytes of a unit stored in the runs of its destination. -/
def State.dmaScatter (s : State) : List (Nat × Nat) → List Byte → Bool × State
  | [], _ => (true, s)
  | (a, n) :: r, bs =>
    let (ok, s) := s.memPut .dma a (bs.take n)
    let (q, s) := s.dmaScatter r (bs.drop n)
    (ok && q, s)

/-- A unit meets an error: its descriptor ends with ERROR, and DONE holds its start (R440). -/
def State.dmaUnitFail (s : State) (u : DmaUnit) (code : Nat) : State :=
  if u.stray then s
  else if s.flag .dmaAbort u.ch then s.dmaAbortEnd u.ch
  else (s.setReg .DMA_CH_DONE u.pos u.ch).dmaError u.ch code true

/-- A unit's bytes have been written (R438). -/
def State.dmaUnitDone (s : State) (u : DmaUnit) : State :=
  if u.stray then s
  else
    let s := s.setReg .DMA_CH_DONE (u.pos + u.len) u.ch
    if u.pos + u.len = s.dmaLen u.ch ∧ s.flag .dmaAbort u.ch = false then s.dmaDescDone u.ch else s.dmaAbortEnd u.ch

/-- A unit's data go to its destination. -/
def State.dmaDeliver (s : State) (u : DmaUnit) (bs : List Byte) : State :=
  if u.dstHost then
    (s.post u.link 5 0 0 ((u.dst.headD (0, 0)).1) u.len bs).dmaUnitDone u
  else
    let (ok, s) := s.dmaScatter u.dst bs
    if ok then s.dmaUnitDone u else s.dmaUnitFail u 2

/-- The oldest unit of a channel completes, once its host data have come and, for a host destination,
once its frame can leave. -/
def State.dmaComplete (s : State) (ch : Nat) : State :=
  match s.dmaUnits.find? (fun u => u.ch == ch) with
  | none => s
  | some u =>
    if (u.srcHost && u.data.isNone) || (u.dstHost && !s.wouldSend u.link 5 u.len) then s
    else
      let s := { s with dmaUnits := s.dmaUnits.erase u }
      match u.data with
      | some bs => s.dmaDeliver u bs
      | none =>
        let (m, s) := s.dmaGather u.src
        match m with
        | .ok bs => s.dmaDeliver u bs
        | .bus => s.dmaUnitFail u 2
        | .ue => s.dmaUnitFail u 3

/-- DMA_UNIT_COMPLETE (R438). -/
def execDmaUnitComplete (ch : Nat) (s : State) : Host.Outcome State Fault Refusal :=
  okIf (decide (ch < 16)) (s.dmaComplete ch)

/-- The unit that waits for a host completion under a tag. -/
def State.tagUnit (s : State) (l tag : Nat) : Option DmaUnit :=
  s.dmaUnits.find? (fun u => u.srcHost && u.link == l && u.tag == tag && u.data.isNone)

/-- A DMA_RD fails: its channel ends with HOST (R449). -/
def State.dmaHostFail (s : State) (u : DmaUnit) : State :=
  { s with dmaUnits := s.dmaUnits.erase u }.dmaUnitFail u 4

/-- DMA_RD_TIMEOUT (R449): no completion within 1 ms. -/
def execDmaRdTimeout (link tag : Nat) (s : State) : Host.Outcome State Fault Refusal :=
  okIf (decide (link < 2 ∧ tag < 256)) <|
    match s.tagUnit link tag with
    | none => s
    | some u => s.dmaHostFail u

/-! ### Link states (R445) -/

/-- STATE of a link is written; a change of UP sends PLV_LINK with its cause: 0 lane lock, 1 alignment,
2 replay limit, 3 disabled. -/
def State.setPlvState (s : State) (l v cause : Nat) : State :=
  let was := s.plvUp l
  let s := s.setFld .PLV_LSTATUS 1 0 v l
  if was = (v == 3) then s
  else if v = 3 then s.send 0x118 0x73 (2 ^ 8 + l) else s.send 0x118 0x73 (2 ^ 9 * cause + l)

/-- A link goes DOWN: its frames are lost, its host requests are not answered, and a channel that waits
for a completion of it ends with HOST (R445, R449). -/
def State.plvDown (s : State) (l cause : Nat) : State :=
  let s := s.setPlvState l 0 cause
  let lost := s.dmaUnits.filter (fun u => u.srcHost && u.link == l && u.data.isNone)
  let s := { s with plvOut := s.plvOut.filter (fun f => f.link != l) }
  forIn' lost s (fun u s =>
    match s.tagUnit l u.tag with
    | none => s
    | some v => s.dmaHostFail v)

/-! ### Host messages (R451) -/

/-- The link that a message goes on: MSGLINK, or the other when that one is not UP. -/
def State.msgLink (s : State) : Nat :=
  let l := s.fld .PLV_CTRL 0 0
  if s.plvUp l then l else 1 - l

/-- A host-message input sends its message, and is free once the frame has left. -/
def State.hostMessage (s : State) (k : Nat) : State :=
  let i := 0x220 + k
  if s.evtPend i && s.wouldSend s.msgLink 4 8 then
    (s.evtTake i).post s.msgLink 4 0 0 0 8
      (leBytes 4 k ++ leBytes 4 (2 ^ 10 * s.evtHop i + s.fld .EVT_INST 9 0 i))
  else s

/-- HOST_MESSAGE_INPUT (R451). -/
def execHostMessageInput (k : Nat) (s : State) : Host.Outcome State Fault Refusal := okIf (decide (k < 8)) (s.hostMessage k)

/-! ### DRAM (R434, R435) -/

/-- DQS_TRACKING (R434): new delays are applied inside refresh windows; nothing that the part shows
changes. -/
def execDqsTracking (s : State) : Host.Outcome State Fault Refusal := okIf true s

/-- PATROL_SCRUB (R435): the scrubber reads a 32-byte word of the usable DRAM, and finds no error (0), a
corrected one (1) or an uncorrectable one (2); in a word that has not been written it finds what that holds (R503). -/
def State.scrub (s : State) (word err : Nat) : State :=
  if s.rbit .DRAM_CTRL 0 = true ∧ word * 32 < s.dramSize then
    if (s.dramFresh (32 * word) 32).isEmpty = false ∧ s.dramUe.any (fun w => w == word) = false then
      if 2 ≤ s.freshEcc word then { s with dramUe := ordInsert s.dramUe word }.dramError (32 * word)
      else s.dramMeet (32 * word) 32
    else
    if err = 2 ∨ s.dramUe.any (fun w => w == word) = true then { s with dramUe := ordInsert s.dramUe word }.dramError (32 * word)
    else if err = 1 then s.dramCorrected (32 * word) else s
  else s

/-- PATROL_SCRUB. -/
def execPatrolScrub (word err : Nat) (s : State) : Host.Outcome State Fault Refusal :=
  okIf (decide (word < 2 ^ 29 ∧ err < 3)) (s.scrub word err)

/-! ### Mailbox (R451, R456) -/

/-- A read of PLV_MBOX_IDX removes the oldest entry and captures its DATA. -/
def State.mboxRead (s : State) : State :=
  match s.mbox with
  | [] => s.respond false 0
  | m :: r =>
    let s := { s with mbox := r }.setReg .PLV_MBOX_DATA m.data
    (s.setRbit .PLV_STATUS 2 (!r.isEmpty)).respond false (2 ^ 31 + m.index % 256)

/-- PLV_MBOX_READ (R451). -/
def execPlvMboxRead (s : State) : Host.Outcome State Fault Refusal := okIf true s.mboxRead

end Sys2Proof.Machine
end

