-- ==== Sys2Proof/Machine/Ptp.lean ====
section
/-! DEFINITION. Network time (R264 to R277): commands, the increment, the servo, 1PPS, and the
transmit-stamp FIFOs. -/
namespace Sys2Proof.Machine

/-! ### Commands (R267) -/

/-- No slot program can run: ARMED, RUN and STOPPING are 0. -/
def State.slotsQuiet (s : State) : Bool := !s.armed && !s.running && !s.stopping

/-- PTP_CMD is accepted (R267). -/
def State.ptpCmdOk (s : State) : Bool := s.slotsQuiet && !s.rbit .PTP_STATUS 4

/-- PTP_CMD STEP. -/
def State.ptpStep (s : State) : State :=
  if s.ptpCmdOk then
    let s := { s with time := ⟨2 ^ 32 * s.fld .PTP_SET_S_HI 15 0 + s.reg .PTP_SET_S_LO, s.fld .PTP_SET_NS 29 0 % 1000000000, 0⟩ }
    (s.setRbit .PTP_STATUS 1 true).setRbit .PTP_STATUS 4 true
  else s.refuse .PTP_CMD

/-- PTP_CMD ADJ. -/
def State.ptpAdj (s : State) : State :=
  let n : Int := (s.nowNs : Int) + sx 32 (s.reg .PTP_ADJ_NS)
  if s.ptpCmdOk ∧ 0 ≤ n then { s with time := NetTime.ofTotal (2 ^ 32 * n.toNat + s.time.frac) }
  else s.refuse .PTP_CMD

/-- PTP_STEP (R267). -/
def execPtpStep (s : State) : Host.Outcome State Fault Refusal := okIf true s.ptpStep

/-- PTP_ADJ (R267). -/
def execPtpAdj (s : State) : Host.Outcome State Fault Refusal := okIf true s.ptpAdj

/-- A write to PTP_CMD, by its OP (R283). -/
def State.ptpCmdWrite (s : State) (w : Nat) : State :=
  match bits w 31 28 with
  | 1 => s.ptpStep
  | 2 => s.ptpAdj
  | _ => s.refuse .PTP_CMD

/-- MAC_TIME_SETTLED (R267). -/
def execMacTimeSettled (s : State) : Host.Outcome State Fault Refusal := okIf true (s.setRbit .PTP_STATUS 4 false)

/-! ### The increment (R264) -/

/-- A write of PTP_INCR_FRAC stages the value. -/
def State.incrFracWrite (s : State) (v : Nat) : State :=
  if s.slotsQuiet then s.setLat .incrStage v else s.refuse .PTP_INCR_FRAC

/-- A write of PTP_INCR_NS forms the pair, checks it and loads it whole. -/
def State.incrNsWrite (s : State) (v : Nat) : State :=
  let pair := 2 ^ 32 * (v % 2) + s.nlat .incrStage
  if s.slotsQuiet ∧ 0xE6666666 ≤ pair ∧ pair ≤ 0x119999999 then
    (s.setReg .PTP_INCR_NS (v % 2)).setReg .PTP_INCR_FRAC (s.nlat .incrStage)
  else s.refuse .PTP_INCR_NS

/-- PTP_INCR_FRAC_WRITE (R264). -/
def execPtpIncrFracWrite (value : Nat) (s : State) : Host.Outcome State Fault Refusal :=
  okIf (decide (value < 2 ^ 32)) (s.incrFracWrite value)

/-- PTP_INCR_NS_WRITE (R264). -/
def execPtpIncrNsWrite (value : Nat) (s : State) : Host.Outcome State Fault Refusal :=
  okIf (decide (value < 2 ^ 32)) (s.incrNsWrite value)

/-! ### The servo (R268 to R270) -/

/-- Offsets are accepted. -/
def State.servoOn (s : State) : Bool := s.rbit .PTP_CTRL 0

/-- integ after an offset (R268). -/
def State.servoInteg (s : State) (ofs : Int) : Int :=
  let lim : Int := s.reg .PTP_SERVO_LIM
  clampI (-lim) lim
    (sx 32 (s.reg .PTP_SERVO_INTEG) + mulsh (sat32 (-ofs)) (sx 32 (s.reg .PTP_SERVO_KI)) (s.fld .PTP_SERVO_SH 4 0))

/-- trim after an offset (R268). -/
def State.servoTrim (s : State) (ofs : Int) : Int :=
  let lim : Int := s.reg .PTP_SERVO_LIM
  clampI (-lim) lim
    (s.servoInteg ofs + mulsh (sat32 (-ofs)) (sx 32 (s.reg .PTP_SERVO_KP)) (s.fld .PTP_SERVO_SH 12 8))

/-- The servo enters UNLOCKED. -/
def State.servoUnlock (s : State) : State :=
  ((s.setRbit .PTP_STATUS 2 false).setRbit .PTP_STATUS 3 false).setLat .lockN 0

/-- The silence has reached PTP_SERVO_HOLD (R270). -/
def State.silent (s : State) : Bool :=
  s.servoOn && !s.rbit .PTP_STATUS 3 && decide (s.nlat .silAt + 1000000 * s.fld .PTP_SERVO_HOLD 15 0 ≤ s.grain + 1)

/-- HOLDOVER is entered (R270). -/
def State.holdover (s : State) : State :=
  if s.silent then
    (((s.setRbit .PTP_STATUS 2 false).setRbit .PTP_STATUS 3 true).send 0x10E 0x30 0).publish 0x203
  else s

/-- The state of the servo at an accepted offset (R270): the rows are checked in order, so that a silence that has just
run out enters HOLDOVER, which the offset then leaves. -/
def State.servoJudge (s : State) (ofs : Int) : State :=
  let s := s.holdover
  let a := ofs.natAbs
  let lock := s.reg .PTP_SERVO_LOCK
  if s.rbit .PTP_STATUS 3 then s.servoUnlock
  else if s.rbit .PTP_STATUS 2 then (if 4 * lock < a then s.servoUnlock else s)
  else
    let n := if a ≤ lock then s.nlat .lockN + 1 else 0
    let s := s.setLat .lockN n
    if 16 ≤ n then (s.setRbit .PTP_STATUS 2 true).setRbit .PTP_STATUS 1 true else s

/-- An offset is offered by a source: 0 FW, 1 PPS (R268, R269). -/
def State.offerOffset (s : State) (src : Nat) (ofs : Int) : State :=
  if s.servoOn ∧ s.fld .PTP_CTRL 2 1 = src then
    let i := s.servoInteg ofs
    let t := s.servoTrim ofs
    let s := (s.setReg .PTP_SERVO_INTEG (ux 32 i)).setReg .PTP_TRIM (ux 32 t)
    (s.servoJudge ofs).setLat .silAt (s.grain + 1)
  else s

/-- SERVO_OFFSET_WRITE (R268, R269): the value written, signed. -/
def execServoOffsetWrite (value : Nat) (s : State) : Host.Outcome State Fault Refusal :=
  okIf (decide (value < 2 ^ 32)) (s.offerOffset 0 (sx 32 value))

/-- SERVO_SILENCE (R270). -/
def execServoSilence (s : State) : Host.Outcome State Fault Refusal := okIf true s.holdover

/-- A write of PTP_CTRL (R270, R283): SRC 2 and 3 are refused; SERVO_EN cleared unlocks a servo in LOCKED or HOLDOVER,
and set from 0 to 1 starts the silence anew. -/
def State.ptpCtrlWrite (s : State) (w : Nat) : State :=
  if 2 ≤ bits w 2 1 then s.refuse .PTP_CTRL
  else
    let was := s.servoOn
    let s := s.setReg .PTP_CTRL (w % 8)
    if bit w 0 then (if was then s else s.setLat .silAt (s.grain + 1))
    else if s.rbit .PTP_STATUS 2 || s.rbit .PTP_STATUS 3 then s.servoUnlock
    else s

/-! ### 1PPS (R276, R277) -/

/-- The whole second nearest to a time in 2^-32 ns, ties toward the later one: the distance to
it, in 2^-32 ns / 1000 (R276). -/
def ppsError (stamp : Nat) (dly : Int) : Int :=
  let sec : Int := 1000000000 * 1000 * 2 ^ 32
  let t := 1000 * (stamp : Int) - 2 ^ 32 * dly
  t - (2 * t + sec) / (2 * sec) * sec

/-- An accepted edge at a stamp in 2^-32 ns (R276). -/
def State.ppsEdge (s : State) (stamp : Nat) : State :=
  if s.rbit .PTP_PPSIN_CTRL 31 then
    let t := NetTime.ofTotal stamp
    let s := (s.setReg .PTP_PPSIN_FRAC t.frac).setReg .PTP_PPSIN_NS t.ns
    let s := (s.setReg .PTP_PPSIN_S_LO t.sec).setReg .PTP_PPSIN_S_HI (t.sec / 2 ^ 32)
    let s := ((s.setLat .ppsAt (s.grain + 1)).setLat .ppsLost 0).publish 0x204
    let d := ppsError stamp (sx 32 (s.reg .PTP_PPSIN_DLY))
    if d.natAbs < 2 ^ 23 * 1000 * 2 ^ 32 then s.offerOffset 1 (tdiv d (1000 * 2 ^ 24))
    else s.setRbit .PTP_STATUS 6 true
  else s

/-- The stamp that the hardware takes of an edge in the present grain (R276): a whole number of 125 ps, 2^29 of 2^-32
ns, no further than 250 ps, 2^30, from network time in the grain; `stamp` chooses within that. -/
def State.ppsStamp (s : State) (stamp : Nat) : Nat :=
  let lo := (less s.time.total (2 ^ 30) + (2 ^ 29 - 1)) / 2 ^ 29
  let hi := (s.time.total + s.incr + 2 ^ 30) / 2 ^ 29
  2 ^ 29 * max lo (min hi (stamp / 2 ^ 29))

/-- PPS_IN_EDGE (R276): an edge of the other polarity than POL, and one of a pulse shorter than 100 ns, is ignored. -/
def execPpsInEdge (edge : PpsEdge) (s : State) : Host.Outcome State Fault Refusal :=
  okIf (decide (edge.stamp < 2 ^ 112 ∧ edge.width < 2 ^ 32)) <|
    if edge.falling = s.rbit .PTP_PPSIN_CTRL 30 ∧ 100 ≤ edge.width then s.ppsEdge (s.ppsStamp edge.stamp) else s

/-- No edge for 1.5 s (R276). -/
def State.ppsLoss (s : State) : State :=
  if s.rbit .PTP_PPSIN_CTRL 31 ∧ s.flag .ppsLost = false ∧ s.nlat .ppsAt + 1500000000 ≤ s.grain + 1 then
    ((s.setRbit .PTP_STATUS 5 true).send 0x10E 0x31 0).setFlag .ppsLost true
  else s

/-- PPS_LOSS (R276). -/
def execPpsLoss (s : State) : Host.Outcome State Fault Refusal := okIf true s.ppsLoss

/-- A write of PTP_PPSIN_CTRL: EN set from 0 to 1 starts the 1.5 s anew. -/
def State.ppsInWrite (s : State) (w : Nat) : State :=
  let was := s.rbit .PTP_PPSIN_CTRL 31
  let s := s.setReg .PTP_PPSIN_CTRL (2 ^ 30 * bits w 31 30)
  if bit w 31 && !was then (s.setLat .ppsAt (s.grain + 1)).setLat .ppsLost 0 else s

/-- Network time reaches a whole second plus DLY within the present grain (R277), in 2^-32 ns / 1000. A second that a
STEP or ADJ skips has no such grain. -/
def State.ppsOutDue (s : State) : Bool :=
  let sec : Int := 1000000000 * 1000 * 2 ^ 32
  let t : Int := 1000 * (s.time.total : Int) - 2 ^ 32 * sx 32 (s.reg .PTP_PPSOUT_DLY)
  decide (-t % sec < (1000 * s.incr : Nat))

/-- The 1PPS output rises, for WIDTH µs (R277). -/
def State.ppsRise (s : State) : State :=
  (s.setLat .ppsOut 1).setLat .ppsEnd (s.grain + 1000 * s.fld .PTP_PPSOUT_CTRL 18 0 : Nat)

/-- PPS_OUT_RISE (R277): at a whole second plus DLY. -/
def execPpsOutRise (s : State) : Host.Outcome State Fault Refusal :=
  okIf true (if s.rbit .PTP_PPSOUT_CTRL 31 && s.mode != .sable && s.ppsOutDue then s.ppsRise else s)

/-- PPS_OUT_FALL (R277): WIDTH µs after the rise, as WIDTH stood at it. -/
def execPpsOutFall (s : State) : Host.Outcome State Fault Refusal :=
  okIf true (if s.nlat .ppsEnd = s.grain then s.setLat .ppsOut 0 else s)

/-- A write of PTP_PPSOUT_CTRL: the output is low while EN is 0. -/
def State.ppsOutWrite (s : State) (w : Nat) : State :=
  let s := s.setReg .PTP_PPSOUT_CTRL (2 ^ 31 * b2n (bit w 31) + bits w 18 0)
  if bit w 31 then s else s.setLat .ppsOut 0

/-! ### Transmit stamps (R271, R275) -/

/-- t_ref of a transmitted message at port p, the stamp in 2^-32 ns (R271). -/
def State.txRef (s : State) (p mac : Nat) : Nat :=
  let ps : Int := (s.reg .PTP_PORT_TXC p : Nat) + sx 16 (s.fld .PTP_PORT_ADJ 15 0 p)
  ((mac : Int) + 2 ^ 32 * ps / 1000).toNat

/-- t_ref of a received message at port p (R271). -/
def State.rxRef (s : State) (p mac : Nat) : Nat :=
  let ps : Int := (s.reg .PTP_PORT_RXC p : Nat) + (s.reg .PTP_PORT_VAR p : Nat) + sx 16 (s.fld .PTP_PORT_ADJ 31 16 p)
  ((mac : Int) + -(2 ^ 32 * ps) / 1000).toNat

/-- 0.4 ns in 2^-32 ns, the furthest that a MAC's copy of network time lies from the count (R271). -/
def macError : Nat := 1717986918

/-- The stamp that a MAC takes of a delimiter in the present grain (R271): within 0.4 ns of network time in the grain;
`stamp` chooses within that. While SETTLE is 1 the copies may still hold the old count (R267). -/
def State.macStamp (s : State) (stamp : Nat) : Nat :=
  if s.rbit .PTP_STATUS 4 then stamp
  else max (less s.time.total macError) (min (s.time.total + s.incr + macError) stamp)

/-- The stamp of a frame that has been received whole: its delimiter came earlier. -/
def State.macStampPast (s : State) (stamp : Nat) : Nat :=
  if s.rbit .PTP_STATUS 4 then stamp else min (s.time.total + s.incr + macError) stamp

/-- A stamp enters the FIFO of its port, or finds it full (R275). -/
def State.txStamp (s : State) (p mtype seqId time : Nat) : State :=
  if (s.txts.filter (fun e => e.port == p)).length < 16 then { s with txts := s.txts ++ [⟨p, mtype, seqId, time⟩] }
  else s.setRbit .PTP_STATUS 7 true

/-- The queue without the oldest entry of a port. -/
def dropStamp (p : Nat) : List TxStamp → List TxStamp
  | [] => []
  | e :: r => if e.port = p then r else e :: dropStamp p r

/-- A read of PTP_TXTS_ID[p] removes the oldest entry and captures its words (R275). -/
def State.txtsRead (s : State) (p : Nat) : State :=
  match s.txts.find? (fun e => e.port == p) with
  | none => s.respond false 0
  | some e =>
    let t := NetTime.ofTotal e.time
    let s := { s with txts := dropStamp p s.txts }
    let s := (s.setReg .PTP_TXTS_FRAC t.frac p).setReg .PTP_TXTS_NS t.ns p
    let s := (s.setReg .PTP_TXTS_S_LO t.sec p).setReg .PTP_TXTS_S_HI (t.sec / 2 ^ 32) p
    s.respond false (2 ^ 31 + 2 ^ 20 * (e.mtype % 16) + e.seqId % 2 ^ 16)

/-- TXTS_FIFO_READ (R275). -/
def execTxtsFifoRead (port : Nat) (s : State) : Host.Outcome State Fault Refusal := okIf (decide (port < 8)) (s.txtsRead port)

end Sys2Proof.Machine
end

