-- ==== Sys2Proof/Machine/Traffic.lean ====
section
/-! DEFINITION. Ingress meters, egress queues and shapers, the move meter (R316 to R335), and the
parsing of frames that they and the pipelines need. -/
namespace Sys2Proof.Machine

/-! ### Frames -/

/-- Two bytes of a frame in network order. -/
def be16 (bs : List Byte) (o : Nat) : Nat := beVal (slice bs o 2)

/-- A tag's EtherType (802.1Q or 802.1ad, R284). -/
def isTagType (x : Nat) : Bool := x == 0x8100 || x == 0x88A8

/-- Number of VLAN tags recognised: up to two. -/
def tagCount (bs : List Byte) : Nat :=
  if isTagType (be16 bs 12) then (if isTagType (be16 bs 16) then 2 else 1) else 0

/-- Offset of the EtherType after the tags. -/
def typeOff (bs : List Byte) : Nat := 12 + 4 * tagCount bs

/-- The EtherType after the tags. -/
def etherType (bs : List Byte) : Nat := be16 bs (typeOff bs)

/-- The payload's offset. -/
def payOff (bs : List Byte) : Nat := typeOff bs + 2

/-- Destination and source address as numbers. -/
def dstMac (bs : List Byte) : Nat := beVal (slice bs 0 6)

/-- Source address. -/
def srcMac (bs : List Byte) : Nat := beVal (slice bs 6 6)

/-- A group address: the first bit sent is the least significant one of the first byte. -/
def isGroup (mac : Nat) : Bool := bit mac 40

/-- PCP of the outer tag. -/
def tagPcp (bs : List Byte) : Nat := be16 bs 14 / 2 ^ 13

/-- DEI of the outer tag. -/
def tagDei (bs : List Byte) : Bool := bit (be16 bs 14) 12

/-- Frame length through the FCS. -/
def frameLen (bs : List Byte) : Nat := bs.length + 4

/-- Offset of a PTP message carried in UDP to one of the ports, or directly (R273). -/
def ptpAt (ports : List Nat) (bs : List Byte) : Option Nat :=
  let p := payOff bs
  if etherType bs = 0x88F7 then some p
  else if etherType bs = 0x0800 ∧ beVal (slice bs p 1) = 0x45 ∧ beVal (slice bs (p + 9) 1) = 17 ∧
      be16 bs (p + 22) ∈ ports then some (p + 28)
  else if etherType bs = 0x86DD ∧ beVal (slice bs (p + 6) 1) = 17 ∧ be16 bs (p + 42) ∈ ports then some (p + 48)
  else none

/-- Offset of the PTP event message that a frame carries (R273). -/
def ptpEvent (bs : List Byte) : Option Nat :=
  match ptpAt [319] bs with
  | some o => if beVal (slice bs o 1) % 16 < 4 then some o else none
  | none => none

/-- The frame is a PTP message (R289). -/
def isPtp (bs : List Byte) : Bool := (ptpAt [319, 320] bs).isSome

/-- Bytes put over a frame from an offset. -/
def overlay (bs : List Byte) (o : Nat) (new : List Byte) : List Byte := bs.take o ++ new ++ bs.drop (o + new.length)

/-- The station address (R313). -/
def State.selfMac (s : State) : Nat := 2 ^ 32 * s.fld .SIG_SELF_HI 15 0 + s.reg .SIG_SELF_LO

/-! ### Ingress meters (R317 to R322) -/

/-- Colours of a meter. -/
inductive Colour where
  | green
  | yellow
  | red
deriving DecidableEq, Repr

/-- The class of a frame (R317). -/
def State.frameClass (s : State) (bs : List Byte) : Nat :=
  if dstMac bs = s.selfMac ∧ etherType bs = 0x88B5 then 8
  else if isPtp bs then 9
  else if tagCount bs = 0 then 0 else tagPcp bs

/-- POL_CIR of a meter. -/
def State.cir (s : State) (m : Nat) : Nat := s.reg .POL_CIR m

/-- A bucket's whole bytes are shown. -/
def State.setBuckets (s : State) (m tc tp : Nat) : State :=
  let s := (s.setLat .polTc tc m).setLat .polTp tp m
  (s.setReg .POL_TC (tc / 2 ^ 16) m).setReg .POL_TP (tp / 2 ^ 16) m

/-- A meter at a traffic tick (R319, R320, R322). -/
def State.meterTick (s : State) (m : Nat) : State :=
  if s.rbit .POL_CFG 31 m then
    let capC := 2 ^ 16 * s.reg .POL_CBS m
    let capP := 2 ^ 16 * s.reg .POL_PBS m
    let tc := s.nlat .polTc m
    let tp := s.nlat .polTp m
    if s.flag .polNew m then (s.setBuckets m capC capP).setFlag .polNew false m
    else if s.rbit .POL_CFG 30 m then s.setBuckets m (min (tc + s.cir m) capC) (min (tp + s.reg .POL_PIR m) capP)
    else
      let room := capC - tc
      if s.cir m ≤ room then s.setBuckets m (tc + s.cir m) tp
      else s.setBuckets m capC (min (tp + s.cir m - room) capP)
  else s

/-- A frame of metered length `len` at a meter, with its pre-colour: the colour and the buckets left
(R319, R320). -/
def meterColour (two aware : Bool) (pre : Colour) (tc tp len : Nat) : Colour × Nat × Nat :=
  let b := 2 ^ 16 * len
  if two then
    if (aware && pre == .red) || decide (tp < b) then (.red, tc, tp)
    else if (aware && pre == .yellow) || decide (tc < b) then (.yellow, tc, tp - b)
    else (.green, tc - b, tp - b)
  else
    if (!aware || pre == .green) && decide (b ≤ tc) then (.green, tc - b, tp)
    else if (!aware || pre != .red) && decide (b ≤ tp) then (.yellow, tc, tp - b)
    else (.red, tc, tp)

/-- DEI of the outer tag is set to 1. -/
def markDei (bs : List Byte) : List Byte :=
  if tagCount bs = 0 then bs else overlay bs 14 (beBytes 2 (setBit (be16 bs 14) 12 true))

/-- The ingress meter (R317, R321): the frame that goes on, none when it is dropped. -/
def State.police (s : State) (p : Nat) (bs : List Byte) : Option (List Byte) × State :=
  let w := s.reg .POL_MAP p (s.frameClass bs)
  let m := bits w 7 0
  let c := s.reg .POL_CFG m
  if bit w 31 && bit c 31 && !s.flag .polNew m then
    let pre := if tagCount bs != 0 && tagDei bs then Colour.yellow else Colour.green
    let r := meterColour (bit c 30) (bit c 29) pre (s.nlat .polTc m) (s.nlat .polTp m) (frameLen bs + bits c 4 0)
    let s := s.setBuckets m r.2.1 r.2.2
    let marked := if bit c 28 then markDei bs else bs
    match r.1 with
    | .green => (some bs, s.satAdd .POL_CNT_G 1 0 m)
    | .yellow => (if bits c 25 24 = 0 then some marked else none, s.satAdd .POL_CNT_Y 1 0 m)
    | .red => (if bits c 27 26 = 1 then some marked else none, s.satAdd .POL_CNT_R 1 0 m)
  else (some bs, s)

/-- A meter may be enabled with its settings and a value of POL_CFG (R322). -/
def State.meterOk (s : State) (m c : Nat) : Bool :=
  if bit c 30 then decide (s.cir m ≤ s.reg .POL_PIR m) && s.reg .POL_CBS m != 0 && s.reg .POL_PBS m != 0
  else s.reg .POL_CBS m != 0 || s.reg .POL_PBS m != 0

/-- A write to POL_CFG[m] (R322, R333). While EN is 1, a write that would change another field is
refused. -/
def State.polCfgWrite (s : State) (m w : Nat) : State :=
  let w := w &&& 0xFF00001F
  let old := s.reg .POL_CFG m
  if bit old 31 ∧ w % 2 ^ 31 ≠ old % 2 ^ 31 ∨ 2 ≤ bits w 27 26 ∨ 2 ≤ bits w 25 24 then s.refuse .POL_CFG 0 m
  else if bit w 31 && !bit old 31 then
    if s.meterOk m w then (s.setReg .POL_CFG w m).setFlag .polNew true m else s.refuse .POL_CFG 0 m
  else s.setReg .POL_CFG w m

/-- METER_ENABLE (R322): a write of POL_CFG[m] that sets EN. -/
def execMeterEnable (meter value : Nat) (s : State) : Host.Outcome State Fault Refusal :=
  okIf (decide (meter < 256 ∧ 2 ^ 31 ≤ value ∧ value < 2 ^ 32)) (s.polCfgWrite meter value)

/-! ### Egress queues and shapers (R323 to R326) -/

/-- Bytes that frames hold in the buffer. -/
def bytesHeld (l : List TxFrame) : Nat := (l.map (fun f => frameLen f.bytes)).foldl (· + ·) 0

/-- The port's link is up. -/
def State.linkUp (s : State) (p : Nat) : Bool := s.rbit .SIG_PORT_STATUS 0 p

/-- A frame reaches queue q of port p (R324). -/
def State.enqueue (s : State) (p q : Nat) (bs : List Byte) : State :=
  let mine := s.txq.filter (fun f => f.port == p)
  let n := frameLen bs
  if s.linkUp p ∧ bytesHeld (mine.filter (fun f => f.queue == q)) + n ≤ 1024 * s.fld .SHP_QLIM 8 0 p q ∧
      bytesHeld mine + n ≤ 384 * 1024 then { s with txq := s.txq ++ [⟨p, q, bs⟩] }
  else s.satAdd .SHP_QDROP 1 0 p q

/-- The queue of a frame that a pipeline forwards (R323). -/
def State.queueOf (s : State) (p : Nat) (bs : List Byte) : Nat :=
  let w := s.reg .SHP_QMAP p
  if tagCount bs = 0 then bits w 26 24 else bits w (3 * tagPcp bs + 2) (3 * tagPcp bs)

/-- The frames of a port are discarded when its link goes down (R324). -/
def State.dropQueues (s : State) (p : Nat) : State :=
  let s' := forUpto 8 s (fun q s => s.satAdd .SHP_QDROP (s.txq.filter (fun f => f.port == p && f.queue == q)).length 0 p q)
  { s' with txq := s'.txq.filter (fun f => f.port != p) }

/-- The credit of a queue is shown; it reads 0 with SHAPE 0. -/
def State.setCredit (s : State) (p q : Nat) (c : Int) : State :=
  (s.setLat .shpC c p q).setReg .SHP_CREDIT (ux 32 c) p q

/-- A queue's shaper at a traffic tick (R325, R326). -/
def State.shaperTick (s : State) (p q : Nat) : State :=
  let new := s.reg .SHP_Q p q
  let old := s.nlat .shpQ p q
  let s := s.setLat .shpQ new p q
  if bit new 31 then
    let c := if bit old 31 then s.lat .shpC p q else 0
    let cap : Int := (bits new 30 20 * 128 * 64 : Nat)
    s.setCredit p q (min (min c cap + (bits new 19 0 : Nat)) cap)
  else s.setCredit p q 0

/-- A traffic tick (R316). -/
def State.trafficTick (s : State) : State :=
  let s := forUpto 256 s (fun m s => s.meterTick m)
  forUpto 8 s (fun p s => forUpto 8 s (fun q s => s.shaperTick p q))

/-- TRAFFIC_TICK (R316). -/
def execTrafficTick (s : State) : Host.Outcome State Fault Refusal := okIf true s.trafficTick

/-- SHAPER_UPDATE (R326): a write to SHP_Q[p][q], applied at the next tick. -/
def execShaperUpdate (port queue value : Nat) (s : State) : Host.Outcome State Fault Refusal :=
  okIf (decide (port < 8 ∧ queue < 8 ∧ value < 2 ^ 32)) (s.setReg .SHP_Q value port queue)

/-- A queue may start its head frame (R325). -/
def State.eligible (s : State) (p q : Nat) : Bool :=
  s.txq.any (fun f => f.port == p && f.queue == q) &&
    (!bit (s.nlat .shpQ p q) 31 || decide (0 ≤ s.lat .shpC p q))

/-- The eligible queue of highest number. -/
def State.nextQueue (s : State) (p : Nat) : Option Nat := ([7, 6, 5, 4, 3, 2, 1, 0] : List Nat).find? (s.eligible p)

/-- The frames without the oldest of a queue. -/
def dropFrame (p q : Nat) : List TxFrame → List TxFrame
  | [] => []
  | f :: r => if f.port = p ∧ f.queue = q then r else f :: dropFrame p q r

/-- A ones' complement sum folded to 16 bits. -/
def fold16 (x : Nat) : Nat := let y := x % 65536 + x / 65536; y % 65536 + y / 65536

/-- The UDP checksum after words change (incremental update, RFC 1624): `old` and `new` are the words
before and after. -/
def udpUpdate (ck : Nat) (old new : List Nat) : Nat :=
  let sum := (65535 - ck) + (old.map (fun w => 65535 - w)).foldl (· + ·) 0 + new.foldl (· + ·) 0
  let v := 65535 - fold16 (fold16 sum)
  if v = 0 then 65535 else v

/-- The 16-bit words of a list of bytes. -/
def words16 (bs : List Byte) : List Nat := (List.range (bs.length / 2)).map (fun k => be16 bs (2 * k))

/-- A one-step Sync is rewritten with t_ref (R274); `o` is the offset of the PTP message. -/
def oneStep (bs : List Byte) (o tref : Nat) : List Byte :=
  let t := NetTime.ofTotal tref
  let corr := ux 64 (sx 64 (beVal (slice bs (o + 8) 8)) + (t.frac / 2 ^ 16 : Nat))
  let new := overlay (overlay bs (o + 34) (beBytes 6 t.sec ++ beBytes 4 t.ns)) (o + 8) (beBytes 8 corr)
  if etherType bs = 0x88F7 then new
  else
    let ck := be16 bs (o - 2)
    if ck = 0 ∧ etherType bs = 0x0800 then new
    else
      overlay new (o - 2) (beBytes 2 (udpUpdate ck
        (words16 (slice bs (o + 8) 8) ++ words16 (slice bs (o + 34) 10))
        (words16 (slice new (o + 8) 8) ++ words16 (slice new (o + 34) 10))))

/-- A frame leaves its port, its delimiter stamped `mac` by the MAC (R273 to R275). -/
def State.transmit (s : State) (f : TxFrame) (mac : Nat) : State :=
  match ptpEvent f.bytes with
  | none => { s with sent := some f }
  | some o =>
    let tref := s.txRef f.port mac
    let mtype := beVal (slice f.bytes o 1) % 16
    if mtype = 0 ∧ s.rbit .PTP_ONESTEP f.port ∧ bit (beVal (slice f.bytes (o + 6) 1)) 1 = false then
      { s with sent := some { f with bytes := oneStep f.bytes o tref } }
    else { s with sent := some f }.txStamp f.port mtype (be16 f.bytes (o + 30)) tref

/-- The port's transmitter is free (R325). -/
def State.startFrame (s : State) (p mac : Nat) : State :=
  match s.nextQueue p with
  | none => s
  | some q =>
    match s.txq.find? (fun f => f.port == p && f.queue == q) with
    | none => s
    | some f =>
      let s := { s with txq := dropFrame p q s.txq }
      let s := if bit (s.nlat .shpQ p q) 31 then
          s.setCredit p q (s.lat .shpC p q - ((frameLen f.bytes + s.fld .SHP_PORT_CFG 4 0 p) * 64 : Nat))
        else s
      s.transmit f mac

/-- EGRESS_FRAME_START (R325): `stamp` is the MAC's stamp of the delimiter, in 2^-32 ns. -/
def execEgressFrameStart (port stamp : Nat) (s : State) : Host.Outcome State Fault Refusal :=
  okIf (decide (port < 8 ∧ stamp < 2 ^ 112)) (s.startFrame port (s.macStamp stamp))

/-! ### The move meter (R327 to R332) -/

/-- An input port's buckets at a move tick (R328, R332). -/
def State.movePortTick (s : State) (i : Nat) : State :=
  let k := s.fld .MOVE_PORT 3 0 i
  let capC := 2 ^ 16 * s.fld .MOVE_CBS 15 0 k
  let capP := 2 ^ 16 * s.fld .MOVE_PBS 15 0 k
  let changed := s.nlat .moveProf i != k
  let tc := if changed then min (s.reg .MOVE_TC i) capC else s.reg .MOVE_TC i
  let tp := if changed then min (s.reg .MOVE_TP i) capP else s.reg .MOVE_TP i
  let s := s.setLat .moveProf k i
  (s.setReg .MOVE_TC (min (tc + s.reg .MOVE_CIR k) capC) i).setReg .MOVE_TP (min (tp + s.reg .MOVE_PIR k) capP) i

/-- MOVE_TICK (R316). -/
def execMoveTick (s : State) : Host.Outcome State Fault Refusal :=
  okIf true (forUpto 1024 s (fun i s => s.movePortTick i))

/-- The colour of a move for its port's buckets (R328). -/
def moveColour (tc tp : Nat) : Colour := if tp < 2 ^ 16 then .red else if tc < 2 ^ 16 then .yellow else .green

/-- Code of a colour (R335). -/
def Colour.code : Colour → Nat
  | .green => 0
  | .yellow => 1
  | .red => 2

/-- The thermal throttle is in force. -/
def State.throttled (s : State) : Bool := s.thmLevel == 2

/-- A move of a colour is admitted; `wear` says that every cell has headroom (R329). -/
def State.moveAdmitted (s : State) (c : Colour) (wear : Bool) : Bool :=
  match c with
  | .green => true
  | .yellow => wear && !s.throttled
  | .red => false

/-- The counter of a move's outcome (R329, R335). -/
def State.moveCount (s : State) (c : Colour) (wear : Bool) : State :=
  match c with
  | .green => s.satAdd .MOVE_CNT_G
  | .red => s.satAdd .MOVE_CNT_R
  | .yellow => if !wear then s.satAdd .MOVE_CNT_WEAR else if s.throttled then s.satAdd .MOVE_CNT_THR else s.satAdd .MOVE_CNT_Y

/-- The buckets after an admitted move (R329). -/
def chargeMove (c : Colour) (tc tp : Nat) : Nat × Nat :=
  match c with
  | .green => (less tc (2 ^ 16), less tp (2 ^ 16))
  | .yellow => (tc, less tp (2 ^ 16))
  | .red => (tc, tp)

/-- MOVE_CMD (R331). -/
def State.moveCmd (s : State) (i : Nat) (wear charge : Bool) : State :=
  let c := moveColour (s.reg .MOVE_TC i) (s.reg .MOVE_TP i)
  let ok := s.moveAdmitted c wear
  let s := if charge then
      let s := s.moveCount c wear
      if ok then
        let b := chargeMove c (s.reg .MOVE_TC i) (s.reg .MOVE_TP i)
        (s.setReg .MOVE_TC b.1 i).setReg .MOVE_TP b.2 i
      else s
    else s
  (s.setReg .MOVE_RES (2 ^ 31 + 2 ^ 30 * b2n ok + c.code)).setRbit .MOVE_STATUS 1 true

/-- MOVE_CHARGE (R331). -/
def execMoveCharge (port : Nat) (wearok : Bool) (s : State) : Host.Outcome State Fault Refusal :=
  okIf (decide (port < 1024)) (s.moveCmd port wearok true)

/-- MOVE_PEEK (R331). -/
def execMovePeek (port : Nat) (wearok : Bool) (s : State) : Host.Outcome State Fault Refusal :=
  okIf (decide (port < 1024)) (s.moveCmd port wearok false)

/-- A write to MOVE_CMD, by its OP (R335). -/
def State.moveCmdWrite (s : State) (w : Nat) : State :=
  match bits w 31 28 with
  | 1 => s.moveCmd (bits w 9 0) (bit w 16) true
  | 2 => s.moveCmd (bits w 9 0) (bit w 16) false
  | _ => s.refuse .MOVE_CMD

/-- A write to MOVE_PORT[i] (R332). -/
def State.movePortWrite (s : State) (i w : Nat) : State :=
  let k := w % 16
  if s.reg .MOVE_PIR k < s.reg .MOVE_CIR k ∨ s.fld .MOVE_CBS 15 0 k = 0 ∨ s.fld .MOVE_PBS 15 0 k = 0 then
    s.refuse .MOVE_PORT 0 i
  else s.setReg .MOVE_PORT k i

/-- MOVE_PORT_WRITE (R332). -/
def execMovePortWrite (port value : Nat) (s : State) : Host.Outcome State Fault Refusal :=
  okIf (decide (port < 1024 ∧ value < 2 ^ 32)) (s.movePortWrite port value)

end Sys2Proof.Machine
end

