-- ==== Sys2Proof/Machine/Mac.lean ====
section
/-! DEFINITION. The MAC tables (R290 to R296), their commands (R297 to R299), and the longest-prefix
match memory (R301 to R303). -/
namespace Sys2Proof.Machine

/-! ### The table -/

/-- Place of a position of a pipeline in the store of entries. -/
def macKey (q pos : Nat) : Nat := 65536 * q + pos

/-- The entry at a position. -/
def State.macAt (s : State) (q pos : Nat) : Option MacEnt := spFind s.mac (macKey q pos)

/-- An entry put at a position. -/
def State.macPut (s : State) (q pos : Nat) (e : MacEnt) : State := { s with mac := spSet s.mac (macKey q pos) e }

/-- The entry at a position removed. -/
def State.macDel (s : State) (q pos : Nat) : State := { s with mac := s.mac.filter (fun x => x.1 != macKey q pos) }

/-- The entries of a pipeline, by position. -/
def State.macEntries (s : State) (q : Nat) : List (Nat × MacEnt) :=
  (s.mac.filter (fun x => x.1 / 65536 == q)).map (fun x => (x.1 % 65536, x.2))

/-- The key's candidate position in bank k (R290). -/
def State.macPos (s : State) (q k vid mac : Nat) : Nat :=
  let seed := s.fld .FWD_SEED 15 0 q
  let bytes := [BitVec.ofNat 8 (seed / 256), BitVec.ofNat 8 seed, BitVec.ofNat 8 k, BitVec.ofNat 8 (vid / 256 % 16),
    BitVec.ofNat 8 vid] ++ beBytes 6 mac
  16384 * k + crc32 bytes % 16384

/-- The position and entry that hold a key. -/
def State.macFind (s : State) (q vid mac : Nat) : Option (Nat × MacEnt) :=
  (List.range 4).findSome? (fun k =>
    let pos := s.macPos q k vid mac
    match s.macAt q pos with
    | some e => if e.vid = vid ∧ e.mac = mac then some (pos, e) else none
    | none => none)

/-- The lowest-numbered bank whose candidate slot is free. -/
def State.macFree (s : State) (q vid mac : Nat) : Option Nat :=
  ((List.range 4).map (fun k => s.macPos q k vid mac)).find? (fun pos => (s.macAt q pos).isNone)

/-- A BULK_LOAD with REPLACE is in progress on a pipeline (R298). -/
def State.replacing (s : State) (q : Nat) : Bool := s.lat .fwdOp q == 5 && bit (s.reg .FWD_ARG q 2) 24

/-! ### Learning (R291 to R296) -/

/-- A dynamic entry, newly learned. -/
def newEnt (vid mac port : Nat) : MacEnt := ⟨vid, mac, port, false, true, false, 0, 0, 0, 0⟩

/-- A hit on the entry at a position (R291). -/
def State.macHit (s : State) (q pos : Nat) (e : MacEnt) : State := s.macPut q pos { e with hit := true, hitAt := s.grain + 1 }

/-- An insertion that finds no free slot (R296). -/
def State.insertFail (s : State) (q : Nat) : State :=
  let s := s.satAdd .FWD_INSFAIL 1 0 q
  if s.rbit .FWD_STATUS 1 q then s
  else ((s.setRbit .FWD_STATUS 1 true q).send 0x110 0x36 (2 ^ 16 * q)).publish (0x219 + q)

/-- A move of a dynamic entry (R292, R294): the ninth within an open window locks the entry. -/
def State.macMove (s : State) (q pos : Nat) (e : MacEnt) (port : Nat) : State :=
  if e.win = 0 then
    (s.macPut q pos { e with port := port, win := s.grain + 1, moves := 1 }).satAdd .FWD_MOVES 1 0 q
  else if e.moves < 8 then (s.macPut q pos { e with port := port, moves := e.moves + 1 }).satAdd .FWD_MOVES 1 0 q
  else
    let s := s.macPut q pos { e with lock := true, lockAt := s.grain }
    ((s.satAdd .FWD_FLAPS 1 0 q).send 0x110 0x35 (2 ^ 16 * q + pos)).publish (0x217 + q)

/-- One queued request is applied (R291, R292). -/
def State.learnApply (s : State) (r : LearnReq) : State :=
  match s.macFind r.pipe r.vid r.mac with
  | some (pos, e) =>
    if e.port = r.port then s.macHit r.pipe pos e
    else if e.fixed || e.lock then s
    else s.macMove r.pipe pos e r.port
  | none =>
    match s.macFree r.pipe r.vid r.mac with
    | some pos => s.macPut r.pipe pos (newEnt r.vid r.mac r.port)
    | none => s.insertFail r.pipe

/-- The queue without the oldest request of a pipeline. -/
def dropLearn (q : Nat) : List LearnReq → List LearnReq
  | [] => []
  | r :: l => if r.pipe = q then l else r :: dropLearn q l

/-- LEARN_REQUEST_APPLY (R291). -/
def execLearnRequestApply (pipe : Nat) (s : State) : Host.Outcome State Fault Refusal :=
  okIf (decide (pipe < 2)) <|
    match s.learnQ.find? (fun r => r.pipe == pipe) with
    | none => s
    | some r => if s.replacing pipe then s else { s with learnQ := dropLearn pipe s.learnQ }.learnApply r

/-- The source lookup of a frame (R291 to R293). -/
def State.learn (s : State) (q vid mac port : Nat) : State :=
  if s.replacing q then s
  else
    let ask := fun (s : State) =>
      if (s.learnQ.filter (fun r => r.pipe == q)).length < 64 then { s with learnQ := s.learnQ ++ [⟨q, vid, mac, port⟩] }
      else s.satAdd .FWD_LEARN_DROP 1 0 q
    match s.macFind q vid mac with
    | some (pos, e) =>
      if e.port = port then s.macHit q pos e
      else if e.fixed || e.lock then s
      else ask s
    | none => ask s

/-- A move window closes 1,000 ms after it opened (R294). -/
def State.windowClose (s : State) (q pos : Nat) : State :=
  match s.macAt q pos with
  | some e =>
    if e.win ≠ 0 ∧ e.lock = false ∧ e.win + 1000000000 ≤ s.grain + 1 then s.macPut q pos { e with win := 0, moves := 0 } else s
  | none => s

/-- FLAP_WINDOW_CLOSE (R294). -/
def execFlapWindowClose (pipe pos : Nat) (s : State) : Host.Outcome State Fault Refusal :=
  okIf (decide (pipe < 2 ∧ pos < 65536)) (s.windowClose pipe pos)

/-- The hold-down of a locked entry ends (R294). -/
def State.flapExpire (s : State) (q pos : Nat) : State :=
  match s.macAt q pos with
  | some e =>
    if e.lock ∧ e.lockAt + 1000000000 * s.fld .FWD_FLAP 11 0 q ≤ s.grain then
      s.macPut q pos { e with lock := false, win := 0, moves := 0 }
    else s
  | none => s

/-- FLAP_HOLD_EXPIRY (R294). -/
def execFlapHoldExpiry (pipe pos : Nat) (s : State) : Host.Outcome State Fault Refusal :=
  okIf (decide (pipe < 2 ∧ pos < 65536)) (s.flapExpire pipe pos)

/-- The sweeper visits a slot (R295). A hit of the same cycle wins; the model's cycle is the grain, and of a hit and a
visit of one cycle the hit comes first in the queue: DESIGN CHOICE (log entry 71). -/
def State.ageSweep (s : State) (q pos : Nat) : State :=
  if s.fld .FWD_AGE 19 0 q = 0 ∨ s.replacing q then s
  else
    match s.macAt q pos with
    | some e =>
      if e.fixed ∨ e.hit = true ∧ e.hitAt = s.grain + 1 then s
      else if e.hit then s.macPut q pos { e with hit := false }
      else s.macDel q pos
    | none => s

/-- AGE_SWEEP (R295). -/
def execAgeSweep (pipe pos : Nat) (s : State) : Host.Outcome State Fault Refusal :=
  okIf (decide (pipe < 2 ∧ pos < 65536)) (s.ageSweep pipe pos)

/-! ### Table commands (R297 to R299) -/

/-- A command starts on a pipeline; refused while one runs. A BULK_LOAD with REPLACE empties the table
and loads SEED first (R297). -/
def State.fwdStart (s : State) (q op : Nat) : State :=
  if s.rbit .FWD_STATUS 31 q then s.refuse .FWD_CMD 0 q
  else
    let s := ((s.setRbit .FWD_STATUS 31 true q).setRbit .FWD_STATUS 30 false q).setLat .fwdOp (op + 1) q
    let s := ((((s.setLat .bulkN 0 q).setLat .bulkOk 0 q).setLat .bulkBad 0 q).setLat .bulkFirst 0 q).setLat .bulkErr 0 q
    let a := s.reg .FWD_ARG q 2
    let n := bits a 16 0
    if op = 4 ∧ bit a 24 = true ∧ 1 ≤ n ∧ n ≤ 65536 then
      { s with mac := s.mac.filter (fun x => x.1 / 65536 != q) }.setReg .FWD_SEED (s.reg .FWD_ARG q 3 % 2 ^ 16) q
    else s

/-- An entry in the layout of RES0..RES3 (R299). -/
def entWords (pos : Nat) (e : MacEnt) : List Nat :=
  [e.mac % 2 ^ 32, 2 ^ 16 * e.vid + e.mac / 2 ^ 32, 2 ^ 8 * b2n e.fixed + e.port,
    2 ^ 31 * b2n e.hit + 2 ^ 30 * b2n e.lock + pos]

/-- Results are written. -/
def State.fwdRes (s : State) (q : Nat) (ws : List Nat) : State := forUpto ws.length s (fun k s => s.setReg .FWD_RES (ws.getD k 0) q k)

/-- One record of a BULK_LOAD (R299): whether it applied. -/
def State.bulkRecord (s : State) (q : Nat) (r : List Byte) : Bool × State :=
  let w1 := leVal (slice r 4 4)
  let w2 := leVal (slice r 8 4)
  let mac := 2 ^ 32 * (w1 % 2 ^ 16) + leVal (slice r 0 4)
  let vid := bits w1 27 16
  let port := bits w2 2 0
  if 6 ≤ port ∨ isGroup mac then (false, s)
  else if bit w2 9 then
    match s.macFind q vid mac with
    | some (pos, _) => (true, s.macDel q pos)
    | none => (true, s)
  else
    match s.macFind q vid mac with
    | some (pos, e) => (true, s.macPut q pos { e with port := port, fixed := bit w2 8 })
    | none =>
      match s.macFree q vid mac with
      | some pos =>
        let (h, s) := s.draw 1
        (true, s.macPut q pos { newEnt vid mac port with fixed := bit w2 8, hit := h == 1 })
      | none => (false, s)

/-- The records of a BULK_LOAD in order: applied, failed, index of the first failure, whether a DRAM
read failed. -/
def State.bulkRun (s : State) (q base : Nat) : Nat → Nat → Nat → Nat → Option Nat → Nat × Nat × Option Nat × Bool × State
  | 0, _, ok, bad, first => (ok, bad, first, false, s)
  | n + 1, k, ok, bad, first =>
    match s.dramOff (base + 16 * k), s.dramOff (base + 16 * k + 15) with
    | some o, some _ =>
      match s.dramBad o 16 with
      | some w => (ok, bad, first, true, s.dramError (32 * w))
      | none =>
        let (r, s) := (s.dramMeet o 16).bulkRecord q ((s.dramMeet o 16).dramBytes o 16)
        if r then s.bulkRun q base n (k + 1) (ok + 1) bad first
        else s.bulkRun q base n (k + 1) ok (bad + 1) (first.orElse (fun _ => some k))
    | _, _ => (ok, bad, first, true, s)

/-- A BULK_LOAD deals with up to `n` further records (R298). -/
def State.bulkStep (s : State) (q n : Nat) : State :=
  if s.flag .bulkErr q then s
  else
    let base := 2 ^ 32 * s.fld .FWD_ARG 7 0 q 1 + s.reg .FWD_ARG q 0 / 16 * 16
    let k := s.nlat .bulkN q
    let m := min n (less (s.fld .FWD_ARG 16 0 q 2) k)
    let f := s.nlat .bulkFirst q
    let r := s.bulkRun q base m k (s.nlat .bulkOk q) (s.nlat .bulkBad q) (if f = 0 then none else some (f - 1))
    let s := ((r.2.2.2.2.setLat .bulkN (k + m : Nat) q).setLat .bulkOk r.1 q).setLat .bulkBad r.2.1 q
    (s.setLat .bulkFirst (match r.2.2.1 with
      | some x => x + 1
      | none => 0) q).setFlag .bulkErr r.2.2.2.1 q

/-- While a BULK_LOAD runs, how many of its records have been applied when a frame is looked up is left to the
hardware; a destination loaded is found from then on (R298). -/
def State.bulkAdvance (s : State) (q : Nat) : State :=
  let n := s.fld .FWD_ARG 16 0 q 2
  if s.lat .fwdOp q = 5 ∧ 1 ≤ n ∧ n ≤ 65536 then
    let d := s.draw 17
    d.2.bulkStep q d.1
  else s

/-- A table command carried out: its ERR code (R297). -/
def State.fwdRun (s : State) (q op : Nat) : Nat × State :=
  let a0 := s.reg .FWD_ARG q 0
  let a1 := s.reg .FWD_ARG q 1
  let a2 := s.reg .FWD_ARG q 2
  match op with
  | 1 =>
    match s.macFind q (bits a1 27 16) (2 ^ 32 * (a1 % 2 ^ 16) + a0) with
    | some (pos, e) => (0, s.fwdRes q (entWords pos e))
    | none => (1, s)
  | 2 =>
    match (s.macEntries q).find? (fun x => decide (a2 % 2 ^ 16 ≤ x.1)) with
    | some (pos, e) => (0, s.fwdRes q (entWords pos e))
    | none => (2, s)
  | 3 =>
    let p := bits a2 2 0
    if 6 ≤ p then (4, s)
    else
      let hit := fun x : Nat × MacEnt => x.1 / 65536 == q && x.2.port == p && (bit a2 8 || !x.2.fixed)
      (0, { s with mac := s.mac.filter (fun x => !hit x) }.fwdRes q [(s.mac.filter hit).length])
  | 4 =>
    let n := bits a2 16 0
    if n = 0 ∨ 65536 < n then (4, s)
    else
      let s := s.bulkStep q n
      let bad := s.nlat .bulkBad q
      (if s.flag .bulkErr q then 6 else if bad = 0 then 0 else 3,
        s.fwdRes q [s.nlat .bulkOk q, bad, s.nlat .bulkFirst q - 1])
  | _ => (4, s)

/-- A table command completes. -/
def State.fwdDone (s : State) (q : Nat) : State :=
  if s.lat .fwdOp q = 0 then s
  else
    let (err, s) := s.fwdRun q (s.nlat .fwdOp q - 1)
    let s := (s.setLat .fwdOp 0 q).setRbit .FWD_STATUS 31 false q
    (s.setRbit .FWD_STATUS 30 true q).setFld .FWD_STATUS 15 8 err q

/-- FWD_SEARCH (R297). -/
def execFwdSearch (pipe : Nat) (s : State) : Host.Outcome State Fault Refusal := okIf (decide (pipe < 2)) (s.fwdStart pipe 1)

/-- FWD_NEXT (R298). -/
def execFwdNext (pipe : Nat) (s : State) : Host.Outcome State Fault Refusal := okIf (decide (pipe < 2)) (s.fwdStart pipe 2)

/-- FWD_FLUSH_PORT (R297). -/
def execFwdFlushPort (pipe : Nat) (s : State) : Host.Outcome State Fault Refusal := okIf (decide (pipe < 2)) (s.fwdStart pipe 3)

/-- FWD_BULK_LOAD (R299). -/
def execFwdBulkLoad (pipe : Nat) (s : State) : Host.Outcome State Fault Refusal := okIf (decide (pipe < 2)) (s.fwdStart pipe 4)

/-- FWD_CMD_DONE (R297). -/
def execFwdCmdDone (pipe : Nat) (s : State) : Host.Outcome State Fault Refusal := okIf (decide (pipe < 2)) (s.fwdDone pipe)

/-! ### Endpoint prefixes (R301 to R303) -/

/-- LPM_KEY as a number of 144 bits. -/
def State.lpmKey (s : State) : Nat :=
  2 ^ 128 * (s.reg .LPM_KEY 4 % 2 ^ 16) + 2 ^ 96 * s.reg .LPM_KEY 3 + 2 ^ 64 * s.reg .LPM_KEY 2 + 2 ^ 32 * s.reg .LPM_KEY 1 +
    s.reg .LPM_KEY 0

/-- The entry matches a key: its first LEN bits are the same. -/
def LpmEnt.matches (e : LpmEnt) (key : Nat) : Bool := key / 2 ^ (144 - e.len) == e.key / 2 ^ (144 - e.len)

/-- A lookup: the longest match, when its group is valid (R301, R303). -/
def State.lpmLookup (s : State) (key : Nat) : Option LpmEnt :=
  match s.lpm.find? (fun e => e.matches key) with
  | some e => if s.rbit .LPM_GROUP 31 e.group then some e else none
  | none => none

/-- An entry placed, longest first. -/
def lpmInsert (e : LpmEnt) : List LpmEnt → List LpmEnt
  | [] => [e]
  | x :: r => if x.len < e.len then e :: x :: r else x :: lpmInsert e r

/-- An LPM command carried out: its ERR code. -/
def State.lpmRun (s : State) (op : Nat) : Nat × State :=
  let key := s.lpmKey
  let len := s.fld .LPM_LEN 7 0
  let same := fun e : LpmEnt => e.key == key && e.len == len
  if op = 3 then
    match s.lpmLookup key with
    | some e => (0, s.setReg .LPM_RES (2 ^ 31 + 2 ^ 16 * e.len + e.group))
    | none => (3, s.setReg .LPM_RES 0)
  else if 144 < len ∨ key % 2 ^ (144 - len) ≠ 0 then (1, s)
  else if op = 1 then
    let e : LpmEnt := ⟨key, len, s.fld .LPM_DATA 9 0⟩
    if s.lpm.any same then (0, { s with lpm := s.lpm.map (fun x => if same x then e else x) })
    else if 4096 ≤ s.lpm.length then (2, s)
    else (0, { s with lpm := lpmInsert e s.lpm })
  else if s.lpm.any same then (0, { s with lpm := s.lpm.filter (fun x => !same x) })
  else (3, s)

/-- An LPM command starts; refused while one runs. -/
def State.lpmStart (s : State) (op : Nat) : State :=
  if s.rbit .LPM_STATUS 31 then s.refuse .LPM_CMD
  else ((s.setRbit .LPM_STATUS 31 true).setRbit .LPM_STATUS 30 false).setLat .lpmOp op

/-- An LPM command completes. -/
def State.lpmDone (s : State) : State :=
  if s.lat .lpmOp = 0 then s
  else
    let (err, s) := s.lpmRun (s.nlat .lpmOp)
    let s := (s.setLat .lpmOp 0).setRbit .LPM_STATUS 31 false
    (s.setRbit .LPM_STATUS 30 true).setFld .LPM_STATUS 7 0 err

/-- LPM_INSERT (R301). -/
def execLpmInsert (s : State) : Host.Outcome State Fault Refusal := okIf true (s.lpmStart 1)

/-- LPM_DELETE (R301). -/
def execLpmDelete (s : State) : Host.Outcome State Fault Refusal := okIf true (s.lpmStart 2)

/-- LPM_LOOKUP (R301). -/
def execLpmLookup (s : State) : Host.Outcome State Fault Refusal := okIf true (s.lpmStart 3)

/-- LPM_CMD_DONE (R301). -/
def execLpmCmdDone (s : State) : Host.Outcome State Fault Refusal := okIf true s.lpmDone

/-- A write to LPM_GROUP[g] (R303). -/
def State.lpmGroupWrite (s : State) (g w : Nat) : State :=
  if s.ports < bits w 9 0 + bits w 25 16 + 1 then s.refuse .LPM_GROUP 0 g else s.setReg .LPM_GROUP (w &&& 0x83FF03FF) g

end Sys2Proof.Machine
end

