-- ==== Sys2Proof/Machine/Signal.lean ====
section
/-! DEFINITION. Signalling ports (R284, R285), port M (R286), the pipelines (R287 to R289), and the
frames of circuit requests (R304, R305). -/
namespace Sys2Proof.Machine

/-! ### Links (R285, R272) -/

/-- A port's LINK changes: SIG_LINK and the link event; the corrections in force follow, and queued
frames are discarded when it goes down (R285, R272, R324). `var` is the alignment offset of R271. -/
def State.linkSet (s : State) (p : Nat) (up : Bool) (var : Nat) : State :=
  if s.linkUp p = up then s
  else
    let kr := !s.rbit .SIG_PORT_CFG 28 p
    let an := kr && s.rbit .SIG_PORT_CFG 27 p
    let s := if up then s else s.dropQueues p
    let s := s.setReg .SIG_PORT_STATUS (if up then b2n an * 4 + 3 else 0) p
    let s := s.setReg .PTP_PORT_TXC (if up then (if kr then 38400 else 36200) else 0) p
    let s := s.setReg .PTP_PORT_RXC (if up then (if kr then 118200 else 114600) else 0) p
    let s := if up then s.setReg .PTP_PORT_VAR var p else s
    (s.send 0x10F 0x34 (2 ^ 8 * b2n up + p)).publish (0x20F + p)

/-- Ports may be up: not in BOOT or SABLE (R21). -/
def State.portsAllowed (s : State) : Bool := s.mode != .boot && s.mode != .sable

/-- PORT_LINK_CHANGE (R285): a port comes up only while it is enabled and ports are not held down. -/
def execPortLinkChange (port : Nat) (up : Bool) (var : Nat) (s : State) : Host.Outcome State Fault Refusal :=
  okIf (decide (port < 8 ∧ var ≤ 10240)) <|
    if !up || (s.rbit .SIG_PORT_CFG 31 port && s.portsAllowed) then s.linkSet port up var else s

/-- Every port goes down (R21). -/
def State.portsDown (s : State) : State := forUpto 8 s (fun p s => s.linkSet p false 0)

/-- A write to SIG_PORT_CFG[p] (R285, R313): while EN is 1, a write that would change MODE, AN or MTU
is refused, and so is an MTU outside 64..9,216; a port disabled goes down. -/
def State.portCfgWrite (s : State) (p w : Nat) : State :=
  let w := w &&& 0xFBFFFFFF
  let old := s.reg .SIG_PORT_CFG p
  let locked := bit old 31 && (bits w 28 27 != bits old 28 27 || bits w 13 0 != bits old 13 0)
  if locked ∨ bits w 13 0 < 64 ∨ 9216 < bits w 13 0 then s.refuse .SIG_PORT_CFG 0 p
  else
    let s := s.setReg .SIG_PORT_CFG w p
    if bit w 31 then s else s.linkSet p false 0

/-! ### Port M (R286) -/

/-- Elements of a ring. -/
def ringElems (ctrl : Nat) : Nat := 2 ^ bits ctrl 2 0

/-- Address of an element of a ring. -/
def ringElem (hi lo n : Nat) : Nat := 2 ^ 32 * hi + lo + 10240 * n

/-- An element is written to the receive ring, or the frame is dropped: `list` is RTE_LIST as it is
appended to a BLOCKED copy (R286, R307). WP advances only when the element has been written whole. -/
def State.toM (s : State) (q port reason : Nat) (stamp : Option Nat) (members : Nat) (bs list : List Byte) : State :=
  let c := s.reg .SIG_M_RX_CTRL
  if bit c 31 then
    let wp := s.reg .SIG_M_RX_WP % ringElems c
    let next := (wp + 1) % ringElems c
    if next = s.reg .SIG_M_RX_RP % ringElems c then s.satAdd .SIG_M_DROP
    else
      let t := NetTime.ofTotal (stamp.getD 0)
      let w0 := bs.length + 2 ^ 16 * port + 2 ^ 20 * reason + 2 ^ 24 * b2n stamp.isSome + 2 ^ 25 * q
      let d := leBytes 4 w0 ++ leBytes 4 t.frac ++ leBytes 4 t.ns ++ leBytes 4 t.sec ++ leBytes 4 (t.sec / 2 ^ 32) ++
        leBytes 4 members ++ leBytes 8 0
      let (r, s) := s.memPut .core (ringElem (s.reg .SIG_M_RX_BASE_HI) (s.reg .SIG_M_RX_BASE_LO) wp) (d ++ bs ++ list)
      if r then s.setReg .SIG_M_RX_WP next else s
  else s

/-! ### Requests (R304, R305) -/

/-- Offset of the payload of a circuit request. -/
def reqOff (bs : List Byte) : Nat := payOff bs

/-- OP of a request. -/
def reqOp (bs : List Byte) : Nat := beVal (slice bs (reqOff bs + 1) 1)

/-- N of a request. -/
def reqN (bs : List Byte) : Nat := be16 bs (reqOff bs + 2)

/-- The request is well formed (R304). -/
def reqOk (bs : List Byte) : Bool :=
  let o := reqOff bs
  decide (o + 12 ≤ bs.length) && beVal (slice bs o 1) == 1 && decide (1 ≤ reqOp bs ∧ reqOp bs ≤ 3) &&
    decide (1 ≤ reqN bs ∧ reqN bs ≤ 8) && decide (o + 12 + 40 * reqN bs ≤ bs.length)

/-- A reply from SIG_SELF to a request's source, with its tags (R304). -/
def State.replyFrame (s : State) (r : CircReq) (op status : Nat) (body : List Byte) : List Byte :=
  let o := reqOff r.bytes
  let head := slice r.bytes 6 6 ++ beBytes 6 s.selfMac ++ slice r.bytes 12 (4 * tagCount r.bytes) ++ beBytes 2 0x88B5
  let pay := [1#8, BitVec.ofNat 8 op] ++ beBytes 2 (reqN r.bytes) ++ slice r.bytes (o + 4) 4 ++
    beBytes 2 (be16 r.bytes (o + 8) % 2) ++ beBytes 2 status ++ body
  let f := head ++ pay
  f ++ List.replicate (60 - f.length) 0#8

/-- A reply is sent out of the ingress port, through queue 7 (R304, R323). -/
def State.reply (s : State) (r : CircReq) (op status : Nat) (body : List Byte) : State :=
  s.enqueue r.port 7 (s.replyFrame r op status body)

/-- REFUSE with a status, and the record that failed (R304, R311). -/
def State.refuseReq (s : State) (r : CircReq) (status ix : Nat) : State :=
  (s.reply r 0x82 status (beBytes 2 ix)).satAdd .SIG_REQ_REFUSALS

/-- The engine leaves requests to firmware (R306). -/
def State.reqToFirmware (s : State) : Bool := !s.rbit .SIG_REQ_CTRL 31 || s.rbit .SIG_REQ_CTRL 0

/-- A request passed to M as REASON 0x3. -/
def State.reqPass (s : State) (r : CircReq) : State := s.toM (r.port / 4) r.port 3 none 0 r.bytes []

/-- A request reaches the engine from port p (R304, R305). -/
def State.reqArrive (s : State) (p : Nat) (bs : List Byte) : State :=
  let r : CircReq := ⟨p, bs⟩
  if !s.rbit .SIG_PORT_CFG 29 p then s.satAdd .SIG_PORT_RX_DROP 1 0 p
  else if reqOk bs = false ∧ s.reqToFirmware = false then s.refuseReq r 9 0
  else if 64 ≤ s.reqQ.length then (s.setRbit .SIG_REQ_STATUS 1 true).refuseReq r 8 0
  else { s with reqQ := s.reqQ ++ [r] }

/-! ### Pipelines (R287 to R289) -/

/-- A frame inside a pipeline: the port code by which it entered (4 M, 5 X), and the port S0..S7 at
which it was received, when it was. -/
structure Ingress where
  code : Nat
  orig : Option Nat
deriving DecidableEq, Repr

/-- VID of a frame: of the outer tag, or PVID of its port; 0 for an untagged frame from M. -/
def State.frameVid (s : State) (g : Ingress) (bs : List Byte) : Nat :=
  if tagCount bs = 0 then (match g.orig with
    | some p => s.fld .SIG_PORT_CFG 25 14 p
    | none => 0)
  else be16 bs 14 % 2 ^ 12

/-- The port code of M in a receive descriptor: the ingress port, a free value for a frame that came
from M (R286 gives none). -/
def State.ingressCode (s : State) (g : Ingress) : Nat × State :=
  match g.orig with
  | some p => (p, s)
  | none => s.draw 3

/-- A frame goes to M for a reason. -/
def State.sendM (s : State) (q reason : Nat) (g : Ingress) (stamp : Option Nat) (bs : List Byte) : State :=
  let (p, s) := s.ingressCode g
  s.toM q p reason stamp 0 bs []

/-- A local port of a pipeline takes a forwarded frame when its FWD is 1 (R288). -/
def State.forwardTo (s : State) (q code : Nat) (bs : List Byte) : State :=
  let p := 4 * q + code
  if s.rbit .SIG_PORT_CFG 30 p then s.enqueue p (s.queueOf p bs) bs else s

/-- A flood over the local ports of a pipeline (R288). -/
def State.floodLocal (s : State) (q : Nat) (g : Ingress) (bs : List Byte) : State :=
  forUpto 4 s (fun c s => if c = g.code then s else s.forwardTo q c bs)

/-- A broadcast or multicast copy to M (R288). -/
def State.floodM (s : State) (q : Nat) (g : Ingress) (bs : List Byte) : State :=
  if isGroup (dstMac bs) && s.rbit .FWD_CTRL 0 q && g.code != 4 then s.sendM q 4 g none bs else s

/-- A frame that reaches M through a static entry: no REASON is given for it (R286). -/
def State.entryM (s : State) (q : Nat) (g : Ingress) (bs : List Byte) : State :=
  let (r, s) := s.draw 4
  s.sendM q r g none bs

/-- Learning and the destination decision in a pipeline for a frame from X (R287, R288); it never
returns to X. -/
def State.pipeX (s : State) (q : Nat) (orig : Option Nat) (bs : List Byte) : State :=
  let g : Ingress := ⟨5, orig⟩
  let vid := s.frameVid g bs
  let s := (s.bulkAdvance q).learn q vid (srcMac bs) 5
  if isGroup (dstMac bs) then (s.floodLocal q g bs).floodM q g bs
  else
    match s.macFind q vid (dstMac bs) with
    | some (_, e) => if e.port = 5 then s else if e.port = 4 then s.entryM q g bs else s.forwardTo q e.port bs
    | none => s.floodLocal q g bs

/-- Learning and the destination decision for a frame from a local port or from M (R288, R291). -/
def State.pipeIn (s : State) (q : Nat) (g : Ingress) (bs : List Byte) : State :=
  let vid := s.frameVid g bs
  let s := s.bulkAdvance q
  let s := if g.code < 4 then s.learn q vid (srcMac bs) g.code else s
  if isGroup (dstMac bs) then ((s.floodLocal q g bs).floodM q g bs).pipeX (1 - q) g.orig bs
  else
    match s.macFind q vid (dstMac bs) with
    | some (_, e) =>
      if e.port = g.code then s
      else if e.port = 5 then s.pipeX (1 - q) g.orig bs
      else if e.port = 4 then s.entryM q g bs
      else s.forwardTo q e.port bs
    | none => (s.floodLocal q g bs).pipeX (1 - q) g.orig bs

/-- A drop under R284 or R289 is counted at the port. -/
def State.rxDrop (s : State) (g : Ingress) : State :=
  match g.orig with
  | some p => s.satAdd .SIG_PORT_RX_DROP 1 0 p
  | none => s

/-- The trap rules (R289) and what follows them; `stamp` is the receive stamp's t_ref. -/
def State.trap (s : State) (q : Nat) (g : Ingress) (stamp : Nat) (bs : List Byte) : State :=
  let dst := dstMac bs
  if isPtp bs then s.sendM q 1 g (if (ptpEvent bs).isSome && g.orig.isSome then some stamp else none) bs
  else if dst = s.selfMac then
    if etherType bs = 0x88B5 then (match g.orig with
      | some p => s.reqArrive p bs
      | none => s)
    else s.sendM q 2 g none bs
  else if 0x0180C2000000 ≤ dst ∧ dst ≤ 0x0180C200000F then s.rxDrop g
  else if isGroup (srcMac bs) then s.rxDrop g
  else if (match g.orig with
    | some p => s.rbit .SIG_PORT_CFG 30 p
    | none => true) then s.pipeIn q g bs
  else s

/-- A frame received at a port with a good FCS (R284, R288). -/
def State.receive (s : State) (p stamp : Nat) (bs : List Byte) : State :=
  if !s.linkUp p then s
  else
    let g : Ingress := ⟨p % 4, some p⟩
    if frameLen bs < 64 ∨ s.fld .SIG_PORT_CFG 13 0 p < frameLen bs ∨ etherType bs = 0x8808 then s.rxDrop g
    else
      let (r, s) := s.police p bs
      match r with
      | none => s
      | some bs => s.trap (p / 4) g (s.rxRef p stamp) bs

/-- FEC codewords of a port, corrected and uncorrectable, are counted (R313). -/
def State.fecCount (s : State) (port cw unc : Nat) : State :=
  if s.linkUp port then (s.satAdd .SIG_PORT_FEC_CW cw 0 port).satAdd .SIG_PORT_FEC_UNC unc 0 port else s

/-- A frame received with a wrong FCS (R284) goes no further. DEDUCED (log entry 71): it counts as dropped (R313). -/
def State.badFcs (s : State) (p : Nat) : State := if s.linkUp p then s.satAdd .SIG_PORT_RX_DROP 1 0 p else s

/-- FRAME_RECEIVE (R288): the frame, the MAC's stamp in 2^-32 ns, and the codewords that the port has corrected (`cw`)
and found uncorrectable (`unc`) since the frame before. -/
def execFrameReceive (port : Nat) (frame : RxFrame) (stamp cw unc : Nat) (s : State) :
    Host.Outcome State Fault Refusal :=
  okIf (decide (port < 8 ∧ 14 ≤ frame.bytes.length ∧ frame.bytes.length ≤ 16384 ∧ stamp < 2 ^ 112)) <|
    let s := s.fecCount port cw unc
    if frame.good then s.receive port (s.macStampPast stamp) frame.bytes else s.badFcs port

/-! ### The transmit ring (R286) -/

/-- An element of the transmit ring is sent. -/
def State.sendElem (s : State) (n : Nat) : State :=
  let a := ringElem (s.reg .SIG_M_TX_BASE_HI) (s.reg .SIG_M_TX_BASE_LO) n
  let (d, s) := s.memGet .core a 4
  match d with
  | .ok w =>
    let w0 := leVal w
    let (b, s) := s.memGet .core (a + 32) (max 1 (bits w0 13 0))
    match b with
    | .ok bs =>
      let bs := bs.take (bits w0 13 0)
      if bit w0 24 then s.trap (b2n (bit w0 25)) ⟨4, none⟩ 0 bs
      else forUpto 8 s (fun p s => if bit w0 (14 + p) then s.enqueue p 7 bs else s)
    | _ => s
  | _ => s

/-- Elements from RP up to WP are sent, oldest first. -/
def State.drainTx : Nat → State → State
  | 0, s => s
  | fuel + 1, s =>
    let c := s.reg .SIG_M_TX_CTRL
    let rp := s.reg .SIG_M_TX_RP % ringElems c
    if bit c 31 ∧ rp ≠ s.reg .SIG_M_TX_WP % ringElems c then
      State.drainTx fuel ((s.sendElem rp).setReg .SIG_M_TX_RP ((rp + 1) % ringElems c))
    else s

/-- A write of SIG_M_TX_WP. -/
def State.txWpWrite (s : State) (w : Nat) : State := State.drainTx 64 (s.setReg .SIG_M_TX_WP (w % 64))

/-- A write of SIG_M_TX_CTRL or SIG_M_RX_CTRL: LOG2N is written only while EN is 0, and one outside 1..6 is refused
(R313; log entry 17). -/
def State.ringCtrlWrite (s : State) (r : Reg) (w : Nat) : State :=
  let old := s.reg r
  if (bit old 31 ∧ bits w 2 0 ≠ bits old 2 0) ∨ bits w 2 0 = 0 ∨ bits w 2 0 = 7 then s.refuse r
  else State.drainTx 64 (s.setReg r (2 ^ 31 * b2n (bit w 31) + bits w 2 0))

/-- PORT_M_TX_SUBMIT (R286): firmware advances SIG_M_TX_WP. -/
def execPortMTxSubmit (wp : Nat) (s : State) : Host.Outcome State Fault Refusal := okIf (decide (wp < 64)) (s.txWpWrite wp)

end Sys2Proof.Machine
end

