-- ==== Sys2Proof/Machine/Request.lean ====
section
/-! DEFINITION. The circuit-request engine (R305 to R312). A request is served in one event up to its
CFG_COMMIT; the engine then waits for the commit, or for a moment to write it again. -/
namespace Sys2Proof.Machine

/-! ### The request's records (R304) -/

/-- Offset of record k. -/
def recOff (bs : List Byte) (k : Nat) : Nat := reqOff bs + 12 + 40 * k

/-- SRC key of a record. -/
def recSrc (bs : List Byte) (k : Nat) : Nat := beVal (slice bs (recOff bs k) 18)

/-- DST key of a record. -/
def recDst (bs : List Byte) (k : Nat) : Nat := beVal (slice bs (recOff bs k + 18) 18)

/-- IN of a record. -/
def recIn (bs : List Byte) (k : Nat) : Nat := be16 bs (recOff bs k + 36)

/-- OUT of a record. -/
def recOut (bs : List Byte) (k : Nat) : Nat := be16 bs (recOff bs k + 38)

/-- FLAGS.GUARD of a request. -/
def reqGuard (bs : List Byte) : Bool := bit (be16 bs (reqOff bs + 8)) 0

/-! ### The configuration in force (R236) -/

/-- The configuration in force, when there is one. -/
def State.inForceCfg (s : State) : Option (Bool × Nat) :=
  let w := s.reg .CFG_INFORCE
  if bit w 31 then none else some (bit w 16, bits w 15 0)

/-- The engine's target: bank B when bank A is in force, and bank A otherwise (R307). -/
def State.engTarget (s : State) : Nat :=
  let a := s.fld .SIG_REQ_BANK 8 0
  if s.inForceCfg = some (false, a) then s.fld .SIG_REQ_BANK 24 16 else a

/-- The engine runs a solver command with arguments of its own: the code, and the state with the
argument registers as they were (R257, R307). -/
def State.engSolve (s : State) (op : Nat) (src tgt : Bool × Nat) (arg2 : Nat) : Nat × State :=
  let a0 := s.reg .RTE_ARG0
  let a1 := s.reg .RTE_ARG1
  let a2 := s.reg .RTE_ARG2
  let word := fun c : Bool × Nat => 2 ^ 31 * b2n c.1 + c.2
  let back := fun s : State => ((s.setReg .RTE_ARG0 a0).setReg .RTE_ARG1 a1).setReg .RTE_ARG2 a2
  if s.rbit .RTE_STATUS 31 then (6, s)
  else
    let s := ((s.setReg .RTE_ARG0 (word src)).setReg .RTE_ARG1 (word tgt)).setReg .RTE_ARG2 arg2
    let pre := s.rtePre op
    if pre ≠ 0 then (pre, back s)
    else
      let (ok, s) := s.checkCfg src
      if ok then
        let (c, s) := s.rteRun op
        (c, back s)
      else (7, back s)

/-! ### Steps 1 to 3 of a SETUP (R307, R308) -/

/-- A group's ports, from its first (R303). -/
def State.groupPorts (s : State) (g : Nat) : List Nat :=
  let w := s.reg .LPM_GROUP g
  (List.range (bits w 25 16 + 1)).map (fun k => bits w 9 0 + k)

/-- The port that a record takes of a group, given those that are not free (R308). -/
def choosePort (ports taken : List Nat) (asked : Nat) : Option Nat :=
  if asked = 0xFFFF then ports.find? (fun p => !taken.contains p)
  else if ports.contains asked && !taken.contains asked then some asked else none

/-- Lookups of every record (R307 step 1): the groups, or the index that failed. -/
def State.lookups (s : State) (bs : List Byte) : Nat → Nat → List (Nat × Nat) → List (Nat × Nat) ⊕ Nat
  | 0, _, acc => .inl acc.reverse
  | n + 1, k, acc =>
    match s.lpmLookup (recSrc bs k), s.lpmLookup (recDst bs k) with
    | some a, some b => s.lookups bs n (k + 1) ((a.group, b.group) :: acc)
    | _, _ => .inr k

/-- Ports of every record (R307 step 2): the circuits, or the index that failed. -/
def State.choosePorts (s : State) (bs : List Byte) : List (Nat × Nat) → Nat → List Nat → List Nat →
    List (Nat × Nat) → List (Nat × Nat) ⊕ Nat
  | [], _, _, _, acc => .inl acc.reverse
  | (g, h) :: r, k, ins, outs, acc =>
    match choosePort (s.groupPorts g) ins (recIn bs k), choosePort (s.groupPorts h) outs (recOut bs k) with
    | some i, some j => s.choosePorts bs r (k + 1) (i :: ins) (j :: outs) ((i, j) :: acc)
    | _, _ => .inr k

/-- Status of a solver code (R307 step 3). -/
def solverStatus (c : Nat) : Nat :=
  match c with
  | 1 => 0x01
  | 2 => 0x02
  | 3 => 0x06
  | _ => 0x07

/-- ADD of every circuit, from SRC and then from TGT to TGT (R307 step 3): the index that failed with
its code. -/
def State.addAll (s : State) (tgt : Nat) : List (Nat × Nat) → Nat → (Bool × Nat) → Option (Nat × Nat) × State
  | [], _, _ => (none, s)
  | (i, j) :: r, k, src =>
    let (c, s) := s.engSolve 2 src (false, tgt) (2 ^ 16 * j + i)
    if c = 0 then s.addAll tgt r (k + 1) (false, tgt) else (some (k, c), s)

/-! ### Steps 4 to 7 (R307, R327 to R330) -/

/-- Cells whose STATE differs between SRC and TGT (R307 step 4). -/
def State.cellsDiffer (s : State) (src tgt : Bool × Nat) : List Nat :=
  (List.range 352).flatMap (fun k =>
    let a := s.cfgWord src.1 src.2 k
    let b := s.cfgWord tgt.1 tgt.2 k
    if a = b then [] else ((List.range 32).filter (fun i => bit a i != bit b i)).map (fun i => 32 * k + i))

/-- Cells of a move: those on the circuit's path in TGT whose state differs (R327). -/
def State.moveCells (s : State) (src tgt : Bool × Nat) (i : Nat) : List Nat :=
  let tb := s.cellTable
  let a := s.cfgStates tb src.1 src.2
  let b := s.cfgStates tb tgt.1 tgt.2
  ((tracePath s.order b i).1.filter (fun p => a p != b p)).filterMap (tableCell tb)

/-- A cell passes the test of a yellow move (R118). -/
def State.cellHasWear (s : State) (c : Nat) : Bool :=
  decide ((s.reg .WEAR_MOVE_COST : Int) ≤ s.headroom c) && !s.retired (c / 64) (c % 64) && !s.tapUnknown (c / 64) (c % 64)

/-- The circuits coloured in record order (R330): the charges to make, or the index that is refused;
each refusal and admission is counted (R335). A yellow move reads the ledger entries of its cells (R435). -/
def State.meterAll (s : State) (src tgt : Bool × Nat) :
    List (Nat × Nat) → Nat → List (Nat × Nat × Nat) → Option Nat × List (Nat × Nat × Nat) × State
  | [], _, acc => (none, acc, s)
  | (i, _) :: r, k, acc =>
    let b := match acc.find? (fun x => x.1 == i) with
      | some x => x.2
      | none => (s.reg .MOVE_TC i, s.reg .MOVE_TP i)
    let c := moveColour b.1 b.2
    let cells := if c = .yellow then s.moveCells src tgt i else []
    let s := forIn' cells s (fun x s => s.ledgerCheck (x / 64) (x % 64))
    let wear := cells.all s.cellHasWear
    if s.moveAdmitted c wear then s.meterAll src tgt r (k + 1) ((i, chargeMove c b.1 b.2) :: acc)
    else (some k, acc, s.moveCount c wear)

/-- The charges of an admitted request are applied, and its moves counted. -/
def State.chargeAll (s : State) (circs : List (Nat × Nat)) : State :=
  forIn' circs s (fun c s =>
    let col := moveColour (s.reg .MOVE_TC c.1) (s.reg .MOVE_TP c.1)
    let b := chargeMove col (s.reg .MOVE_TC c.1) (s.reg .MOVE_TP c.1)
    ((s.moveCount col true).setReg .MOVE_TC b.1 c.1).setReg .MOVE_TP b.2 c.1)

/-- The engine's CFG_COMMIT (R307 step 7, R310): refused for a software commit in progress it is
written again; refused for any other reason the request is refused with STATE. -/
def State.engCommit (s : State) (e : EngReq) (guard : Bool) : State :=
  let busy := s.rbit .CFG_STATUS 4
  let s := s.cfgCommit e.tgt guard
  if busy then { s with eng := some { e with phase := .retry } }
  else if s.nlat .cfgReq = e.tgt + 1 then { s with eng := some { e with phase := .commit } }
  else { s with eng := none }.refuseReq e.req 7 0

/-- The list of a BLOCKED copy: a word IN and a word OUT for each member (R307). -/
def State.blockedList (s : State) : List Byte :=
  (List.range (s.reg .RTE_LIST_N)).flatMap (fun k =>
    leBytes 4 (bits (s.reg .RTE_LIST k) 15 0) ++ leBytes 4 (bits (s.reg .RTE_LIST k) 31 16))

/-- A SETUP from step 2 on, from the configuration in force (R307, R310). -/
def State.setupSteps (s : State) (r : CircReq) (groups : List (Nat × Nat)) (supp : Nat) (again : Bool) : State :=
  match s.inForceCfg with
  | none => s.refuseReq r 7 0
  | some src =>
    let live := s.liveCircuits src
    match s.choosePorts r.bytes groups 0 (live.map (·.1)) (live.map (·.2.1)) [] with
    | .inr k => s.refuseReq r 4 k
    | .inl circs =>
      let tgt := s.engTarget
      match s.addAll tgt circs 0 src with
      | (some (k, c), s) =>
        let s := s.refuseReq r (solverStatus c) k
        if c = 1 then s.toM (r.port / 4) r.port 5 none (s.reg .RTE_LIST_N) r.bytes s.blockedList else s
      | (none, s) =>
        if (s.cellsDiffer src (false, tgt)).any (fun c => s.tileHold (c / 64)) then s.refuseReq r 5 0
        else
          match s.meterAll src (false, tgt) circs 0 [] with
          | (some k, _, s) => s.refuseReq r 0x0A k
          | (none, _, s) =>
            let s := s.chargeAll circs
            let g := reqGuard r.bytes
            let (c, s) := if g then s.engSolve 4 src (false, tgt) 0 else (0, s)
            if c ≠ 0 then s.refuseReq r 7 0
            else s.engCommit ⟨r, .commit, circs, src.1, src.2, tgt, supp, groups, again⟩ g

/-- A SETUP (R307). -/
def State.setupFrom (s : State) (r : CircReq) : State :=
  match s.lookups r.bytes (reqN r.bytes) 0 [] with
  | .inr k => s.refuseReq r 3 k
  | .inl groups => s.setupSteps r groups 0 false

/-- DROP of every named input (R312): the circuits dropped, or the index that failed with its status. -/
def State.dropAll (s : State) (bs : List Byte) (tgt : Nat) :
    Nat → Nat → (Bool × Nat) → List (Nat × Nat) → Option (Nat × Nat) × List (Nat × Nat) × State
  | 0, _, _, acc => (none, acc.reverse, s)
  | n + 1, k, src, acc =>
    match (s.liveCircuits src).find? (fun c => c.1 == recIn bs k) with
    | none => (some (k, 0x0C), acc, s)
    | some c =>
      let (e, s) := s.engSolve 3 src (false, tgt) c.1
      if e = 0 then s.dropAll bs tgt n (k + 1) (false, tgt) ((c.1, c.2.1) :: acc) else (some (k, 7), acc, s)

/-- A RELEASE from the configuration in force (R312). -/
def State.releaseFrom (s : State) (r : CircReq) (supp : Nat) (again : Bool) : State :=
  match s.inForceCfg with
  | none => s.refuseReq r 0x0C 0
  | some src =>
    let tgt := s.engTarget
    match s.dropAll r.bytes tgt (reqN r.bytes) 0 src [] with
    | (some (k, c), _, s) => s.refuseReq r c k
    | (none, circs, s) => s.engCommit ⟨r, .commit, circs, src.1, src.2, tgt, supp, [], again⟩ false

/-! ### Replies with a body -/

/-- CLEAR and the circuits (R304). -/
def grantBody (clearNs : Nat) (circs : List (Nat × Nat)) : List Byte :=
  beBytes 6 (clearNs / 1000000000) ++ beBytes 4 (clearNs % 1000000000) ++
    circs.flatMap (fun c => beBytes 2 c.1 ++ beBytes 2 c.2)

/-- QUERY (R306): each circuit traced in the configuration in force. -/
def State.queryReply (s : State) (r : CircReq) : State :=
  let live := match s.inForceCfg with
    | none => []
    | some src => s.liveCircuits src
  let circs := (List.range (reqN r.bytes)).map (fun k =>
    let i := recIn r.bytes k
    (i, match live.find? (fun c => c.1 == i) with
      | some c => c.2.1
      | none => 0xFFFF))
  s.reply r 0x83 0 (grantBody s.nowNs circs)

/-- GRANT (R309, R312). -/
def State.grant (s : State) (e : EngReq) (clearNs : Nat) : State :=
  ({ s with eng := none }.reply e.req 0x81 0 (grantBody clearNs e.circs)).satAdd .SIG_REQ_GRANTS

/-! ### Serving (R305, R306) -/

/-- The oldest request is served, when it is of operation `op` and the engine is free. -/
def State.engServe (s : State) (op : Nat) : State :=
  match s.reqQ, s.eng with
  | r :: rest, none =>
    if reqOp r.bytes = op ∨ reqOk r.bytes = false then
      let s := { s with reqQ := rest }
      if s.reqToFirmware then s.reqPass r
      else if reqOk r.bytes = false then s.refuseReq r 9 0
      else if op = 3 then (if s.mode = .boot ∨ s.mode = .sable then s.refuseReq r 7 0 else s.queryReply r)
      else if s.mode = .slotted then s.reqPass r
      else if s.mode = .static ∧ s.armed = false then (if op = 1 then s.setupFrom r else s.releaseFrom r 0 false)
      else s.refuseReq r 7 0
    else s
  | _, _ => s

/-- CIRCUIT_SETUP (R307). -/
def execCircuitSetup (s : State) : Host.Outcome State Fault Refusal := okIf true (s.engServe 1)

/-- CIRCUIT_RELEASE (R312). -/
def execCircuitRelease (s : State) : Host.Outcome State Fault Refusal := okIf true (s.engServe 2)

/-- CIRCUIT_QUERY (R306). -/
def execCircuitQuery (s : State) : Host.Outcome State Fault Refusal := okIf true (s.engServe 3)

/-! ### The engine's commit (R309, R310) -/

/-- The engine writes CFG_COMMIT again (R310): from the new configuration in force when that is no
longer its SRC, once. DEDUCED (log entry 71): when it changes again the request is refused with STATE. -/
def State.engRetry (s : State) : State :=
  match s.eng with
  | none => s
  | some e =>
    if e.phase = .retry ∧ s.rbit .CFG_STATUS 4 = false then
      if 3 ≤ e.supp then { s with eng := none }.refuseReq e.req 0x0B 0
      else if s.inForceCfg = some (e.srcDram, e.srcIdx) then s.engCommit e (reqOp e.req.bytes == 1 && reqGuard e.req.bytes)
      else
        let s := { s with eng := none }
        if e.again then s.refuseReq e.req 7 0
        else if reqOp e.req.bytes = 1 then s.setupSteps e.req e.groups e.supp true
        else s.releaseFrom e.req e.supp true
    else s

/-- ENGINE_COMMIT_RETRY (R310). -/
def execEngineCommitRetry (s : State) : Host.Outcome State Fault Refusal := okIf true s.engRetry

/-- The engine's commit is in progress, from bank b. -/
def State.engOwns (s : State) (b : Nat) : Bool :=
  match s.eng with
  | some e => e.phase == .commit && e.tgt == b
  | none => false

/-- The cells on the granted paths whose GENTLE is 1 (R309); of a RELEASE, which changes attenuators only, those of the
attenuators (R312). -/
def State.gentleCells (s : State) (e : EngReq) : List Nat :=
  let tb := s.cellTable
  let st := s.cfgStates tb false e.tgt
  let path := fun i => if reqOp e.req.bytes = 1 then (tracePath s.order st i).1.filterMap (tableCell tb) else []
  (e.circs.flatMap (fun c => path c.1 ++ (tableCell s.attTable c.2).toList)).filter
    (fun c => s.tbit .PRF_CHSET (c / 64) 4 (c % 64))

/-- Guard time of a grant in ns (R249, R309). -/
def State.guardNs (s : State) : Nat := s.fld .SLOT_GUARD 15 0

/-- The strobe of the engine's commit is launched, 32 grains ahead of B (R309): GRANT is sent, unless a
granted path holds a cell that moves gently. -/
def State.engLaunched (s : State) : State :=
  match s.eng with
  | none => s
  | some e =>
    let setup := reqOp e.req.bytes == 1
    if !(s.gentleCells e).isEmpty then { s with eng := some { e with phase := .gentle } }
    else
      let b := (s.time.total + 32 * s.incr) / 2 ^ 32
      s.grant e (b + s.guardNs + (if setup && reqGuard e.req.bytes then 24 else 0))

/-- The engine's commit is suppressed (R310). -/
def State.engSuppressed (s : State) : State :=
  match s.eng with
  | none => s
  | some e => { s with eng := some { e with phase := .retry, supp := e.supp + 1 } }

/-- The strobe of the engine's commit is launched and its edge is still to come. -/
def State.engStrobe (s : State) (e : EngReq) : Bool :=
  match s.commit with
  | some c => c.launched == some true && !c.edge && c.kind.isStatic && c.bank == e.tgt
  | none => false

/-- At a span boundary a grant that waits for gentle moves is sent when none of them runs (R309). -/
def State.engSpan (s : State) : State :=
  match s.eng with
  | none => s
  | some e =>
    if e.phase = .gentle ∧ s.engStrobe e = false ∧ (s.gentleCells e).all (fun c => !s.prfRunning (c / 64) (c % 64)) then
      s.grant e (s.time.total / 2 ^ 32 + s.guardNs)
    else s

end Sys2Proof.Machine
end

