-- ==== Sys2Proof/Machine/Stream.lean ====
section
/-! DEFINITION. The correction-table stream (R166 to R172): fetch, arrival, deadline, the begin and
the end of an occurrence, write-back and free. -/
namespace Sys2Proof.Machine

/-- The DRAM offset of block (t, p) of table `tbl`, when it lies whole in the usable DRAM (R166, R170). -/
def State.blockAddr (s : State) (tbl t p : Nat) : Option Nat :=
  let base := if tbl = 0 then 2 ^ 32 * s.fld .SLOT_RC_BASE0_HI 7 0 + 2 ^ 21 * s.fld .SLOT_RC_BASE0_LO 31 21
    else 2 ^ 32 * s.fld .SLOT_RC_BASE1_HI 7 0 + 2 ^ 21 * s.fld .SLOT_RC_BASE1_LO 31 21
  let a := base + (1024 * t + p) * 128
  match s.dramOff a, s.dramOff (a + 127) with
  | some o, some _ => some o
  | _, _ => none

/-- The table of the operating list, or of the pending list (R172). -/
def State.rcTable (s : State) (pend : Bool) : Nat := if pend then s.fld .SLOT_RC_CTRL 1 1 else s.fld .SLOT_RC_CTRL 4 4

/-- The list memory that a fetch serves. -/
def State.rcList (s : State) (pend : Bool) : Option Nat :=
  if pend then (if s.armed then some (s.nlat .pendMem) else none) else if s.running then some s.opMem else none

/-- A tile requests the block of a position for occurrence n, or keeps the one it holds (R170, Fetch). A block that
was late and is still missing is requested again. -/
def State.blockFetch (s : State) (pend : Bool) (p n t : Nat) : State :=
  let a := s.blockAddr (s.rcTable pend) t p
  let same := fun (b : Block) => b.tile == t && b.pos == p && b.addr == a && (b.arrived || b.late.isEmpty)
  if s.blocks.any same then
    { s with blocks := s.blocks.map (fun b => if same b then { b with occs := b.occs ++ [n] } else b) }
  else { s with blocks := s.blocks ++ [⟨t, p, a, [], false, [n], []⟩] }

/-- The fetch instant of an occurrence of position p (R170): EN is sampled, and every tile in use
requests its block. -/
def State.rcFetch (s : State) (pend : Bool) (p : Nat) : State :=
  match s.rcList pend with
  | none => s
  | some m =>
    if s.listSpan m ≤ p then s
    else
      let en := s.rbit .SLOT_RC_CTRL 0
      let n := s.nlat .occN
      let s := s.setLat .occN (n + 1 : Nat)
      let s := { s with occs := s.occs ++ [⟨n, p, pend, en, false, false, false, 0⟩] }
      if en then forIn' s.tiles s (fun t s => s.blockFetch pend p n t) else s

/-- CORRECTION_BLOCK_FETCH (R170): `pend` says that the position belongs to the pending list. -/
def execCorrectionBlockFetch (pend : Bool) (pos : Nat) (s : State) : Host.Outcome State Fault Refusal :=
  okIf (decide (pos < 1024)) (s.rcFetch pend pos)

/-- A block is late for an occurrence (R170): counted, and reported once. -/
def State.blockLate (s : State) (t p : Nat) : State :=
  let s := (s.satAdd .SLOT_RC_LATE).setTbit .LOOP_STATUS t 2 true
  if s.flag .ctSent t 2 then s else (s.sendEngine t 0x29 0 (2 * 2 ^ 28 + p)).setFlag .ctSent true t 2

/-- The block serves an occurrence of the pending list, or of the operating list. -/
def State.blockFor (s : State) (b : Block) (pend : Bool) : Bool :=
  s.occs.any (fun o => b.occs.contains o.no && o.forPend == pend)

/-- The first block of a tile and position that waits for its data. -/
def State.blockWaiting (s : State) (pend : Bool) (t p : Nat) : Option Block :=
  s.blocks.find? (fun b => b.tile == t && b.pos == p && !b.arrived && b.addr.isSome && s.blockFor b pend)

/-- The 64 signed entries of a block. -/
def blockEntries (bs : List Byte) : List Int := (List.range 64).map (fun c => sx 16 (leVal (slice bs (2 * c) 2)))

/-- A block that met an uncorrectable error: it never arrives, and is late for its first occurrence whose deadline
has not judged it (R435). -/
def State.blockLost (s : State) (b : Block) : State :=
  match b.occs.find? (fun n => !b.late.contains n) with
  | none => { s with blocks := blockPut b { b with addr := none } s.blocks }
  | some n => { s with blocks := blockPut b { b with addr := none, late := b.late ++ [n] } s.blocks }.blockLate b.tile b.pos

/-- A block arrives (R170); an uncorrectable error makes it late for its occurrence (R435). -/
def State.blockArrive (s : State) (pend : Bool) (t p : Nat) : State :=
  match s.blockWaiting pend t p with
  | none => s
  | some b =>
    match b.addr with
    | none => s
    | some o =>
      match s.dramBad o 128 with
      | some w => (s.dramError (32 * w)).blockLost b
      | none =>
        let s := s.dramMeet o 128
        { s with blocks := blockPut b { b with arrived := true, entries := blockEntries (s.dramBytes o 128) } s.blocks,
                 freeCtr := s.freeCtr + 1 }

/-- CORRECTION_BLOCK_ARRIVAL (R170). -/
def execCorrectionBlockArrival (pend : Bool) (tile pos : Nat) (s : State) : Host.Outcome State Fault Refusal :=
  okIf (decide (tile < 176 ∧ pos < 1024)) (s.blockArrive pend tile pos)

/-- The deadline of the coming occurrence of a position in one tile. -/
def State.blockDeadline (s : State) (pend : Bool) (p t : Nat) : State :=
  match s.nextOcc pend p with
  | none => s
  | some o =>
    match s.occBlock t o.no with
    | none => s
    | some b =>
      if b.arrived || b.late.contains o.no then s
      else { s with blocks := blockPut b { b with late := b.late ++ [o.no] } s.blocks }.blockLate t p

/-- CORRECTION_BLOCK_DEADLINE (R170): 400 grains before the boundary that begins the position. -/
def execCorrectionBlockDeadline (pend : Bool) (pos : Nat) (s : State) : Host.Outcome State Fault Refusal :=
  okIf (decide (pos < 1024)) (forIn' s.tiles s (fun t s => s.blockDeadline pend pos t))

/-! ### Occurrences (R168, R170) -/

/-- An occurrence in force ends at this grain. -/
def Occ.finish (o : Occ) (g : Nat) : Occ := if o.active then { o with active := false, endAt := g + 1 } else o

/-- The occurrence in force ends. -/
def State.occEnd (s : State) : State := { s with occs := s.occs.map (fun o => o.finish s.grain) }

/-- An occurrence of position p of the operating list begins, in a learning cycle or not. Those that have ended and
that no block serves any more are of no further concern. -/
def State.occBegin (s : State) (p : Nat) (learning : Bool) : State :=
  let live := s.occs.filter (fun o => o.endAt == 0 || s.blocks.any (fun b => b.occs.contains o.no))
  match s.nextOcc false p with
  | none => { s with occs := live }.setLat .occNow 0
  | some n =>
    let begin := fun (o : Occ) => if o.no = n.no then { o with began := true, active := true, learning := learning } else o
    { s with occs := live.map begin }.setLat .occNow (n.no + 1 : Nat)

/-- Cycle count c is one of a learning cycle (R168). -/
def State.learningCycle (s : State) (c : Nat) : Bool := c % 2 ^ s.fld .SLOT_RC_CTRL 10 8 == 0

/-- The operating list ends (R244, R246): its coming occurrences never begin, and the blocks that serve no other
occurrence are freed. -/
def State.occDrop (s : State) : State := s.occEnd.dropOccs (fun o => !o.forPend && !o.began)

/-- The pending list becomes the operating list (R172, R244). -/
def State.occSwitch (s : State) : State := { s with occs := s.occs.map (fun o => { o with forPend := false }) }

/-- An entry after its leak (R170). -/
def State.leaked (s : State) (t c : Nat) (x : Int) : Int :=
  let k := s.tfld .LOOP_SH1 t 28 24 c
  if k = 0 then x else x - rsh x k

/-- The occurrences of a block whose write-back point a span boundary of its tile brings, at the start of a span that
is long without fallback or not: their last nominal grain was delivered for the span that ends (R170). -/
def State.pointDue (s : State) (b : Block) (long : Bool) : List Occ :=
  s.occs.filter (fun o => b.occs.contains o.no && o.endAt != 0 && (long || decide (o.endAt + 252 ≤ s.grain)))

/-- The write-back points of a block (R170): leaked once and written back for each occurrence in a learning cycle for
which it was in time, and freed when it serves no further occurrence. -/
def State.blockPoint (s : State) (long : Bool) (b : Block) : State :=
  let due := s.pointDue b long
  let k := (due.filter (fun o => o.learning && b.inTime o.no)).length
  let es := forUpto k b.entries (fun _ es => (List.range 64).map (fun c => s.leaked b.tile c (es.getD c 0)))
  let s := match b.addr with
    | some o => if k = 0 then s else s.dramWrite o (es.flatMap (fun x => leBytes 2 (ux 16 x)))
    | none => s
  let left := b.occs.filter (fun n => !due.any (fun o => o.no == n))
  if left.isEmpty then { s with blocks := s.blocks.erase b }
  else { s with blocks := blockPut b { b with entries := es, occs := left } s.blocks }

/-- The write-back points that a span boundary of a tile brings. -/
def State.streamBoundary (s : State) (t : Nat) (long : Bool) : State :=
  forIn' (s.blocks.filter (fun b => b.tile == t && !(s.pointDue b long).isEmpty)) s (fun b s => s.blockPoint long b)

end Sys2Proof.Machine
end

