-- ==== Sys2Proof/Machine/Commit.lean ====
section
/-! DEFINITION. A boundary and its commit (R87 to R93, R236, R237, R243 to R247, R250 to R254, R386,
R387): broadcast, shadow deadline, decision, strobe edge, later groups, and the slot boundary. -/
namespace Sys2Proof.Machine

/-! ### Broadcast (R87, R234, R245, R252) -/

/-- The device-span boundary to come. -/
def State.nextSpanAt (s : State) : Nat := s.nlat .spanAt + s.devLen

/-- The static commit that falls on the coming span boundary (R237, R247). -/
def State.staticCommit (s : State) : Option Commit :=
  if s.nlat .cfgReq ≠ 0 ∧ s.lat .cfgHeld ≠ 1 ∧ s.nlat .cfgFrom ≤ s.nextSpanAt then
    let b := s.nlat .cfgReq - 1
    some ⟨if s.lat .cfgHeld = 2 then .heldOver else .staticCommit, false, b, b, s.flag .cfgGuard, none, false, none, none,
      s.nextSpanAt, false⟩
  else none

/-- The commit of an entry of a list memory (R238, R245). -/
def State.entryCommit (s : State) (kind : CommitKind) (m e : Nat) : Commit :=
  let w := s.slotW1 m e
  let x := bits w 15 0
  let k := s.nlat .ringHead m % 16
  let dram := bit w 27
  ⟨kind, dram, x, if dram then 480 + 16 * m + k else x, bit w 30, some e, false, none,
    if dram then (match s.nlat .ringSt m k with
      | 2 => none
      | 3 => some 0x2B
      | _ => some 0x2A) else none, s.nlat .fixG - 1, false⟩

/-- The boundary to come is the stop boundary (R246). -/
def State.stopHere (s : State) (t : Nat) : Bool := s.stopping && t == s.nlat .stopAt

/-- The commit of the fixed slot boundary (R243, R244, R246). -/
def State.slotCommit (s : State) : Option Commit :=
  match s.nextSlot with
  | none => none
  | some (t, start) =>
    if start then some (s.entryCommit .start (s.nlat .pendMem) 0)
    else if s.stopHere t then
      let w := s.nlat .stopWord
      some ⟨.stop, false, w % 512, w % 512, decide (512 ≤ w), none, false, none, none, s.nlat .fixG - 1, false⟩
    else some (s.entryCommit .slot s.opMem (s.nlat .opNextPos))

/-- The static commit in preparation gives way to a slot boundary: it counts as suppressed. -/
def State.staticDropped (s : State) : State :=
  match s.commit with
  | some c =>
    if c.kind.isStatic && !c.edge then
      let s := if s.engOwns c.bank then s.engSuppressed else s
      ((s.setLat .cfgReq 0).setRbit .CFG_STATUS 4 false).setRbit .CFG_STATUS 5 true
    else s
  | none => s

/-- A commit whose copy is missing or not valid is suppressed (R245). -/
def State.commitLate (s : State) (c : Commit) : State :=
  match c.late with
  | none => s
  | some k => ((s.satAdd .SLOT_CFG_LATE).setRbit .SLOT_STATUS 2 true).send 0x108 k (2 ^ 16 + c.idx)

/-- PRED of the bank names another configuration than the one in force (R252). -/
def State.predOff (s : State) (b : Nat) : Bool :=
  let p := s.bankWord b 0x182
  let f := s.reg .CFG_INFORCE
  !bit p 31 && (bit f 31 || bits p 16 0 != bits f 16 0)

/-- The bits of a tile arrive with an uncorrectable error. -/
def State.tileUe (s : State) (b t : Nat) : Bool :=
  (s.eccPairs b).any (fun k => s.eccKind k == 2 && (k % 256 == t || decide (176 ≤ k % 256)))

/-- The configuration is broadcast and each tile composes its shadow (R71, R87). -/
def State.broadcast (s : State) (c : Commit) : State :=
  let wide := c.guard && s.predOff c.bank
  let s := if wide then (s.satAdd .SLOT_WIDE).setRbit .SLOT_STATUS 3 true else s
  let c := { c with wide := wide }
  let s := { s with commit := some c }
  let s := if c.dram then forUpto 352 s (fun w s => s.setLat .nextForce (s.bankWord c.bank w) (w / 2) (w % 2)) else s
  let s := forIn' s.tiles s (fun t s => (s.setFlag .cmtUe (s.tileUe c.bank t) t).setFlag .unready false t)
  let s := s.eccMeetBank c.bank
  forIn' s.tiles s (fun t s =>
    if s.tileHold t || s.inHold then s
    else if s.flag .cmtUe t then forUpto 64 s (fun ch s => s.setTbit .DRV_SHADOW t 31 false ch)
    else s.composeTile c t)

/-- The commit whose broadcast begins in this grain, 400 ahead of its boundary (R87): a fixed slot boundary's before
a static one. -/
def State.dueCommit (s : State) : Option Commit :=
  match if s.lat .fixG ≠ 0 then s.slotCommit else s.staticCommit with
  | some c => if c.edgeAt = s.grain + 400 then some c else none
  | none => none

/-- From B - 400 on: what the boundary to come commits. -/
def State.startCommit (s : State) : State :=
  match s.dueCommit with
  | none => s
  | some c =>
    let s := if c.kind.isStatic then s else s.staticDropped
    if c.late.isSome then { s with commit := some c }.commitLate c else s.broadcast c

/-- The state may begin a broadcast: none is under way, or a span-boundary commit gives way to a slot
boundary. -/
def State.mayBroadcast (s : State) : Bool :=
  match s.commit with
  | none => true
  | some c => c.edge || (c.kind.isStatic && s.lat .fixG != 0)

/-- CONFIG_BROADCAST (R87): `ce` and `ue` name pairs of bank words, as 256 x bank + pair, that have come
to hold a single-bit or double-bit error since the last (R234). -/
def execConfigBroadcast (ce ue : List Nat) (s : State) : Host.Outcome State Fault Refusal :=
  okIf (ce.all (fun k => decide (k < 131072)) && ue.all (fun k => decide (k < 131072))) <|
    if s.mayBroadcast then
      let s := ce.foldl (fun s k => s.eccStrike 1 k) s
      let s := ue.foldl (fun s k => s.eccStrike 2 k) s
      s.startCommit
    else s

/-! ### Shadow deadline (R87) -/

/-- READY of the tiles, and the end of the broadcast, which frees the staging bank (R245). -/
def State.shadowDeadline (s : State) (bad : List Nat) : State :=
  match s.commit with
  | none => s
  | some c =>
    if c.edge || c.edgeAt != s.grain + 48 then s
    else
      let s := forIn' s.tiles s (fun t s =>
        let no := s.flag .cmtUe t || bad.contains t
        let s := if no && !s.tileHold t then forUpto 64 s (fun ch s => s.setTbit .DRV_SHADOW t 31 false ch) else s
        (s.setFlag .unready (no && c.late.isNone) t).setFlag .cmtUe false t)
      if c.dram then s.ringAdvance (if c.kind = .start then s.nlat .pendMem else s.opMem) else s

/-- SHADOW_DEADLINE (R87): `bad` names the tiles that did not receive their bits intact. -/
def execShadowDeadline (bad : List Nat) (s : State) : Host.Outcome State Fault Refusal :=
  okIf (bad.all (fun t => decide (t < 176))) (s.shadowDeadline bad)

/-! ### Commit decision point (R26, R88, R91, R386, R245) -/

/-- Every tile in use copies TILE_SKEW_NEXT to TILE_SKEW (R91). -/
def State.skewCopy (s : State) : State :=
  forIn' s.tiles s (fun t s => forUpto 2 s (fun k s => s.setTreg .TILE_SKEW t (s.treg .TILE_SKEW_NEXT t k) k))

/-- A write of APPLY is latched (R91), at a decision point later than its grain (R502). -/
def State.skewLatch (s : State) : State :=
  if s.flag .skewReq && s.before.flag .skewReq then (s.setFlag .skewReq false).skewCopy else s

/-- The halves of the slot timer compare (R386): a second difference within 16 boundaries takes the
half without the generator token out. -/
def State.slotCompare (s : State) (agree : Bool) : State :=
  let n := s.nlat .slotCmpN
  if agree then (if n = 0 then s else if 16 ≤ n then s.setLat .slotCmpN 0 else s.setLat .slotCmpN (n + 1 : Nat))
  else
    let s := s.send 0x104 0x5C 0
    if n = 0 then s.setLat .slotCmpN 1
    else
      let h := 1 - s.slotToken
      let s := if s.slotHalf h = 0 then s else ((s.setSlotHalf h 0).setLat .slotJoin 0 h).send 0x104 0x5D 0
      s.setLat .slotCmpN 1

/-- Both halves of the slot timer are in step, and so compare (R386). -/
def State.slotPaired (s : State) : Bool := (List.range 2).all (fun h => s.slotHalf h == 1 || s.slotHalf h == 2)

/-- The tiles that lack READY. -/
def State.unreadyTiles (s : State) : List Nat := s.tiles.filter (fun t => s.flag .unready t && !s.tileHold t)

/-- READY is missing from some tile (R88). -/
def State.commitUnready (s : State) (ts : List Nat) : State :=
  match ts with
  | [] => s
  | t0 :: _ =>
    let s := s.satAdd .SLOT_UNREADY_COUNT
    let s := forUpto 6 s (fun w s => s.setReg .SLOT_UNREADY_TILE 0 w)
    let s := forIn' ts s (fun t s => (s.setMapBit .SLOT_UNREADY_TILE 0 t true).setTbit .DRV_STATUS t 1 true)
    s.send 0x108 0x15 t0

/-- The device is in HOLD as the decision sees it: up to the release boundary (R24, R26). -/
def State.holdSeen (s : State) : Bool := s.inHold || s.nlat .relDone == s.grain + 1

/-- The entry that begins at the boundary lets a calibration commit fall on it (R345). -/
def State.calAllowed (s : State) (c : Commit) : Bool :=
  match c.kind with
  | .start => !bit (s.slotW1 (s.nlat .pendMem) 0) 28
  | .slot | .stop => !bit (s.slotW1 s.opMem (s.nlat .opNextPos)) 28
  | _ => true

/-- The engine arms for the boundary, 32 grains ahead (R345, R346): 1 slot boundary, 2 span boundary. -/
def State.calArmAt (s : State) (at_ : Nat) : State := (s.setLat .calArm at_).skewCopy

/-- The commit is launched (R236, R93). -/
def State.launch (s : State) (c : Commit) : State :=
  let s := (s.wrapInc .SLOT_COMMIT_COUNT).setReg .CFG_INFORCE (2 ^ 16 * b2n c.dram + c.idx)
  let s := forUpto 352 s (fun w s =>
    s.setLat .inForce (if c.dram then s.lat .nextForce (w / 2) (w % 2) else s.bankWord c.bank w) (w / 2) (w % 2))
  let s := if c.kind.isStatic && s.engOwns c.bank then s.engLaunched else s
  if s.calQualifies 32 && s.calAllowed c then s.calArmAt (if c.kind.isStatic then 2 else 1) else s

/-- A record of the slot history, of the boundary 32 grains ahead (R410). -/
def State.slotRecord (s : State) (c : Commit) (launched : Bool) : State :=
  if s.frozen then s
  else
    let t := NetTime.ofTotal (s.time.total + 32 * s.incr)
    let cyc := match c.kind, c.pos with
      | .start, _ => 0
      | .slot, some 0 => s.reg .SLOT_CYCLE + 1
      | _, _ => s.reg .SLOT_CYCLE
    let w2 := 2 ^ 16 * (cyc % 2 ^ 16) + 2 ^ 15 * b2n c.kind.isStatic + 2 ^ 14 * b2n (c.kind == .start) +
      2 ^ 13 * b2n (s.flag .calArm) + 2 ^ 12 * b2n c.wide + 2 ^ 11 * b2n c.guard + 2 ^ 10 * b2n (!launched) + c.pos.getD 0
    let l := s.slotHist ++ [SlotRec.mk t.ns (t.sec % 2 ^ 32) w2 (2 ^ 16 * b2n c.dram + c.idx)]
    { s with slotHist := l.drop (l.length - 256) }

/-- The decision for a commit. -/
def State.decideCommit (s : State) (c : Commit) (agree : Bool) : State :=
  let un := if c.late.isSome then [] else s.unreadyTiles
  let s := s.commitUnready un
  let go := agree && !s.holdSeen && !s.sable && c.late.isNone && un.isEmpty
  let s := if go then s.launch c
    else if c.kind.isStatic && s.engOwns c.bank then s.engSuppressed else s
  let s := s.slotRecord c go
  let s := if c.kind.isStatic then s else s.setLat .cmtRes (if go then 1 else 2)
  { s with commit := some { c with launched := some go } }

/-- The commit decision point of the boundary to come. -/
def State.decision (s : State) (same : Bool) : State :=
  let agree := same || !s.slotPaired
  let s := (s.skewLatch.slotCompare agree).slotTokenMove
  match s.commit with
  | some c => if c.edge || c.launched.isSome then s else s.decideCommit c agree
  | none => if s.mode = .static ∧ agree = true ∧ s.holdSeen = false ∧ s.calQualifies 32 = true then s.calArmAt 2 else s

/-- A commit decision point falls in this grain, 32 ahead of a boundary (R87): of the commit in preparation, or, where
none is and no slot program runs, of the coming span boundary. -/
def State.decisionDue (s : State) : Bool :=
  match s.commit with
  | some c => !c.edge && c.edgeAt == s.grain + 32
  | none => !s.running && s.flag .spanUp && s.nextSpanAt == s.grain + 32

/-- COMMIT_DECISION_POINT (R88): `agree` says that the halves of the slot timer agree. -/
def execCommitDecisionPoint (agree : Bool) (s : State) : Host.Outcome State Fault Refusal :=
  okIf true (if s.decisionDue then s.decision agree else s)

/-! ### Strobe edge (R87, R92, R93, R387) -/

/-- How a tile sees the strobe: whether it loads, and the state after its reports (R387). -/
def State.strobeTile (s : State) (t : Nat) (missU missO : List Nat) : Bool × State :=
  let h := s.slotToken
  let other := s.slotHalf (1 - h) != 0
  let gotH := !(if h = 0 then missU else missO).contains t
  let gotO := other && !(if h = 0 then missO else missU).contains t
  if gotH then (true, if gotO || !other then s else s.send 0x104 0x5B (2 ^ 8 * (1 - h) + t))
  else if gotO then
    (true, ((s.send 0x104 0x5B (2 ^ 8 * h + t)).setRbit .RED_SLOT_STATE (16 + h) true).setFlag .slotSwap true)
  else (false, if s.tileHold t then s else s.send 0x104 0x5A t)

/-- The strobe edge in one tile: it counts and loads group 0, unless the tile is in HOLD (R28). -/
def State.edgeTile (s : State) (c : Commit) (t : Nat) (missU missO : List Nat) : State :=
  let (got, s) := s.strobeTile t missU missO
  let s := s.setFlag .took (got && !s.tileHold t) t
  if got && !s.tileHold t then forUpto 64 (s.wrapInc .TILE_COMMIT_COUNT t) (fun ch s => s.edgeCh c t ch) else s

/-- The strobe edge of a launched commit. -/
def State.strobeEdge (s : State) (missU missO : List Nat) : State :=
  match s.commit with
  | none => s
  | some c =>
    if c.edge || c.edgeAt != s.grain then s
    else if c.launched = some true then
      let s := forIn' s.tiles s (fun t s => s.edgeTile c t missU missO)
      let s := (s.setLat .cmtAtPrev (s.lat .cmtAt)).setLat .cmtAt (s.grain + 1)
      let s := if c.kind.isStatic then ((s.setLat .cfgReq 0).setRbit .CFG_STATUS 4 false).setLat .cfgHeld 0 else s
      { s with commit := if c.guard then some { c with edge := true } else none }
    else s

/-- COMMIT_STROBE_EDGE (R87): `missU` and `missO` name the tiles that the strobe did not reach by the
Umber and by the Ochre tree. -/
def execCommitStrobeEdge (missU missO : List Nat) (s : State) : Host.Outcome State Fault Refusal :=
  okIf (missU.all (fun t => decide (t < 176)) && missO.all (fun t => decide (t < 176))) (s.strobeEdge missU missO)

/-- A later group of a guarded commit loads (R92, R250). -/
def State.groupLoad (s : State) (g : Nat) : State :=
  match s.commit with
  | none => s
  | some c =>
    if c.edge && c.guard && c.edgeAt + 8 * g == s.grain then
      let s := forIn' s.tiles s (fun t s => if s.flag .took t then forUpto 64 s (fun ch s => s.groupCh c g t ch) else s)
      if g = 3 then { s with commit := none } else s
    else s

/-- GUARDED_GROUP_LOAD (R250): group 1, 2 or 3, at 8, 16 or 24 ns after the boundary. -/
def execGuardedGroupLoad (group : Nat) (s : State) : Host.Outcome State Fault Refusal :=
  okIf (decide (1 ≤ group ∧ group ≤ 3)) (s.groupLoad group)

/-! ### Slot boundary (R243, R244, R246, R247) -/

/-- The boundary passes: its instant, the position before it, and whether its commit was suppressed. -/
def State.boundaryPast (s : State) : State :=
  let supp := s.lat .cmtRes != 1
  let s := (s.setLat .bndAtPrev (s.lat .bndAt)).setLat .bndAt (s.grain + 1)
  let s := (s.setLat .posPrev (if s.running then s.lat .slotPos + 1 else 0)).setLat .occPrev (s.lat .occNow)
  let s := (s.setFlag .posSuppPrev (s.flag .posSupp)).setFlag .posSupp supp
  s.setLat .fixG 0

/-- Slot position p of list memory m begins at boundary time t, in cycle c. -/
def State.posBegin (s : State) (m p t c : Nat) : State :=
  let s := (s.setLat .slotPos p).setReg .SLOT_POS p
  let s := (s.setReg .SLOT_CYCLE (c % 2 ^ 32)).setNextOp m p t
  let s := s.occBegin p (s.learningCycle c)
  if bit (s.slotW1 m p) 29 then s.publish 0x202 else s

/-- The device takes up the slot program (R22, R23). -/
def State.toSlotted (s : State) : State :=
  match s.mode with
  | .static => (s.enterMode .slotted).trimDiscardAll.prfEndAll.rangeFollowAll
  | .hold => if s.prior = .static then { s with prior := .slotted }.prfEndAll else s
  | _ => s

/-- The pending list becomes the operating list (R244, R172). -/
def State.switchover (s : State) (t : Nat) : State :=
  let m := s.nlat .pendMem
  let s := if s.running then s.ringEnd s.opMem else s
  let s := s.occDrop.occSwitch
  let s := s.setFld .SLOT_STATUS 6 4 (2 + m)
  let s := (s.setReg .SLOT_OP_TC_LO (s.reg .SLOT_PEND_TC_LO)).setReg .SLOT_OP_TC_HI (s.reg .SLOT_PEND_TC_HI)
  let s := (s.setReg .SLOT_OP_LEN (s.reg .SLOT_PEND_LEN)).setFld .SLOT_RC_CTRL 4 4 (s.fld .SLOT_RC_CTRL 1 1)
  (s.posBegin m 0 t 0).toSlotted

/-- The stop boundary (R246, R247). -/
def State.stopBoundary (s : State) : State :=
  let s := s.ringEnd s.opMem
  let s := s.occDrop.setLat .occNow 0
  let s := (s.setFld .SLOT_STATUS 7 7 0).setFld .SLOT_STATUS 5 5 0
  let s := ((s.setReg .SLOT_OP_TC_LO 0).setReg .SLOT_OP_TC_HI 0).setReg .SLOT_OP_LEN 0
  match s.mode with
  | .slotted => (s.enterMode .static).rangeFollowAll
  | .hold =>
    let s := { s with prior := .static }
    if s.lat .cmtRes = 1 then s
    else
      let w := s.nlat .stopWord
      let s := (s.setRbit .CFG_STATUS 4 true).setLat .cfgReq (w % 512 + 1 : Nat)
      (s.setFlag .cfgGuard (decide (512 ≤ w))).setLat .cfgHeld 1
  | _ => s

/-- A slot boundary, at the grain fixed for it (R279). -/
def State.slotBoundary (s : State) : State :=
  if s.nlat .fixG ≠ s.grain + 1 then s
  else
    match s.nextSlot with
    | none => s
    | some (t, start) =>
      let s := s.boundaryPast
      let s :=
        if start then s.switchover t
        else if s.stopHere t then s.stopBoundary
        else
          let p := s.nlat .opNextPos
          (s.occEnd).posBegin s.opMem p t (s.reg .SLOT_CYCLE + b2n (p == 0))
      let s := if s.lat .calArm = 1 && s.calState == 3 then s.calApply else s
      let s := s.setLat .cmtRes 0
      match s.commit with
      | some c => if c.edge || c.kind.isStatic || c.launched == some true then s else { s with commit := none }
      | none => s

/-- SLOT_BOUNDARY (R243). -/
def execSlotBoundary (s : State) : Host.Outcome State Fault Refusal := okIf true s.slotBoundary

end Sys2Proof.Machine
end

