-- ==== Sys2Proof/Machine/Span.lean ====
section
/-! DEFINITION. The span boundary (R124, R144, R158, R159, R203, R204, R281, R358): the device's
span count and length, and what each tile does at the boundary at which one of its spans begins. -/
namespace Sys2Proof.Machine

/-! ### Device span (R281, R358) -/

/-- THROTTLE 256 grains before this grain gives the coming spans 8,000 grains, in every mode but SABLE (R358). -/
def State.spanThrottle (s : State) : Bool := s.throttleAt ((s.grain : Int) - 256) && s.mode != .sable

/-- The count, place and length of the span that begins. -/
def State.nextSpan (s : State) : State :=
  if s.flag .spanUp then
    let k := s.nlat .span + 1
    let s := (s.setLat .span k).setLat .spanAt s.grain
    let s := s.setFlag .spanLong (s.flag .spanLongNext)
    if k % 2 = 1 then s.setFlag .spanLongNext s.spanThrottle else s
  else
    let long := s.spanThrottle
    let s := (s.setFlag .spanUp true).setLat .spanAt s.grain
    (s.setFlag .spanLong long).setFlag .spanLongNext long

/-- The span stamp (R281). -/
def State.spanStamp (s : State) : State :=
  let s := (s.setReg .PTP_SPAN_NS s.time.ns).setReg .PTP_SPAN_S_LO s.time.sec
  (s.setReg .PTP_SPAN_S_HI (s.time.sec / 2 ^ 32 % 2 ^ 16)).setReg .PTP_SPAN_CNT (s.spanCount % 2 ^ 32)

/-- A commit of this span boundary that was not launched ends here (R237, R247). -/
def State.staticEnd (s : State) : State :=
  match s.commit with
  | some c =>
    if c.kind.isStatic && !c.edge && c.launched != some true then
      let s := if c.launched.isNone && s.engOwns c.bank then s.engSuppressed else s
      let s := ((s.setLat .cfgReq 0).setLat .cfgHeld 0).setRbit .CFG_STATUS 4 false
      { s.setRbit .CFG_STATUS 5 true with commit := none }
    else s
  | none => s

/-! ### Open causes (R159, R340) -/

/-- The tile is in a campaign (R340). -/
def State.tileCampaign (s : State) (t : Nat) : Bool := s.calStage t == 2

/-- The mode that the boundary finds closes loops. -/
def State.loopMode (s : State) : Bool := s.boundaryMode == .static || s.boundaryMode == .slotted

/-- The cell is marked faulted (R403). -/
def State.cellFaulted (s : State) (t c : Nat) : Bool := s.mapBit .RTE_FAULT 0 (64 * t + c)

/-- An open cause is in force for a channel (R159, R133); a channel without a role stays OPEN (R153). LOOP_OPEN is
taken as it stood before this grain (R502). -/
def State.openCause (s : State) (t c : Nat) : Bool :=
  !s.loopMode || s.tileHold t || s.tileCampaign t || s.before.mapBit .LOOP_OPEN t c || s.cellFaulted t c ||
    !s.refSettled t || s.chRole t c == 0

/-- LOOP_ISOPEN from this boundary on (R174). -/
def State.setOpen (s : State) (t : Nat) : State :=
  forUpto 64 s (fun c s => s.setMapBit .LOOP_ISOPEN t c (s.openCause t c))

/-- The input words of the span (R203, R212). -/
def State.latchInputs (s : State) (t : Nat) : State :=
  let s := forUpto 64 s (fun c s =>
    let w := b2n (s.mapBit .LOOP_ISOPEN t c) + b2n (s.tileCampaign t) * 2 + b2n (s.spanCount % 16 == 0) * 4 +
      b2n (s.tileLong t) * 8 + s.chRole t c * 16 + b2n (s.cellFaulted t c) * 64 + b2n (s.fallback t) * 128
    (s.setLat .engCond w t c).setLat .engAct (s.tfld .HTR_PARTS t 15 0 c) t c)
  s.setLat .engVdrv (s.reg .HLT_V 2 % 2 ^ 16 : Nat) t

/-! ### Loads of the boundary (R67, R76, R77, R158, R204) -/

/-- The player drives the heater of a cell (R190). -/
def State.playerDrives (s : State) (t c : Nat) : Bool :=
  s.swpBusy && (List.range 64).any (fun p =>
    let m := s.reg .SWP_MAP p
    bit m 31 && bits m 13 0 == 64 * t + c && s.lat .swpOut p != 0)

/-- The loop_code register of a channel loads in each half from the half's own output bank, but for an output
computed in a HOLD (R27, R204); a half in a rejoin takes what the ACTIVE half takes (R378). The output and LOOP_LIM
follow the token holder. -/
def State.loadBanks (s : State) (t c : Nat) : State :=
  let h := s.token t
  let o := fun k => s.nlat .engOut t (64 * k + c)
  let v := fun k => if s.flag .holdCut t (64 * k + c) then s.nlat .loopAct t (64 * k + c) else o k % 65536
  let w := s.treg .RED_REJOIN t
  let u := fun k => if bits w 31 30 ≠ 0 ∧ bits w 29 29 = k then v (1 - k) else v k
  let s1 := s.setLoopAct t c (u 0) (u 1)
  if s.flag .holdCut t (64 * h + c) then s1
  else (s1.loadLoop t c (o h % 65536)).setMapBit .LOOP_LIM t c (bit (o h) 16)

/-- The heater of one channel at the boundary: its mode boundary, or the load of its source. At the boundary at
which loops open into CHARACTERISE the outputs keep their last values (R22). An output computed in a HOLD is
discarded (R27). Where nothing loads, a token move shows the new holder's register (R66), but not in HOLD, which
freezes the code: DEDUCED (log entry 67). What software writes counts as it stood before this grain (R502). -/
def State.heaterBoundary (s : State) (t c : Nat) (load : Bool) : State :=
  let held := s.tileHold t || s.inHold
  if s.before.flag .htrModePend t c && s.flag .htrModePend t c && !held && !s.sable then s.htrModeBoundary t c
  else if s.boundaryMode = .characterise ∧ s.tileHold t = false then
    if s.playerDrives t c || s.nlat .modeWas t == Mode.static.code + 1 then s
    else s.loadMan t c (s.before.tfld .HTR_MAN t 15 0 c)
  else if load && s.loopMode && !s.tileHold t && !bit (s.nlat .engCond t c) 0 then s.loadBanks t c
  else if held then s
  else s.selectLoop t c

/-- The registers of the snapshot (R204). -/
def snapRegs : List Reg := [.LOOP_I, .LOOP_M, .LOOP_E, .LOOP_WBAR, .LOOP_GN, .LOOP_RSP, .LOOP_ST]

/-- The snapshot of the token holder's data memory (R204). -/
def State.snapshot (s : State) (t : Nat) : State :=
  let h := s.token t
  forUpto 64 s (fun c s => forUpto 7 s (fun w s =>
    s.setTreg (snapRegs.getD w .LOOP_I) t (s.dmWord t h (32 * c + w)) c))

/-- Gentle moves of a tile at the boundary (R181, R185): loads while its loops may close, and the end of
the moves in CHARACTERISE. -/
def State.movesBoundary (s : State) (t : Nat) : State :=
  forUpto 64 s (fun c s =>
    if s.boundaryMode = .characterise then (if s.prfRunning t c then s.prfEnd t c else s)
    else if s.tileCampaign t then s.prfPause t c
    else if s.boundaryMode = .static ∧ s.tileHold t = false then
      (s.setFlag .prfPaused false t c).prfBoundary t c
        (fun s code => s.loadDrv t c code 0 (s.tbit .DRV_ACTIVE t 28 c) true)
    else s)

/-! ### One tile -/

/-- The record bank of the span that ends is given to the tile's span after next (R205). -/
def State.freeRecords (s : State) (t : Nat) : State :=
  forUpto 64 s (fun c s =>
    let k := s.recIx t c
    ((s.setLat .loopRec 0 t k 6).setLat .loopRec 0 t k 7).setLat .loopRec 0 t k 8)

/-- P13 and P14 clear, and their occurrences are taken (R209, R419). -/
def State.takeEvents (s : State) (t : Nat) : State :=
  let s := (s.setFlag .engEvt false t 0).setFlag .engEvt false t 1
  (s.evtTake t).evtTake (0x100 + t)

/-- The boundary at which a span of tile t begins. With no half ACTIVE no bank loads (R376). -/
def State.tileBoundary (s : State) (t : Nat) : State :=
  let first := s.tileN t == 0
  let s := s.leaveTileHold t
  let load := !s.flag .decNoLoad t && !first
  let s := (s.redBoundary t).setFlag .decNoLoad false t
  let s := if first then s else s.snapshot t
  let s := s.freeRecords t
  let s := (s.setLat .tileN (s.lat .tileN t + 1) t).setLat .tileSpan (s.lat .span) t
  let s := s.setLat .tileSpanAt s.grain t
  let load := load && s.halfState t (s.token t) == 1
  let s := forUpto 64 s (fun c s => s.heaterBoundary t c load)
  let s := forUpto 128 s (fun k s => s.setFlag .holdCut false t k)
  let s := s.setLat .modeWas (s.boundaryMode.code + 1 : Nat) t
  let s := s.calBoundaryEnd t
  let s := s.movesBoundary t
  let s := (s.setOpen t).latchInputs t
  let s := s.takeEvents t
  let s := forUpto 4 s (fun k s => s.setFlag .ctSent false t k)
  let s := s.streamBoundary t (s.flag .spanLong && !s.fallback t)
  let s := (s.owtBoundary t).ddsBoundary t
  (s.calBoundaryBegin t).trimBoundary t

/-- A tile at a device span boundary: it enters fallback when due (R143), and in fallback one of its
spans begins at every second boundary of short spans (R144). -/
def State.tileAtBoundary (s : State) (t : Nat) : State :=
  let k := s.spanCount
  let long := s.flag .spanLong
  let s := if s.fallbackDue t k s.grain long then s.setTbit .ADC_STATUS t 7 true else s
  if s.fallback t && !fallbackMayBegin k long then s else s.tileBoundary t

/-! ### The boundary -/

/-- A span boundary falls in this grain (R124, R281): the first at the grain whose count is the first to reach a whole
multiple of 4,000 ns, each later one a span after the one before it. -/
def State.spanDue (s : State) : Bool :=
  if s.flag .spanUp then s.grain == s.nextSpanAt
  else s.flag .spanReady && decide (s.time0.total / (4000 * 2 ^ 32) < s.time.total / (4000 * 2 ^ 32))

/-- A span boundary passes: `hbU` and `hbO` are the heartbeats of the slot-timer halves in the span that
ends. Without a slot-timer half there is no span tick (R388). -/
def State.spanBoundary (s : State) (hbU hbO : Nat) : State :=
  if s.spanDue = false ∨ (s.slotHalf 0 = 0 ∧ s.slotHalf 1 = 0) then s
  else
    let first := !s.flag .spanUp
    let s := s.nextSpan.spanStamp
    let s := if first then s else s.slotPairBoundary hbU hbO
    let s := s.staticEnd
    let s := if s.lat .calArm = 2 && s.calState == 3 then s.calApply else s
    let s := forIn' s.tiles s (fun t s => s.tileAtBoundary t)
    s.engSpan

/-- SPAN_BOUNDARY (R158): bit 0 of `hbU` and `hbO` says that the heartbeat of the Umber or Ochre half came
on the interlock path, bit 1 on the management path. -/
def execSpanBoundary (hbU hbO : Nat) (s : State) : Host.Outcome State Fault Refusal :=
  okIf (decide (hbU < 4 ∧ hbO < 4)) (s.spanBoundary hbU hbO)

end Sys2Proof.Machine
end

