-- ==== Sys2Proof/Machine/Sable.lean ====
section
/-! DEFINITION. Entry into SABLE (R21, R22, R94, R407 to R411, R440, R445). -/
namespace Sys2Proof.Machine

/-- Every output takes its Sable codes (R94). -/
def State.forceAll (s : State) : State := forIn' s.tiles s (fun t s => forUpto 64 s (fun c s => s.forceSable t c))

/-- What the Sable line does when it has reached every block (R407): outputs, trims, moves, signalling,
the 1PPS output, DMA channel 15, the Plovom links, the mode; the flight routine starts. -/
def State.sableEntry (s : State) : State :=
  if s.sable = true ∧ s.mode ≠ .sable then
    let s := if s.flag .imgUp then s.forceAll else s.setRbit .FLT_STATUS 5 true
    let s := s.cutPulses.trimDiscardAll.sysAbandonAll
    let s := s.prfEndAll.portsDown
    let s := s.setLat .ppsOut 0
    let s := if 1 ≤ s.dmaState 15 ∧ s.dmaState 15 ≤ 3 then s.dmaAbort 15 else s
    let s := (s.plvDown 0 3).plvDown 1 3
    (s.setFlag .flightRun (!s.flag .mgtFail)).enterMode .sable
  else s

/-- SABLE_ENTRY (R407). -/
def execSableEntry (s : State) : Host.Outcome State Fault Refusal := okIf true s.sableEntry

end Sys2Proof.Machine
end

