-- ==== Sys2Proof/Machine/Reset.lean ====
section
/-! DEFINITION. The four kinds of reset (R458 to R461, R22, R411), what the failure of an image slot
discards (R471), the thermal restart (R360), and the TAP (R501). -/
namespace Sys2Proof.Machine

/-- The kinds of reset (R460). -/
inductive ResetKind where
  | power
  | pin
  | command
  | internal
deriving DecidableEq, Repr

/-- DRAM contents survive (R460). -/
def ResetKind.keepsDram : ResetKind → Bool
  | .power | .pin => false
  | .command | .internal => true

/-- A place in the register store belongs to a register. -/
def Reg.owns (r : Reg) (k : Nat) : Bool := k / 2 ^ 33 == r.ctorIdx

/-- A place in the store of internal words belongs to a word. -/
def Lat.owns (l : Lat) (k : Nat) : Bool := k / 2 ^ 33 == l.ctorIdx

/-- The state with the registers and internal words of two lists kept and all others at reset. -/
def State.keepOnly (s : State) (rs : List Reg) (ls : List Lat) : State :=
  { s with regs := s.regs.filter (fun e => rs.any (fun r => r.owns e.1)),
           lats := s.lats.filter (fun e => ls.any (fun l => l.owns e.1)) }

/-- The boot area is the last 32 MiB of the usable DRAM (R460): the offset of its first byte. -/
def State.bootArea (s : State) : Nat := less s.dramSize (2 ^ 25)

/-- Registers that a frozen record keeps through a reset (R411). -/
def frozenRegs : List Reg := [.FLT_REC_STATUS, .FLT_REC_TIME, .FLT_LOG, .FLT_SEQ]

/-- Registers that a command or internal reset keeps (R360, R460). -/
def faultRegs : List Reg := [.FLT_FATAL, .THM_RESTARTS, .THM_SHUT_INFO]

/-- A reset of a kind (R460): what it keeps, and every other piece of state as after power-on. A trim pulse in
progress is cut as BOOT is entered (R59, R106). -/
def State.resetTo (s : State) (k : ResetKind) : State :=
  let frozen := s.frozen && k != ResetKind.power
  let rs := [Reg.MGT_STRAP, .MGT_FUSE] ++ (if frozen then frozenRegs else []) ++ (if k.keepsDram then faultRegs else [])
  let s := if k = ResetKind.power then s else s.cutPulses
  let ls := (if k = ResetKind.power then [] else [Lat.tapIr, .tapOut]) ++ (if frozen then [Lat.sampHist, .histN] else []) ++
    (if k.keepsDram then [Lat.tapCut] else [])
  let kept := s.keepOnly rs ls
  let r := { State.reset with
    pending := s.pending, freeCtr := s.freeCtr, flash := s.flash, regs := kept.regs, lats := kept.lats,
    grain := if k = ResetKind.power then 0 else s.grain,
    slotHist := if frozen then s.slotHist else [],
    dram := if k.keepsDram then s.dram.filter (fun e => decide (e.1 < s.bootArea)) else [],
    dramUe := if k.keepsDram then s.dramUe.filter (fun w => decide (32 * w < s.bootArea)) else [] }
  let r := ((r.setLat .rstAt r.grain).setLat .rstSeed (s.freeCtr + 1)).setLat .hotAt (r.grain + 1)
  let r := ({ r with freeCtr := s.freeCtr + 1 }).setRbit .MGT_FUSE 8 false
  if k = ResetKind.power then r else r.setRbit .MGT_HOLD_CAUSE 0 (s.rbit .MGT_HOLD_CAUSE 0)

/-- The straps are latched (R461). -/
def State.latchStraps (s : State) (straps : Nat) : State := s.setReg .MGT_STRAP (straps % 32)

/-- POWER_ON_RESET (R458): the power-on reset is released with the straps given; while RESET_N is
still low, BOOT waits for its release. -/
def execPowerOnReset (straps : Nat) (low : Bool) (s : State) : Host.Outcome State Fault Refusal :=
  okIf (decide (straps < 32)) <|
    let s := (s.resetTo ResetKind.power).latchStraps straps
    if low then s.setLat .bootStep 20 else s

/-- POWER_LOSS (R459): the rails go away. A pulse in progress is cut, and so is the record that is
being programmed: `cut` are the bytes of it that reached the flash. -/
def execPowerLoss (cut : List Byte) (s : State) : Host.Outcome State Fault Refusal :=
  okIf (decide (cut.length ≤ 8)) <|
    let s := if s.wearQ.isEmpty then s else s.flashPut (s.logAddr (s.nlat .logUse) + s.reg .WEAR_LOG_FILL) cut
    (s.resetTo ResetKind.power).setLat .bootStep 20

/-- RESET_N_ASSERTED (R460): RESET_N has been low for 1 µs. -/
def execResetNAsserted (s : State) : Host.Outcome State Fault Refusal :=
  okIf true ((s.resetTo .pin).setLat .bootStep 20)

/-- Network time starts at 0 (R265). -/
def State.clearTime (s : State) : State := { s with time := ⟨0, 0, 0⟩, time0 := ⟨0, 0, 0⟩ }

/-- RESET_N_RELEASED (R457, R461): the straps are latched and BOOT starts; network time reads 0 (R265) and the tiles
begin to leave reset (R186); the TAP drives no pin any more (R501). -/
def execResetNReleased (straps : Nat) (s : State) : Host.Outcome State Fault Refusal :=
  okIf (decide (straps < 32)) <|
    if s.lat .bootStep = 20 then
      let s := ((s.latchStraps straps).setLat .bootStep 0).clearTime
      let s := (s.setLat .rstAt s.grain).setLat .hotAt (s.grain + 1)
      if 2 ≤ s.nlat .tapIr ∧ s.nlat .tapIr ≤ 4 then (s.setLat .tapIr 1).setLat .tapOut 0 else s
    else s

/-! ### Thermal restart (R360) -/

/-- Every condition of the thermal restart holds. -/
def State.restartDue (s : State) : Bool :=
  s.mode == .sable && s.flag .shutSable && !s.flag .otherFatal && s.rbit .THM_CTRL 31 &&
    decide (s.nlat .hotAt + 1000000000 ≤ s.grain + 1) &&
    (s.flag .dumpDone || decide (s.nlat .sableAt + 10000000000 ≤ s.grain + 1))

/-- THERMAL_RESTART (R360). -/
def execThermalRestart (s : State) : Host.Outcome State Fault Refusal :=
  okIf true (if s.restartDue then (s.satAdd .THM_RESTARTS).resetTo .internal else s)

/-! ### A slot fails (R471) -/

/-- Registers that show the part itself and not what a slot has set. -/
def partRegs : List Reg :=
  [.MGT_MODE, .MGT_BOOT, .MGT_STRAP, .MGT_FUSE, .MGT_HOLD_CAUSE, .MGT_CMD_STATUS, .MGT_CMD_RES0, .FLT_STATUS,
    .FLT_SEQ, .FLT_CNT, .FLT_REC_STATUS, .FLT_REC_TIME, .FLT_FATAL, .FLT_LOG, .THM_RESTARTS, .THM_SHUT_INFO,
    .TILE_TEMP, .TILE_TEMP_MAX, .DRAM_STATUS, .DRAM_SIZE, .DRAM_CE_CNT, .DRAM_UE_CNT, .DRAM_ERR_ADDR, .PLV_STATUS,
    .PLV_LSTATUS, .PLV_CRC_ERR, .PLV_REPLAY, .PLV_UR]

/-- Internal words of the part itself. -/
def partLats : List Lat :=
  [.tempOut, .tempHist, .tempN, .tempMaxUp, .sensLast, .sensLost, .rorSent, .shutRun, .hotAt, .shutSable, .otherFatal,
    .sableAt, .dumpDone, .fltLast, .unackOvf, .relAt, .plvTx, .plvRx, .plvLim, .plvInit, .plvUsed, .plvGot, .plvCtl, .sampHist, .histN,
    .rstAt, .rstSeed, .tapCut, .bootStep, .bootSlot, .bootNext, .bootSel, .flashSize, .flash8D, .warmAt, .mgtFail, .tapIr, .tapOut, .cmdOp]

/-- All that a slot has applied is discarded (R471): registers at their reset values; map, ledger, banks
and working SRAM cleared. PTP_STATUS.VALID clears only at a reset (R265). -/
def State.discard (s : State) : State :=
  let valid := s.rbit .PTP_STATUS 1
  let s := (s.keepOnly partRegs partLats).setRbit .PTP_STATUS 1 valid
  ({ s with banks := [], bankEcc := [], sram := [], wearQ := [], tlb := [] }).setRbit .MGT_FUSE 8 false

/-! ### The TAP (R501) -/

/-- The instructions that drive pins. -/
def tapDrives (ir : Nat) : Bool := decide (2 ≤ ir ∧ ir ≤ 4)

/-- TAP_INSTRUCTION (R501): an instruction is selected: 0 IDCODE, 1 BYPASS, 2 EXTEST, 3 CLAMP, 4 INTEST,
5 SAMPLE. One that drives pins acts as BYPASS unless RESET_N is asserted. -/
def execTapInstruction (ir : Nat) (s : State) : Host.Outcome State Fault Refusal :=
  okIf (decide (ir < 6)) <|
    let ir := if tapDrives ir && s.lat .bootStep != 20 then 1 else ir
    (s.setLat .tapIr ir).setLat .tapOut (if ir = 0 then 0x11024F63 else 0)

end Sys2Proof.Machine
end

