-- ==== Sys2Proof/Machine/Image.lean ====
section
/-! DEFINITION. The configuration image in flash: its format and the checks of R465 that need only the
slot's bytes (R463 to R467, R61, R63). -/
namespace Sys2Proof.Machine

/-! ### Reading an image (R464) -/

/-- Flash address of a slot (R463). -/
def slotAddr (slot : Nat) : Nat := 0x2000000 * slot

/-- A byte of a slot in flash. -/
def State.slotByte (s : State) (slot o : Nat) : Byte := s.flashByte (slotAddr slot + o)

/-- A 32-bit word of an image at a byte offset. -/
def imgU32 (rd : Nat → Byte) (o : Nat) : Nat := leVal ((List.range 4).map (fun k => rd (o + k)))

/-- A big-endian number of 48 bytes. -/
def imgBig (rd : Nat → Byte) (o : Nat) : Nat := beVal ((List.range 48).map (fun k => rd (o + k)))

/-- TOTAL. -/
def imgTotal (rd : Nat → Byte) : Nat := imgU32 rd 12

/-- NSEC. -/
def imgNsec (rd : Nat → Byte) : Nat := bits (imgU32 rd 4) 7 0

/-- KEYIDX. -/
def imgKeyIdx (rd : Nat → Byte) : Nat := bits (imgU32 rd 16) 8 8

/-- SVN. -/
def imgSvnOf (rd : Nat → Byte) : Nat := bits (imgU32 rd 16) 5 0

/-- A section: its TYPE, OFFSET and LENGTH. -/
structure Section where
  ty : Nat
  off : Nat
  len : Nat
deriving DecidableEq, Repr

/-- The section table. -/
def imgSections (rd : Nat → Byte) : List Section :=
  (List.range (imgNsec rd)).map (fun n => ⟨bits (imgU32 rd (64 + 16 * n)) 7 0, imgU32 rd (68 + 16 * n), imgU32 rd (72 + 16 * n)⟩)

/-- The first section of a type. -/
def imgFind (rd : Nat → Byte) (ty : Nat) : Option Section := (imgSections rd).find? (fun x => x.ty == ty)

/-! ### The checks (R465) -/

/-- Check 0x01: MAGIC, VERSION, NSEC and TOTAL. -/
def imgHeaderOk (rd : Nat → Byte) : Bool :=
  imgU32 rd 0 == 0x474D4951 && bits (imgU32 rd 4) 15 8 == 1 && decide (1 ≤ imgNsec rd ∧ imgNsec rd ≤ 10) &&
    imgTotal rd % 256 == 0 && decide (512 ≤ imgTotal rd ∧ imgTotal rd ≤ 33554176)

/-- The part of check 0x06 that comes before training: DRAMP is located through the section table. -/
def imgDramp (rd : Nat → Byte) : Option Section :=
  match (imgSections rd).filter (fun x => x.ty == 1) with
  | [x] =>
    if (imgSections rd).all (fun y => decide (x.off ≤ y.off)) && x.len == 12 && decide (x.off + 12 ≤ imgTotal rd) then some x else none
  | _ => none

/-- Check 0x02: the public key is the one whose hash is fused. -/
def imgKeyOk (rd : Nat → Byte) : Bool :=
  sha384 ((List.range 96).map (fun k => rd (imgTotal rd + k))) == Config.keyHash (imgKeyIdx rd) % 2 ^ 384

/-- Check 0x05: the signature over bytes 0..TOTAL - 1. -/
def imgSigned (rd : Nat → Byte) : Bool :=
  let t := imgTotal rd
  ecdsaOk (imgBig rd t) (imgBig rd (t + 48)) (sha384 ((List.range t).map rd)) (imgBig rd (t + 96)) (imgBig rd (t + 144))

/-- The length that a section's format requires (R467). -/
def sectionLenOk (rd : Nat → Byte) (x : Section) : Bool :=
  match x.ty with
  | 1 => x.len == 12
  | 2 => x.len == 45072
  | 3 => x.len == 36
  | 4 => decide (4 ≤ x.len ∧ x.len ≤ 4 + 2 ^ 20)
  | 5 =>
    let n := imgU32 rd x.off
    decide (184 ≤ x.len) && decide (184 + 4 * n ≤ x.len)
  | 6 => x.len % 2052 == 0
  | 7 => x.len % 12 == 0
  | 8 => x.len == 22528
  | 9 => x.len == 11264
  | 10 => x.len == 16
  | _ => false

/-- Two sections do not overlap. -/
def sectionsApart (x y : Section) : Bool := decide (x.off + x.len ≤ y.off ∨ y.off + y.len ≤ x.off)

/-- Every pair of a list of sections is apart. -/
def allApart : List Section → Bool
  | [] => true
  | x :: r => r.all (sectionsApart x) && allApart r

/-- Check 0x07 of boot step 5: the section table. -/
def imgTableOk (rd : Nat → Byte) : Bool :=
  let xs := imgSections rd
  xs.all (fun x => decide (1 ≤ x.ty ∧ x.ty ≤ 10)) && (xs.map (·.ty)).Nodup &&
    [1, 2, 3, 5, 10].all (fun ty => xs.any (fun x => x.ty == ty)) &&
    xs.all (fun x => x.off % 16 == 0 && decide (320 ≤ x.off) && decide (x.off + x.len ≤ imgTotal rd) && sectionLenOk rd x) &&
    allApart xs && (imgDramp rd).isSome

/-- The first of checks 0x02 to 0x05 and 0x07 that an image fails (boot step 5); 0 for none. -/
def State.imgStep5 (s : State) (rd : Nat → Byte) : Nat :=
  if !imgKeyOk rd then 0x02
  else if imgKeyIdx rd = 0 ∧ s.rbit .MGT_FUSE 16 = true then 0x03
  else if imgSvnOf rd < s.fld .MGT_FUSE 5 0 then 0x04
  else if !imgSigned rd then 0x05
  else if !imgTableOk rd then 0x07
  else 0

/-- What IMG_CHECK finds (R474): checks 0x01 to 0x05 and 0x07. -/
def State.imgCheck (s : State) (slot : Nat) : Nat :=
  if !imgHeaderOk (s.slotByte slot) then 0x01 else s.imgStep5 (s.slotByte slot)

/-! ### The fabric map (R61, R63) -/

/-- Entry c of a fabric map section at a byte offset. -/
def fmapEntry (rd : Nat → Byte) (o c : Nat) : Nat := imgU32 rd (o + 16 + 4 * c)

/-- The role of an entry. -/
def entryRole (e : Nat) : Nat := bits e 31 30

/-- The entries with a role, as (STAGE, INDEX). -/
def fmapPlaces (rd : Nat → Byte) (o role : Nat) : List (Nat × Nat) :=
  ((List.range 11264).filter (fun c => entryRole (fmapEntry rd o c) == role)).map (fun c =>
    let e := fmapEntry rd o c
    (bits e 25 21, bits e 9 0))

/-- A fabric map is accepted (R63). Each (STAGE, INDEX) pair, port and row occurs exactly once: the
places are within range, different, and as many as R44 gives. -/
def fmapOk (rd : Nat → Byte) (o : Nat) : Bool :=
  let n := bits (imgU32 rd (o + 4)) 3 0
  let half := 2 ^ n / 2
  let sw := fmapPlaces rd o 1
  let at' := fmapPlaces rd o 2
  let sp := fmapPlaces rd o 3
  imgU32 rd o == 0x50414D46 && bits (imgU32 rd (o + 4)) 31 4 == 0x10 && decide (4 ≤ n ∧ n ≤ 10) &&
    imgU32 rd (o + 8) == 0 && imgU32 rd (o + 12) == 0 &&
    (List.range 11264).all (fun c =>
      let e := fmapEntry rd o c
      bits e 29 26 == 0 && bits e 20 10 == 0 && (entryRole e != 0 || e == 0)) &&
    sw.all (fun p => decide (p.1 ≤ 2 * n - 2 ∧ p.2 < half)) && sw.Nodup && sw.length == (2 * n - 1) * half &&
    at'.all (fun p => p.1 == 0 && decide (p.2 < 2 ^ n)) && at'.Nodup && at'.length == 2 ^ n &&
    sp.all (fun p => p.1 == 0 && decide (p.2 < half)) && sp.Nodup && sp.length == half

end Sys2Proof.Machine
end

