-- ==== Sys2Proof/Machine/Command.lean ====
section
/-! DEFINITION. The device commands (R474 to R479). -/
namespace Sys2Proof.Machine

/-! ### Status (R476, R477, R480) -/

/-- INIT of an initiator. -/
def initCode : Initiator → Nat
  | .plv0 => 1
  | .plv1 => 2
  | .core | .dma => 0

/-- BUSY. -/
def State.cmdBusy (s : State) : Bool := s.rbit .MGT_CMD_STATUS 31

/-- BOOT that is loading: neither BOOT_WAIT nor BOOT_FAIL is set (R474). -/
def State.loading (s : State) : Bool := s.mode == .boot && !s.rbit .MGT_MODE 10 && !s.rbit .MGT_MODE 11

/-- BOOT_FAIL is set. -/
def State.bootFailed (s : State) : Bool := s.mode == .boot && s.rbit .MGT_MODE 11

/-- The status register of a command that is accepted or done. `keep` leaves LOST, which only the next
accepted command clears; a status STATE is a refusal (R11). -/
def State.cmdStatus (s : State) (busy keep : Bool) (ini st : Nat) : State :=
  let w := (if busy then 2 ^ 31 else 2 ^ 30) + 2 ^ 16 * ini + st
  let w := if keep || st == 1 then w + 2 ^ 29 * s.fld .MGT_CMD_STATUS 29 29 else w
  let s := s.setReg .MGT_CMD_STATUS w
  if st = 1 then s.refuse .MGT_CMD else s

/-! ### Legality (R474) -/

/-- NVM_READ, NVM_WRITE, NVM_ERASE and IMG_CHECK are legal. -/
def State.nvmLegal (s : State) : Bool := !s.loading && s.mode != .sable

/-- A command of the management cores is legal in the present mode, and the cores run (R474, R477). -/
def State.coreLegal (s : State) (op : Nat) : Bool :=
  !s.flag .mgtFail && ((6 ≤ op && op ≤ 9 && s.nvmLegal) || (op == 10 && (s.inRun || s.inHold)))

/-- MODE (R22): the status and the state after it. -/
def State.modeCommand (s : State) : Nat × State :=
  match s.fld .MGT_CMD_ARG 2 0 0 with
  | 1 => s.modeCharacterise
  | 2 => s.modeStatic
  | _ => (if s.mode = .static ∨ s.mode = .characterise then 2 else 1, s)

/-- BOOT_SLOT (R474): what failed is discarded, and BOOT runs again from step 2. -/
def State.bootSlotCommand (s : State) : Nat × State :=
  let a := s.fld .MGT_CMD_ARG 1 0 0
  if !s.bootFailed || s.flag .mgtFail then (1, s)
  else if a = 3 then (2, s)
  else
    let s := (s.discard.setRbit .MGT_MODE 11 false).setReg .MGT_BOOT 0xFFFF
    (0, (s.setLat .bootStep 0).setLat .bootSel (if a = 2 then 0 else a + 1 : Nat))

/-- A device command that is not refused for BUSY: `op` from an initiator, the arguments in
MGT_CMD_ARG (R474). RESET has no status; the mode controller and BOOT_SLOT answer at once; the rest
stay BUSY. -/
def State.deviceCommand (s : State) (ini : Initiator) (op : Nat) : State :=
  let fin := fun (r : Nat × State) => r.2.cmdStatus false false (initCode ini) r.1
  match op with
  | 1 => s.resetTo .command
  | 2 => fin s.modeCommand
  | 3 => fin s.deviceHold
  | 4 => fin s.deviceRelease
  | 5 => fin s.bootSlotCommand
  | _ =>
    if s.coreLegal op then (s.cmdStatus true false (initCode ini) 0).setLat .cmdOp (op + 1 : Nat)
    else s.cmdStatus false false (initCode ini) 1

/-- A write of MGT_CMD (R477): refused while BUSY, with LOST set. -/
def State.mgtCmdWrite (s : State) (ini : Initiator) (w : Nat) : State :=
  if s.cmdBusy then (s.refuse .MGT_CMD).setRbit .MGT_CMD_STATUS 29 true else s.deviceCommand ini (bits w 31 24)

/-- The arguments are written; refused while BUSY (R480). -/
def State.argWrite (s : State) (k v : Nat) : State :=
  if s.cmdBusy then s.refuse .MGT_CMD_ARG 0 k else s.setReg .MGT_CMD_ARG v k

/-- An initiator writes the arguments of a command and then MGT_CMD. -/
def State.command (s : State) (ini : Initiator) (op : Nat) (args : List Nat) : State :=
  (forUpto args.length s (fun k s => s.argWrite k (args.getD k 0))).mgtCmdWrite ini (2 ^ 24 * op)

/-- RESET_CMD (R474). -/
def execResetCmd (ini : Initiator) (s : State) : Host.Outcome State Fault Refusal := okIf true (s.command ini 1 [])

/-- MODE_CMD_CHARACTERISE (R22, R474). -/
def execModeCmdCharacterise (ini : Initiator) (s : State) : Host.Outcome State Fault Refusal := okIf true (s.command ini 2 [1])

/-- MODE_CMD_STATIC (R22, R134, R474). -/
def execModeCmdStatic (ini : Initiator) (s : State) : Host.Outcome State Fault Refusal := okIf true (s.command ini 2 [2])

/-- DEVICE_HOLD_CMD (R474). -/
def execDeviceHoldCmd (ini : Initiator) (s : State) : Host.Outcome State Fault Refusal := okIf true (s.command ini 3 [])

/-- DEVICE_RELEASE_CMD (R24, R474). -/
def execDeviceReleaseCmd (ini : Initiator) (s : State) : Host.Outcome State Fault Refusal := okIf true (s.command ini 4 [])

/-- BOOT_SLOT (R474). -/
def execBootSlot (ini : Initiator) (slot : Nat) (s : State) : Host.Outcome State Fault Refusal :=
  okIf (decide (slot < 2 ^ 32)) (s.command ini 5 [slot])

/-- NVM_READ (R474). -/
def execNvmRead (ini : Initiator) (off n lo hi : Nat) (s : State) : Host.Outcome State Fault Refusal :=
  okIf (decide (off < 2 ^ 32 ∧ n < 2 ^ 32 ∧ lo < 2 ^ 32 ∧ hi < 2 ^ 32)) (s.command ini 6 [off, n, lo, hi])

/-- NVM_WRITE (R474, R475). -/
def execNvmWrite (ini : Initiator) (off n lo hi : Nat) (s : State) : Host.Outcome State Fault Refusal :=
  okIf (decide (off < 2 ^ 32 ∧ n < 2 ^ 32 ∧ lo < 2 ^ 32 ∧ hi < 2 ^ 32)) (s.command ini 7 [off, n, lo, hi])

/-- NVM_ERASE (R474, R475). -/
def execNvmErase (ini : Initiator) (off n : Nat) (s : State) : Host.Outcome State Fault Refusal :=
  okIf (decide (off < 2 ^ 32 ∧ n < 2 ^ 32)) (s.command ini 8 [off, n])

/-- IMG_CHECK (R474). -/
def execImgCheck (ini : Initiator) (slot : Nat) (s : State) : Host.Outcome State Fault Refusal :=
  okIf (decide (slot < 2 ^ 32)) (s.command ini 9 [slot])

/-- FUSE_SVN (R474). -/
def execFuseSvn (ini : Initiator) (s : State) : Host.Outcome State Fault Refusal := okIf true (s.command ini 10 [1])

/-- FUSE_REVOKE0 (R474). -/
def execFuseRevoke0 (ini : Initiator) (s : State) : Host.Outcome State Fault Refusal := okIf true (s.command ini 10 [2])

/-- MGT_CMD_BUSY_WRITE (R477): a write of MGT_CMD. -/
def execMgtCmdBusyWrite (ini : Initiator) (value : Nat) (s : State) : Host.Outcome State Fault Refusal :=
  okIf (decide (value < 2 ^ 32)) (s.mgtCmdWrite ini value)

/-! ### What the management cores do (R474, R475) -/

/-- The ranges of flash overlap. -/
def overlaps (a n b m : Nat) : Bool := decide (a < b + m ∧ b < a + n)

/-- A flash range is protected (R475). -/
def State.protected' (s : State) (a n : Nat) : Bool :=
  !s.bootFailed && ((s.rbit .MGT_BOOT 31 && overlaps a n (slotAddr (s.fld .MGT_BOOT 24 24)) 0x2000000) ||
    (!s.loading && overlaps a n (s.nlat .logBase) (s.nlat .logBytes)))

/-- Bytes of a memory range that the cores may use for NVM commands (R474): working SRAM or the DRAM
window, all in one of them. -/
def State.nvmMem (s : State) (a n : Nat) : Bool :=
  match s.target a, s.target (a + n - 1) with
  | some (.sram, _), some (.sram, _) => true
  | some (.dram, _), some (.dram, _) => true
  | _, _ => false

/-- `n` bytes whose values nothing fixes. -/
def State.freeBytes (s : State) : Nat → List Byte × State
  | 0 => ([], s)
  | n + 1 =>
    let (v, s) := s.draw 8
    let (bs, s) := s.freeBytes n
    (BitVec.ofNat 8 v :: bs, s)

/-- The memory address of an NVM command. -/
def State.nvmAddr (s : State) : Nat := 2 ^ 32 * s.fld .MGT_CMD_ARG 7 0 3 + s.reg .MGT_CMD_ARG 2

/-- The arguments of an NVM command are in range and aligned (R474, R475). -/
def State.nvmArgsOk (s : State) (op : Nat) : Bool :=
  let off := s.reg .MGT_CMD_ARG 0
  let n := s.reg .MGT_CMD_ARG 1
  let a := s.nvmAddr
  decide (off + n ≤ s.nlat .flashSize) && decide (0 < n) &&
    match op with
    | 6 => n % 4 == 0 && decide (n ≤ 16777216) && s.nvmMem a n
    | 7 => off % 256 == 0 && n % 256 == 0 && s.nvmMem a n
    | _ => off % 65536 == 0 && n % 65536 == 0

/-- The flash is read into memory, page by page as far as `n` bytes. -/
def State.nvmCopy (s : State) (off a n : Nat) : State := if n = 0 then s else (s.memPut .core a (s.flashBytes off n)).2

/-- The bytes that a program command takes from memory; a word that cannot be read gives zeros (R435). -/
def State.nvmSource (s : State) (a n : Nat) : List Byte × State :=
  match s.memGet .core a n with
  | (.ok bs, s) => (bs, s)
  | (_, s) => (List.replicate n 0#8, s)

/-- NVM_WRITE and NVM_ERASE change the first `n` bytes of their range. -/
def State.nvmChange (s : State) (op off a n : Nat) : State :=
  if n = 0 then s
  else if op = 7 then
    let (bs, s) := s.nvmSource a n
    s.flashPut off bs
  else s.flashErase off n

/-- An NVM command ends (R474 to R476): `done` bytes of its range were reached, and `err` says that the
flash operation then failed. The status, and the state. What a failed program or erase leaves in its
page or sector is not specified. -/
def State.nvmRun (s : State) (op done : Nat) (err : Bool) : Nat × State :=
  let off := s.reg .MGT_CMD_ARG 0
  let n := s.reg .MGT_CMD_ARG 1
  let a := s.nvmAddr
  if !s.nvmArgsOk op then (2, s)
  else if op ≠ 6 ∧ s.protected' off n = true then (4, s)
  else
    let unit := if op = 8 then 65536 else if op = 7 then 256 else 4
    let k := min n (done / unit * unit)
    let part := fun (m : Nat) => if op = 6 then s.nvmCopy off a m else s.nvmChange op off a m
    if err && k < n then
      let s := part k
      let s := if op = 6 then s else
        let (bs, s) := s.freeBytes unit
        s.flashPut (off + k) bs
      (5, s.send 0x119 0x74 (off + k))
    else if s.sable then (1, part k)
    else (0, part n)

/-- IMG_CHECK ends. -/
def State.imgCheckRun (s : State) (done : Nat) (err : Bool) : Nat × State :=
  let slot := s.fld .MGT_CMD_ARG 0 0 0
  if err then (5, (s.setReg .MGT_CMD_RES0 0x0C).send 0x119 0x74 (slotAddr slot + done))
  else
    let c := s.imgCheck slot
    (if c = 0 then 0 else 3, s.setReg .MGT_CMD_RES0 c)

/-- FUSE ends. -/
def State.fuseRun (s : State) : Nat × State :=
  match s.reg .MGT_CMD_ARG 0 with
  | 1 => (0, s.setFld .MGT_FUSE 5 0 (max (s.fld .MGT_FUSE 5 0) (s.nlat .imgSvn)))
  | 2 => if s.rbit .MGT_FUSE 8 then (0, s.setRbit .MGT_FUSE 16 true) else (3, s)
  | _ => (2, s)

/-! ### Device commands in frames (R479) -/

/-- The reply to a device-command frame. -/
def State.mgmtReply (s : State) (r : CircReq) (st : Nat) : List Byte :=
  let o := payOff r.bytes
  let head := slice r.bytes 6 6 ++ beBytes 6 s.selfMac ++ slice r.bytes 12 (4 * tagCount r.bytes) ++ beBytes 2 0x88B6
  let f := head ++ slice r.bytes o 4 ++ beBytes 2 st ++ beBytes 2 0 ++ slice r.bytes (o + 8) 16 ++ beBytes 4 (s.reg .MGT_CMD_RES0)
  f ++ List.replicate (60 - f.length) 0#8

/-- The reply to the frame that firmware has still to answer is queued. -/
def State.mgmtAnswer (s : State) : State :=
  match s.mgmt with
  | none => s
  | some r => { s with mgmt := none }.enqueue r.port 7 (s.mgmtReply r (s.fld .MGT_CMD_STATUS 7 0))

/-- Firmware takes a device-command frame (R479): from a port of MGMTMASK, one command at a time. -/
def State.mgmtFrame (s : State) (port : Nat) (bs : List Byte) : State :=
  let o := payOff bs
  let r : CircReq := ⟨port, bs⟩
  let op := beVal (slice bs (o + 1) 1)
  if !s.flag .fwUp || s.flag .mgtFail || s.cmdBusy || !bit (s.nlat .startWord) (16 + port) || dstMac bs != s.selfMac ||
      etherType bs != 0x88B6 || decide (bs.length < o + 28) || beVal (slice bs o 1) != 1 then s
  else if op = 1 then { s.command .core 1 [] with sent := some ⟨port, 7, s.mgmtReply r 0⟩ }
  else
    let s := { s with mgmt := some r }.command .core op ((List.range 4).map (fun k => beVal (slice bs (o + 8 + 4 * k) 4)))
    if s.cmdBusy then s else s.mgmtAnswer

/-- MGMT_COMMAND_FRAME (R479). -/
def execMgmtCommandFrame (port : Nat) (frame : List Byte) (s : State) : Host.Outcome State Fault Refusal :=
  okIf (decide (port < 8 ∧ 14 ≤ frame.length ∧ frame.length ≤ 16384)) (s.mgmtFrame port frame)

/-- The command of the management cores completes (R476, R477). -/
def State.cmdDone (s : State) (done : Nat) (err : Bool) : State :=
  if s.lat .cmdOp = 0 then s
  else
    let op := s.nlat .cmdOp - 1
    let ini := s.fld .MGT_CMD_STATUS 17 16
    let s := s.setLat .cmdOp 0
    let (st, s) :=
      if s.flag .mgtFail then (1, s)
      else if op = 9 then s.imgCheckRun done err
      else if op = 10 then s.fuseRun
      else s.nvmRun op done err
    (s.cmdStatus false true ini st).mgmtAnswer

/-- DEVICE_COMMAND_DONE (R476): the command in progress completes. `done` is how far into its range it
came, and `err` says that a flash operation failed there. -/
def execDeviceCommandDone (done : Nat) (err : Bool) (s : State) : Host.Outcome State Fault Refusal :=
  okIf (decide (done < 2 ^ 32)) (s.cmdDone done err)

end Sys2Proof.Machine
end

