-- ==== Sys2Proof/Machine/Bus.lean ====
section
/-! DEFINITION. Accesses over the bus matrix (R5 to R11, R428 to R431): which registers may be written
when and with what, what a write or a read does, and reads and writes of the memories. -/
namespace Sys2Proof.Machine

/-! ### Idle (R11) -/

/-- The matrix port of an initiator (R428). -/
def busPort : Initiator → Port
  | .core => .core
  | .plv0 | .plv1 => .plv
  | .dma => .dma

/-- No enabled entry of the event router names a channel (R426). -/
def State.evtChIdle (s : State) (c : Nat) : Bool :=
  (List.range 640).all (fun i =>
    !(s.rbit .EVT_SRC 31 i && s.fld .EVT_SRC 8 0 i == c) && !(s.rbit .EVT_SUB 31 i && s.fld .EVT_SUB 8 0 i == c))

/-- The owner of a translation stream is idle (R454). -/
def State.streamIdle (s : State) (k : Nat) : Bool :=
  if k < 16 then s.dmaState k == 0 || s.dmaState k == 4 || s.dmaState k == 3
  else if k < 24 then !s.rbit .DMA_CAP_CTRL 0 (k - 16)
  else s.swpState == 0 || s.swpState == 4

/-- The block of an RWL register element is open or idle (R11, and the rule named at each Lock). -/
def State.idle (s : State) (k : Lock) (t i : Nat) : Bool :=
  match k with
  | .none => true
  | .drv => s.mcIdle t
  | .adc => s.mode == .characterise
  | .cap => !s.rbit .DMA_CAP_CTRL 0 i
  | .loopTile => s.treg .LOOP_ISOPEN t 0 == 0xFFFFFFFF && s.treg .LOOP_ISOPEN t 1 == 0xFFFFFFFF
  | .loopCh => s.mapBit .LOOP_ISOPEN t i
  | .rc0 => !(s.running && s.fld .SLOT_RC_CTRL 4 4 == 0)
  | .rc1 => !(s.running && s.fld .SLOT_RC_CTRL 4 4 == 1)
  | .prf => s.treg .PRF_RUN t 0 == 0 && s.treg .PRF_RUN t 1 == 0
  | .dds => s.tfld .DDS_STATUS t 1 1 != i
  | .swpMap => s.swpState == 0 || s.swpState == 4
  | .swpSeg => !s.segActive i
  | .list => s.listIdle i
  | .cfg => !s.armed && !s.running
  | .rte => !s.rbit .RTE_STATUS 31
  | .sigBank => s.reqQ.isEmpty && s.eng.all (fun e => e.phase == .gentle)
  | .ringRX => !s.rbit .SIG_M_RX_CTRL 31
  | .ringTX => !s.rbit .SIG_M_TX_CTRL 31
  | .port => !s.rbit .SIG_PORT_CFG 31 i
  | .fwdBusy => !s.rbit .FWD_STATUS 31 i
  | .pol => !s.rbit .POL_CFG 31 i
  | .moveProf => (List.range 1024).all (fun p => s.fld .MOVE_PORT 3 0 p != i)
  | .cal => decide (s.fld .CAL_STATUS 31 30 < 2)
  | .evtCh => s.evtChIdle i
  | .dma => s.dmaState i == 0 || s.dmaState i == 4
  | .mmu => s.streamIdle i
  | .mgtCmd => !s.cmdBusy

/-! ### Values that are refused -/

/-- The levels after a write of one of them satisfy R357. -/
def State.levelsOk (s : State) (r : Reg) (v : Nat) : Bool :=
  let lv := fun (x : Reg) => sx 16 (if x = r then v % 2 ^ 16 else s.reg x)
  decide (lv .THM_WARN < lv .THM_THROT ∧ lv .THM_THROT < lv .THM_SHUT ∧ lv .THM_SHUT ≤ 16000 ∧
    lv .THM_RESTART ≤ lv .THM_THROT ∧ 50 ≤ lv .THM_HYST ∧ lv .THM_HYST ≤ 1000)

/-- A write of SWP_MAP names a cell with a role that no other enabled channel names (R190). -/
def State.mapOk (s : State) (p v : Nat) : Bool :=
  let c := bits v 13 0
  decide (c < 11264) && s.role c != 0 &&
    (List.range 64).all (fun q => q == p || !s.rbit .SWP_MAP 31 q || s.fld .SWP_MAP 13 0 q != c)

/-- A signed value lies within a bound. -/
def within (b : Int) (v : Nat) : Bool := decide (-b ≤ sx 32 v ∧ sx 32 v ≤ b)

/-- The floor of a kind's class (R399): LOG, INT or SABLE. -/
def kindFloor (k : Nat) : Nat :=
  match kindClass k with
  | 0 | 1 => 0
  | 2 => 1
  | _ => 4

/-- The value may be written to the register (the rule of the register's own table). -/
def State.valueOk (s : State) (r : Reg) (i v : Nat) : Bool :=
  match r with
  | .DRV_CTRL => v % 4 != 3
  | .TRIM_CTRL => decide (bits v 11 0 ≤ 3839)
  | .TRIM_DWELL | .ADC_OWT | .PTP_SERVO_HOLD | .RED_HOLD_BOUND | .THM_ROR => bits v 15 0 != 0
  | .DMA_CAP_SIZE => decide (12 ≤ bits v 4 0 ∧ bits v 4 0 ≤ 30)
  | .SLOT_RC_CTRL => decide (1024 ≤ bits v 31 16 ∧ bits v 31 16 ≤ 16384)
  | .LOOP_WMIN => decide (1 ≤ v ∧ v < 2 ^ 31)
  | .LOOP_CTRL => decide (bits v 31 16 ≤ 0x7FFF)
  | .SWP_SEG_LEN => bits v 23 0 != 0
  | .DDS_FREQ => decide (4295 ≤ v ∧ v ≤ 171799)
  | .DDS_AMP => decide (bits v 15 0 ≤ 32767)
  | .FLT_REACT => decide (kindFloor i ≤ bits v 2 0 ∧ bits v 2 0 ≤ 4)
  | .SWP_STEP => decide (1 ≤ v ∧ v ≤ 0x1000000)
  | .SWP_MAP => s.mapOk i v
  | .MC_LOAD_CTRL => bits v 1 0 != 3 && !s.loadBusy
  | .MC_LOAD_ADDR_LO | .MC_LOAD_ADDR_HI | .MC_LOAD_TILES => !s.loadBusy
  | .CFG_DRAM_COUNT => decide (bits v 16 0 ≤ 65536)
  | .SLOT_GUARD => decide (40 ≤ bits v 15 0 ∧ bits v 15 0 ≤ 1000)
  | .PTP_SET_NS => decide (bits v 29 0 < 1000000000)
  | .PTP_SERVO_LIM => decide (v ≤ 0x418937)
  | .PTP_PPSIN_DLY | .PTP_PPSOUT_DLY => within 1000000 v
  | .FWD_AGE => bits v 19 0 == 0 || decide (10 ≤ bits v 19 0 ∧ bits v 19 0 ≤ 1000000)
  | .FWD_FLAP => decide (1 ≤ bits v 11 0 ∧ bits v 11 0 ≤ 3600)
  | .SHP_QLIM => decide (1 ≤ bits v 8 0 ∧ bits v 8 0 ≤ 384)
  | .CAL_TIMING => decide (256 ≤ bits v 31 16 ∧ 1 ≤ bits v 15 0 ∧ bits v 15 0 ≤ 1024)
  | .CAL_CTRL => bits v 19 16 != 0 && decide (50 ≤ bits v 15 0 ∧ bits v 15 0 ≤ 2000)
  | .THM_WARN | .THM_THROT | .THM_SHUT | .THM_RESTART | .THM_HYST => s.levelsOk r v
  | .HLT_VFAIL => decide (s.fld .HLT_VWARN 31 16 i ≤ bits v 31 16 ∧ bits v 15 0 ≤ s.fld .HLT_VWARN 15 0 i)
  | .RED_MGT_WDT => decide (10 ≤ bits v 15 0)
  | .EVT_CH => bits v 17 16 != 3
  | .DRAM_SCRUB => decide (1 ≤ bits v 15 0 ∧ bits v 15 0 ≤ 8760)
  | _ => true

/-- Firmware only (R424, R431). -/
def coreOnly (r : Reg) : Bool := r == .EVT_CH || r == .EVT_CTRL || r == .EVT_GROUPS || r == .MGT_REMAP

/-! ### Writing a register (R7, R9) -/

/-- The word that a write leaves: writable bits taken, W1C bits cleared by a 1, reserved bits ignored. A bit that
hardware has set in the present cycle, which was 0 in `was`, stays set (R10). -/
def writtenWord (d : RegDesc) (was old v : Nat) : Nat :=
  let v := v % 2 ^ 32
  andNot (andNot old d.rw ||| (v &&& d.rw)) (v &&& d.w1c &&& was)

/-- A word written by software: the W1C bits of it that a 1 clears count as cleared when the cycle began (R10). -/
def State.putWord (s : State) (r : Reg) (t i j v : Nat) : State :=
  let d := r.desc
  let was := s.before.treg r t i j
  let s := s.setTreg r t (writtenWord d was (s.treg r t i j) v) i j
  if v &&& d.w1c = 0 then s else s.setBefore r t (andNot was (v &&& d.w1c)) i j

/-- A write by access code (R9): refused under R11 where the register is locked and RWL bits would
change (where all its bits are RWL, whatever the value), or where the value is not allowed. `img` is the
image, which no lock stops (R468). -/
def State.plainWrite (s : State) (r : Reg) (t i j v : Nat) (img : Bool) : State :=
  let d := r.desc
  let old := s.treg r t i j
  let lockHit := d.rwl != 0 && (d.rwl == d.rw || ((old ^^^ v) &&& d.rwl) != 0)
  if !img && lockHit && !s.idle d.lock t i then s.refuse r t i j
  else if s.valueOk r i v then s.putWord r t i j v
  else s.refuse r t i j

/-- A write of HTR_MODE (R77): a channel whose bit changes waits for its mode boundary. The image loads the
buffers as well (R78). -/
def State.htrModeWrite (s : State) (t i v : Nat) (img : Bool) : State :=
  let old := s.treg .HTR_MODE t i
  let s := s.plainWrite .HTR_MODE t i 0 v img
  let new := s.treg .HTR_MODE t i
  forUpto 32 s (fun b s =>
    if img then s.setFlag .htrBuffer (bit new b) t (32 * i + b)
    else if bit (old ^^^ new) b then s.setFlag .htrModePend true t (32 * i + b)
    else s)

/-- A write of ADC_RANGE or ADC_CTRL: the inputs that convert in the range of ADC_RANGE follow it (R131). -/
def State.rangeWrite (s : State) (r : Reg) (t i v : Nat) (img : Bool) : State := (s.plainWrite r t i 0 v img).rangeFollow t

/-- A write of DRV_BLOCK or HTR_BLOCK: in SABLE the code that the Sable line selects follows it (R94). -/
def State.blockWrite (s : State) (r : Reg) (t i v : Nat) (img : Bool) : State :=
  let s := s.plainWrite r t i 0 v img
  if s.mode = .sable ∧ s.flag .imgUp = true then s.forceSable t i else s

/-- A write of DMA_CAP_CTRL (R148, R151). -/
def State.capCtrlWrite (s : State) (r v : Nat) : State :=
  let was := s.rbit .DMA_CAP_CTRL 0 r
  let s := s.plainWrite .DMA_CAP_CTRL 0 r 0 v false
  if bit v 0 && !was then s.capEnable r else s

/-- A write of PLV_LCTRL (R445): a link that is no longer enabled goes down. -/
def State.lctrlWrite (s : State) (l v : Nat) : State :=
  let s := s.setReg .PLV_LCTRL (2 ^ 31 * bits v 31 31) l
  if bit v 31 || s.rbit .MGT_STRAP 3 || s.bootFailed then s else s.plvDown l 3

/-- A write of EVT_INST (R418, R427): refused for a tile not in use; OVR clears; PEND of a firmware interrupt is taken. -/
def State.evtInstWrite (s : State) (i v : Nat) : State :=
  if (match evtTile true i with
    | some t => !s.inUse t
    | none => false) then s.refuse .EVT_INST 0 i
  else
  let s := if bit v 30 then s.putWord .EVT_INST 0 i 0 (2 ^ 30) else s
  if bit v 31 && decide (0x200 ≤ i ∧ i < 0x220) then s.irqTake i else s

/-- A write of MC_DM_DATA (R230). -/
def State.dmDataWrite (s : State) (t v : Nat) : State :=
  if s.mcIdle t then
    let h := s.tfld .MC_DM_ADDR t 16 16
    let a := s.tfld .MC_DM_ADDR t 12 0
    let s := s.setDm t h a v
    if a < 0x1F00 then s else s.setLat .dmOwn (s.lat .dmBase t h) t (256 * h + a % 256)
  else s.refuse .MC_DM_DATA t

/-- A write to a register element: the registers whose write does more than load a value, and every other
by its access code. `img` marks the writes of the image. -/
def State.regWrite (s : State) (ini : Initiator) (r : Reg) (t i j v : Nat) (img : Bool) : State :=
  if coreOnly r && !isCore ini then s.refuse r t i j
  else
  match r with
  | .SLOT_SKEW_APPLY => s.skewApply v
  | .TILE_SKEW_NEXT => if s.campaign then s.setRbit .CAL_STATUS 0 true else s.plainWrite r t i j v img
  | .HTR_MODE => s.htrModeWrite t i v img
  | .DRV_BLOCK | .HTR_BLOCK => s.blockWrite r t i v img
  | .ADC_RANGE | .ADC_CTRL => s.rangeWrite r t i v img
  | .HTR_SWAP => s.htrSwap t (bits v 8 8) (bits v 5 0)
  | .TRIM_CMD => s.trimCommand t v
  | .TRIM_TSET => s.writeTset t i j v
  | .WEAR_QUERY => s.wearQuery v
  | .ADC_SYSCAL => s.sysCommand t v
  | .ADC_OWT_CMD => s.owtCommand t v
  | .ADC_REF => if img || s.idle .adc t 0 then s.refEnable t (bit v 0) else s.refuse .ADC_REF t
  | .DMA_CAP_CTRL => s.capCtrlWrite i v
  | .DDS_SWAP => if bit v 0 ∨ s.tbit .DDS_STATUS t 2 then s.ddsSwap t else s
  | .SWP_CMD => s.swpCmdWrite v
  | .SWP_JUMP => s.swpJumpWrite (bits v 7 0)
  | .MC_LOAD_CMD => if bit v 0 then s.mcLoadStart else s
  | .MC_DM_DATA => s.dmDataWrite t v
  | .SLOT_CMD => s.slotCmdWrite v
  | .THM_CTRL => s.thmCtrlWrite v
  | .CFG_COMMIT => s.cfgCommit (bits v 8 0) (bit v 31)
  | .RTE_CMD => s.rteStart (bits v 3 0)
  | .PTP_CTRL => s.ptpCtrlWrite v
  | .PTP_CMD => s.ptpCmdWrite v
  | .PTP_INCR_FRAC => s.incrFracWrite v
  | .PTP_INCR_NS => s.incrNsWrite v
  | .PTP_SERVO_OFS => s.offerOffset 0 (sx 32 v)
  | .PTP_PPSIN_CTRL => s.ppsInWrite v
  | .PTP_PPSOUT_CTRL => s.ppsOutWrite v
  | .SIG_M_RX_CTRL => s.ringCtrlWrite .SIG_M_RX_CTRL v
  | .SIG_M_TX_CTRL => s.ringCtrlWrite .SIG_M_TX_CTRL v
  | .SIG_M_TX_WP => s.txWpWrite (bits v 5 0)
  | .SIG_PORT_CFG => s.portCfgWrite i v
  | .FWD_CMD => s.fwdStart i (bits v 3 0)
  | .LPM_CMD => if bits v 1 0 = 0 then s else s.lpmStart (bits v 1 0)
  | .LPM_GROUP => s.lpmGroupWrite i v
  | .LPM_KEY => s.setReg .LPM_KEY (if i = 4 then v % 2 ^ 16 else v % 2 ^ 32) i
  | .POL_CFG => s.polCfgWrite i v
  | .MOVE_CMD => s.moveCmdWrite v
  | .MOVE_PORT => s.movePortWrite i v
  | .CAL_CMD => s.calCmdWrite v
  | .RED_TCMD => s.tileCommand t v
  | .RED_SLOT_CMD => s.slotPairCommand v
  | .RED_MGT_HB => s.setLat .hbAt (s.grain + 1)
  | .FLT_ACK => if bit v 31 then s.ackAll else s.ackOne (bits v 30 0)
  | .FLT_REC_CMD => s.recCmdWrite v
  | .EVT_SWPUB => s.swPublish ini (bits v 2 0)
  | .EVT_SRC => s.evtEntryWrite ini false i v
  | .EVT_SUB => s.evtEntryWrite ini true i v
  | .EVT_INST => s.evtInstWrite i v
  | .DMA_CH_CMD => s.dmaCmdWrite i v
  | .MMU_INV => s.mmuInvWrite v
  | .PLV_LCTRL => s.lctrlWrite i v
  | .MGT_CMD => s.mgtCmdWrite ini v
  | .MGT_CMD_ARG => s.argWrite i v
  | _ => s.plainWrite r t i j v img

/-! ### Reading a register (R8, R9) -/

/-- A register element exists: the event router has gaps in its index spaces (R418, R419). -/
def elementOk (r : Reg) (i : Nat) : Bool :=
  match r with
  | .EVT_SRC => evtSource i
  | .EVT_SUB | .EVT_INST | .EVT_MERGED => evtInput i
  | _ => true

/-- MGT_MODE (R29). -/
def State.modeWord (s : State) : Nat :=
  s.mode.code + s.prior.code * 16 + 256 * b2n s.campaign + 512 * b2n s.throttled + 1024 * s.fld .MGT_MODE 11 10

/-- A sample of the sample history of a tile: round n of 64, oldest first (R410); 0 before it. -/
def State.histSample (s : State) (t n i : Nat) : Nat :=
  let h := s.nlat .histN t (i / 64)
  if h + n < 64 then 0 else s.nlat .sampHist t ((h + n - 64) % 65 * 128 + i)

/-- A word of the slot history, oldest record first. -/
def State.histWord (s : State) (n w : Nat) : Nat :=
  match s.slotHist[n]? with
  | none => 0
  | some q => match w with
    | 0 => q.w0
    | 1 => q.w1
    | 2 => q.w2
    | _ => q.w3

/-- The length of the whole flight record (R412). -/
def State.recordSize (s : State) : Nat := 256 + 32768 + 4096 + 106496 + s.tiles.length * (36864 + 16384)

/-- The present value of a register element: the stored word, or the word that its rule computes. -/
def State.regValue (s : State) (r : Reg) (t i j : Nat) : Nat :=
  match r with
  | .MGT_MODE => s.modeWord
  | .PTP_TIME_FRAC => s.time.frac
  | .PTP_TIME_NS => s.time.ns
  | .PTP_TIME_S_LO => s.time.sec % 2 ^ 32
  | .PTP_TIME_S_HI => s.time.sec / 2 ^ 32 % 2 ^ 16
  | .SLOT_POS => s.fld .SLOT_POS 9 0 + 2 ^ 31 * b2n (s.mode == .slotted)
  | .DDS_N => s.ddsN t s.grain
  | .THM_HOT => s.hotValue i
  | .LOOP_PMIN => max (s.treg .LOOP_PMIN t i j) 1
  | .SWP_SEGACT => (List.range 32).foldl (fun w b => w + b2n (s.segActive (32 * i + b)) * 2 ^ b) 0
  | .MC_DM_DATA => s.dmPort t (s.tfld .MC_DM_ADDR t 16 16) (s.tfld .MC_DM_ADDR t 12 0)
  | .FWD_COUNT => (s.mac.filter (fun e => e.1 / 65536 == i)).length
  | .LPM_COUNT => s.lpm.length
  | .SIG_REQ_STATUS => s.reg .SIG_REQ_STATUS + 4 * b2n (!s.reqQ.isEmpty || s.eng.isSome)
  | .PLV_STATUS => s.reg .PLV_STATUS % 4 + 4 * b2n (!s.mbox.isEmpty)
  | .FLT_STATUS => setBit (s.reg .FLT_STATUS) 2 s.sable
  | .FLT_UNACK_N => s.unacks.length
  | .FLT_REC_SIZE => s.recordSize
  | .FLT_SLOTHIST => s.histWord i j
  | .FLT_SAMPHIST =>
    let t := s.fld .FLT_HIST_SEL 7 0
    let at' := fun k => s.histSample t (k / 128) (k % 128)
    if t < 176 then at' (2 * i) + 65536 * at' (2 * i + 1) else 0
  | _ => s.treg r t i j

/-- The values wider than 32 bits whose words are registers of their own (R8): the least significant word, and
the higher words in rising order. -/
def wideRegs : List (Reg × List Reg) :=
  [(.MGT_MODE_STAMP_NS, [.MGT_MODE_STAMP_S_LO, .MGT_MODE_STAMP_S_HI]),
   (.PTP_TIME_FRAC, [.PTP_TIME_NS, .PTP_TIME_S_LO, .PTP_TIME_S_HI]),
   (.PTP_PPSIN_FRAC, [.PTP_PPSIN_NS, .PTP_PPSIN_S_LO, .PTP_PPSIN_S_HI]),
   (.PTP_TXTS_FRAC, [.PTP_TXTS_NS, .PTP_TXTS_S_LO, .PTP_TXTS_S_HI]),
   (.PTP_SPAN_NS, [.PTP_SPAN_S_LO, .PTP_SPAN_S_HI, .PTP_SPAN_CNT]),
   (.PTP_SET_NS, [.PTP_SET_S_LO, .PTP_SET_S_HI]), (.PTP_INCR_FRAC, [.PTP_INCR_NS]),
   (.CAL_LAST_NS, [.CAL_LAST_S_LO, .CAL_LAST_S_HI]),
   (.SLOT_BASE_NS, [.SLOT_BASE_S_LO, .SLOT_BASE_S_HI]), (.SLOT_START_NS, [.SLOT_START_S_LO, .SLOT_START_S_HI]),
   (.SLOT_PEND_TC_LO, [.SLOT_PEND_TC_HI]), (.SLOT_OP_TC_LO, [.SLOT_OP_TC_HI]),
   (.SLOT_RC_BASE0_LO, [.SLOT_RC_BASE0_HI]), (.SLOT_RC_BASE1_LO, [.SLOT_RC_BASE1_HI]),
   (.CFG_DRAM_BASE_LO, [.CFG_DRAM_BASE_HI]), (.WEAR_BASE_LO, [.WEAR_BASE_HI]), (.DMA_CAP_BASE_LO, [.DMA_CAP_BASE_HI]),
   (.SWP_SEG_LO, [.SWP_SEG_HI]), (.MC_LOAD_ADDR_LO, [.MC_LOAD_ADDR_HI]), (.SIG_SELF_LO, [.SIG_SELF_HI]),
   (.SIG_M_RX_BASE_LO, [.SIG_M_RX_BASE_HI]), (.SIG_M_TX_BASE_LO, [.SIG_M_TX_BASE_HI]),
   (.FLT_REC_BASE_LO, [.FLT_REC_BASE_HI]), (.DMA_CH_DESC_LO, [.DMA_CH_DESC_HI]), (.DMA_CH_CUR_LO, [.DMA_CH_CUR_HI]),
   (.DMA_CH_FAULT_LO, [.DMA_CH_FAULT_HI]), (.MMU_INV_IOVA_LO, [.MMU_INV_IOVA_HI]), (.MMU_ROOT_LO, [.MMU_ROOT_HI])]

/-- Elements of a register whose elements are the words of one value (R8): the time of the flight record (R411)
and the LPM key (R315). -/
def wideElems : Reg → Nat
  | .FLT_REC_TIME => 4
  | .LPM_KEY => 5
  | _ => 0

/-- The higher words, as register and element, that a read of the least significant word captures (R8). -/
def higherWords (r : Reg) (i : Nat) : List (Reg × Nat) :=
  match wideRegs.find? (fun e => e.1 == r) with
  | some e => e.2.map (fun q => (q, i))
  | none => if i = 0 then (List.range (wideElems r - 1)).map (fun k => (r, k + 1)) else []

/-- The register's element is read from the snapshot (R8). -/
def isHigher (r : Reg) (i : Nat) : Bool := wideRegs.any (fun e => e.2.contains r) || (i != 0 && wideElems r != 0)

/-- The higher words are captured. -/
def State.snapWords (s : State) (r : Reg) (t i : Nat) : State :=
  { s with
    snap := (higherWords r i).foldl
      (fun m q => spSet m (q.1.key t q.2 0) (BitVec.ofNat 32 (s.regValue q.1 t q.2 0))) s.snap }

/-- A write of a higher word ends its snapshot: the word then reads what was last written or accepted (R9). -/
def State.snapDrop (s : State) (r : Reg) (t i j : Nat) : State :=
  { s with snap := s.snap.filter (fun e => e.1 != r.key t i j) }

/-- The word that a read of a register element returns; before any capture a higher word is the present
one. -/
def State.readWord (s : State) (r : Reg) (t i j : Nat) : Nat :=
  if isHigher r i then
    match spFind s.snap (r.key t i j) with
    | some w => w.toNat
    | none => s.regValue r t i j
  else s.regValue r t i j

/-- The host may not see an entry of the event router (R425). -/
def State.evtHidden (s : State) (ini : Initiator) (r : Reg) (i : Nat) : Bool :=
  !isCore ini &&
    match r with
    | .EVT_SRC => s.evtSec (s.fld .EVT_SRC 8 0 i)
    | .EVT_SUB | .EVT_INST | .EVT_MERGED => s.evtSec (s.fld .EVT_SUB 8 0 i)
    | _ => false

/-- TILE_TEMP_MAX has been raised in the present cycle. -/
def State.maxRaised (s : State) (t : Nat) : Bool :=
  s.treg .TILE_TEMP_MAX t != s.before.treg .TILE_TEMP_MAX t || s.flag .tempMaxUp t && !s.before.flag .tempMaxUp t

/-- A read clears the RS field, which is the whole register (R9); what hardware has added in the present cycle stays
(R10). -/
def State.clearRead (s : State) (r : Reg) (t i j : Nat) : State :=
  if r.desc.rs = 0 then s
  else
    let v := s.treg r t i j
    let s1 :=
      if r = .TILE_TEMP_MAX then
        if s.maxRaised t then s else (s.setTreg r t 0).setFlag .tempMaxUp false t
      else s.setTreg r t (less v (s.before.treg r t i j)) i j
    let s1 := s1.setBefore r t 0 i j
    if r = .TILE_TEMP_MAX then { s1 with lats0 := (s1.before.setFlag .tempMaxUp false t).lats } else s1

/-- What a read returns: of an RS register the value before what hardware has added in the present cycle (R10). -/
def State.readBefore (s : State) (r : Reg) (t i j : Nat) : Nat :=
  if r.desc.rs = 0 then s.readWord r t i j else s.before.treg r t i j

/-- A read of a register element. -/
def State.regRead (s : State) (ini : Initiator) (r : Reg) (t i j : Nat) : State :=
  if s.evtHidden ini r i then s.respond false 0
  else
  match r with
  | .MC_CS_DATA => if i = 0 then s.csRead t else s.respond false (s.treg r t i j)
  | .PTP_TXTS_ID => s.txtsRead i
  | .PLV_MBOX_IDX => s.mboxRead
  | _ => ((s.snapWords r t i).clearRead r t i j).respond false (s.readBefore r t i j)

/-! ### The capability list (R33 to R37) -/

/-- The header of a capability entry: NEXT, version 1, ID. -/
def capHeader (next id : Nat) : Nat := 2 ^ 16 * next + 0x100 + id

/-- The words of the capability list, the entries one after the other (log entry 13); the words that are
registers of their own stand as 0. -/
def State.capWords (s : State) : List Nat :=
  [capHeader 0x10 0x01, 0, 0, 0] ++
  [capHeader 0x34 0x02, 176, 0x01200006, 0, 0, 0, 0, 0, 0] ++
  [capHeader 0x44 0x03, 3840 * 2 ^ 16 + 4096, 32, 1] ++
  [capHeader 0x54 0x04, 512, 65536, 1024] ++
  [capHeader 0x60 0x05, 10 * 2 ^ 4 + 4, 1] ++
  [capHeader 0x68 0x06, 24] ++
  [capHeader 0x74 0x07, 3, 1] ++
  [capHeader 0x80 0x08, 2 * 2 ^ 8 + 8, 1] ++
  [capHeader 0x88 0x09, 64] ++
  [capHeader 0x90 0x0A, 3] ++
  [capHeader 0x98 0x0B, 4 * 2 ^ 4 + 2] ++
  [capHeader 0 0x0C, s.nlat .frBytes / 1024]

/-- The word of the capability list at an address, where it has one. -/
def State.capWord (s : State) (a : Nat) : Option Nat :=
  if 0x400000 ≤ a then s.capWords[(a - 0x400000) / 4]? else none

/-! ### Accesses of 32 bits (R5, R6, R32, R428) -/

/-- The register element at an address, where the part has one: a tile not in use has none (R32). -/
def State.regOf (s : State) (a : Nat) : Option (Reg × Nat × Nat × Nat) :=
  match regAt a with
  | some (r, t, i, j) => if (r.desc.tiled && !s.inUse t) || !elementOk r i then none else some (r, t, i, j)
  | none => none

/-- An aligned write of 32 bits. -/
def State.busWrite (s : State) (ini : Initiator) (a v : Nat) : State :=
  match s.target a with
  | none => s.addrFault a
  | some (tg, o) =>
    if !pathOk (busPort ini) tg true then s.addrFault a
    else
      match tg with
      | .rom => s.addrFault a
      | .sram => (s.sramWrite o (leBytes 4 v)).respond false 0
      | .dram => (s.dramWrite o (leBytes 4 v)).respond false 0
      | .cfgb => (s.bankWrite o v).respond false 0
      | .reg | .tile =>
        match s.regOf a with
        | none => if (s.capWord a).isSome then s.respond false 0 else s.addrFault a
        | some (r, t, i, j) => ((s.regWrite ini r t i j (v % 2 ^ 32) false).snapDrop r t i j).respond false 0

/-- An aligned read of 32 bits. -/
def State.busRead (s : State) (ini : Initiator) (a : Nat) : State :=
  match s.target a with
  | none => s.addrFault a
  | some (tg, o) =>
    if !pathOk (busPort ini) tg false then s.addrFault a
    else
      match tg with
      | .rom => s.respond false (leVal (romBytes o 4))
      | .sram => s.respond false (leVal ((List.range 4).map (fun k => s.sramByte (o + k))))
      | .dram =>
        match s.dramBad o 4 with
        | some w => (s.dramError (32 * w)).respond true 0
        | none =>
          let s := s.dramMeet o 4
          { s with freeCtr := s.freeCtr + 1 }.respond false (s.dramVal o 4)
      | .cfgb =>
        let (v, s) := s.bankRead o
        match v with
        | some v => s.respond false v
        | none => s.respond true 0
      | .reg | .tile =>
        match s.regOf a with
        | none =>
          match s.capWord a with
          | some w => s.respond false w
          | none => s.addrFault a
        | some (r, t, i, j) => s.regRead ini r t i j

/-- An aligned access of 32 bits. -/
def State.busAccess (s : State) (ini : Initiator) (write : Bool) (a v : Nat) : State :=
  if write then s.busWrite ini a v else s.busRead ini a

/-- REGISTER_WRITE (R9): an aligned write of 32 bits. -/
def execRegisterWrite (ini : Initiator) (addr value : Nat) (s : State) : Host.Outcome State Fault Refusal :=
  okIf (decide (addr < 2 ^ 40 ∧ addr % 4 = 0 ∧ value < 2 ^ 32)) (s.busWrite ini addr value)

/-- RS_READ (R9): an aligned read of 32 bits. -/
def execRsRead (ini : Initiator) (addr : Nat) (s : State) : Host.Outcome State Fault Refusal :=
  okIf (decide (addr < 2 ^ 40 ∧ addr % 4 = 0)) (s.busRead ini addr)

/-- SNAPSHOT_READ (R8): an aligned read of 32 bits. -/
def execSnapshotRead (ini : Initiator) (addr : Nat) (s : State) : Host.Outcome State Fault Refusal :=
  okIf (decide (addr < 2 ^ 40 ∧ addr % 4 = 0)) (s.busRead ini addr)

/-- UNDEFINED_ADDRESS_ACCESS (R6): an aligned access of 32 bits. -/
def execUndefinedAddressAccess (ini : Initiator) (write : Bool) (addr value : Nat) (s : State) : Host.Outcome State Fault Refusal :=
  okIf (decide (addr < 2 ^ 40 ∧ addr % 4 = 0 ∧ value < 2 ^ 32)) (s.busAccess ini write addr value)

/-! ### Accesses of other widths (R5, R428) -/

/-- The address lies in memory, where any width is allowed. -/
def State.inMemory (s : State) (ini : Initiator) (write : Bool) (a : Nat) : Bool :=
  match s.target a with
  | some (tg, _) => (tg == .rom || tg == .sram || tg == .dram) && pathOk (busPort ini) tg write
  | none => false

/-- An access of `n` bytes that is not an aligned access of 32 bits (R5): in memory the bytes are read or
written; anywhere else it is an address fault. -/
def State.oddAccess (s : State) (ini : Initiator) (write : Bool) (a n v : Nat) : State :=
  if !s.inMemory ini write a then s.addrFault a
  else if write then
    let (ok, s) := s.memPut (busPort ini) a (leBytes n v)
    s.respond (!ok) 0
  else
    match s.memGet (busPort ini) a n with
    | (.ok bs, s) => s.respond false (leVal bs)
    | (_, s) => s.respond true 0

/-- MISALIGNED_ACCESS (R5): an access of 1, 2, 4, 8 or 16 bytes that is not an aligned access of 4. -/
def execMisalignedAccess (ini : Initiator) (write : Bool) (addr width value : Nat) (s : State) : Host.Outcome State Fault Refusal :=
  okIf (decide (addr < 2 ^ 40 ∧ width ∈ [1, 2, 4, 8, 16] ∧ ¬ (width = 4 ∧ addr % 4 = 0))) (s.oddAccess ini write addr width value)

/-- MGT_REMAP_WRITE (R431): a write of MGT_REMAP. -/
def execMgtRemapWrite (ini : Initiator) (value : Nat) (s : State) : Host.Outcome State Fault Refusal :=
  okIf (decide (value < 2 ^ 32)) (s.busWrite ini 0x410010 value)

end Sys2Proof.Machine
end

