-- ==== Sys2Proof/Machine/Boot.lean ====
section
/-! DEFINITION. BOOT (R462 to R473): flash discovery, DRAM training, the checks of a slot, what an accepted
image sets up, the wear ledger's rebuilding, the self-test, and the arm that follows. -/
namespace Sys2Proof.Machine

/-! ### Steps (R466, R470, R471) -/

/-- BOOT awaits the end of a step. -/
def State.bootAt (s : State) (k : Nat) : Bool :=
  s.loading && !s.sable && !s.flag .mgtFail && decide (s.lat .bootStep = k)

/-- The check code of a slot in MGT_BOOT (R480). -/
def State.bootCode (s : State) (slot code : Nat) : State := s.setFld .MGT_BOOT (8 * slot + 7) (8 * slot) code

/-- No slot is left, or the self-test failed: BOOT_FAIL (R22). -/
def State.bootFail (s : State) : State := (s.setRbit .MGT_MODE 11 true).setLat .bootStep 11

/-- Training starts with the first of the candidates; the other is tried when it fails. -/
def State.bootPlan (s : State) (cs : List Nat) : State :=
  match cs with
  | [] => s.bootFail
  | a :: r =>
    let s := (s.setLat .bootSlot a).setLat .bootNext (match r with | [] => 0 | b :: _ => b + 1 : Nat)
    s.setLat .bootStep 3

/-- The slot tried fails with a code (R471). -/
def State.slotFail (s : State) (code : Nat) : State :=
  let k := s.nlat .bootSlot
  let next := s.nlat .bootNext
  let s := ((s.bootCode k code).send 0x119 0x75 (256 * k + code)).discard
  s.bootPlan (if next = 0 then [] else [next - 1])

/-! ### Step 2: discovery (R462, R466) -/

/-- The slots whose headers are to be looked at: what BOOT_SLOT named, else what the straps say. -/
def State.bootSlots (s : State) : List Nat :=
  match s.nlat .bootSel, s.fld .MGT_STRAP 1 0 with
  | 1, _ => [0]
  | 2, _ => [1]
  | _, 0 => [0, 1]
  | _, 1 => [0]
  | _, 2 => [1]
  | _, _ => []

/-- A header has been read: check 0x01, or the read failed. -/
def State.headerCode (s : State) (slot : Nat) (err : Bool) : Nat :=
  if err then 0x0C else if imgHeaderOk (s.slotByte slot) then 0 else 0x01

/-- SEQ of a slot. -/
def State.slotSeq (s : State) (slot : Nat) : Nat := imgU32 (s.slotByte slot) 8

/-- The candidates in the order in which they are tried: higher SEQ first, A first when equal. -/
def State.candidates (s : State) (errA errB : Bool) : List Nat :=
  let cs := s.bootSlots.filter (fun k => s.headerCode k (if k = 0 then errA else errB) == 0)
  match cs with
  | [a, b] => if s.slotSeq a < s.slotSeq b then [b, a] else [a, b]
  | _ => cs

/-- Discovery is complete: the flash runs in 8D-8D-8D when STRAP_XSPI is 0 and it holds the profile table (R462). -/
def State.discovered (s : State) (size : Nat) (errA errB profile : Bool) : State :=
  let s0 := (s.setLat .flashSize size).setFlag .flash8D (profile && !s.rbit .MGT_STRAP 2)
  let s1 := forIn' s.bootSlots s0 (fun k s =>
    let c := s.headerCode k (if k = 0 then errA else errB)
    if c = 0 then s else s.bootCode k c)
  s1.bootPlan (s1.candidates errA errB)

/-- FLASH_DISCOVERY_DONE (R462, R466): what was found of the flash; `errA` and `errB` say that the read of a slot's
header failed. -/
def execFlashDiscoveryDone (found : FlashFound) (errA errB : Bool) (s : State) : Host.Outcome State Fault Refusal :=
  okIf (decide (found.size ≤ 2 ^ 32)) (if s.bootAt 0 then s.discovered found.size errA errB found.profile else s)

/-! ### Step 3: training (R434, R465) -/

/-- Usable MiB of DRAM by DENS: seven eighths of eight channels (R433, R467). -/
def densMiB (dens : Nat) : Nat := 3584 * (dens + 1)

/-- Training ends: `mask` names the channels that failed. -/
def State.trained (s : State) (mask : Nat) (err : Bool) : State :=
  let rd := s.slotByte (s.nlat .bootSlot)
  if err then s.slotFail 0x0C
  else match imgDramp rd with
    | none => s.slotFail 0x06
    | some x =>
      if mask ≠ 0 then (s.setReg .DRAM_STATUS (256 * mask)).slotFail 0x06
      else
        let s := (s.setReg .DRAM_STATUS (2 ^ 31)).setReg .DRAM_SIZE (densMiB (bits (imgU32 rd x.off) 1 0))
        s.setLat .bootStep 4

/-- DRAM_TRAINING_DONE (R434): `err` says that a flash read failed before training. -/
def execDramTrainingDone (mask : Nat) (err : Bool) (s : State) : Host.Outcome State Fault Refusal :=
  okIf (decide (mask < 256)) (if s.bootAt 3 then s.trained mask err else s)

/-! ### Steps 4 to 6: the stream, the map, the NVM map (R61 to R64, R467) -/

/-- The image in the boot area of DRAM. -/
def State.bootImage (s : State) : Nat → Byte := fun k => s.dramByte (s.bootArea + k)

/-- The byte offset of a section; 0 where there is none. -/
def imgOff (rd : Nat → Byte) (ty : Nat) : Nat :=
  match imgFind rd ty with
  | none => 0
  | some x => x.off

/-- Entries with a role on tile t. -/
def fmapUses (rd : Nat → Byte) (o t : Nat) : Bool :=
  (List.range 64).any (fun c => entryRole (fmapEntry rd o (64 * t + c)) != 0)

/-- The accepted fabric map is applied (R62, R64). -/
def State.applyMap (s : State) (rd : Nat → Byte) : State :=
  let o := imgOff rd 2
  let s := forUpto 11264 s (fun c s => s.setReg .CFG_FMAP (fmapEntry rd o c) c)
  let s := forUpto 176 s (fun t s => s.setMapBit .CAP_INUSE 0 t (fmapUses rd o t))
  s.setReg .CAP_FABRIC (2 ^ 16 * s.tiles.length + bits (imgU32 rd (o + 4)) 3 0)

/-- The ledger's address in the NVM map, where it lies in the usable DRAM, 64-byte aligned, outside the
boot area. -/
def State.ledgerPlaceOk (s : State) (a : Nat) : Bool :=
  match s.dramOff a with
  | none => false
  | some o => a % 64 == 0 && decide (o + 64 + 16 * 11264 ≤ s.bootArea)

/-- The NVM map is valid: the part of check 0x0B that needs no log. -/
def State.nvmMapOk (s : State) (rd : Nat → Byte) : Bool :=
  let w := fun k => imgU32 rd (imgOff rd 3 + 4 * k)
  w 0 % 65536 == 0 && decide (0x4000000 ≤ w 0) && w 1 % 131072 == 0 && decide (524288 ≤ w 1) && w 2 % 65536 == 0 &&
    !overlaps (w 2) (w 3) 0 0x4000000 && !overlaps (w 0) (w 1) (w 2) (w 3) &&
    decide (w 0 + w 1 ≤ s.nlat .flashSize) && decide (w 2 + w 3 ≤ s.nlat .flashSize) &&
    s.ledgerPlaceOk (2 ^ 32 * bits (w 5) 7 0 + w 4) && decide (1 ≤ w 6 ∧ w 6 ≤ 268431360) && w 7 != 0

/-- The NVM map is applied. -/
def State.applyNvmMap (s : State) (rd : Nat → Byte) : State :=
  let w := fun k => imgU32 rd (imgOff rd 3 + 4 * k)
  let s := ((s.setLat .logBase (w 0)).setLat .logBytes (w 1)).setLat .frOff (w 2)
  let s := (s.setLat .frBytes (w 3)).setReg .WEAR_BASE_LO (w 4)
  let s := (s.setReg .WEAR_BASE_HI (bits (w 5) 7 0)).setReg .WEAR_LIFE_S (w 7)
  s.setReg .WEAR_ALARM (bits (w 8) 15 0)

/-- The slot is in the boot area, and the checks of steps 5 and 6 run. -/
def State.checked (s : State) : State :=
  let rd := s.bootImage
  let c := s.imgStep5 rd
  if c ≠ 0 then s.slotFail c
  else if !fmapOk rd (imgOff rd 2) then s.slotFail 0x08
  else if !s.nvmMapOk rd then s.slotFail 0x0B
  else ((s.applyMap rd).applyNvmMap rd).setLat .bootStep 6

/-- The slot is streamed into the boot area. -/
def State.streamed (s : State) : State :=
  let k := s.nlat .bootSlot
  s.dramWrite s.bootArea (s.flashBytes (slotAddr k) (imgTotal (s.slotByte k) + 256))

/-- IMAGE_STREAM_DONE (R470): `err` says that a flash read failed. -/
def execImageStreamDone (err : Bool) (s : State) : Host.Outcome State Fault Refusal :=
  okIf true (if s.bootAt 4 then (if err then s.slotFail 0x0C else s.streamed.checked) else s)

/-! ### Step 6: the wear ledger (R111, R114, R469) -/

/-- A half of the log region has a valid header. -/
def State.logValid (s : State) (h : Nat) : Bool :=
  s.flashVal (s.logAddr h) 4 == 0x474F4C57 && s.flashVal (s.logAddr h + 8) 8 == 0

/-- GEN of a half. -/
def State.logGenOf (s : State) (h : Nat) : Nat := s.flashVal (s.logAddr h + 4) 4

/-- The half in use: valid, with the higher GEN. -/
def State.logChoose (s : State) : Option Nat :=
  match s.logValid 0, s.logValid 1 with
  | true, true => some (if s.logGenOf 0 < s.logGenOf 1 then 1 else 0)
  | true, false => some 0
  | false, true => some 1
  | false, false => none

/-- The whole region is erased. -/
def State.logErased (s : State) : Bool :=
  s.flash.all (fun e => decide (e.1 < s.nlat .logBase ∨ s.nlat .logBase + s.nlat .logBytes ≤ e.1))

/-- The words of the records of a half as far as the first that is all 0xFF. -/
def State.logWords (s : State) (h : Nat) : List (Nat × Nat) :=
  ((List.range ((s.logHalf - 16) / 8)).map (fun k =>
    (s.flashVal (s.logAddr h + 16 + 8 * k) 4, s.flashVal (s.logAddr h + 20 + 8 * k) 4))).takeWhile
      (fun r => !(r.1 == 0xFFFFFFFF && r.2 == 0xFFFFFFFF))

/-- A record is well formed by itself. A RESERVE of 0 stands in a snapshot (log entry 64). -/
def State.recOk (s : State) (r : Nat × Nat) : Bool :=
  let c := bits r.1 31 18
  let k := bits r.1 17 16
  let v := bits r.1 15 0
  (if k = 3 then c == 0x3FFF && v == 0 else decide (c < 11264) && s.role c != 0) && r.2 != 0xFFFFFFFF &&
    (match k with
    | 0 => true
    | 1 => decide (v < 128)
    | 2 => decide (v < 64)
    | _ => true)

/-- The well-formed records, with AGE_S not decreasing from `age` on; none when a malformed one is not the
last. -/
def State.logParse (s : State) : Nat → List (Nat × Nat) → Option (List (Nat × Nat))
  | _, [] => some []
  | age, r :: q =>
    if s.recOk r && decide (age ≤ r.2) then (s.logParse r.2 q).map (r :: ·)
    else if q.isEmpty then some []
    else none

/-- A cell's entry before any record: no reservation, tap unknown and of no known value. -/
def State.cellClear (s : State) (x : Nat) : State :=
  let (v, s) := s.draw 6
  (s.setLat .wearBlocks 0 (x / 64) (x % 64)).setTreg .TRIM_TAP (x / 64) (0x1000 + v) (x % 64)

/-- A record is taken into the rebuilt ledger (R114). -/
def State.cellRecord (s : State) (r : Nat × Nat) : State :=
  let c := bits r.1 31 18
  let v := bits r.1 15 0
  match bits r.1 17 16 with
  | 0 => s.setLat .wearBlocks v (c / 64) (c % 64)
  | 1 => s.setTfld .TRIM_TAP (c / 64) 12 12 1 (c % 64)
  | 2 => s.setTreg .TRIM_TAP (c / 64) v (c % 64)
  | _ => s

/-- The tap of a new ledger (R469). -/
def State.cellTap (s : State) (rd : Nat → Byte) (x : Nat) : State :=
  match imgFind rd 9 with
  | none => s
  | some sec =>
    let b := (rd (sec.off + x)).toNat
    s.setTreg .TRIM_TAP (x / 64) (bits b 5 0 + 0x1000 * bits b 7 7) (x % 64)

/-- The entry of a cell in DRAM (R111, R114), and the flags that its count has reached (R116). -/
def State.cellEntry (s : State) (budget x : Nat) : State :=
  let t := x / 64
  let c := x % 64
  let s := s.dramWrite (s.ledgerOff x) (leBytes 4 (4096 * s.wearBlocks x) ++ leBytes 4 budget)
  (s.ledgerTap t c).wearThresholds t c false

/-- The header of the ledger in DRAM (R111). -/
def State.ledgerHeader (s : State) : State :=
  s.dramWrite (s.ledgerOff 0 - 64) (leBytes 4 0x47444C57 ++ leBytes 4 0x0100 ++ leBytes 4 (s.reg .WEAR_LIFE_S) ++
    leBytes 4 (s.reg .WEAR_AGE_S) ++ leBytes 4 (s.reg .WEAR_ALARM) ++ List.replicate 44 0#8)

/-- The ledger in DRAM is written from what the log or the image gave. -/
def State.ledgerWrite (s : State) (rd : Nat → Byte) (half fill gen age : Nat) : State :=
  let s := ((s.setReg .WEAR_AGE_S age).setReg .WEAR_LOG_FILL fill).setLat .logUse half
  let s := (s.setLat .logGen gen).ledgerHeader
  let b := imgU32 rd (imgOff rd 3 + 24)
  (forIn' s.cells s (fun x s => s.cellEntry b x)).setFlag .ledgerUp true

/-- A new ledger (R469): header and records go into half 0, unless they cannot be made durable. -/
def State.ledgerCreate (s : State) (rd : Nat → Byte) (ok : Bool) : State :=
  let s := forIn' s.cells s (fun x s => (s.cellClear x).cellTap rd x)
  let taps := (s.cells.filter (fun x => !s.tapUnknown (x / 64) (x % 64))).map (fun x =>
    WearRec.mk x 2 (s.tfld .TRIM_TAP (x / 64) 5 0 (x % 64)) 0)
  let recs := taps ++ [WearRec.mk 0x3FFF 3 0 0]
  let s := if ok then s.flashPut (s.logAddr 0) (leBytes 4 0x474F4C57 ++ leBytes 4 1 ++ leBytes 8 0 ++ recs.flatMap WearRec.bytes)
    else ((s.setRbit .WEAR_STATUS 2 true).setFlag .wearStop true).send 0x10D 0x1A 0
  s.ledgerWrite rd 0 (16 + 8 * recs.length) 1 0

/-- The ledger is rebuilt from the records of a half (R114). DEDUCED (log entry 31): a cell whose pulse was cut by
a reset that keeps DRAM stays TAP_UNKNOWN until ASSIGN (R106), whatever the log says. -/
def State.ledgerFrom (s : State) (rd : Nat → Byte) (h : Nat) (recs : List (Nat × Nat)) : State :=
  let s := forIn' s.cells s (fun x s => s.cellClear x)
  let s := forIn' recs s (fun r s => s.cellRecord r)
  let s := forIn' s.cells s (fun x s =>
    if s.flag .tapCut (x / 64) (x % 64) then s.setTfld .TRIM_TAP (x / 64) 12 12 1 (x % 64) else s)
  (s.ledgerWrite rd h (16 + 8 * recs.length) (s.logGenOf h) (match recs.getLast? with | none => 0 | some r => r.2)).logRoom

/-- The ledger is rebuilt or created; none when the log is not accepted (check 0x0B). -/
def State.ledgerRebuild (s : State) (rd : Nat → Byte) (ok : Bool) : Option State :=
  match s.logChoose with
  | none => if s.logErased then some (s.ledgerCreate rd ok) else none
  | some h => (s.logParse 0 (s.logWords h)).map (s.ledgerFrom rd h)

/-! ### Step 7: firmware and microcode (R222, R467) -/

/-- FIRMWARE is copied to working SRAM. -/
def State.applyFirmware (s : State) (rd : Nat → Byte) : State :=
  match imgFind rd 4 with
  | none => s
  | some x =>
    let s := s.sramWrite 0 ((List.range (x.len - 4)).map (fun k => rd (x.off + 4 + k)))
    (s.setFlag .fwUp true).setLat .fwEntry (imgU32 rd x.off)

/-- The program that UCODE names for a tile; 0xFF for none. -/
def ucodeOf (rd : Nat → Byte) (o t : Nat) : Nat := (rd (o + 4 + t)).toNat

/-- The tile table agrees with the fabric map, and every program lies within the section (check 0x09). -/
def State.ucodeTableOk (s : State) (rd : Nat → Byte) (x : Section) : Bool :=
  let n := imgU32 rd x.off
  decide (1 ≤ n ∧ n ≤ 16) &&
    (List.range 176).all (fun t => if s.inUse t then decide (ucodeOf rd x.off t < n) else ucodeOf rd x.off t == 0xFF) &&
    (List.range n).all (fun p =>
      let o := imgU32 rd (x.off + 184 + 4 * p)
      decide (o + 320 ≤ x.len) && decide (o + 320 + 32 * imgCycles (fun k => rd (x.off + o + k)) ≤ x.len))

/-- Program p of UCODE. -/
def ucodeProg (rd : Nat → Byte) (o p : Nat) : Nat → Byte := fun k => rd (o + imgU32 rd (o + 184 + 4 * p) + k)

/-- UCODE is checked and loaded into both halves of every tile in use; none when check 0x09 fails. -/
def State.applyUcode (s : State) (rd : Nat → Byte) (bad : Bool) : Option State :=
  match imgFind rd 5 with
  | none => none
  | some x =>
    let n := imgU32 rd x.off
    let served := fun p => s.tiles.filter (fun t => ucodeOf rd x.off t == p)
    if s.ucodeTableOk rd x && (List.range n).all (fun p => s.programCheck (ucodeProg rd x.off p) (served p) == 0) && !bad then
      some (forUpto n s (fun p s => forIn' (served p) s (fun t s => s.loadTile (ucodeProg rd x.off p) t 0 false)))
    else none

/-! ### Step 8: CFGB, REGS, HSTART, START (R467, R468) -/

/-- CFGB is applied; none when a bank index is above 511. -/
def State.applyCfgb (s : State) (rd : Nat → Byte) : Option State :=
  match imgFind rd 6 with
  | none => some s
  | some x =>
    let n := x.len / 2052
    let at' := fun k => x.off + 2052 * k
    if (List.range n).all (fun k => decide (imgU32 rd (at' k) < 512)) then
      some (forUpto n s (fun k s => forUpto 512 s (fun w s =>
        s.setBankWord (imgU32 rd (at' k)) w (imgU32 rd (at' k + 4 + 4 * w)))))
    else none

/-- The register is one that other sections or BOOT derive (R468). -/
def regDerived (a : Nat) : Bool :=
  decide (0x400000 ≤ a ∧ a < 0x420000) || decide (0x4B0000 ≤ a ∧ a < 0x4C0000) || decide (0x4D0000 ≤ a ∧ a < 0x4E0000) ||
    decide (0x494000 ≤ a ∧ a < 0x49F000) ||
    (decide (0x1000000 ≤ a ∧ a < 0x1B00000) && (decide (0xC000 ≤ a % 65536 ∧ a % 65536 < 0xD000) ||
      decide (0x3300 ≤ a % 65536 ∧ a % 65536 < 0x3400)))

/-- Bits of the RO registers with reset entry img that REGS may write (R468). -/
def imgRoMask (r : Reg) : Nat :=
  match r with
  | .TILE_SKEW => 0x3FFF
  | .TILE_CMPT | .TILE_CMPT_NEXT => 0x3F
  | .TILE_CAL_TG => 0xFFFF
  | .ADC_RNOW => 0xFFFFFFFF
  | .FWD_SEED => 0xFFFF
  | _ => 0

/-- EN, which locks some fields of these registers, is set aside for the image: RWL fields accept a REGS
write whatever their block's state (R468). -/
def State.imgUnlock (s : State) (r : Reg) (i : Nat) : State :=
  if r = .SIG_PORT_CFG ∨ r = .POL_CFG ∨ r = .SIG_M_RX_CTRL ∨ r = .SIG_M_TX_CTRL then s.setRbit r 31 false i else s

/-- One REGS record: a write of CORE. -/
def State.imgWrite (s : State) (a v : Nat) : State :=
  if regDerived a then s.refuseAddr a
  else match s.regOf a with
    | none => s.busWrite .core a v
    | some (r, t, i, j) =>
      if imgRoMask r ≠ 0 then s.setTreg r t (v &&& imgRoMask r) i j else (s.imgUnlock r i).regWrite .core r t i j v true

/-- A write was refused or answered with an error: it has sent REFUSE or ADDR. -/
def writeFailed (s s' : State) : Bool := (s'.faults.drop s.faults.length).any (fun m => m.kind == 2 || m.kind == 1)

/-- The ADC_GAIN element that an address names. -/
def State.gainAt (s : State) (a : Nat) : List (Nat × Nat × Nat) :=
  match s.regOf a with
  | some (.ADC_GAIN, t, i, j) => [(t, i, j)]
  | _ => []

/-- REGS records from k on are applied, until one fails: whether all succeeded, the state, and the
ADC_GAIN words written. -/
def State.applyRegs (s : State) (rd : Nat → Byte) (o : Nat) : Nat → Nat → List (Nat × Nat × Nat) → Bool × State × List (Nat × Nat × Nat)
  | 0, _, g => (true, s, g)
  | n + 1, k, g =>
    let a := imgU32 rd (o + 12 * k) + 2 ^ 32 * bits (imgU32 rd (o + 12 * k + 4)) 7 0
    let s' := if a % 4 = 0 then s.imgWrite a (imgU32 rd (o + 12 * k + 8)) else s.addrFault a
    if writeFailed s s' then (false, s', g) else s'.applyRegs rd o n (k + 1) (s.gainAt a ++ g)

/-- CAL_VALID of the tiles whose ADC_GAIN words have all been written (R137, R468). -/
def State.imgCalValid (s : State) (g : List (Nat × Nat × Nat)) : State :=
  forIn' s.tiles s (fun t s =>
    let all := (List.range 64).all (fun c => s.chRole t c == 0 || [c, 64 + c].all (fun i =>
      (List.range 4).all (fun r => g.contains (t, i, r))))
    if all then s.setTbit .ADC_STATUS t 4 true else s)

/-- HSTART and START are applied; none when START.MODE is not one of the three, or needs an HSTART that
is not there (check 0x07). -/
def State.applyStart (s : State) (rd : Nat → Byte) : Option State :=
  let o := imgOff rd 10
  let w := imgU32 rd o
  let mode := bits w 2 0
  let hs := imgFind rd 8
  if mode = 1 ∨ ((mode = 2 ∨ mode = 3) ∧ hs.isSome) then
    let s := match hs with
      | none => s
      | some x => forIn' s.cells s (fun c s => s.setLat .hstart (leVal [rd (x.off + 2 * c), rd (x.off + 2 * c + 1)] : Nat) (c / 64) (c % 64))
    let s := (s.setLat .startMode mode).setLat .startWord w
    some (forUpto 3 s (fun k s => s.setLat .startBase (imgU32 rd (o + 4 + 4 * k)) k))
  else none

/-- Step 8 is complete: the image has been loaded (R480), and the self-test runs the calibration entry (R223). -/
def State.imageUp (s : State) (rd : Nat → Byte) : State :=
  let s := (s.setReg .MGT_IMG_SEQ (imgU32 rd 8)).setRbit .MGT_FUSE 8 (imgKeyIdx rd == 1)
  let s := (s.setLat .imgSvn (imgSvnOf rd)).setFlag .imgUp true
  let s := (s.bootCode (s.nlat .bootSlot) 0).setLat .bootStep 10
  let s := forIn' s.tiles s (fun t s => (s.rangeInit t).setTbit .MC_STATUS t 3 true)
  s.setFlag .flightRun (s.frozen && !s.rbit .FLT_REC_STATUS 30)

/-- The REGS section is applied: whether every record could be, the state, and the ADC_GAIN words written. -/
def State.imageRegs (s : State) (rd : Nat → Byte) : Bool × State × List (Nat × Nat × Nat) :=
  match imgFind rd 7 with
  | none => (true, s, [])
  | some x => s.applyRegs rd x.off (x.len / 12) 0 []

/-- Step 8 (R470). -/
def State.bootStep8 (s : State) (rd : Nat → Byte) : State :=
  match s.applyCfgb rd with
  | none => s.slotFail 0x07
  | some s =>
    let r := s.imageRegs rd
    if r.1 then
      match (r.2.1.imgCalValid r.2.2).applyStart rd with
      | none => r.2.1.slotFail 0x07
      | some s => s.imageUp rd
    else r.2.1.slotFail 0x0A

/-- Steps 6 (the ledger) to 8. -/
def State.bootSteps (s : State) (ok bad : Bool) : State :=
  let rd := s.bootImage
  match s.ledgerRebuild rd ok with
  | none => s.slotFail 0x0B
  | some s =>
    match (s.applyFirmware rd).applyUcode rd bad with
    | none => s.slotFail 0x09
    | some s => s.bootStep8 rd

/-- LEDGER_REBUILD_DONE (R114, R469): the ledger, and the steps that follow up to step 8. `ok` says that
the records of a new ledger are durable, `bad` that the readback of a control store differs. -/
def execLedgerRebuildDone (ok bad : Bool) (s : State) : Host.Outcome State Fault Refusal :=
  okIf true (if s.bootAt 6 then s.bootSteps ok bad else s)

/-! ### Steps 10 and 11 (R22, R125, R281, R370, R470) -/

/-- The halves of a tile after the self-test (R370): both in service but those that failed, and the
preferred one ACTIVE with the token. -/
def State.halvesUp (s : State) (t : Nat) (fail : Nat → Bool) : State :=
  let p := s.fld .RED_CTRL 0 0
  let a := if fail p then 1 - p else p
  let s := forUpto 2 s (fun h s => s.setHalf t h (if fail h then 0 else if h = a then 1 else 2))
  let s := s.setTbit .MC_STATUS t 3 false
  s.setTbit .RED_TSTATE t 31 (a == 1)

/-- The slot-timer halves after the self-test: both in service, the preferred one with the generator
token (R369, R386). -/
def State.slotTimerUp (s : State) : State :=
  let p := s.fld .RED_CTRL 0 0
  ((s.setSlotHalf p 1).setSlotHalf (1 - p) 2).setRbit .RED_SLOT_STATE 31 (p == 1)

/-- A measured strobe delay (R90, R343): `w` is the word of TILE_SKEW, by 2 x tile + tree. -/
def State.skewMeasured (s : State) (k w : Nat) : State :=
  (s.setTreg .TILE_SKEW (k / 2) w (k % 2)).setTreg .TILE_SKEW_NEXT (k / 2) w (k % 2)

/-- A half failed the self-test: it is listed, or a word of the entry put it in machine check (R216, R223). -/
def State.halfFailed (s : State) (failU failO : List Nat) (t h : Nat) : Bool :=
  (if h = 0 then failU.contains t else failO.contains t) || s.inMchk t h

/-- The self-test has passed (R470 step 11). -/
def State.selfTestPassed (s : State) (failU failO skew : List Nat) : State :=
  let s := forIn' s.tiles s (fun t s => s.halvesUp t (s.halfFailed failU failO t))
  let s := forIn' skew s.slotTimerUp (fun k s => if s.inUse (k / 32768) then s.skewMeasured (k / 16384) (k % 16384) else s)
  let s := ((s.setFlag .aligned true).setFlag .spanReady true).setLat .bootStep 11
  let s := (s.setRbit .MGT_BOOT 31 true).setRbit .MGT_BOOT 24 (s.lat .bootSlot == 1)
  let s := (if s.flag .fwUp then s.setReg .MGT_REMAP 1 else s).setLat .hbAt (s.grain + 1)
  (s.setFlag .armWait (bit (s.nlat .startWord) 8 && decide (s.lat .startMode ≠ 1))).bootFinish

/-- The self-test passes: STRAP_TEST is low, every test but that of a half passed, and every tile in use
has a half that passed (R370, R461). -/
def State.selfTestOk (s : State) (ok : Bool) (failU failO : List Nat) : Bool :=
  ok && !s.rbit .MGT_STRAP 4 && s.tiles.all (fun t => !(s.halfFailed failU failO t 0 && s.halfFailed failU failO t 1))

/-- SELF_TEST_DONE (R470): step 10, after the flight routine of step 9. `ok` is the outcome of the tests that concern the part as a whole, `failU` and
`failO` name the tiles whose half failed, and `skew` gives the strobe delays that were measured, each as
(2 x tile + tree) x 16,384 + TILE_SKEW word. -/
def execSelfTestDone (ok : Bool) (failU failO skew : List Nat) (s : State) : Host.Outcome State Fault Refusal :=
  okIf (failU.all (fun t => t < 176) && failO.all (fun t => t < 176) && skew.all (fun k => k < 352 * 16384)) <|
    if s.bootAt 10 && !s.flag .flightRun then
      if s.selfTestOk ok failU failO then s.selfTestPassed failU failO skew else (s.bootCode (s.nlat .bootSlot) 0x0D).bootFail
    else s

/-! ### The arm of BOOT (R473) -/

/-- The base time is written and list memory 0 armed. -/
def State.bootArm (s : State) : State :=
  let s := (s.setReg .SLOT_BASE_NS (s.nlat .startBase 0)).setReg .SLOT_BASE_S_LO (s.nlat .startBase 1)
  ((s.setReg .SLOT_BASE_S_HI (bits (s.nlat .startBase 2) 15 0)).setFlag .armWait false).slotArm

/-- BOOT_ARM (R473): after the transition out of BOOT, and with WAITPTP after PTP_STATUS.VALID. -/
def execBootArm (s : State) : Host.Outcome State Fault Refusal :=
  okIf true <|
    if s.flag .armWait && s.mode != .boot && s.mode != .sable && !s.flag .mgtFail &&
        (!bit (s.nlat .startWord) 9 || s.rbit .PTP_STATUS 1) then s.bootArm else s

end Sys2Proof.Machine
end

