-- ==== Sys2Proof/Machine/Flight.lean ====
section
/-! DEFINITION. The flight record (R412) and the flight routine that writes it (R413). -/
namespace Sys2Proof.Machine

/-! ### Reads of the routine -/

/-- The routine reads a word of the register space: the value, with the effects of a read (R8, R9); 0
where no register stands, which is logged as ADDR (R6). -/
def State.flightWord (s : State) (a : Nat) : Nat × State :=
  match s.regOf a with
  | none => match s.capWord a with
    | some w => (w, s)
    | none => (0, s.addrLog a)
  | some (r, t, i, j) =>
    let s' := s.regRead .core r t i j
    (s'.resp.data, { s' with resp := s.resp })

/-- Words at rising addresses from `a`, and the state after the reads. -/
def State.flightWords (s : State) (a : Nat) : Nat → List Nat × State
  | 0 => ([], s)
  | n + 1 =>
    let (v, s) := s.flightWord a
    let (vs, s) := s.flightWords (a + 4) n
    (v :: vs, s)

/-- Runs of words, each given by its first address and its length, as bytes. -/
def State.flightRuns (s : State) : List (Nat × Nat) → List Byte × State
  | [] => ([], s)
  | (a, n) :: r =>
    let (vs, s) := s.flightWords a n
    let (bs, s) := s.flightRuns r
    (vs.flatMap (leBytes 4) ++ bs, s)

/-! ### Sections (R412) -/

/-- Section 1: the fault log, oldest entry first. -/
def State.flightLog (s : State) : List Byte :=
  let q := s.reg .FLT_SEQ
  let first := if q < 1024 then 1 else q - 1023
  (List.range 1024).flatMap (fun k => (List.range 8).flatMap (fun w => leBytes 4 (s.reg .FLT_LOG ((first + k) % 1024) w)))

/-- Section 2: the slot history, oldest first. -/
def State.flightSlots (s : State) : List Byte :=
  (List.range 256).flatMap (fun n => (List.range 4).flatMap (fun w => leBytes 4 (s.histWord n w)))

/-- Section 3: the first 4 KiB of each of the 26 global blocks. -/
def globalRuns : List (Nat × Nat) := (List.range 26).map (fun b => (0x400000 + 0x10000 * b, 1024))

/-- Section 4, for one tile: TILE, DRV, HTR, TRIM, ADC, DDS, MC and RED, and LOOP 0x2000..0x2FFF. -/
def tileRuns (t : Nat) : List (Nat × Nat) :=
  [0, 0x1000, 0x2000, 0x3000, 0x4000, 0x5000, 0xC000, 0xD000, 0xA000].map (fun o => (0x1000000 + 0x10000 * t + o, 1024))

/-- Section 5, for one tile: its sample history. -/
def State.flightSamples (s : State) (t : Nat) : List Byte :=
  (List.range 8192).flatMap (fun k => leBytes 2 (s.histSample t (k / 128) (k % 128)))

/-- A section: TYPE, its bytes, and the bytes of each of its tiles where it may be cut. -/
structure FlightSec where
  ty : Nat
  bytes : List Byte
  unit : Option Nat
deriving DecidableEq, Repr

/-- The five sections, and the state after the reads: `runs` are the words of section 3. -/
def State.flightSecs (s : State) (runs : List (Nat × Nat)) : List FlightSec × State :=
  let one := s.flightLog
  let two := s.flightSlots
  let three := s.flightRuns runs
  let s := three.2
  let four := s.flightRuns (s.tiles.flatMap tileRuns)
  let s := four.2
  ([⟨1, one, none⟩, ⟨2, two, none⟩, ⟨3, three.1, none⟩, ⟨4, four.1, some 36864⟩,
    ⟨5, s.tiles.flatMap s.flightSamples, some 16384⟩], s)

/-! ### The record (R412, R413) -/

/-- Sections placed in a region of `room` bytes, from offset `o` on: each with its offset and whether it is
cut or left out. -/
def placeSecs (room : Nat) : Nat → List FlightSec → List (FlightSec × Nat × Bool)
  | _, [] => []
  | o, x :: r =>
    let n := x.bytes.length
    let k := if o + n ≤ room then n
      else match x.unit with
        | none => 0
        | some u => (room - o) / u * u
    ({ x with bytes := x.bytes.take k }, o, k != n) :: placeSecs room (o + k) r

/-- A section descriptor. -/
def secDesc (x : FlightSec × Nat × Bool) : List Byte :=
  leBytes 4 (x.1.ty + 256 * b2n x.2.2) ++ leBytes 4 x.2.1 ++ leBytes 4 x.1.bytes.length ++ leBytes 4 (crc32 x.1.bytes)

/-- The first 256 bytes of the record. -/
def State.flightHead (s : State) (xs : List (FlightSec × Nat × Bool)) : List Byte :=
  let h := leBytes 4 0x43455246 ++ leBytes 4 (0x0100 + xs.length) ++ leBytes 4 (s.reg .CAP_REVISION) ++
    leBytes 4 (s.reg .CAP_FABRIC) ++ (List.range 4).flatMap (fun k => leBytes 4 (s.reg .FLT_REC_TIME k)) ++
    (List.range 8).flatMap (fun k => leBytes 4 (s.reg .FLT_FATAL k)) ++ xs.flatMap secDesc
  h ++ List.replicate (256 - h.length) 0#8

/-- The record as it fits a region. -/
def State.flightRecord (s : State) (room : Nat) (secs : List FlightSec) : List Byte :=
  let xs := placeSecs room 256 secs
  s.flightHead xs ++ xs.flatMap (fun x => x.1.bytes)

/-- FLT_REC_BASE. -/
def State.recBase (s : State) : Nat := 2 ^ 32 * s.fld .FLT_REC_BASE_HI 7 0 + 4096 * s.fld .FLT_REC_BASE_LO 31 12

/-- The record is written to DRAM: whether all of it could be, and the state. -/
def State.flightDram (s : State) (secs : List FlightSec) : Bool × State :=
  if s.recBase = 0 then (true, s)
  else match s.dramOff s.recBase with
    | none => (false, s)
    | some o =>
      let bs := s.flightRecord (2 ^ 40) secs
      (decide (o + bs.length ≤ s.dramSize), s.dramWrite o (bs.take (s.dramSize - o)))

/-- The record is written to its region of the flash. -/
def State.flightNvm (s : State) (secs : List FlightSec) : State :=
  if s.rbit .FLT_CTRL 1 && decide (256 ≤ s.nlat .frBytes) then
    s.flashPut (s.nlat .frOff) (s.flightRecord (s.nlat .frBytes) secs)
  else s

/-- The flight routine ends; DONE sets unless a memory could not take its part (R413). -/
def State.flightDone (s : State) : State :=
  let secs := s.flightSecs globalRuns
  let d := secs.2.flightDram secs.1
  let s := (d.2.flightNvm secs.1).setFlag .flightRun false
  if d.1 then s.recCmdWrite 1 else s

/-- FLT_REC_DONE (R413): the flight routine, when it runs, has written the record. -/
def execFltRecDone (s : State) : Host.Outcome State Fault Refusal :=
  okIf true (if s.flag .flightRun && !s.flag .mgtFail then s.flightDone else s)

end Sys2Proof.Machine
end

