-- ==== Sys2Proof/Machine/Plovom.lean ====
section
/-! DEFINITION. The Plovom links (R445 to R451): link states, the frames that the host sends, and the
acknowledgement and replay of the frames that the T1024 sends. -/
namespace Sys2Proof.Machine

/-! ### Link states (R445, R472) -/

/-- The link is enabled: by PLV_LCTRL, by STRAP_PLV, or by BOOT_FAIL; in SABLE it is held DOWN. -/
def State.plvEnabled (s : State) (l : Nat) : Bool :=
  (s.rbit .PLV_LCTRL 31 l || s.rbit .MGT_STRAP 3 || s.bootFailed) && s.mode != .sable

/-- The lanes of an enabled link show a state: 0 DOWN with a lane not locked, 1 ALIGN with all four locked,
2 INIT from ALIGN. -/
def State.plvLanes (s : State) (l v lanes : Nat) : State :=
  if s.plvEnabled l then
    let s1 := s.setFld .PLV_LSTATUS 7 4 lanes l
    if v = 0 ∧ lanes ≠ 15 then s1.plvDown l 0
    else if v = 1 ∧ lanes = 15 then (s1.plvDown l 1).setPlvState l 1 1
    else if v = 2 ∧ lanes = 15 ∧ s.plvState l = 1 then s1.setPlvState l 2 1
    else s
  else s

/-- PLOVOM_LINK_STATE (R445): the lanes that hold block lock, and the state that they bring about; UP
comes with an INIT frame. -/
def execPlovomLinkState (link v lanes : Nat) (s : State) : Host.Outcome State Fault Refusal :=
  okIf (decide (link < 2 ∧ v < 3 ∧ lanes < 16)) (s.plvLanes link v lanes)

/-- PLV_INIT (R445, R448): an INIT frame of the host, with its credit for P, NP and CPL. -/
def State.plvInitFrame (s : State) (l p np cpl : Nat) : State :=
  if s.plvEnabled l && s.plvState l == 2 then
    let s := forUpto 3 s (fun k s =>
      let n : Nat := if k = 0 then p else if k = 1 then np else cpl
      (((s.setLat .plvInit n l k).setLat .plvLim n l k).setLat .plvUsed 0 l k).setLat .plvGot 0 l k)
    let s := ((s.setLat .plvTx 0 l).setLat .plvRx 0 l).setLat .plvCtl 0 l
    (s.setPlvState l 3 0).pump l
  else s

/-- PLV_INIT. -/
def execPlvInit (link p np cpl : Nat) (s : State) : Host.Outcome State Fault Refusal :=
  okIf (decide (link < 2 ∧ p < 2 ^ 16 ∧ np < 2 ^ 16 ∧ cpl < 2 ^ 16)) (s.plvInitFrame link p np cpl)

/-! ### Frames of the host (R447, R449, R450) -/

/-- A frame with good CRC and the next SEQ is accepted on a link that is UP: it is acknowledged, and its
buffer drains. `n` is the length of its data. -/
def State.plvAccept (s : State) (l ttype n : Nat) : State :=
  let k := plvClass ttype
  let q := s.nlat .plvRx l
  let s := (s.setLat .plvRx ((q + 1) % 4096 : Nat) l).setLat .plvCtl (2 * 4096 + q : Nat) l
  s.setLat .plvGot ((s.nlat .plvGot l k + plvUnits n) % 2 ^ 16 : Nat) l k

/-- The initiator of a link. -/
def plvIni (l : Nat) : Initiator := if l = 0 then .plv0 else .plv1

/-- The address lies in the range of a register block or of a tile. -/
def State.atReg (s : State) (a : Nat) : Bool :=
  match s.target a with
  | some (.reg, _) | some (.tile, _) => true
  | _ => false

/-- An access to registers that is not of an aligned word (R5). -/
def State.burstOdd (s : State) (a n : Nat) : Bool := s.atReg a && !(n == 4 && a % 4 == 0)

/-- ADDRESS and LEN meet R429, and R5 where they concern registers. -/
def State.burstOk (s : State) (a n : Nat) : Bool := decide (a % 256 + n ≤ 256) && !s.burstOdd a n

/-- A burst that is turned away: one to registers that is not of an aligned word is logged as ADDR (R5). -/
def State.burstBad (s : State) (a n : Nat) : State := if s.burstOdd a n then s.addrLog a else s

/-- A burst reads: the status of its completion, the data, and the state. -/
def State.burstRead (s : State) (l a n : Nat) : Nat × List Byte × State :=
  if !s.burstOk a n then (2, [], s.burstBad a n)
  else if s.atReg a then
    let s := s.busRead (plvIni l) a
    if s.resp.err then (1, [], s) else (0, leBytes 4 s.resp.data, s)
  else
    match s.memGet .plv a n with
    | (.ok bs, s) => (0, bs, s)
    | (_, s) => (1, [], s)

/-- A burst writes: the status of its completion, and the state. -/
def State.burstWrite (s : State) (l a : Nat) (bs : List Byte) : Nat × State :=
  if !s.burstOk a bs.length then (2, s.burstBad a bs.length)
  else if s.atReg a then
    let s := s.busWrite (plvIni l) a (leVal bs)
    (b2n s.resp.err, s)
  else
    let (ok, s) := s.memPut .plv a bs
    (b2n (!ok), s)

/-- A completion for the host joins the queue of its link, unless the request itself took the link down. -/
def State.complete (s : State) (l tag st : Nat) (bs : List Byte) : State :=
  if s.plvUp l then s.post l 8 tag st 0 bs.length bs else s

/-- A READ of the host. -/
def State.plvRead (s : State) (l tag a n : Nat) : State :=
  if s.plvUp l then
    let (st, bs, s) := (s.plvAccept l 1 0).burstRead l a n
    s.complete l tag st bs
  else s

/-- PLV_READ (R447). -/
def execPlvRead (link tag addr len : Nat) (s : State) : Host.Outcome State Fault Refusal :=
  okIf (decide (link < 2 ∧ tag < 256 ∧ addr < 2 ^ 40 ∧ 1 ≤ len ∧ len ≤ 256)) (s.plvRead link tag addr len)

/-- A WRITE of the host. -/
def State.plvWrite (s : State) (l tag a : Nat) (bs : List Byte) : State :=
  if s.plvUp l then
    let (st, s) := (s.plvAccept l 2 bs.length).burstWrite l a bs
    s.complete l tag st []
  else s

/-- PLV_WRITE (R447). -/
def execPlvWrite (link tag addr : Nat) (data : List Byte) (s : State) : Host.Outcome State Fault Refusal :=
  okIf (decide (link < 2 ∧ tag < 256 ∧ addr < 2 ^ 40 ∧ 1 ≤ data.length ∧ data.length ≤ 256)) (s.plvWrite link tag addr data)

/-- A PWRITE of the host: one that is malformed is counted. -/
def State.plvPwrite (s : State) (l a : Nat) (bs : List Byte) : State :=
  if s.plvUp l then
    let (st, s) := (s.plvAccept l 3 bs.length).burstWrite l a bs
    if st = 2 then s.satAdd .PLV_UR 1 0 l else s
  else s

/-- PLV_PWRITE (R447). -/
def execPlvPwrite (link addr : Nat) (data : List Byte) (s : State) : Host.Outcome State Fault Refusal :=
  okIf (decide (link < 2 ∧ addr < 2 ^ 40 ∧ 1 ≤ data.length ∧ data.length ≤ 256)) (s.plvPwrite link addr data)

/-- A MSG of the host enters the mailbox of 16 entries, or is discarded (R451). -/
def State.plvMsg (s : State) (l index data : Nat) : State :=
  if s.plvUp l then
    let s := s.plvAccept l 4 8
    if s.mbox.length < 16 then { s with mbox := s.mbox ++ [PlvMsg.mk index data] }.setRbit .PLV_STATUS 2 true
    else s.setRbit .PLV_STATUS 1 true
  else s

/-- PLV_MSG (R451). -/
def execPlvMsg (link index data : Nat) (s : State) : Host.Outcome State Fault Refusal :=
  okIf (decide (link < 2 ∧ index < 256 ∧ data < 2 ^ 32)) (s.plvMsg link index data)

/-- A completion of the host: the data of a DMA unit, or the end of its channel with HOST (R449). -/
def State.plvCpl (s : State) (l tag status : Nat) (bs : List Byte) : State :=
  if s.plvUp l then
    let s := s.plvAccept l 8 bs.length
    match s.tagUnit l tag with
    | none => s
    | some u =>
      if status = 0 ∧ bs.length = u.len then
        { s with dmaUnits := s.dmaUnits.map (fun (v : DmaUnit) => if v = u then { v with data := some bs } else v) }
      else s.dmaHostFail u
  else s

/-- PLV_CPL (R449). -/
def execPlvCpl (link tag status : Nat) (data : List Byte) (s : State) : Host.Outcome State Fault Refusal :=
  okIf (decide (link < 2 ∧ tag < 256 ∧ status < 256 ∧ data.length ≤ 256)) (s.plvCpl link tag status data)

/-- PLV_BAD_FRAME (R449): a TRANS frame is discarded, for a bad CRC (`crc`) or a SEQ out of order, and NAK
names the last frame received in order. -/
def execPlvBadFrame (link : Nat) (crc : Bool) (s : State) : Host.Outcome State Fault Refusal :=
  okIf (decide (link < 2)) <|
    if s.plvUp link then
      let s := if crc then s.satAdd .PLV_CRC_ERR 1 0 link else s
      s.setLat .plvCtl (3 * 4096 + (s.nlat .plvRx link + 4095) % 4096 : Nat) link
    else s

/-! ### Acknowledgement, replay and credit (R448, R449) -/

/-- A frame has been received when the last frame received in order is `seq`. -/
def coveredBy (seq q : Nat) : Bool := decide ((seq + 4096 - q) % 4096 < 2048)

/-- The frames of a link up to one that is named leave the replay buffer. -/
def State.plvFree (s : State) (l seq : Nat) : State :=
  { s with plvOut := s.plvOut.filter (fun f =>
      !(f.link == l && (match f.seq with | none => false | some q => coveredBy seq q))) }

/-- The frames of a link that are not acknowledged are sent again; the fourth replay of a frame takes the
link DOWN. -/
def State.plvReplay (s : State) (l : Nat) : State :=
  let n := (s.unacked l).length
  let s := (s.satAdd .PLV_REPLAY n 0 l)
  let s := { s with plvOut := s.plvOut.map (fun (f : PlvFrame) => if f.link = l ∧ f.seq.isSome = true then { f with replays := f.replays + 1 } else f) }
  if (s.unacked l).any (fun f => decide (4 ≤ f.replays)) then s.plvDown l 2 else s

/-- PLV_ACK (R449). -/
def execPlvAck (link seq : Nat) (s : State) : Host.Outcome State Fault Refusal :=
  okIf (decide (link < 2 ∧ seq < 4096)) (if s.plvUp link then (s.plvFree link seq).pump link else s)

/-- PLV_NAK (R449): the frame named was the last received in order; those after it are sent again. -/
def execPlvNak (link seq : Nat) (s : State) : Host.Outcome State Fault Refusal :=
  okIf (decide (link < 2 ∧ seq < 4096)) (if s.plvUp link then ((s.plvFree link seq).plvReplay link).pump link else s)

/-- PLV_REPLAY_TIMEOUT (R449): no ACK for 10 µs. -/
def execPlvReplayTimeout (link : Nat) (s : State) : Host.Outcome State Fault Refusal :=
  okIf (decide (link < 2)) (if s.plvUp link && !(s.unacked link).isEmpty then s.plvReplay link else s)

/-- The host returns credit, as counts of units since the link came UP (R448). -/
def State.plvCredit (s : State) (l p np cpl : Nat) : State :=
  if s.plvUp l then
    (forUpto 3 s (fun k s =>
      let n : Nat := if k = 0 then p else if k = 1 then np else cpl
      s.setLat .plvLim ((s.nlat .plvInit l k + n) % 2 ^ 16 : Nat) l k)).pump l
  else s

/-- PLV_CREDIT (R448). -/
def execPlvCredit (link p np cpl : Nat) (s : State) : Host.Outcome State Fault Refusal :=
  okIf (decide (link < 2 ∧ p < 2 ^ 16 ∧ np < 2 ^ 16 ∧ cpl < 2 ^ 16)) (s.plvCredit link p np cpl)

end Sys2Proof.Machine
end

