-- ==== Sys2Proof/Machine/Dispatch.lean ====
section
/-! DEFINITION. The dispatcher: one arm per command, each one call of its meaning. -/
namespace Sys2Proof.Machine
open Sys2Proof

/-- The effect of a command on everything but the queue. -/
def exec (i : Instr) (s : State) : Host.Outcome State Fault Refusal :=
  match i with
  | .powerOnReset straps low => Sys2Proof.Machine.execPowerOnReset straps low s
  | .powerLoss cut => Sys2Proof.Machine.execPowerLoss cut s
  | .resetNAsserted => Sys2Proof.Machine.execResetNAsserted s
  | .resetNReleased straps => Sys2Proof.Machine.execResetNReleased straps s
  | .resetCmd ini => Sys2Proof.Machine.execResetCmd ini s
  | .thermalRestart => Sys2Proof.Machine.execThermalRestart s
  | .flashDiscoveryDone found errA errB => Sys2Proof.Machine.execFlashDiscoveryDone found errA errB s
  | .dramTrainingDone mask err => Sys2Proof.Machine.execDramTrainingDone mask err s
  | .imageStreamDone err => Sys2Proof.Machine.execImageStreamDone err s
  | .ledgerRebuildDone ok bad => Sys2Proof.Machine.execLedgerRebuildDone ok bad s
  | .selfTestDone ok failU failO skew => Sys2Proof.Machine.execSelfTestDone ok failU failO skew s
  | .bootArm => Sys2Proof.Machine.execBootArm s
  | .holdReqNAsserted => Sys2Proof.Machine.execHoldReqNAsserted s
  | .holdReqNDeasserted => Sys2Proof.Machine.execHoldReqNDeasserted s
  | .holdReleaseBoundary => Sys2Proof.Machine.execHoldReleaseBoundary s
  | .modeCmdCharacterise ini => Sys2Proof.Machine.execModeCmdCharacterise ini s
  | .modeCmdStatic ini => Sys2Proof.Machine.execModeCmdStatic ini s
  | .deviceHoldCmd ini => Sys2Proof.Machine.execDeviceHoldCmd ini s
  | .deviceReleaseCmd ini => Sys2Proof.Machine.execDeviceReleaseCmd ini s
  | .bootSlot ini slot => Sys2Proof.Machine.execBootSlot ini slot s
  | .nvmRead ini off n lo hi => Sys2Proof.Machine.execNvmRead ini off n lo hi s
  | .nvmWrite ini off n lo hi => Sys2Proof.Machine.execNvmWrite ini off n lo hi s
  | .nvmErase ini off n => Sys2Proof.Machine.execNvmErase ini off n s
  | .imgCheck ini slot => Sys2Proof.Machine.execImgCheck ini slot s
  | .fuseSvn ini => Sys2Proof.Machine.execFuseSvn ini s
  | .fuseRevoke0 ini => Sys2Proof.Machine.execFuseRevoke0 ini s
  | .deviceCommandDone done err => Sys2Proof.Machine.execDeviceCommandDone done err s
  | .mgtCmdBusyWrite ini value => Sys2Proof.Machine.execMgtCmdBusyWrite ini value s
  | .mgmtCommandFrame port frame => Sys2Proof.Machine.execMgmtCommandFrame port frame s
  | .registerWrite ini addr value => Sys2Proof.Machine.execRegisterWrite ini addr value s
  | .misalignedAccess ini write addr width value => Sys2Proof.Machine.execMisalignedAccess ini write addr width value s
  | .undefinedAddressAccess ini write addr value => Sys2Proof.Machine.execUndefinedAddressAccess ini write addr value s
  | .rsRead ini addr => Sys2Proof.Machine.execRsRead ini addr s
  | .snapshotRead ini addr => Sys2Proof.Machine.execSnapshotRead ini addr s
  | .spanBoundary hbU hbO => Sys2Proof.Machine.execSpanBoundary hbU hbO s
  | .programGrain tile half g ix perr => Sys2Proof.Machine.execProgramGrain tile half g ix perr s
  | .heartbeatReceived tile half second => Sys2Proof.Machine.execHeartbeatReceived tile half second s
  | .tokenDecision tile ilkU ilkO verdict => Sys2Proof.Machine.execTokenDecision tile ilkU ilkO verdict s
  | .conversionComplete tile conv slot code ok done volt => Sys2Proof.Machine.execConversionComplete tile conv slot code ok done volt s
  | .sampleDelivered tile conv => Sys2Proof.Machine.execSampleDelivered tile conv s
  | .refReady tile => Sys2Proof.Machine.execRefReady tile s
  | .syscalDark tile avg => Sys2Proof.Machine.execSyscalDark tile avg s
  | .syscalGainInject tile avg => Sys2Proof.Machine.execSyscalGainInject tile avg s
  | .syscalGainIllum tile avg => Sys2Proof.Machine.execSyscalGainIllum tile avg s
  | .syscalAccept tile avg => Sys2Proof.Machine.execSyscalAccept tile avg s
  | .syscalDone tile => Sys2Proof.Machine.execSyscalDone tile s
  | .owtAutoStart tile => Sys2Proof.Machine.execOwtAutoStart tile s
  | .adcOwtCmd tile input down => Sys2Proof.Machine.execAdcOwtCmd tile input down s
  | .captureRecordWritten ring => Sys2Proof.Machine.execCaptureRecordWritten ring s
  | .captureRingEnable ring => Sys2Proof.Machine.execCaptureRingEnable ring s
  | .configBroadcast ce ue => Sys2Proof.Machine.execConfigBroadcast ce ue s
  | .shadowDeadline bad => Sys2Proof.Machine.execShadowDeadline bad s
  | .commitDecisionPoint agree => Sys2Proof.Machine.execCommitDecisionPoint agree s
  | .commitStrobeEdge missU missO => Sys2Proof.Machine.execCommitStrobeEdge missU missO s
  | .guardedGroupLoad group => Sys2Proof.Machine.execGuardedGroupLoad group s
  | .legDeparture tile ch legB => Sys2Proof.Machine.execLegDeparture tile ch legB s
  | .heaterSliceFail tile ch => Sys2Proof.Machine.execHeaterSliceFail tile ch s
  | .htrSwap tile spare ch => Sys2Proof.Machine.execHtrSwap tile spare ch s
  | .currentMeasurement tile k current volt => Sys2Proof.Machine.execCurrentMeasurement tile k current volt s
  | .monitorScanEnd tile => Sys2Proof.Machine.execMonitorScanEnd tile s
  | .slotSkewApplyWrite value => Sys2Proof.Machine.execSlotSkewApplyWrite value s
  | .trimPulseStart tile => Sys2Proof.Machine.execTrimPulseStart tile s
  | .trimPulseEnd tile => Sys2Proof.Machine.execTrimPulseEnd tile s
  | .trimCmdPulse tile ch up set => Sys2Proof.Machine.execTrimCmdPulse tile ch up set s
  | .trimCmdTrain tile ch up => Sys2Proof.Machine.execTrimCmdTrain tile ch up s
  | .trimCmdAssign tile ch tap => Sys2Proof.Machine.execTrimCmdAssign tile ch tap s
  | .trimTsetWrite tile set edge value => Sys2Proof.Machine.execTrimTsetWrite tile set edge value s
  | .wearRecordDurable ok => Sys2Proof.Machine.execWearRecordDurable ok s
  | .logCompactionDone => Sys2Proof.Machine.execLogCompactionDone s
  | .ageTick => Sys2Proof.Machine.execAgeTick s
  | .wearQuery cell => Sys2Proof.Machine.execWearQuery cell s
  | .wearQueryDone => Sys2Proof.Machine.execWearQueryDone s
  | .correctionBlockFetch pend pos => Sys2Proof.Machine.execCorrectionBlockFetch pend pos s
  | .correctionBlockArrival pend tile pos => Sys2Proof.Machine.execCorrectionBlockArrival pend tile pos s
  | .correctionBlockDeadline pend pos => Sys2Proof.Machine.execCorrectionBlockDeadline pend pos s
  | .ddsSwap tile => Sys2Proof.Machine.execDdsSwap tile s
  | .swpCmdStart seg => Sys2Proof.Machine.execSwpCmdStart seg s
  | .swpCmdStop seg => Sys2Proof.Machine.execSwpCmdStop seg s
  | .swpCmdResume seg => Sys2Proof.Machine.execSwpCmdResume seg s
  | .swpJumpWrite seg => Sys2Proof.Machine.execSwpJumpWrite seg s
  | .outputInstant => Sys2Proof.Machine.execOutputInstant s
  | .sweepFrameArrival seg first n => Sys2Proof.Machine.execSweepFrameArrival seg first n s
  | .mcLoadStart => Sys2Proof.Machine.execMcLoadStart s
  | .mcLoadDone bad => Sys2Proof.Machine.execMcLoadDone bad s
  | .controlStoreRead tile => Sys2Proof.Machine.execControlStoreRead tile s
  | .cfgCommit bank guard => Sys2Proof.Machine.execCfgCommit bank guard s
  | .slotArm => Sys2Proof.Machine.execSlotArm s
  | .armValidationDone => Sys2Proof.Machine.execArmValidationDone s
  | .slotDisarm => Sys2Proof.Machine.execSlotDisarm s
  | .slotStop bank guard atEnd => Sys2Proof.Machine.execSlotStop bank guard atEnd s
  | .boundaryFixGrain => Sys2Proof.Machine.execBoundaryFixGrain s
  | .slotBoundary => Sys2Proof.Machine.execSlotBoundary s
  | .stagingCopyArrival mem place => Sys2Proof.Machine.execStagingCopyArrival mem place s
  | .rteSolve => Sys2Proof.Machine.execRteSolve s
  | .rteAdd => Sys2Proof.Machine.execRteAdd s
  | .rteDrop => Sys2Proof.Machine.execRteDrop s
  | .rteShutmask => Sys2Proof.Machine.execRteShutmask s
  | .rteTrace => Sys2Proof.Machine.execRteTrace s
  | .rteExtract => Sys2Proof.Machine.execRteExtract s
  | .rteMark => Sys2Proof.Machine.execRteMark s
  | .routeSolverDone cycles => Sys2Proof.Machine.execRouteSolverDone cycles s
  | .ptpStep => Sys2Proof.Machine.execPtpStep s
  | .ptpAdj => Sys2Proof.Machine.execPtpAdj s
  | .macTimeSettled => Sys2Proof.Machine.execMacTimeSettled s
  | .ptpIncrFracWrite value => Sys2Proof.Machine.execPtpIncrFracWrite value s
  | .ptpIncrNsWrite value => Sys2Proof.Machine.execPtpIncrNsWrite value s
  | .servoOffsetWrite value => Sys2Proof.Machine.execServoOffsetWrite value s
  | .servoSilence => Sys2Proof.Machine.execServoSilence s
  | .ppsInEdge edge => Sys2Proof.Machine.execPpsInEdge edge s
  | .ppsLoss => Sys2Proof.Machine.execPpsLoss s
  | .ppsOutRise => Sys2Proof.Machine.execPpsOutRise s
  | .ppsOutFall => Sys2Proof.Machine.execPpsOutFall s
  | .txtsFifoRead port => Sys2Proof.Machine.execTxtsFifoRead port s
  | .portLinkChange port up var => Sys2Proof.Machine.execPortLinkChange port up var s
  | .frameReceive port frame stamp cw unc => Sys2Proof.Machine.execFrameReceive port frame stamp cw unc s
  | .egressFrameStart port stamp => Sys2Proof.Machine.execEgressFrameStart port stamp s
  | .portMTxSubmit wp => Sys2Proof.Machine.execPortMTxSubmit wp s
  | .learnRequestApply pipe => Sys2Proof.Machine.execLearnRequestApply pipe s
  | .flapWindowClose pipe pos => Sys2Proof.Machine.execFlapWindowClose pipe pos s
  | .flapHoldExpiry pipe pos => Sys2Proof.Machine.execFlapHoldExpiry pipe pos s
  | .ageSweep pipe pos => Sys2Proof.Machine.execAgeSweep pipe pos s
  | .fwdSearch pipe => Sys2Proof.Machine.execFwdSearch pipe s
  | .fwdNext pipe => Sys2Proof.Machine.execFwdNext pipe s
  | .fwdFlushPort pipe => Sys2Proof.Machine.execFwdFlushPort pipe s
  | .fwdBulkLoad pipe => Sys2Proof.Machine.execFwdBulkLoad pipe s
  | .fwdCmdDone pipe => Sys2Proof.Machine.execFwdCmdDone pipe s
  | .lpmInsert => Sys2Proof.Machine.execLpmInsert s
  | .lpmDelete => Sys2Proof.Machine.execLpmDelete s
  | .lpmLookup => Sys2Proof.Machine.execLpmLookup s
  | .lpmCmdDone => Sys2Proof.Machine.execLpmCmdDone s
  | .circuitSetup => Sys2Proof.Machine.execCircuitSetup s
  | .circuitRelease => Sys2Proof.Machine.execCircuitRelease s
  | .circuitQuery => Sys2Proof.Machine.execCircuitQuery s
  | .engineCommitRetry => Sys2Proof.Machine.execEngineCommitRetry s
  | .trafficTick => Sys2Proof.Machine.execTrafficTick s
  | .moveTick => Sys2Proof.Machine.execMoveTick s
  | .meterEnable meter value => Sys2Proof.Machine.execMeterEnable meter value s
  | .shaperUpdate port queue value => Sys2Proof.Machine.execShaperUpdate port queue value s
  | .moveCharge port wearok => Sys2Proof.Machine.execMoveCharge port wearok s
  | .movePeek port wearok => Sys2Proof.Machine.execMovePeek port wearok s
  | .movePortWrite port value => Sys2Proof.Machine.execMovePortWrite port value s
  | .calStart => Sys2Proof.Machine.execCalStart s
  | .calAbort => Sys2Proof.Machine.execCalAbort s
  | .calTriggerCheck => Sys2Proof.Machine.execCalTriggerCheck s
  | .campaignPendingStart => Sys2Proof.Machine.execCampaignPendingStart s
  | .comparatorBlockDone tile conv ones => Sys2Proof.Machine.execComparatorBlockDone tile conv ones s
  | .probeMarker tile tree late => Sys2Proof.Machine.execProbeMarker tile tree late s
  | .measureTimeout tile => Sys2Proof.Machine.execMeasureTimeout tile s
  | .tempReading tile raw => Sys2Proof.Machine.execTempReading tile raw s
  | .modelStep => Sys2Proof.Machine.execModelStep s
  | .railSample rail mv => Sys2Proof.Machine.execRailSample rail mv s
  | .ringOscCount tile count => Sys2Proof.Machine.execRingOscCount tile count s
  | .tileHoldCmd tile => Sys2Proof.Machine.execTileHoldCmd tile s
  | .tileReleaseCmd tile => Sys2Proof.Machine.execTileReleaseCmd tile s
  | .tileRejoin tile halves => Sys2Proof.Machine.execTileRejoin tile halves s
  | .tileRestart tile halves => Sys2Proof.Machine.execTileRestart tile halves s
  | .tileDisable tile halves => Sys2Proof.Machine.execTileDisable tile halves s
  | .tileSwap tile => Sys2Proof.Machine.execTileSwap tile s
  | .slotTimerRejoin halves => Sys2Proof.Machine.execSlotTimerRejoin halves s
  | .slotTimerSwap => Sys2Proof.Machine.execSlotTimerSwap s
  | .lockstepMismatch => Sys2Proof.Machine.execLockstepMismatch s
  | .watchdogExpiry => Sys2Proof.Machine.execWatchdogExpiry s
  | .mgtHeartbeatWrite => Sys2Proof.Machine.execMgtHeartbeatWrite s
  | .faultMessageAccept => Sys2Proof.Machine.execFaultMessageAccept s
  | .fltAckOne seq => Sys2Proof.Machine.execFltAckOne seq s
  | .fltAckAll => Sys2Proof.Machine.execFltAckAll s
  | .sableEntry => Sys2Proof.Machine.execSableEntry s
  | .fltRecDone => Sys2Proof.Machine.execFltRecDone s
  | .fltRecUnfreeze => Sys2Proof.Machine.execFltRecUnfreeze s
  | .eventRouting => Sys2Proof.Machine.execEventRouting s
  | .relayInput relay => Sys2Proof.Machine.execRelayInput relay s
  | .swpStartInput => Sys2Proof.Machine.execSwpStartInput s
  | .swpStopInput => Sys2Proof.Machine.execSwpStopInput s
  | .calStartInput => Sys2Proof.Machine.execCalStartInput s
  | .dmaTrigInput ch => Sys2Proof.Machine.execDmaTrigInput ch s
  | .hostMessageInput k => Sys2Proof.Machine.execHostMessageInput k s
  | .interruptTake irq => Sys2Proof.Machine.execInterruptTake irq s
  | .softwarePublish ini k => Sys2Proof.Machine.execSoftwarePublish ini k s
  | .eventEntryWrite ini input index value => Sys2Proof.Machine.execEventEntryWrite ini input index value s
  | .mgtRemapWrite ini value => Sys2Proof.Machine.execMgtRemapWrite ini value s
  | .dmaStart ch => Sys2Proof.Machine.execDmaStart ch s
  | .dmaResume ch => Sys2Proof.Machine.execDmaResume ch s
  | .dmaAbort ch => Sys2Proof.Machine.execDmaAbort ch s
  | .dmaUnitIssue => Sys2Proof.Machine.execDmaUnitIssue s
  | .dmaUnitComplete ch => Sys2Proof.Machine.execDmaUnitComplete ch s
  | .mmuInvAll => Sys2Proof.Machine.execMmuInvAll s
  | .mmuInvStream stream => Sys2Proof.Machine.execMmuInvStream stream s
  | .mmuInvPage stream => Sys2Proof.Machine.execMmuInvPage stream s
  | .dqsTracking => Sys2Proof.Machine.execDqsTracking s
  | .patrolScrub word err => Sys2Proof.Machine.execPatrolScrub word err s
  | .plovomLinkState link v lanes => Sys2Proof.Machine.execPlovomLinkState link v lanes s
  | .plvRead link tag addr len => Sys2Proof.Machine.execPlvRead link tag addr len s
  | .plvWrite link tag addr data => Sys2Proof.Machine.execPlvWrite link tag addr data s
  | .plvPwrite link addr data => Sys2Proof.Machine.execPlvPwrite link addr data s
  | .plvMsg link index data => Sys2Proof.Machine.execPlvMsg link index data s
  | .plvCpl link tag status data => Sys2Proof.Machine.execPlvCpl link tag status data s
  | .plvAck link seq => Sys2Proof.Machine.execPlvAck link seq s
  | .plvNak link seq => Sys2Proof.Machine.execPlvNak link seq s
  | .plvCredit link p np cpl => Sys2Proof.Machine.execPlvCredit link p np cpl s
  | .plvInit link p np cpl => Sys2Proof.Machine.execPlvInit link p np cpl s
  | .plvBadFrame link crc => Sys2Proof.Machine.execPlvBadFrame link crc s
  | .plvReplayTimeout link => Sys2Proof.Machine.execPlvReplayTimeout link s
  | .dmaRdTimeout link tag => Sys2Proof.Machine.execDmaRdTimeout link tag s
  | .plvMboxRead => Sys2Proof.Machine.execPlvMboxRead s
  | .tapInstruction ir => Sys2Proof.Machine.execTapInstruction ir s

end Sys2Proof.Machine
end

