-- ==== Sys2Proof/Machine/Step.lean ====
section
/-! DEFINITION. The step: the command at the front of the queue has its effect; with nothing
waiting one grain passes. -/
namespace Sys2Proof.Machine

/-- The state with the command that a word spells put at the front of the queue; unchanged where
the word spells none (every word: the table gives no bits). -/
def State.withFetchWord (s : State) (nbits w : Nat) : State :=
  match decodeTableWord nbits w with
  | none => s
  | some i => { s with pending := i :: s.pending }

/-- One step (log entry 4): with a command waiting, its effect; with none, one grain passes. -/
def step (s : State) : Host.Outcome State Fault Refusal :=
  match s.pending with
  | [] => .next s.grainPass
  | c :: rest => exec c { s with pending := rest }

end Sys2Proof.Machine
end

