-- ==== Sys2Proof/WellFormed.lean ====
section
/-! DEFINITION. Which commands can come: every index names something the part has, every field fits
its width. A command that fails this is answered by a fault (log entry 5). -/
namespace Sys2Proof

/-- Every operand lies in the range the part has (R5: tiles 0..175; R49: channels 0..63). -/
def Instr.wf : Instr → Bool
  | .powerOnReset straps _ => straps < 32
  | .powerLoss cut => cut.length ≤ 8
  | .resetNAsserted => true
  | .resetNReleased straps => straps < 32
  | .resetCmd _ => true
  | .thermalRestart => true
  | .flashDiscoveryDone found _ _ => found.size ≤ 2 ^ 32
  | .dramTrainingDone mask _ => mask < 256
  | .imageStreamDone _ => true
  | .ledgerRebuildDone _ _ => true
  | .selfTestDone _ failU failO skew => failU.all (fun t => t < 176) && failO.all (fun t => t < 176) && skew.all (fun k => k < 352 * 16384)
  | .bootArm => true
  | .holdReqNAsserted => true
  | .holdReqNDeasserted => true
  | .holdReleaseBoundary => true
  | .modeCmdCharacterise _ => true
  | .modeCmdStatic _ => true
  | .deviceHoldCmd _ => true
  | .deviceReleaseCmd _ => true
  | .bootSlot _ slot => slot < 2 ^ 32
  | .nvmRead _ off n lo hi => off < 2 ^ 32 && n < 2 ^ 32 && lo < 2 ^ 32 && hi < 2 ^ 32
  | .nvmWrite _ off n lo hi => off < 2 ^ 32 && n < 2 ^ 32 && lo < 2 ^ 32 && hi < 2 ^ 32
  | .nvmErase _ off n => off < 2 ^ 32 && n < 2 ^ 32
  | .imgCheck _ slot => slot < 2 ^ 32
  | .fuseSvn _ => true
  | .fuseRevoke0 _ => true
  | .deviceCommandDone done _ => done < 2 ^ 32
  | .mgtCmdBusyWrite _ value => value < 2 ^ 32
  | .mgmtCommandFrame port frame => port < 8 && 14 ≤ frame.length && frame.length ≤ 16384
  | .registerWrite _ addr value => addr < 2 ^ 40 && addr % 4 == 0 && value < 2 ^ 32
  | .misalignedAccess _ _ addr width _ => addr < 2 ^ 40 && decide (width ∈ [1, 2, 4, 8, 16]) && !(width == 4 && addr % 4 == 0)
  | .undefinedAddressAccess _ _ addr value => addr < 2 ^ 40 && addr % 4 == 0 && value < 2 ^ 32
  | .rsRead _ addr => addr < 2 ^ 40 && addr % 4 == 0
  | .snapshotRead _ addr => addr < 2 ^ 40 && addr % 4 == 0
  | .spanBoundary hbU hbO => hbU < 4 && hbO < 4
  | .programGrain tile half g ix perr => tile < 176 && half < 2 && g < 3968 && ix < 4096 && perr < 256
  | .heartbeatReceived tile half _ => tile < 176 && half < 2
  | .tokenDecision tile _ _ _ => tile < 176
  | .conversionComplete tile conv slot code _ _ volt => tile < 176 && conv < 2 && slot < 128 && code < 16384 && volt < 2 ^ 32
  | .sampleDelivered tile conv => tile < 176 && conv < 2
  | .refReady tile => tile < 176
  | .syscalDark tile avg => tile < 176 && avg < 16
  | .syscalGainInject tile avg => tile < 176 && avg < 16
  | .syscalGainIllum tile avg => tile < 176 && avg < 16
  | .syscalAccept tile avg => tile < 176 && avg < 16
  | .syscalDone tile => tile < 176
  | .owtAutoStart tile => tile < 176
  | .adcOwtCmd tile input _ => tile < 176 && input < 128
  | .captureRecordWritten ring => ring < 8
  | .captureRingEnable ring => ring < 8
  | .configBroadcast ce ue => ce.all (fun k => k < 131072) && ue.all (fun k => k < 131072)
  | .shadowDeadline bad => bad.all (fun t => t < 176)
  | .commitDecisionPoint _ => true
  | .commitStrobeEdge missU missO => missU.all (fun t => t < 176) && missO.all (fun t => t < 176)
  | .guardedGroupLoad group => 1 ≤ group && group ≤ 3
  | .legDeparture tile ch _ => tile < 176 && ch < 64
  | .heaterSliceFail tile ch => tile < 176 && ch < 64
  | .htrSwap tile spare ch => tile < 176 && spare < 2 && ch < 64
  | .currentMeasurement tile k current volt => tile < 176 && k < 194 && current < 65536 && volt < 65536
  | .monitorScanEnd tile => tile < 176
  | .slotSkewApplyWrite value => value < 2 ^ 32
  | .trimPulseStart tile => tile < 176
  | .trimPulseEnd tile => tile < 176
  | .trimCmdPulse tile ch _ set => tile < 176 && ch < 64 && set < 8
  | .trimCmdTrain tile ch _ => tile < 176 && ch < 64
  | .trimCmdAssign tile ch tap => tile < 176 && ch < 64 && tap < 64
  | .trimTsetWrite tile set edge value => tile < 176 && set < 8 && edge < 8 && value < 2 ^ 32
  | .wearRecordDurable _ => true
  | .logCompactionDone => true
  | .ageTick => true
  | .wearQuery cell => cell < 2 ^ 14
  | .wearQueryDone => true
  | .correctionBlockFetch _ pos => pos < 1024
  | .correctionBlockArrival _ tile pos => tile < 176 && pos < 1024
  | .correctionBlockDeadline _ pos => pos < 1024
  | .ddsSwap tile => tile < 176
  | .swpCmdStart seg => seg < 256
  | .swpCmdStop seg => seg < 256
  | .swpCmdResume seg => seg < 256
  | .swpJumpWrite seg => seg < 256
  | .outputInstant => true
  | .sweepFrameArrival seg first n => seg < 256 && first < 2 ^ 24 && n ≤ 256
  | .mcLoadStart => true
  | .mcLoadDone bad => bad.all (fun t => t < 176)
  | .controlStoreRead tile => tile < 176
  | .cfgCommit bank _ => bank < 512
  | .slotArm => true
  | .armValidationDone => true
  | .slotDisarm => true
  | .slotStop bank _ _ => bank < 512
  | .boundaryFixGrain => true
  | .slotBoundary => true
  | .stagingCopyArrival mem place => mem < 2 && place < 16
  | .rteSolve => true
  | .rteAdd => true
  | .rteDrop => true
  | .rteShutmask => true
  | .rteTrace => true
  | .rteExtract => true
  | .rteMark => true
  | .routeSolverDone cycles => cycles < 2 ^ 32
  | .ptpStep => true
  | .ptpAdj => true
  | .macTimeSettled => true
  | .ptpIncrFracWrite value => value < 2 ^ 32
  | .ptpIncrNsWrite value => value < 2 ^ 32
  | .servoOffsetWrite value => value < 2 ^ 32
  | .servoSilence => true
  | .ppsInEdge edge => edge.stamp < 2 ^ 112 && edge.width < 2 ^ 32
  | .ppsLoss => true
  | .ppsOutRise => true
  | .ppsOutFall => true
  | .txtsFifoRead port => port < 8
  | .portLinkChange port _ var => port < 8 && var ≤ 10240
  | .frameReceive port frame stamp _ _ => port < 8 && 14 ≤ frame.bytes.length && frame.bytes.length ≤ 16384 && stamp < 2 ^ 112
  | .egressFrameStart port stamp => port < 8 && stamp < 2 ^ 112
  | .portMTxSubmit wp => wp < 64
  | .learnRequestApply pipe => pipe < 2
  | .flapWindowClose pipe pos => pipe < 2 && pos < 65536
  | .flapHoldExpiry pipe pos => pipe < 2 && pos < 65536
  | .ageSweep pipe pos => pipe < 2 && pos < 65536
  | .fwdSearch pipe => pipe < 2
  | .fwdNext pipe => pipe < 2
  | .fwdFlushPort pipe => pipe < 2
  | .fwdBulkLoad pipe => pipe < 2
  | .fwdCmdDone pipe => pipe < 2
  | .lpmInsert => true
  | .lpmDelete => true
  | .lpmLookup => true
  | .lpmCmdDone => true
  | .circuitSetup => true
  | .circuitRelease => true
  | .circuitQuery => true
  | .engineCommitRetry => true
  | .trafficTick => true
  | .moveTick => true
  | .meterEnable meter value => meter < 256 && 2 ^ 31 ≤ value && value < 2 ^ 32
  | .shaperUpdate port queue value => port < 8 && queue < 8 && value < 2 ^ 32
  | .moveCharge port _ => port < 1024
  | .movePeek port _ => port < 1024
  | .movePortWrite port value => port < 1024 && value < 2 ^ 32
  | .calStart => true
  | .calAbort => true
  | .calTriggerCheck => true
  | .campaignPendingStart => true
  | .comparatorBlockDone tile conv ones => tile < 176 && conv < 2 && ones ≤ 1024
  | .probeMarker tile tree _ => tile < 176 && tree < 2
  | .measureTimeout tile => tile < 176
  | .tempReading tile _ => tile < 176
  | .modelStep => true
  | .railSample rail mv => rail < 8 && mv < 65536
  | .ringOscCount tile count => tile < 176 && count < 2 ^ 20
  | .tileHoldCmd tile => tile < 176
  | .tileReleaseCmd tile => tile < 176
  | .tileRejoin tile halves => tile < 176 && halves < 4
  | .tileRestart tile halves => tile < 176 && halves < 4
  | .tileDisable tile halves => tile < 176 && halves < 4
  | .tileSwap tile => tile < 176
  | .slotTimerRejoin halves => halves < 4
  | .slotTimerSwap => true
  | .lockstepMismatch => true
  | .watchdogExpiry => true
  | .mgtHeartbeatWrite => true
  | .faultMessageAccept => true
  | .fltAckOne seq => seq < 2 ^ 31
  | .fltAckAll => true
  | .sableEntry => true
  | .fltRecDone => true
  | .fltRecUnfreeze => true
  | .eventRouting => true
  | .relayInput relay => relay < 32
  | .swpStartInput => true
  | .swpStopInput => true
  | .calStartInput => true
  | .dmaTrigInput ch => ch < 16
  | .hostMessageInput k => k < 8
  | .interruptTake irq => irq < 32
  | .softwarePublish _ k => k < 8
  | .eventEntryWrite _ _ index value => index < 1024 && value < 2 ^ 32
  | .mgtRemapWrite _ value => value < 2 ^ 32
  | .dmaStart ch => ch < 16
  | .dmaResume ch => ch < 16
  | .dmaAbort ch => ch < 16
  | .dmaUnitIssue => true
  | .dmaUnitComplete ch => ch < 16
  | .mmuInvAll => true
  | .mmuInvStream stream => stream < 32
  | .mmuInvPage stream => stream < 32
  | .dqsTracking => true
  | .patrolScrub word err => word < 2 ^ 29 && err < 3
  | .plovomLinkState link v lanes => link < 2 && v < 3 && lanes < 16
  | .plvRead link tag addr len => link < 2 && tag < 256 && addr < 2 ^ 40 && 1 ≤ len && len ≤ 256
  | .plvWrite link tag addr data => link < 2 && tag < 256 && addr < 2 ^ 40 && 1 ≤ data.length && data.length ≤ 256
  | .plvPwrite link addr data => link < 2 && addr < 2 ^ 40 && 1 ≤ data.length && data.length ≤ 256
  | .plvMsg link index data => link < 2 && index < 256 && data < 2 ^ 32
  | .plvCpl link tag status data => link < 2 && tag < 256 && status < 256 && data.length ≤ 256
  | .plvAck link seq => link < 2 && seq < 4096
  | .plvNak link seq => link < 2 && seq < 4096
  | .plvCredit link p np cpl => link < 2 && p < 2 ^ 16 && np < 2 ^ 16 && cpl < 2 ^ 16
  | .plvInit link p np cpl => link < 2 && p < 2 ^ 16 && np < 2 ^ 16 && cpl < 2 ^ 16
  | .plvBadFrame link _ => link < 2
  | .plvReplayTimeout link => link < 2
  | .dmaRdTimeout link tag => link < 2 && tag < 256
  | .plvMboxRead => true
  | .tapInstruction ir => ir < 6

end Sys2Proof
end

