-- ==== Sys2Proof/Safety.lean ====
section
/-! DEFINITION. What counts as a sound state and a sound run of the block, in the terms that the statements
use. -/
namespace Sys2Proof.Machine

/-- A sound state. Every sparse store is in its canonical form (keys rise strictly, and nothing is listed that
an unlisted key reads as, so that equal contents are equal data); network time keeps its fields in range
(R264); the mailbox holds at most 16 messages (R451), the unacknowledged list at most 256 entries (R402) and
the slot history at most 256 records (R410). -/
structure State.Sound (s : State) : Prop where
  regs : spWf 0#32 s.regs = true
  lats : spWf (0 : Int) s.lats = true
  regs0 : spWf 0#32 s.regs0 = true
  lats0 : spWf (0 : Int) s.lats0 = true
  banks : spWf 0#32 s.banks = true
  bankEcc : spWf 0 s.bankEcc = true
  cs : spWf 0#264 s.cs = true
  dm : spWf 0#32 s.dm = true
  sram : spWf 0#8 s.sram = true
  flash : spWf 0xFF#8 s.flash = true
  dram : spRising s.dram = true
  snap : spRising s.snap = true
  ns : s.time.ns < 1000000000
  sec : s.time.sec < 2 ^ 48
  frac : s.time.frac < 2 ^ 32
  mbox : s.mbox.length ≤ 16
  unacks : s.unacks.length ≤ 256
  slotHist : s.slotHist.length ≤ 256

/-- Every command that waits is well formed. -/
def State.queueWf (s : State) : Prop := ∀ c ∈ s.pending, c.wf = true

/-- An outcome goes on: it is neither a fault nor a refusal. -/
def goesOn (o : Host.Outcome State Fault Refusal) : Prop := ∃ t, o = .next t

/-! ### What a command leaves alone -/

/-- Every register element reads in `t` as in `s`, but those at the places `ks`. -/
def State.regsAs (t s : State) (ks : List Nat) : Prop :=
  ∀ (r : Reg) (τ i j : Nat), r.key τ i j ∉ ks → t.treg r τ i j = s.treg r τ i j

/-- Every internal word reads in `t` as in `s`, but those at the places `ks`. -/
def State.latsAs (t s : State) (ks : List Nat) : Prop :=
  ∀ (l : Lat) (τ i j : Nat), l.key τ i j ∉ ks → t.lat l τ i j = s.lat l τ i j

/-- Every byte of SRAM, DRAM and flash, every configuration word, control-store word and data-memory word reads
in `t` as in `s`. -/
def State.memAs (t s : State) : Prop :=
  (∀ a, t.sramByte a = s.sramByte a) ∧ (∀ a, spFind t.dram a = spFind s.dram a) ∧ (∀ a, t.flashByte a = s.flashByte a) ∧
    (∀ c w, t.bankWord c w = s.bankWord c w) ∧ (∀ k, spGet 0#264 t.cs k = spGet 0#264 s.cs k) ∧
    (∀ k, spGet 0#32 t.dm k = spGet 0#32 s.dm k)

/-- Every element of every register that `rs` does not name reads in `t` as in `s`. -/
def State.otherRegs (t s : State) (rs : List Reg) : Prop :=
  ∀ r : Reg, r ∉ rs → ∀ τ i j, t.treg r τ i j = s.treg r τ i j

/-- The message of a source that detects a fault of a kind now (R393). -/
def State.msg (s : State) (src kind addr : Nat) (xaddr : Nat := 0) : FaultMsg :=
  ⟨src, kind, kindClass kind, addr, xaddr, s.time.sec, s.time.ns⟩

/-- What every reset leaves (R460): BOOT, the Sable line released, network time 0, nothing waiting, SRAM, banks and
the tables of the forwarding block cleared, and every register at its reset value but those of `rs`. -/
def State.afterReset (t : State) (rs : List Reg) : Prop :=
  t.mode = .boot ∧ t.sable = false ∧ t.time = ⟨0, 0, 0⟩ ∧ t.faults = [] ∧ t.unacks = [] ∧ t.events = [] ∧ t.commit = none ∧
    t.txq = [] ∧ t.mac = [] ∧ t.lpm = [] ∧ t.mbox = [] ∧ (∀ a, t.sramByte a = 0) ∧ (∀ c w, t.bankWord c w = 0) ∧
    ∀ r : Reg, r ∉ rs → ∀ τ i j, t.treg r τ i j = r.desc.reset % 2 ^ 32

/-- No byte of DRAM from an offset on holds what was written before. -/
def State.noDramFrom (t : State) (o : Nat) : Prop := ∀ a, o ≤ a → spFind t.dram a = none

/-- The slot that BOOT tried in `s` has failed with a code (R471, R480): the code stands in MGT_BOOT, kind BOOT_IMG is
sent, what the slot had applied is discarded, and BOOT goes on with the other slot where one is left, else BOOT_FAIL is
set. -/
def State.slotFailed (t s : State) (code : Nat) : Prop :=
  t.fld .MGT_BOOT (8 * s.nlat .bootSlot + 7) (8 * s.nlat .bootSlot) = code ∧
    (∃ l m, t.faults = l ++ [m] ∧ m.src = 0x119 ∧ m.kind = 0x75 ∧ m.addr = 256 * s.nlat .bootSlot + code) ∧
    (∀ a, t.sramByte a = 0) ∧ (∀ c w, t.bankWord c w = 0) ∧
    (∀ r : Reg, r ∉ partRegs → ∀ τ i j, t.treg r τ i j = r.desc.reset % 2 ^ 32) ∧
    if s.nlat .bootNext = 0 then t.rbit .MGT_MODE 11 = true
    else t.lat .bootStep = 3 ∧ t.nlat .bootSlot = s.nlat .bootNext - 1 ∧ t.lat .bootNext = 0

/-- Registers a write of which does more than load the writable bits. -/
def actingRegs : List Reg :=
  [.SLOT_SKEW_APPLY, .TILE_SKEW_NEXT, .HTR_MODE, .HTR_SWAP, .TRIM_CMD, .TRIM_TSET, .WEAR_QUERY, .ADC_SYSCAL, .ADC_OWT_CMD,
    .ADC_REF, .DMA_CAP_CTRL, .DDS_SWAP, .SWP_CMD, .SWP_JUMP, .MC_LOAD_CMD, .MC_DM_DATA, .SLOT_CMD, .CFG_COMMIT, .RTE_CMD,
    .PTP_CTRL, .PTP_CMD, .PTP_INCR_FRAC, .PTP_INCR_NS, .PTP_SERVO_OFS, .PTP_PPSIN_CTRL, .PTP_PPSOUT_CTRL, .SIG_M_RX_CTRL,
    .SIG_M_TX_CTRL, .SIG_M_TX_WP, .SIG_PORT_CFG, .FWD_CMD, .LPM_CMD, .LPM_GROUP, .POL_CFG, .MOVE_CMD, .MOVE_PORT, .CAL_CMD,
    .RED_TCMD, .RED_SLOT_CMD, .RED_MGT_HB, .FLT_ACK, .FLT_REC_CMD, .EVT_SWPUB, .EVT_SRC, .EVT_SUB, .EVT_INST, .DMA_CH_CMD,
    .MMU_INV, .PLV_LCTRL, .MGT_CMD, .MGT_CMD_ARG, .DRV_BLOCK, .HTR_BLOCK, .ADC_RANGE, .ADC_CTRL, .THM_CTRL, .LPM_KEY]

/-- Registers a read of which removes an entry, captures another word or takes a parity-checked word. -/
def actingReads : List Reg := [.MC_CS_DATA, .PTP_TXTS_ID, .PLV_MBOX_IDX, .MC_DM_DATA]

/-- The access of an initiator reaches register element (i, j) of tile τ at an address (R5, R30, R428). -/
def State.reaches (s : State) (ini : Initiator) (a : Nat) (r : Reg) (τ i j : Nat) (write : Bool) : Prop :=
  a < 2 ^ 40 ∧ a % 4 = 0 ∧ s.regOf a = some (r, τ, i, j) ∧
    ∃ tg, s.target a = some (tg, a) ∧ (tg = .reg ∨ tg = .tile) ∧ pathOk (busPort ini) tg write = true

/-- An access that the part answers with an address fault (R5, R6, R428): error response, ADDR with the address, nothing
else. -/
def State.addrFaulted (t s : State) (a : Nat) : Prop :=
  t.resp = ⟨true, 0⟩ ∧ t.faults = s.faults ++ [s.msg 0x101 0x01 (a % 2 ^ 32) (a / 2 ^ 32 % 256)] ∧
    t = { s with faults := t.faults, resp := t.resp }

/-- The command written at a register is refused (R11): fault kind REFUSE with the register's address is sent, the
REFUSED bit of the block's status register sets, and nothing else changes. -/
def State.refusedAt (t s : State) (r : Reg) (τ : Nat) (st : Reg) (b : Nat) : Prop :=
  t.faults = s.faults ++ [s.msg (ownerOf (r.addr τ 0 0)) 0x02 (r.addr τ 0 0)] ∧ t.tbit st τ b = true ∧
    (∀ k, k ≠ b → t.tbit st τ k = s.tbit st τ k) ∧ t = { s with regs := t.regs, faults := t.faults } ∧
    t.regsAs s [st.key τ 0 0]

/-! ### Commands by what they may do -/

/-- The resets (R22, R360, R457 to R460). -/
def isReset : Instr → Bool
  | .powerOnReset _ _ | .powerLoss _ | .resetNAsserted | .thermalRestart => true
  | _ => false

/-- The commands by which someone writes registers of his choice, MGT_CMD among them, or gives a device command,
so that a RESET may come by them; and the step of BOOT that writes the registers of the image. -/
def writesAny : Instr → Bool
  | .resetCmd _ | .modeCmdCharacterise _ | .modeCmdStatic _ | .deviceHoldCmd _ | .deviceReleaseCmd _ | .bootSlot _ _
  | .nvmRead _ _ _ _ _ | .nvmWrite _ _ _ _ _ | .nvmErase _ _ _ | .imgCheck _ _ | .fuseSvn _ | .fuseRevoke0 _
  | .mgtCmdBusyWrite _ _ | .mgmtCommandFrame _ _ | .registerWrite _ _ _ | .undefinedAddressAccess _ _ _ _
  | .mgtRemapWrite _ _ | .plvWrite _ _ _ _ | .plvPwrite _ _ _ | .ledgerRebuildDone _ _ => true
  | _ => false

/-- The other commands that may change the device mode (R22): the HOLD pin, the release boundary, a fault with a
reaction, the first and the stop boundary of a slot program, SABLE, and the end of BOOT. -/
def movesMode : Instr → Bool
  | .holdReqNAsserted | .holdReqNDeasserted | .holdReleaseBoundary | .faultMessageAccept | .slotBoundary | .sableEntry
  | .selfTestDone _ _ _ _ => true
  | _ => false

/-- The steps of BOOT that apply what an image holds, or discard it (R465, R471). -/
def bootApplies : Instr → Bool
  | .dramTrainingDone _ _ | .imageStreamDone _ => true
  | _ => false

end Sys2Proof.Machine
end

