-- ==== Sys2Proof/Certificates/Slice0/Obligations.lean ====
section
/-! DEFINITION. The statements for the provers. -/

open Sys2Proof Sys2Proof.Machine

/-- One command at the front of the queue: its effect on the state with the rest of the queue. -/
def Obligations.StepRunsFront : Prop :=
  ∀ (s : State) (c : Instr) (q : List Instr), step { s with pending := c :: q } = exec c { s with pending := q }

/-- With nothing waiting one grain passes: network time gains INCR + trim (R264), modulo 2^48 s, and nothing else
changes; the state keeps how it stood when the grain began (R10, R502). That the clock runs at an empty queue is the
model's choice (log entry 4). -/
def Obligations.IdleGrain : Prop :=
  ∀ s : State, s.Sound → s.pending = [] →
    ∃ t, step s = .next t ∧
      t = { s with grain := s.grain + 1, time := t.time, regs0 := s.regs, lats0 := s.lats, mode0 := s.mode,
                   time0 := s.time, blocks0 := s.blocks } ∧
      t.time.ns < 1000000000 ∧ t.time.sec < 2 ^ 48 ∧ t.time.frac < 2 ^ 32 ∧
      t.time.total % (2 ^ 32 * (1000000000 * 2 ^ 48)) = (s.time.total + s.incr) % (2 ^ 32 * (1000000000 * 2 ^ 48))

/-- After power-on reset every register element holds the value of its table's Reset column, or 0 where the table says
img, strap or X (0 for X is the model's choice, log entry 1); the part is in BOOT, network time is 0, no command,
message, event or frame waits, no memory lists anything, and the state is sound. -/
def Obligations.ResetState : Prop :=
  (∀ (r : Reg) (τ i j : Nat), State.reset.treg r τ i j = r.desc.reset % 2 ^ 32) ∧
    (∀ (l : Machine.Lat) (τ i j : Nat), State.reset.lat l τ i j = 0) ∧
    State.reset.mode = .boot ∧ State.reset.sable = false ∧ State.reset.time = ⟨0, 0, 0⟩ ∧ State.reset.pending = [] ∧
    State.reset.faults = [] ∧ State.reset.events = [] ∧ State.reset.commit = none ∧
    (∀ a, State.reset.sramByte a = 0) ∧ (∀ a, State.reset.flashByte a = 0xFF) ∧ (∀ a, spFind State.reset.dram a = none) ∧
    State.reset.Sound

/-- Every step keeps soundness: every store stays in its canonical form, network time in range, and the mailbox, the
unacknowledged list and the slot history within their sizes; and it takes one command off the queue. -/
def Obligations.StepKeepsSound : Prop :=
  ∀ s t : State, s.Sound → step s = .next t → t.Sound ∧ t.pending = s.pending.tail

/-- A command stops exactly when its operands name what the part does not have, with the fault of that name; any other
command goes on. No command is refused. -/
def Obligations.WellFormedGoesOn : Prop :=
  ∀ (c : Instr) (s : State), (c.wf = true → ∃ t, exec c s = .next t) ∧ (c.wf = false → exec c s = .fault .illFormed)

/-- No command but a power reset changes the count of grains, and no command but STEP, ADJ, a reset, its release or a
register write of someone's choice changes network time: time passes only while nothing waits (log entry 4). -/
def Obligations.CommandsTakeNoTime : Prop :=
  ∀ (c : Instr) (s t : State), s.Sound → exec c s = .next t →
    (isReset c = false → t.grain = s.grain) ∧
    (isReset c = false → writesAny c = false → c ≠ .ptpStep → c ≠ .ptpAdj → (∀ straps, c ≠ .resetNReleased straps) →
      t.time = s.time)

/-- SABLE is left, and a driven Sable line goes low, only by a reset (R22, R94, R407): by no other command, but for
those that may carry a RESET. The device mode changes only by the triggers of R22: every other command leaves it. -/
def Obligations.ModeMovesOnlyByTriggers : Prop :=
  (∀ (c : Instr) (s t : State), s.Sound → exec c s = .next t → isReset c = false → writesAny c = false →
    (s.mode = .sable → t.mode = .sable) ∧ (s.sable = true → t.sable = true)) ∧
  (∀ (c : Instr) (s t : State), s.Sound → exec c s = .next t → isReset c = false → writesAny c = false →
    movesMode c = false → t.mode = s.mode)

/-- The pin or the HOLD command takes CHARACTERISE, STATIC and SLOTTED to HOLD (R22): PRIOR keeps the mode, the cause is
set, the entry is stamped, the codes at the bumps stay (R27), and neither the fabric map nor any memory is written.
Where a MODE command has moved the mode in the same grain, the row of HOLD is taken first (R13): PRIOR is the mode from
which it moved, and the command ends with STATE. -/
def Obligations.HoldEntered : Prop :=
  ∀ s : State, s.Sound → s.inRun = true →
    (∃ t, exec .holdReqNAsserted s = .next t ∧ t.mode = .hold ∧ t.prior = (if s.modeSame then s.mode0 else s.mode) ∧
      (s.modeSame = true → t.fld .MGT_CMD_STATUS 7 0 = 1) ∧
      t.reg .MGT_HOLD_CAUSE = setBit (s.reg .MGT_HOLD_CAUSE) 0 true ∧ t.reg .MGT_MODE_STAMP_NS = s.time.ns ∧
      (∀ τ c, t.treg .DRV_ACTIVE τ c = s.treg .DRV_ACTIVE τ c) ∧ (∀ τ c, t.treg .HTR_ACTIVE τ c = s.treg .HTR_ACTIVE τ c) ∧
      (∀ c, t.reg .CFG_FMAP c = s.reg .CFG_FMAP c) ∧ t.memAs s) ∧
    (∀ ini, s.cmdBusy = false →
      ∃ t, exec (.deviceHoldCmd ini) s = .next t ∧ t.mode = .hold ∧ t.prior = (if s.modeSame then s.mode0 else s.mode) ∧
        t.reg .MGT_HOLD_CAUSE = setBit (s.reg .MGT_HOLD_CAUSE) 1 true ∧
        t.reg .MGT_CMD_STATUS = 2 ^ 30 + 2 ^ 16 * initCode ini ∧
        (∀ τ c, t.treg .DRV_ACTIVE τ c = s.treg .DRV_ACTIVE τ c) ∧ (∀ τ c, t.treg .HTR_ACTIVE τ c = s.treg .HTR_ACTIVE τ c))

/-- HOLD ends (R24): RELEASE clears the command cause, and the fault cause too when no entry with a device reaction
waits for acknowledgement; the pin's rise clears its cause; the mode returns to PRIOR at the release boundary, once
every cause is clear, the boundary has come and the references have settled, and not before; a tile that may not leave
HOLD stays in it by itself (R220, R229, log entry 69). BOOT that waited for
the pin completes when it rises (R22, R24): in CHARACTERISE or STATIC by the image's start mode, or in HOLD over
that mode when the fault cause is set; BOOT_WAIT clears, the calibration temperatures take the readings (R337) and the
move buckets are full (R328). -/
def Obligations.HoldReleased : Prop :=
  (∀ s : State, s.Sound →
    (∀ ini, s.mode = .hold → s.cmdBusy = false →
      (s.rbit .MGT_HOLD_CAUSE 2 = false ∨ (s.unacks.all (fun u => u.tile.isSome) = true ∧ s.flag .unackOvf = false)) →
      ∃ t, exec (.deviceReleaseCmd ini) s = .next t ∧ t.mode = .hold ∧ t.rbit .MGT_HOLD_CAUSE 1 = false ∧
        t.rbit .MGT_HOLD_CAUSE 2 = false ∧ t.rbit .MGT_HOLD_CAUSE 0 = s.rbit .MGT_HOLD_CAUSE 0 ∧
        t.reg .MGT_CMD_STATUS = 2 ^ 30 + 2 ^ 16 * initCode ini ∧
        t.otherRegs s [.MGT_HOLD_CAUSE, .MGT_CMD_STATUS] ∧ t.memAs s) ∧
    (s.mode ≠ .boot → ∃ t, exec .holdReqNDeasserted s = .next t ∧ t.mode = s.mode ∧ t.rbit .MGT_HOLD_CAUSE 0 = false ∧
      (∀ b, b ≠ 0 → t.rbit .MGT_HOLD_CAUSE b = s.rbit .MGT_HOLD_CAUSE b) ∧ t.otherRegs s [.MGT_HOLD_CAUSE] ∧ t.memAs s) ∧
    (s.mode = .hold → s.prior ≠ .hold → s.reg .MGT_HOLD_CAUSE = 0 → s.nlat .relAt < s.grain → s.refsSettled = true →
      ∃ t, exec .holdReleaseBoundary s = .next t ∧ t.mode = s.prior ∧ t.reg .MGT_MODE_STAMP_NS = s.time.ns ∧
        (∀ τ ∈ s.tiles, t.tileHold τ = (s.tileHold τ || s.mustHold τ)) ∧
        t.otherRegs s [.MGT_MODE_STAMP_NS, .MGT_MODE_STAMP_S_LO, .MGT_MODE_STAMP_S_HI, .MGT_TILE_HOLD, .DRV_SHADOW, .DRV_SAT,
          .ADC_RNOW] ∧ t.memAs s) ∧
    (s.reg .MGT_HOLD_CAUSE ≠ 0 → exec .holdReleaseBoundary s = .next s)) ∧
  (∀ s : State, s.Sound → s.mode = .boot → s.rbit .MGT_MODE 10 = true → s.rbit .MGT_HOLD_CAUSE 0 = true →
    ∃ t, exec .holdReqNDeasserted s = .next t ∧
      t.mode = (if s.rbit .MGT_HOLD_CAUSE 2 then .hold else if s.lat .startMode = 1 then .characterise else .static) ∧
      (s.rbit .MGT_HOLD_CAUSE 2 = true → t.prior = if s.lat .startMode = 1 then .characterise else .static) ∧
      t.rbit .MGT_MODE 10 = false ∧ t.rbit .MGT_HOLD_CAUSE 0 = false ∧
      t.otherRegs s [.MGT_MODE, .MGT_HOLD_CAUSE, .MGT_MODE_STAMP_NS, .MGT_MODE_STAMP_S_LO, .MGT_MODE_STAMP_S_HI,
        .HTR_STATUS, .HTR_MAN, .HTR_ACTIVE, .HTR_PARTS, .TILE_CAL_TREF, .MOVE_TC, .MOVE_TP] ∧
      (∀ τ ∈ s.tiles, τ < 176 → t.treg .TILE_CAL_TREF τ = ux 16 (s.sensor τ)) ∧
      (∀ i, i < 1024 → t.reg .MOVE_TC i = 2 ^ 16 * s.fld .MOVE_CBS 15 0 (s.fld .MOVE_PORT 3 0 i) ∧
        t.reg .MOVE_TP i = 2 ^ 16 * s.fld .MOVE_PBS 15 0 (s.fld .MOVE_PORT 3 0 i)) ∧ t.memAs s)

/-- The mode commands (R22, R134, R474): MODE CHARACTERISE leaves STATIC when no list is armed or being armed, MODE
STATIC leaves CHARACTERISE when every tile in use is ready and neither the sweep player nor a microcode load runs;
from another mode each is refused: the status is STATE, REFUSE is sent, and nothing but the status, the argument and
LOST changes. -/
def Obligations.ModeCommands : Prop :=
  ∀ (s : State) (ini : Initiator), s.Sound → s.cmdBusy = false →
    (s.mode = .static → s.armedOrArming = false →
      ∃ t, exec (.modeCmdCharacterise ini) s = .next t ∧ t.mode = .characterise ∧
        t.reg .MGT_CMD_STATUS = 2 ^ 30 + 2 ^ 16 * initCode ini ∧ t.reg .MGT_MODE_STAMP_NS = s.time.ns ∧
        (∀ τ c, t.treg .DRV_ACTIVE τ c = s.treg .DRV_ACTIVE τ c) ∧ t.memAs s) ∧
    (s.mode = .characterise → s.tiles.all s.staticTileOk = true → s.swpState ∉ [1, 2, 3] → s.loadBusy = false →
      ∃ t, exec (.modeCmdStatic ini) s = .next t ∧ t.mode = .static ∧
        t.reg .MGT_CMD_STATUS = 2 ^ 30 + 2 ^ 16 * initCode ini ∧ t.reg .MGT_MODE_STAMP_NS = s.time.ns ∧
        (∀ τ c, t.treg .DRV_ACTIVE τ c = s.treg .DRV_ACTIVE τ c) ∧ t.memAs s) ∧
    (s.mode ≠ .static →
      ∃ t, exec (.modeCmdCharacterise ini) s = .next t ∧ t.mode = s.mode ∧ t.fld .MGT_CMD_STATUS 7 0 = 1 ∧
        t.faults = s.faults ++ [s.msg 0x101 0x02 (Reg.addr .MGT_CMD 0 0 0)] ∧
        t.otherRegs s [.MGT_CMD_ARG, .MGT_CMD_STATUS] ∧ t.memAs s) ∧
    (s.mode ≠ .characterise →
      ∃ t, exec (.modeCmdStatic ini) s = .next t ∧ t.mode = s.mode ∧ t.fld .MGT_CMD_STATUS 7 0 = 1 ∧
        t.faults = s.faults ++ [s.msg 0x101 0x02 (Reg.addr .MGT_CMD 0 0 0)] ∧
        t.otherRegs s [.MGT_CMD_ARG, .MGT_CMD_STATUS] ∧ t.memAs s)

/-- The four resets (R458 to R461): each leaves BOOT with every register at its reset value but those that the kind
keeps. Power-on and power loss keep the fuses (and straps); RESET_N and the RESET command keep the pin's hold cause
and a frozen record too; the command keeps the fatal record of THM and FLT and the DRAM below the boot area. The
flash stays, but for the record that a power loss cuts. RESET_N's release latches the straps and starts BOOT, with
network time 0 (R265, R457, R461); the thermal restart resets the part once every condition of R360 holds, with THM_RESTARTS counted up, and
otherwise nothing happens; a TAP instruction that drives pins acts as BYPASS unless RESET_N is asserted, and IDCODE
gives the device code (R501). -/
def Obligations.Resets : Prop :=
  (∀ s : State, s.Sound →
    (∀ straps low, straps < 32 → ∃ t, exec (.powerOnReset straps low) s = .next t ∧ t.afterReset [.MGT_STRAP, .MGT_FUSE] ∧
      t.reg .MGT_STRAP = straps ∧ (∀ b, b ≠ 8 → t.rbit .MGT_FUSE b = s.rbit .MGT_FUSE b) ∧ t.rbit .MGT_FUSE 8 = false ∧
      t.noDramFrom 0 ∧ ∀ a, t.flashByte a = s.flashByte a) ∧
    (∀ cut, cut.length ≤ 8 → ∃ t, exec (.powerLoss cut) s = .next t ∧ t.afterReset [.MGT_STRAP, .MGT_FUSE] ∧
      t.noDramFrom 0 ∧ ∀ a, (s.wearQ = [] ∨ a < s.logAddr (s.nlat .logUse) + s.reg .WEAR_LOG_FILL ∨
        s.logAddr (s.nlat .logUse) + s.reg .WEAR_LOG_FILL + cut.length ≤ a) → t.flashByte a = s.flashByte a) ∧
    (∃ t, exec .resetNAsserted s = .next t ∧ t.noDramFrom 0 ∧ (∀ a, t.flashByte a = s.flashByte a) ∧
      t.afterReset ([.MGT_STRAP, .MGT_FUSE, .MGT_HOLD_CAUSE] ++ if s.frozen then frozenRegs else []) ∧
      t.reg .MGT_STRAP = s.reg .MGT_STRAP ∧ t.reg .MGT_HOLD_CAUSE = b2n (s.rbit .MGT_HOLD_CAUSE 0) ∧
      (s.frozen = true → t.slotHist = s.slotHist ∧ ∀ r ∈ frozenRegs, ∀ τ i j, t.treg r τ i j = s.treg r τ i j)) ∧
    (∀ ini, s.cmdBusy = false → ∃ t, exec (.resetCmd ini) s = .next t ∧ (∀ a, t.flashByte a = s.flashByte a) ∧
      (∀ a, a < s.bootArea → spFind t.dram a = spFind s.dram a) ∧ t.noDramFrom s.bootArea ∧
      t.afterReset ([.MGT_STRAP, .MGT_FUSE, .MGT_HOLD_CAUSE] ++ faultRegs ++ if s.frozen then frozenRegs else []) ∧
      t.reg .MGT_STRAP = s.reg .MGT_STRAP ∧ t.reg .MGT_HOLD_CAUSE = b2n (s.rbit .MGT_HOLD_CAUSE 0) ∧
      (∀ r ∈ faultRegs, ∀ τ i j, t.treg r τ i j = s.treg r τ i j) ∧
      (s.frozen = true → t.slotHist = s.slotHist ∧ ∀ r ∈ frozenRegs, ∀ τ i j, t.treg r τ i j = s.treg r τ i j))) ∧
  (∀ s : State, s.Sound →
    (∀ straps, straps < 32 → s.lat .bootStep = 20 → ∃ t, exec (.resetNReleased straps) s = .next t ∧
      t.reg .MGT_STRAP = straps ∧ t.lat .bootStep = 0 ∧ t.otherRegs s [.MGT_STRAP] ∧ t.memAs s ∧ t.mode = s.mode ∧
      t.time = ⟨0, 0, 0⟩) ∧
    (∀ straps, straps < 32 → s.lat .bootStep ≠ 20 → exec (.resetNReleased straps) s = .next s) ∧
    (s.restartDue = true → ∃ t, exec .thermalRestart s = .next t ∧
      t.afterReset ([.MGT_STRAP, .MGT_FUSE, .MGT_HOLD_CAUSE] ++ faultRegs ++ if s.frozen then frozenRegs else []) ∧
      t.reg .THM_RESTARTS = min (s.reg .THM_RESTARTS + 1) (2 ^ 32 - 1) ∧ t.reg .THM_SHUT_INFO = s.reg .THM_SHUT_INFO ∧
      ∀ a, t.flashByte a = s.flashByte a) ∧
    (s.restartDue = false → exec .thermalRestart s = .next s) ∧
    (∀ ir, ir < 6 → ∃ t, exec (.tapInstruction ir) s = .next t ∧ t.otherRegs s [] ∧ t.memAs s ∧ t.mode = s.mode ∧
      t.lat .tapIr = (if (2 ≤ ir ∧ ir ≤ 4) ∧ s.lat .bootStep ≠ 20 then 1 else ir) ∧
      t.lat .tapOut = if ir = 0 then 0x11024F63 else 0))

/-- Discovery (R462, R466): BOOT goes on with the slot, of those that the straps (or BOOT_SLOT) allow and whose header
is good, that has the higher SEQ, slot A when equal; a header that is not good leaves its code in MGT_BOOT; with no
good header BOOT_FAIL is set; the flash runs in 8D only with its profile and no strap against it (R462). Nothing else is
written. Training (R434, R471): a success records it in DRAM_STATUS
and the size by DENS in DRAM_SIZE, and nothing else; a failed channel stands in DRAM_STATUS and fails the slot with
check 0x06, a failed flash read with 0x0C. -/
def Obligations.BootDiscovery : Prop :=
  (∀ (s : State) (size : Nat) (errA errB profile : Bool), s.Sound → s.bootAt 0 = true → size ≤ 2 ^ 32 →
    let code := fun k => s.headerCode k (if k = 0 then errA else errB)
    ∃ t, exec (.flashDiscoveryDone ⟨size, profile⟩ errA errB) s = .next t ∧ t.mode = .boot ∧ t.lat .flashSize = size ∧
      t.flag .flash8D = (profile && !s.rbit .MGT_STRAP 2) ∧
      t.otherRegs s [.MGT_MODE, .MGT_BOOT] ∧ t.memAs s ∧
      (∀ k ∈ s.bootSlots, code k ≠ 0 → t.fld .MGT_BOOT (8 * k + 7) (8 * k) = code k) ∧
      ((∀ k ∈ s.bootSlots, code k ≠ 0) → t.rbit .MGT_MODE 11 = true) ∧
      ((∃ k ∈ s.bootSlots, code k = 0) → t.lat .bootStep = 3 ∧ t.rbit .MGT_MODE 11 = false ∧
        ∃ a ∈ s.bootSlots, t.lat .bootSlot = a ∧ code a = 0 ∧
          ∀ b ∈ s.bootSlots, code b = 0 → s.slotSeq b ≤ s.slotSeq a ∧ (s.slotSeq b = s.slotSeq a → a ≤ b))) ∧
  (∀ (s : State), s.Sound → s.bootAt 3 = true → s.nlat .bootSlot < 2 →
    (∀ x, imgDramp (s.slotByte (s.nlat .bootSlot)) = some x →
      (∃ t, exec (.dramTrainingDone 0 false) s = .next t ∧ t.mode = .boot ∧ t.reg .DRAM_STATUS = 2 ^ 31 ∧
        t.reg .DRAM_SIZE = 3584 * (bits (imgU32 (s.slotByte (s.nlat .bootSlot)) x.off) 1 0 + 1) ∧ t.lat .bootStep = 4 ∧
        t.otherRegs s [.DRAM_STATUS, .DRAM_SIZE] ∧ t.memAs s) ∧
      ∀ mask, mask ≠ 0 → mask < 256 → ∃ t, exec (.dramTrainingDone mask false) s = .next t ∧
        t.slotFailed s 0x06 ∧ t.reg .DRAM_STATUS = 256 * mask) ∧
    (∀ mask, mask < 256 → ∃ t, exec (.dramTrainingDone mask true) s = .next t ∧ t.slotFailed s 0x0C))

/-- The slot has been streamed (R470, R465): its bytes and its signature stand in the boot area; the first check that
fails gives its code; an image that passes has its map in CFG_FMAP and its wear map in the WEAR registers. -/
def Obligations.BootStream : Prop :=
  ∀ (s : State), s.Sound → s.bootAt 4 = true → s.nlat .bootSlot < 2 →
    let rd := s.streamed.bootImage
    let w := fun k => imgU32 rd (imgOff rd 3 + 4 * k)
    (∃ t, exec (.imageStreamDone true) s = .next t ∧ t.slotFailed s 0x0C) ∧
    ∃ t, exec (.imageStreamDone false) s = .next t ∧
      (∀ a, a < imgTotal (s.slotByte (s.nlat .bootSlot)) + 256 →
        spFind t.dram (s.bootArea + a) = some (s.slotByte (s.nlat .bootSlot) a)) ∧
      (∀ a, t.flashByte a = s.flashByte a) ∧
      (s.streamed.imgStep5 rd ≠ 0 → t.slotFailed s (s.streamed.imgStep5 rd)) ∧
      (s.streamed.imgStep5 rd = 0 → fmapOk rd (imgOff rd 2) = false → t.slotFailed s 0x08) ∧
      (s.streamed.imgStep5 rd = 0 → fmapOk rd (imgOff rd 2) = true → s.streamed.nvmMapOk rd = false → t.slotFailed s 0x0B) ∧
      (s.streamed.imgStep5 rd = 0 → fmapOk rd (imgOff rd 2) = true → s.streamed.nvmMapOk rd = true →
        t.mode = .boot ∧ t.lat .bootStep = 6 ∧ t.faults = s.faults ∧
        (∀ c, c < 11264 → t.reg .CFG_FMAP c = fmapEntry rd (imgOff rd 2) c) ∧
        t.reg .WEAR_BASE_LO = w 4 ∧ t.reg .WEAR_LIFE_S = w 7 ∧ t.reg .WEAR_ALARM = w 8 % 65536 ∧
        t.otherRegs s [.CFG_FMAP, .CAP_INUSE, .CAP_FABRIC, .WEAR_BASE_LO, .WEAR_BASE_HI, .WEAR_LIFE_S, .WEAR_ALARM])

/-- The ledger and the sections that follow it (R114, R469, R470): a log that cannot be used fails the slot with 0x0B,
microcode that does not pass its checks with 0x09, a bank that does not exist with 0x07; an image of which every
section could be applied stands as the loaded one: its SEQ in MGT_IMG_SEQ, its key in MGT_FUSE, no code in MGT_BOOT;
every tile in use converts with the ranges of the image (R131) and runs its calibration entry (R223).
The self-test, after the flight routine (R22, R470): when it passes, the part leaves BOOT for the image's start mode, or waits for the pin, or
enters HOLD over that mode when the fault cause is set, and MGT_BOOT says which slot has been loaded; when it fails,
code 0x0D stands for that slot and BOOT_FAIL is set. The codes at the bumps of driver legs stay off. -/
def Obligations.BootApplies : Prop :=
  (∀ (s : State) (ok bad : Bool), s.Sound → s.bootAt 6 = true → s.nlat .bootSlot < 2 →
    ∃ t, exec (.ledgerRebuildDone ok bad) s = .next t ∧
      (s.ledgerRebuild s.bootImage ok = none → t.slotFailed s 0x0B) ∧
      (∀ s1, s.ledgerRebuild s.bootImage ok = some s1 →
        (s1.applyFirmware s.bootImage).applyUcode s.bootImage bad = none → t.slotFailed s 0x09) ∧
      (∀ s1 s2, s.ledgerRebuild s.bootImage ok = some s1 → (s1.applyFirmware s.bootImage).applyUcode s.bootImage bad = some s2 →
        (s2.applyCfgb s.bootImage = none → t.slotFailed s 0x07) ∧
        ∀ s3 s4, s2.applyCfgb s.bootImage = some s3 → (s3.imageRegs s.bootImage).1 = true →
          ((s3.imageRegs s.bootImage).2.1.imgCalValid (s3.imageRegs s.bootImage).2.2).applyStart s.bootImage = some s4 →
          t.reg .MGT_IMG_SEQ = imgU32 s.bootImage 8 ∧ t.rbit .MGT_FUSE 8 = (imgKeyIdx s.bootImage == 1) ∧
          t.lat .bootStep = 10 ∧ t.otherRegs s4 [.MGT_IMG_SEQ, .MGT_FUSE, .MGT_BOOT, .ADC_RNOW, .MC_STATUS] ∧ t.memAs s4 ∧
          (∀ τ ∈ s4.tiles, t.tbit .MC_STATUS τ 3 = true ∧ ∀ w, w < 8 → t.treg .ADC_RNOW τ w = s4.treg .ADC_RANGE τ w))) ∧
  (∀ (s : State) (ok : Bool) (failU failO skew : List Nat), s.Sound → s.bootAt 10 = true → s.nlat .bootSlot < 2 →
    s.flag .flightRun = false → (Instr.selfTestDone ok failU failO skew).wf = true →
    ∃ t, exec (.selfTestDone ok failU failO skew) s = .next t ∧ t.memAs s ∧
      (∀ τ c, t.treg .DRV_ACTIVE τ c = s.treg .DRV_ACTIVE τ c) ∧
      (s.selfTestOk ok failU failO = true → t.rbit .MGT_BOOT 31 = true ∧ t.rbit .MGT_BOOT 24 = (s.lat .bootSlot == 1) ∧
        t.mode = (if s.rbit .MGT_HOLD_CAUSE 0 then .boot else if s.rbit .MGT_HOLD_CAUSE 2 then .hold
          else if s.lat .startMode = 1 then .characterise else .static) ∧
        (s.rbit .MGT_HOLD_CAUSE 0 = true → t.rbit .MGT_MODE 10 = true)) ∧
      (s.selfTestOk ok failU failO = false → t.mode = .boot ∧ t.rbit .MGT_MODE 11 = true ∧
        t.fld .MGT_BOOT (8 * s.nlat .bootSlot + 7) (8 * s.nlat .bootSlot) = 0x0D ∧
        t.otherRegs s [.MGT_MODE, .MGT_BOOT]))

/-- The commands that BOOT takes (R473, R474): BOOT_SLOT in BOOT_FAIL begins BOOT again with the slot named, all that
had been applied discarded; in any other state it is refused. With START.ARM the base time is written and list
memory 0 armed as by SLOT_CMD ARM. -/
def Obligations.BootCommands : Prop :=
  ∀ (s : State), s.Sound →
    (∀ ini slot, slot < 3 → s.cmdBusy = false → s.bootFailed = true → s.flag .mgtFail = false →
      ∃ t, exec (.bootSlot ini slot) s = .next t ∧ t.mode = .boot ∧ t.rbit .MGT_MODE 11 = false ∧ t.reg .MGT_BOOT = 0xFFFF ∧
        t.reg .MGT_CMD_STATUS = 2 ^ 30 + 2 ^ 16 * initCode ini ∧ t.lat .bootStep = 0 ∧
        t.lat .bootSel = (if slot = 2 then 0 else slot + 1 : Nat) ∧
        (∀ r : Reg, r ∉ partRegs → ∀ τ i j, t.treg r τ i j = r.desc.reset % 2 ^ 32) ∧ ∀ a, t.flashByte a = s.flashByte a) ∧
    (∀ ini slot, slot < 2 ^ 32 → s.cmdBusy = false → s.bootFailed = false →
      ∃ t, exec (.bootSlot ini slot) s = .next t ∧ t.mode = s.mode ∧ t.fld .MGT_CMD_STATUS 7 0 = 1 ∧
        t.otherRegs s [.MGT_CMD_ARG, .MGT_CMD_STATUS] ∧ t.memAs s) ∧
    (s.flag .armWait = true → s.inRun = true → s.flag .mgtFail = false →
      (bit (s.nlat .startWord) 9 = false ∨ s.rbit .PTP_STATUS 1 = true) →
      ∃ t u, exec .bootArm s = .next t ∧ exec .slotArm u = .next t ∧ u.reg .SLOT_BASE_NS = s.nlat .startBase 0 % 2 ^ 32 ∧
        u.reg .SLOT_BASE_S_LO = s.nlat .startBase 1 % 2 ^ 32 ∧ u.reg .SLOT_BASE_S_HI = s.nlat .startBase 2 % 65536 ∧
        u.otherRegs s [.SLOT_BASE_NS, .SLOT_BASE_S_LO, .SLOT_BASE_S_HI] ∧ u.latsAs s [Lat.key .armWait 0 0 0] ∧
        u = { s with regs := u.regs, lats := u.lats })

/-- A write of MGT_CMD while BUSY is refused: LOST sets, REFUSE is sent with the address, nothing else changes (R477). A
command frame from a port of MGMTMASK for the part's own address is a command of CORE with the frame's operands; it
waits to be answered until the command completes (R479). Any other frame has no effect. -/
def Obligations.CommandDoors : Prop :=
  ∀ (s : State), s.Sound →
    (∀ ini value, value < 2 ^ 32 → s.cmdBusy = true → ∃ t, exec (.mgtCmdBusyWrite ini value) s = .next t ∧
      t.rbit .MGT_CMD_STATUS 29 = true ∧ (∀ b, b ≠ 29 → t.rbit .MGT_CMD_STATUS b = s.rbit .MGT_CMD_STATUS b) ∧
      t.faults = s.faults ++ [s.msg 0x101 0x02 (Reg.addr .MGT_CMD 0 0 0)] ∧
      t = { s with regs := t.regs, faults := t.faults } ∧ t.otherRegs s [.MGT_CMD_STATUS]) ∧
    (∀ port frame, port < 8 → 14 ≤ frame.length → frame.length ≤ 16384 → dstMac frame = s.selfMac → etherType frame = 0x88B6 →
      payOff frame + 28 ≤ frame.length → beVal (slice frame (payOff frame) 1) = 1 →
      bit (s.nlat .startWord) (16 + port) = true → s.flag .fwUp = true → s.flag .mgtFail = false → s.cmdBusy = false →
      s.nvmLegal = true → beVal (slice frame (payOff frame + 1) 1) = 6 →
      ∃ t, exec (.mgmtCommandFrame port frame) s = .next t ∧ t.reg .MGT_CMD_STATUS = 2 ^ 31 ∧ t.lat .cmdOp = 7 ∧
        t.mgmt = some ⟨port, frame⟩ ∧ (∀ k, k < 4 → t.reg .MGT_CMD_ARG k = beVal (slice frame (payOff frame + 8 + 4 * k) 4)) ∧
        t.otherRegs s [.MGT_CMD_ARG, .MGT_CMD_STATUS] ∧ t.memAs s) ∧
    (∀ port frame, port < 8 → 14 ≤ frame.length → frame.length ≤ 16384 →
      (dstMac frame ≠ s.selfMac ∨ etherType frame ≠ 0x88B6 ∨ bit (s.nlat .startWord) (16 + port) = false) →
      exec (.mgmtCommandFrame port frame) s = .next s)

/-- The commands of the management cores are accepted where R474 allows them: BUSY with the initiator, the operands in
MGT_CMD_ARG, and nothing else until they complete. A command of the management cores completes (R474 to R476): DONE
replaces BUSY, INIT stays, and the effect is that of the command: flash bytes copied to memory, memory bytes
programmed, sectors erased, a slot checked with the code in RES0, SVN_MIN blown up to the image's SVN, or REVOKE0
blown. A protected range stays, with status PROTECT. -/
def Obligations.CoreCommands : Prop :=
  (∀ (s : State) (ini : Initiator), s.Sound → s.cmdBusy = false → s.flag .mgtFail = false →
    let accepted := fun (c : Instr) (op : Nat) (args : List Nat) =>
      ∃ t, exec c s = .next t ∧ t.reg .MGT_CMD_STATUS = 2 ^ 31 + 2 ^ 16 * initCode ini ∧ t.lat .cmdOp = (op + 1 : Nat) ∧
        (∀ k, k < args.length → t.reg .MGT_CMD_ARG k = args.getD k 0) ∧ t.mode = s.mode ∧ t.faults = s.faults ∧
        t.otherRegs s [.MGT_CMD_ARG, .MGT_CMD_STATUS] ∧ t.memAs s
    (s.nvmLegal = true → ∀ off n lo hi, off < 2 ^ 32 → n < 2 ^ 32 → lo < 2 ^ 32 → hi < 2 ^ 32 →
      accepted (.nvmRead ini off n lo hi) 6 [off, n, lo, hi] ∧ accepted (.nvmWrite ini off n lo hi) 7 [off, n, lo, hi] ∧
        accepted (.nvmErase ini off n) 8 [off, n] ∧ accepted (.imgCheck ini n) 9 [n]) ∧
    (s.inRun = true ∨ s.mode = .hold → accepted (.fuseSvn ini) 10 [1] ∧ accepted (.fuseRevoke0 ini) 10 [2])) ∧
  (∀ (s : State) (done : Nat), s.Sound → done < 2 ^ 32 → s.flag .mgtFail = false → s.sable = false → s.mgmt = none →
    let off := s.reg .MGT_CMD_ARG 0
    let n := s.reg .MGT_CMD_ARG 1
    let ends := fun (st : Nat) (f : State → Prop) => ∃ t, exec (.deviceCommandDone done false) s = .next t ∧
      t.fld .MGT_CMD_STATUS 7 0 = st ∧ t.fld .MGT_CMD_STATUS 31 30 = 1 ∧
      t.fld .MGT_CMD_STATUS 17 16 = s.fld .MGT_CMD_STATUS 17 16 ∧ t.lat .cmdOp = 0 ∧ f t
    (s.lat .cmdOp = 7 → s.nvmArgsOk 6 = true → ∀ o, s.target s.nvmAddr = some (.sram, o) →
      ends 0 (fun t => (∀ k, k < n → t.sramByte (o + k) = s.flashByte (off + k)) ∧
        (∀ a, (a < o ∨ o + n ≤ a) → t.sramByte a = s.sramByte a) ∧ (∀ a, t.flashByte a = s.flashByte a) ∧
        t.otherRegs s [.MGT_CMD_STATUS])) ∧
    (s.lat .cmdOp = 8 → s.nvmArgsOk 7 = true → s.protected' off n = false → ∀ o, s.target s.nvmAddr = some (.sram, o) →
      ends 0 (fun t => (∀ k, k < n → t.flashByte (off + k) = s.sramByte (o + k)) ∧
        (∀ a, (a < off ∨ off + n ≤ a) → t.flashByte a = s.flashByte a) ∧ (∀ a, t.sramByte a = s.sramByte a) ∧
        t.otherRegs s [.MGT_CMD_STATUS])) ∧
    (s.lat .cmdOp = 9 → s.nvmArgsOk 8 = true → s.protected' off n = false →
      ends 0 (fun t => (∀ a, off ≤ a → a < off + n → t.flashByte a = 0xFF) ∧
        (∀ a, (a < off ∨ off + n ≤ a) → t.flashByte a = s.flashByte a) ∧ t.otherRegs s [.MGT_CMD_STATUS])) ∧
    (∀ op, (op = 7 ∨ op = 8) → s.lat .cmdOp = (op + 1 : Nat) → s.nvmArgsOk op = true → s.protected' off n = true →
      ends 4 (fun t => t.memAs s ∧ t.otherRegs s [.MGT_CMD_STATUS])) ∧
    (s.lat .cmdOp = 10 → ends (if s.imgCheck (off % 2) = 0 then 0 else 3) (fun t =>
      t.reg .MGT_CMD_RES0 = s.imgCheck (off % 2) ∧ t.memAs s ∧ t.otherRegs s [.MGT_CMD_STATUS, .MGT_CMD_RES0])) ∧
    (s.lat .cmdOp = 11 → off = 1 → s.nlat .imgSvn < 64 → ends 0 (fun t =>
      t.fld .MGT_FUSE 5 0 = max (s.fld .MGT_FUSE 5 0) (s.nlat .imgSvn) ∧ t.rbit .MGT_FUSE 16 = s.rbit .MGT_FUSE 16 ∧
        t.memAs s ∧ t.otherRegs s [.MGT_CMD_STATUS, .MGT_FUSE])) ∧
    (s.lat .cmdOp = 11 → off = 2 → s.rbit .MGT_FUSE 8 = true → ends 0 (fun t => t.rbit .MGT_FUSE 16 = true ∧
      t.fld .MGT_FUSE 5 0 = s.fld .MGT_FUSE 5 0 ∧ t.memAs s ∧ t.otherRegs s [.MGT_CMD_STATUS, .MGT_FUSE])) ∧
    (s.lat .cmdOp = 11 → off = 2 → s.rbit .MGT_FUSE 8 = false → ends 3 (fun t => t.memAs s ∧
      t.otherRegs s [.MGT_CMD_STATUS])))

/-- A write of a register that only loads (R9, R10, R11): writable bits take the value, bits of W1C fields clear where a 1
is written but for those that hardware has set in the present grain (log entry 6), all others stay, no other register
and nothing else that a read could show changes. Where a locked bit would change, or the value
is not allowed, the register stays and REFUSE is sent with its address. -/
def Obligations.RegisterWrites : Prop :=
  ∀ (s : State) (ini : Initiator) (a v : Nat) (r : Reg) (τ i j : Nat), s.Sound → v < 2 ^ 32 → s.reaches ini a r τ i j true →
    r ∉ actingRegs → (coreOnly r = true → isCore ini = true) →
    let old := s.treg r τ i j
    let locked := r.desc.rwl ≠ 0 ∧ (r.desc.rwl = r.desc.rw ∨ (old ^^^ v) &&& r.desc.rwl ≠ 0) ∧ s.idle r.desc.lock τ i = false
    (¬locked → s.valueOk r i v = true →
      ∃ t, exec (.registerWrite ini a v) s = .next t ∧
        t = { s with regs := t.regs, regs0 := t.regs0, snap := t.snap, resp := ⟨false, 0⟩ } ∧ t.regsAs s [r.key τ i j] ∧
        (∀ k, k ≠ r.key τ i j → spFind t.snap k = spFind s.snap k) ∧
        ∀ b, b < 32 → bit (t.treg r τ i j) b = (!(bit v b && bit r.desc.w1c b && bit (s.before.treg r τ i j) b) &&
          if bit r.desc.rw b then bit v b else bit old b)) ∧
    (locked ∨ s.valueOk r i v = false →
      ∃ t, exec (.registerWrite ini a v) s = .next t ∧
        t = { s with regs := t.regs, faults := t.faults, snap := t.snap, resp := ⟨false, 0⟩ } ∧
        t.faults = s.faults ++ [s.msg (ownerOf (r.addr τ i j)) 0x02 (r.addr τ i j)] ∧
        ∀ q : Reg, (∀ b, refusedFlag (r.addr τ i j) ≠ some (q, b)) → ∀ τ' i' j', t.treg q τ' i' j' = s.treg q τ' i' j')

/-- Reads (R8, R9, R10): the response is the register's word; an RS register answers with what it held when the grain
began and keeps no more than what hardware has added since (log entry 6), no other register changes, and of a wide value
the higher words are captured, so that whatever happens next they read as they were at the read of the lowest word. -/
def Obligations.RegisterReads : Prop :=
  ∀ (s : State) (ini : Initiator) (a : Nat) (r : Reg) (τ i j : Nat), s.Sound → s.reaches ini a r τ i j false →
    r ∉ actingReads → s.evtHidden ini r i = false →
    let read := fun (c : Instr) => ∃ t, exec c s = .next t ∧
      t.resp = ⟨false, if r.desc.rs = 0 then s.readWord r τ i j else s.before.treg r τ i j⟩ ∧
      t = { s with regs := t.regs, lats := t.lats, regs0 := t.regs0, lats0 := t.lats0, snap := t.snap, resp := t.resp } ∧
      t.regsAs s [r.key τ i j] ∧ (r.desc.rs = 0 → t.treg r τ i j = s.treg r τ i j) ∧
      (r.desc.rs ≠ 0 → r ≠ .TILE_TEMP_MAX → t.treg r τ i j = s.treg r τ i j - s.before.treg r τ i j) ∧
      (r = .TILE_TEMP_MAX → t.treg r τ i j = if s.maxRaised τ then s.treg r τ i j else 0) ∧
      (∀ q i', (q, i') ∈ higherWords r i → ∀ u : State, u.snap = t.snap → u.readWord q τ i' 0 = s.regValue q τ i' 0 % 2 ^ 32)
    read (.rsRead ini a) ∧ read (.snapshotRead ini a)

/-- Address faults (R5, R6, R428): an access of a wrong width or alignment outside the memories, an access to an address
where the part has nothing, and one on a path that does not exist are answered with an error and ADDR; a read gives
0, and nothing is written. In working SRAM an access of any width writes its bytes and no others. -/
def Obligations.AccessFaults : Prop :=
  ∀ (s : State) (ini : Initiator) (write : Bool) (a v : Nat), s.Sound → a < 2 ^ 40 → v < 2 ^ 32 →
    (∀ n, n ∈ [1, 2, 4, 8, 16] → ¬(n = 4 ∧ a % 4 = 0) → s.inMemory ini write a = false →
      ∃ t, exec (.misalignedAccess ini write a n v) s = .next t ∧ t.addrFaulted s a) ∧
    (∀ n o o', n ∈ [1, 2, 4, 8, 16] → ¬(n = 4 ∧ a % 4 = 0) → s.target a = some (.sram, o) →
      s.target (a + n - 1) = some (.sram, o') →
      ∃ t, exec (.misalignedAccess ini true a n v) s = .next t ∧ t = { s with sram := t.sram, resp := ⟨false, 0⟩ } ∧
        (∀ k, k < n → t.sramByte (o + k) = BitVec.ofNat 8 (v / 256 ^ k)) ∧
        ∀ b, (b < o ∨ o + n ≤ b) → t.sramByte b = s.sramByte b) ∧
    (a % 4 = 0 → (s.target a = none ∨ (s.regOf a = none ∧ s.capWord a = none ∧ ∃ tg o, s.target a = some (tg, o) ∧
      (tg = .reg ∨ tg = .tile)) ∨ ∃ tg o, s.target a = some (tg, o) ∧ pathOk (busPort ini) tg write = false) →
      ∃ t, exec (.undefinedAddressAccess ini write a v) s = .next t ∧ t.addrFaulted s a)

/-- MGT_REMAP (R431): firmware's write exchanges the boot ROM and the working SRAM at address 0 and changes nothing
else; the host's is refused. -/
def Obligations.Remap : Prop :=
  ∀ (s : State) (value : Nat), s.Sound → value < 2 ^ 32 →
    (∃ t, exec (.mgtRemapWrite .core value) s = .next t ∧ t = { s with regs := t.regs, snap := t.snap, resp := ⟨false, 0⟩ } ∧
      t.otherRegs s [.MGT_REMAP] ∧
      (∀ a, a < 0x20000 → t.target a = some (if bit value 0 then .sram else .rom, a)) ∧
      (∀ a, a < 0x20000 → t.target (0x100000 + a) = some (if bit value 0 then .rom else .sram, a))) ∧
    (∀ ini, ini = .plv0 ∨ ini = .plv1 → ∃ t, exec (.mgtRemapWrite ini value) s = .next t ∧ t.otherRegs s [] ∧ t.memAs s ∧
      t.faults = s.faults ++ [s.msg 0x101 0x02 0x410010])

/-- A cell keeps its role for as long as the map stands (R65): only a reset, a step of BOOT that applies an image, and a
command that may carry a RESET change an entry of CFG_FMAP, so no fault does; a register write leaves every entry. -/
def Obligations.FabricMapStands : Prop :=
  (∀ (c : Instr) (s t : State), s.Sound → exec c s = .next t → isReset c = false → bootApplies c = false →
    writesAny c = false → ∀ n, t.reg .CFG_FMAP n = s.reg .CFG_FMAP n) ∧
  (∀ (s : State) (ini : Initiator) (a v n : Nat), s.Sound → v < 2 ^ 32 → s.reaches ini a .CFG_FMAP 0 n 0 true →
    ∃ t, exec (.registerWrite ini a v) s = .next t ∧ ∀ k, t.reg .CFG_FMAP k = s.reg .CFG_FMAP k)

/-- The collector marks the cell of every DRIVE_LOST, HTR_LOAD, MON_OPEN and MON_LEAK that it accepts, whatever the
reaction, at 64 × tile + channel, and marks no other; the mark lasts until reset: no command but a reset, a step of
BOOT that discards an image and one that may carry a RESET clears it, and a register write of RTE_FAULT leaves it
(R403). -/
def Obligations.FaultMarks : Prop :=
  (∀ (s : State) (src : Nat) (m : FaultMsg), s.Sound → s.nextSource = some src → s.headOf src = some m → m.src < 176 →
    m.cls < 4 → m.kind ∈ [0x11, 0x13, 0x20, 0x21] →
    ∃ t, exec .faultMessageAccept s = .next t ∧ t.mapBit .RTE_FAULT 0 (64 * m.src + m.addr % 64) = true ∧
      ∀ n, n < 11264 → n ≠ 64 * m.src + m.addr % 64 → t.mapBit .RTE_FAULT 0 n = s.mapBit .RTE_FAULT 0 n) ∧
  (∀ (c : Instr) (s t : State) (n : Nat), s.Sound → exec c s = .next t → isReset c = false → bootApplies c = false →
    writesAny c = false → n < 11264 → s.mapBit .RTE_FAULT 0 n = true → t.mapBit .RTE_FAULT 0 n = true) ∧
  (∀ (s : State) (ini : Initiator) (a v n : Nat), s.Sound → v < 2 ^ 32 → s.reaches ini a .RTE_FAULT 0 n 0 true →
    ∃ t, exec (.registerWrite ini a v) s = .next t ∧ ∀ k, t.reg .RTE_FAULT k = s.reg .RTE_FAULT k)

/-- A leg departs from its share (R72 to R74): it is marked lost and LEG_LOST sent; when the other leg is lost too the
output falls to 0 mA and DRIVE_LOST is sent; a leg that is lost already changes nothing. No other bit of the maps
and no other channel's codes change. Spare heater slices (R79 to R83, R96): a failed slice is marked; with
HTR_CTRL.AUTO the lowest free spare takes the channel over and SLICE is sent, with none free the output goes to 0
and stays there; a spare that fails within 1 ms of its connection is freed and the load blamed. HTR_SWAP connects
the named spare to a channel marked failed, in SABLE at its forced code (R83), and is refused otherwise. -/
def Obligations.LegsAndSlices : Prop :=
  (∀ (s : State) (τ c : Nat) (legB : Bool), s.Sound → τ < 176 → c < 64 → s.inUse τ = true →
    let r := if legB then Reg.DRV_LEGB_LOST else .DRV_LEGA_LOST
    let o := if legB then Reg.DRV_LEGA_LOST else .DRV_LEGB_LOST
    (s.mapBit r τ c = true → exec (.legDeparture τ c legB) s = .next s) ∧
    (s.mapBit r τ c = false → ∃ t, exec (.legDeparture τ c legB) s = .next t ∧ t.mapBit r τ c = true ∧
      (∀ n, n ≠ c → n < 64 → t.mapBit r τ n = s.mapBit r τ n) ∧
      t.regsAs s [r.key τ (c / 32) 0, Reg.key .DRV_ACTIVE τ c 0] ∧ t.memAs s ∧
      (s.mapBit o τ c = false → t.faults = s.faults ++ [s.msg τ 0x10 (256 * b2n legB + c)] ∧
        t.treg .DRV_ACTIVE τ c = s.treg .DRV_ACTIVE τ c) ∧
      (s.mapBit o τ c = true → t.tfld .DRV_ACTIVE τ 11 0 c = 0 ∧
        t.faults = s.faults ++ [s.msg τ 0x10 (256 * b2n legB + c), s.msg τ 0x11 c]))) ∧
  (∀ (s : State) (τ c : Nat), s.Sound → τ < 176 → c < 64 → s.inUse τ = true →
    (s.flag .htrDead τ c = false → s.spareOf τ c = none → ∀ k, s.tbit .HTR_CTRL τ 0 = true → s.freeSpare τ = some k →
      ∃ t, exec (.heaterSliceFail τ c) s = .next t ∧ t.treg .HTR_SPARE τ k = 2 ^ 30 + c ∧ t.mapBit .HTR_FAILED τ c = true ∧
        t.faults = s.faults ++ [s.msg τ 0x12 (512 * k + 256 + c)] ∧
        t.regsAs s [Reg.key .HTR_SPARE τ k 0, Reg.key .HTR_FAILED τ (c / 32) 0] ∧ t.memAs s) ∧
    (s.flag .htrDead τ c = false → s.spareOf τ c = none → s.tbit .HTR_CTRL τ 0 = true → s.freeSpare τ = none →
      ∃ t, exec (.heaterSliceFail τ c) s = .next t ∧ t.treg .HTR_ACTIVE τ c = 0 ∧ t.mapBit .HTR_FAILED τ c = true ∧
        t.flag .htrDead τ c = true ∧ t.faults = s.faults ++ [s.msg τ 0x11 c] ∧
        t.regsAs s [Reg.key .HTR_ACTIVE τ c 0, Reg.key .HTR_FAILED τ (c / 32) 0] ∧ t.memAs s) ∧
    (s.flag .htrDead τ c = false → ∀ k, s.spareOf τ c = some k → (s.grain : Int) - s.lat .spareSince τ k ≤ 1000000 →
      ∃ t, exec (.heaterSliceFail τ c) s = .next t ∧ t.treg .HTR_SPARE τ k = 0 ∧ t.treg .HTR_ACTIVE τ c = 0 ∧
        t.faults = s.faults ++ [s.msg τ 0x13 c] ∧ t.regsAs s [Reg.key .HTR_SPARE τ k 0, Reg.key .HTR_ACTIVE τ c 0] ∧ t.memAs s) ∧
    (∀ k, k < 2 → s.tfld .HTR_SPARE τ 31 30 k = 0 → s.mapBit .HTR_FAILED τ c = true → s.spareOf τ c = none →
      ∃ t, exec (.htrSwap τ k c) s = .next t ∧ t.treg .HTR_SPARE τ k = 2 ^ 30 + c ∧ t.flag .htrDead τ c = false ∧
        t.faults = s.faults ∧ t.memAs s ∧
        t.regsAs s (Reg.key .HTR_SPARE τ k 0 :: if s.mode = .sable then [Reg.key .DRV_ACTIVE τ c 0, Reg.key .HTR_ACTIVE τ c 0] else []) ∧
        (s.mode = .sable → t.treg .HTR_ACTIVE τ c = if s.chRole τ c = 2 then s.tfld .HTR_BLOCK τ 15 0 c else 0)) ∧
    (∀ k, k < 2 → (s.tfld .HTR_SPARE τ 31 30 k ≠ 0 ∨ s.mapBit .HTR_FAILED τ c = false) →
      ∃ t, exec (.htrSwap τ k c) s = .next t ∧ t.tbit .HTR_STATUS τ 0 = true ∧
        t.faults = s.faults ++ [s.msg τ 0x02 (Reg.addr .HTR_SWAP τ 0 0)] ∧
        t.regsAs s [Reg.key .HTR_STATUS τ 0 0] ∧ t.memAs s))

/-- The current monitor and the strobe delays (R84 to R86, R91): a measurement of a leg updates its field of DRV_IMON
alone, 0 for a leg that is not connected; the end of a scan gives the two powers, with a last digit that nothing
fixes (log entry 14), and starts the sums anew, and sends nothing but DRIVE_DRIFT; an APPLY is latched for the next
commit decision, or refused in a campaign. -/
def Obligations.CurrentMonitor : Prop :=
  ∀ (s : State) (τ : Nat), s.Sound → τ < 176 → s.inUse τ = true →
    (∀ k i v, k < 128 → i < 65536 → v < 65536 → ∃ t, exec (.currentMeasurement τ k i v) s = .next t ∧
      t.regsAs s [Reg.key .DRV_IMON τ (k / 2) 0] ∧ t.faults = s.faults ∧ t.memAs s ∧
      (let on := s.legOn τ (k / 2) (k % 2 = 1)
       let lsb := if on then i % 4096 else 0
       t.tfld .DRV_IMON τ 11 0 (k / 2) = (if k % 2 = 1 then s.tfld .DRV_IMON τ 11 0 (k / 2) else lsb) ∧
       t.tfld .DRV_IMON τ 27 16 (k / 2) = if k % 2 = 1 then lsb else s.tfld .DRV_IMON τ 27 16 (k / 2))) ∧
    (∀ c i v, c < 64 → i < 65536 → v < 65536 → s.spareOf τ c = none →
      ∃ t, exec (.currentMeasurement τ (128 + c) i v) s = .next t ∧ t.treg .HTR_IMON τ c = 65536 * v + i ∧
        t.regsAs s [Reg.key .HTR_IMON τ c 0] ∧ t.memAs s) ∧
    (∃ t d e, d < 2 ∧ e < 2 ∧ exec (.monitorScanEnd τ) s = .next t ∧
      t.treg .TILE_DRV_PWR τ =
        min (((s.reg .HLT_V 2 : Int) * s.lat .scanI τ - s.lat .scanVI τ) * 12 / 409600 + (d : Nat)).toNat 65535 ∧
      t.treg .TILE_HTR_PWR τ = min (s.htrPower τ / 4000000 + (e : Nat)).toNat 65535 ∧
      t.lat .scanI τ = 0 ∧ t.lat .scanVI τ = 0 ∧
      t.regsAs s [Reg.key .TILE_DRV_PWR τ 0 0, Reg.key .TILE_HTR_PWR τ 0 0] ∧ t.memAs s ∧
      ∀ m ∈ t.faults.drop s.faults.length, m.src = τ ∧ m.kind = 0x14) ∧
    (∀ v, v < 2 ^ 32 → s.campaign = false → bit v 0 = true → ∃ t, exec (.slotSkewApplyWrite v) s = .next t ∧
      t.flag .skewReq = true ∧ t.otherRegs s [] ∧ t.memAs s) ∧
    (∀ v, v < 2 ^ 32 → s.campaign = true → ∃ t, exec (.slotSkewApplyWrite v) s = .next t ∧
      t.flag .skewReq = s.flag .skewReq ∧ t.rbit .CAL_STATUS 0 = true ∧ t.otherRegs s [.CAL_STATUS] ∧ t.memAs s)

/-- 400 grains before a span boundary (R71, R87): the static commit that is due is in preparation, and the shadow of
every channel with a role, outside HOLD, holds the bank's state and, in CHARACTERISE, the manual code, else the code
that the cell has for that state, with no correction; a tile in HOLD composes nothing (R78); the codes at the bumps
stay. The shadow deadline, 48 grains ahead, and the decision, 32 ahead (R26, R87, R88, R236, R386): a tile in use that
did not get its bits and is not in HOLD lacks READY; with every tile ready, outside HOLD and SABLE, the commit is
launched: it counts and the configuration in force is the commit's; with a tile not ready, in HOLD, or where the halves
of the slot timer, both in step, disagree, it is suppressed and neither changes. At any other grain nothing happens
(log entry 73). -/
def Obligations.CommitDecision : Prop :=
  (∀ (s : State) (cm : Commit), s.Sound → s.commit = none → s.lat .fixG = 0 → s.bankEcc = [] → s.staticCommit = some cm →
    (cm.edgeAt ≠ s.grain + 400 → exec (.configBroadcast [] []) s = .next s) ∧
    (cm.edgeAt = s.grain + 400 → cm.guard = false →
    ∃ t, exec (.configBroadcast [] []) s = .next t ∧ t.commit = some cm ∧ t.memAs s ∧ t.faults = s.faults ∧
      t.otherRegs s [.DRV_SHADOW, .DRV_SAT] ∧
      (∀ τ c, τ < 176 → c < 64 → (s.tileHold τ = true ∨ s.mode = .hold) → t.treg .DRV_SHADOW τ c = s.treg .DRV_SHADOW τ c) ∧
      ∀ τ c, τ ∈ s.tiles → c < 64 → s.chRole τ c ≠ 0 → s.tileHold τ = false → s.mode ≠ .hold →
        let st := s.bankState cm.bank (64 * τ + c)
        let man := s.under == .characterise
        t.treg .DRV_SHADOW τ c = 2 ^ 31 + 2 ^ 28 * b2n st +
          (if man then s.tfld .DRV_MAN τ 11 0 c else if st then s.tfld .DRV_CROSS τ 11 0 c else s.tfld .DRV_BAR τ 11 0 c))) ∧
  (∀ (s : State) (cm : Commit), s.Sound → s.commit = some cm → cm.edge = false → cm.late = none →
    (∀ bad : List Nat, (bad.all fun t => decide (t < 176)) = true →
      (cm.edgeAt ≠ s.grain + 48 → exec (.shadowDeadline bad) s = .next s) ∧
      (cm.edgeAt = s.grain + 48 → cm.dram = false →
        ∃ t, exec (.shadowDeadline bad) s = .next t ∧ t.otherRegs s [.DRV_SHADOW] ∧ t.memAs s ∧ t.faults = s.faults ∧
          (∀ τ, (τ ∈ t.unreadyTiles ↔ τ ∈ s.tiles ∧ s.tileHold τ = false ∧ (s.flag .cmtUe τ || bad.contains τ) = true)) ∧
          ∀ τ c, c < 64 → t.treg .DRV_SHADOW τ c =
            setBit (s.treg .DRV_SHADOW τ c) 31 (s.tbit .DRV_SHADOW τ 31 c && !t.unreadyTiles.contains (τ % 256)))) ∧
    (∀ agree, cm.edgeAt ≠ s.grain + 32 → exec (.commitDecisionPoint agree) s = .next s) ∧
    (cm.launched = none → s.mode ≠ .boot → cm.edgeAt = s.grain + 32 →
      (s.holdSeen = false → s.sable = false → s.unreadyTiles = [] → ∃ t, exec (.commitDecisionPoint true) s = .next t ∧
        t.commit = some { cm with launched := some true } ∧
        t.reg .SLOT_COMMIT_COUNT = (s.reg .SLOT_COMMIT_COUNT + 1) % 2 ^ 32 ∧
        t.reg .CFG_INFORCE = (2 ^ 16 * b2n cm.dram + cm.idx) % 2 ^ 32 ∧ t.mode = s.mode ∧ t.memAs s ∧
        ∀ τ c, t.treg .DRV_ACTIVE τ c = s.treg .DRV_ACTIVE τ c) ∧
      (∀ agree, (agree = false ∧ s.slotPaired = true) ∨ s.holdSeen = true ∨ s.sable = true ∨ s.unreadyTiles ≠ [] →
        ∃ t, exec (.commitDecisionPoint agree) s = .next t ∧ t.commit = some { cm with launched := some false } ∧
          t.reg .SLOT_COMMIT_COUNT = s.reg .SLOT_COMMIT_COUNT ∧ t.reg .CFG_INFORCE = s.reg .CFG_INFORCE ∧
          t.mode = s.mode ∧ t.memAs s ∧ ∀ τ c, t.treg .DRV_ACTIVE τ c = s.treg .DRV_ACTIVE τ c)))

/-- The strobe edge and the later groups (R28, R66, R87, R250): a launched commit reaches every tile in use that is not
in HOLD: its count rises by one and, but for a static commit in STATIC, every channel with a role whose output is not lost and whose
group is 0 takes state, group, fine part and code from its shadow; a tile in HOLD keeps its codes and its count. A
commit that has not been launched loads nothing. A later group, 8 ns after the one before, loads the channels of that
group alone, and the third ends the commit. At any other grain nothing happens (log entry 73). -/
def Obligations.StrobeEdge : Prop :=
  ∀ (s : State) (cm : Commit), s.Sound → s.commit = some cm → s.sable = false →
    (cm.edge = false → cm.edgeAt = s.grain → cm.launched = some true → (cm.kind.isStatic && s.under == .static) = false →
      ∃ t, exec (.commitStrobeEdge [] []) s = .next t ∧ t.memAs s ∧ t.mode = s.mode ∧
        t.commit = (if cm.guard then some { cm with edge := true } else none) ∧
        (∀ τ ∈ s.tiles, s.tileHold τ = false →
          t.treg .TILE_COMMIT_COUNT τ = (s.treg .TILE_COMMIT_COUNT τ + 1) % 2 ^ 32 ∧
          ∀ c, c < 64 → s.chRole τ c ≠ 0 → s.flag .drvDead τ c = false → s.flag .shut τ c = false →
            s.tfld .DRV_SHADOW τ 30 29 c = 0 →
            t.tfld .DRV_ACTIVE τ 11 0 c = s.tfld .DRV_SHADOW τ 11 0 c ∧ t.tfld .DRV_ACTIVE τ 30 29 c = 0 ∧
              t.tfld .DRV_ACTIVE τ 23 12 c = s.tfld .DRV_SHADOW τ 23 12 c ∧ t.tbit .DRV_ACTIVE τ 28 c = s.tbit .DRV_SHADOW τ 28 c) ∧
        (∀ τ, τ < 176 → s.tileHold τ = true →
          t.treg .TILE_COMMIT_COUNT τ = s.treg .TILE_COMMIT_COUNT τ ∧
          ∀ c, c < 64 → t.treg .DRV_ACTIVE τ c = s.treg .DRV_ACTIVE τ c ∧ t.treg .HTR_ACTIVE τ c = s.treg .HTR_ACTIVE τ c)) ∧
    (∀ u o, (u.all fun t => decide (t < 176)) = true → (o.all fun t => decide (t < 176)) = true →
      (cm.edge = true ∨ cm.launched ≠ some true ∨ cm.edgeAt ≠ s.grain) → exec (.commitStrobeEdge u o) s = .next s) ∧
    (∀ g, 1 ≤ g → g ≤ 3 → (cm.edge = false ∨ cm.edgeAt + 8 * g ≠ s.grain) → exec (.guardedGroupLoad g) s = .next s) ∧
    (∀ g, 1 ≤ g → g ≤ 3 → cm.edge = true → cm.guard = true → cm.edgeAt + 8 * g = s.grain →
      ∃ t, exec (.guardedGroupLoad g) s = .next t ∧ t.memAs s ∧ (g = 3 → t.commit = none) ∧ (g ≠ 3 → t.commit = some cm) ∧
        t.otherRegs s [.DRV_ACTIVE, .HTR_ACTIVE, .HTR_PARTS, .HTR_STATUS] ∧
        (∀ τ c, τ ∈ s.tiles → c < 64 → s.flag .took τ = true → s.chRole τ c ≠ 0 → s.flag .drvDead τ c = false →
          s.tfld .DRV_SHADOW τ 30 29 c = g →
          t.tfld .DRV_ACTIVE τ 11 0 c = s.tfld .DRV_SHADOW τ 11 0 c ∧ t.tfld .DRV_ACTIVE τ 30 29 c = g ∧
            t.tbit .DRV_ACTIVE τ 28 c = s.tbit .DRV_SHADOW τ 28 c) ∧
        (∀ τ c, τ < 176 → c < 64 → s.tfld .DRV_SHADOW τ 30 29 c ≠ g → t.treg .DRV_ACTIVE τ c = s.treg .DRV_ACTIVE τ c))

/-- The slot boundary (R243, R244, R246, R247, R279), at the grain fixed for it: at S the armed list takes over from STATIC: the mode is SLOTTED,
position 0 of cycle 0 is valid and the list's length and time are those that were pending; a boundary of the running
list goes to the next position, its cycle counted up at position 0; the stop boundary ends the list and returns to
STATIC. At any other grain nothing happens. SLOT_POS reads VALID in SLOTTED alone (R261). -/
def Obligations.SlotBoundaries : Prop :=
  ∀ (s : State) (t0 : Nat), s.Sound →
    (s.nlat .fixG ≠ s.grain + 1 → exec .slotBoundary s = .next s) ∧
    (s.nlat .fixG = s.grain + 1 → s.nextSlot = some (t0, true) → s.mode = .static → ∃ t, exec .slotBoundary s = .next t ∧
      t.mode = .slotted ∧ t.readWord .SLOT_POS 0 0 0 = 2 ^ 31 ∧ t.reg .SLOT_CYCLE = 0 ∧ t.reg .SLOT_OP_LEN = s.reg .SLOT_PEND_LEN ∧
      t.reg .SLOT_OP_TC_LO = s.reg .SLOT_PEND_TC_LO ∧ t.fld .SLOT_STATUS 6 4 = (2 + s.nlat .pendMem) % 8 ∧
      t.lat .fixG = 0 ∧ t.memAs s ∧ ∀ τ c, t.treg .DRV_ACTIVE τ c = s.treg .DRV_ACTIVE τ c) ∧
    (s.nlat .fixG = s.grain + 1 → s.nextSlot = some (t0, false) → s.stopHere t0 = false → s.nlat .opNextPos < 1024 →
      ∃ t, exec .slotBoundary s = .next t ∧
      t.mode = s.mode ∧ t.readWord .SLOT_POS 0 0 0 = 2 ^ 31 * b2n (s.mode == .slotted) + s.nlat .opNextPos ∧
      t.reg .SLOT_CYCLE = (s.reg .SLOT_CYCLE + b2n (s.nlat .opNextPos == 0)) % 2 ^ 32 ∧ t.lat .fixG = 0 ∧ t.memAs s ∧
      ∀ τ c, t.treg .DRV_ACTIVE τ c = s.treg .DRV_ACTIVE τ c) ∧
    (s.nlat .fixG = s.grain + 1 → s.nextSlot = some (t0, false) → s.stopHere t0 = true → s.mode = .slotted →
      ∃ t, exec .slotBoundary s = .next t ∧ t.mode = .static ∧ bit (t.readWord .SLOT_POS 0 0 0) 31 = false ∧ t.reg .SLOT_OP_LEN = 0 ∧
        t.rbit .SLOT_STATUS 5 = false ∧ t.rbit .SLOT_STATUS 7 = false ∧ t.lat .fixG = 0 ∧ t.memAs s ∧
        ∀ τ c, t.treg .DRV_ACTIVE τ c = s.treg .DRV_ACTIVE τ c)

/-- TRIM_CMD (R105, R109, R119): in a condition that bars it every operation is refused; else a pulse or a train becomes
the tile's pending command, a train past the last tap only sets END, and an assignment (CHARACTERISE) writes the
tap, clears the flags of the cell's tap, writes the ledger's word through and appends a TAP record. -/
def Obligations.TrimCommands : Prop :=
  ∀ (s : State) (τ c : Nat) (up : Bool) (k : Nat), s.Sound → τ < 176 → c < 64 → k < 8 → s.inUse τ = true →
    let pulse := 2 ^ 30 + 2 ^ 29 * b2n up + 2 ^ 24 * k + c
    let train := 2 ^ 31 + 2 ^ 29 * b2n up + c
    let pends := fun (i : Instr) (w : Nat) => ∃ t, exec i s = .next t ∧ t.trimCmd τ = some w ∧
      t = { s with lats := t.lats } ∧ t.latsAs s [Lat.key .trimCmd τ 0 0]
    let refused := fun (i : Instr) => ∃ t, exec i s = .next t ∧ t.tbit .TRIM_STATUS τ 0 = true ∧
      t.faults = s.faults ++ [s.msg τ 0x02 (Reg.addr .TRIM_CMD τ 0 0)] ∧
      t = { s with regs := t.regs, faults := t.faults } ∧ t.regsAs s [Reg.key .TRIM_STATUS τ 0 0]
    (s.trimCmdRefused τ c = true → refused (.trimCmdPulse τ c up k) ∧ refused (.trimCmdTrain τ c up) ∧
      ∀ tap, tap < 64 → refused (.trimCmdAssign τ c tap)) ∧
    (s.trimCmdRefused τ c = false → pends (.trimCmdPulse τ c up k) pulse ∧
      ((s.trainTarget τ c up).isSome = true → pends (.trimCmdTrain τ c up) train) ∧
      (s.trainTarget τ c up = none → ∃ t, exec (.trimCmdTrain τ c up) s = .next t ∧ t.tbit .TRIM_TAP τ 17 c = true ∧
        t.faults = s.faults ++ (if s.tbit .TRIM_TAP τ 17 c then [] else [s.msg τ 0x19 c]) ∧
        t = { s with regs := t.regs, faults := t.faults } ∧ t.regsAs s [Reg.key .TRIM_TAP τ c 0]) ∧
      ∀ tap, tap < 64 →
        (s.mode ≠ .characterise → refused (.trimCmdAssign τ c tap)) ∧
        (s.mode = .characterise → ∃ t, exec (.trimCmdAssign τ c tap) s = .next t ∧
          t.treg .TRIM_TAP τ c = setBits (setBits (setBits (s.treg .TRIM_TAP τ c) 12 6 0) 17 17 0) 5 0 tap ∧
          t.wearQ = s.wearQ ++ [⟨64 * τ + c, 2, tap, s.reg .WEAR_AGE_S⟩] ∧ t.regsAs s [Reg.key .TRIM_TAP τ c 0] ∧
          t.faults = s.faults ∧ t.dramVal (s.ledgerOff (64 * τ + c) + 8) 4 = t.tfld .TRIM_TAP τ 15 0 c ∧
          ∀ a, (a < s.ledgerOff (64 * τ + c) + 8 ∨ s.ledgerOff (64 * τ + c) + 12 ≤ a) → spFind t.dram a = spFind s.dram a))

/-- A timing set's edge (R101, R103): the write takes time and level, and ends the suspension of the channels that wait
for that set, and of no other; nothing else of the tap words changes. A trim pulse (R101, R103, R104, R111): at its
start the chosen channel of an open train begins, unless its timing set is not valid, when the channel is suspended
and TRIM_SET sent, or the tile is in HOLD or the log has failed (R113), when nothing starts. At its end the cell's count rises by one and its age
stands in the ledger; the last pulse of a train writes the tap, frees the sequencer and appends a TAP record.
Nothing of the DRAM outside the cell's entry changes. -/
def Obligations.TrimPulses : Prop :=
  (∀ (s : State) (τ k e v : Nat), s.Sound → τ < 176 → k < 8 → e < 8 → v < 2 ^ 32 → s.inUse τ = true →
    ∃ t, exec (.trimTsetWrite τ k e v) s = .next t ∧ t.treg .TRIM_TSET τ k e = v &&& 0xFFFF00FF ∧
      (∀ c, c < 64 → t.tbit .TRIM_TAP τ 16 c = (s.tbit .TRIM_TAP τ 16 c && s.nlat .suspSet τ c != k)) ∧
      (∀ c b, c < 64 → b ≠ 16 → t.tbit .TRIM_TAP τ b c = s.tbit .TRIM_TAP τ b c) ∧
      t.regsAs s (Reg.key .TRIM_TSET τ k e :: (List.range 64).map (fun c => Reg.key .TRIM_TAP τ c 0)) ∧ t.memAs s ∧
      t.faults = s.faults) ∧
  (∀ (s : State) (τ : Nat), s.Sound → τ < 176 → s.inUse τ = true →
    (s.nlat .trimChosen τ = 1 → (s.inHold || s.tileHold τ || s.sable || s.flag .wearStop) = false →
      let c := s.tfld .TRIM_BUSY τ 5 0
      let k := if s.flag .trainUp τ then s.tfld .TRIM_CHSET τ 2 0 c else s.tfld .TRIM_CHSET τ 6 4 c
      ∃ t, exec (.trimPulseStart τ) s = .next t ∧ t.lat .trimChosen τ = 0 ∧
        (s.tsetOk τ k = true → t.flag .trimRun τ = true ∧ t.nlat .pulseCh τ = c ∧ t.tbit .TRIM_STATUS τ 2 = true ∧
          t.faults = s.faults ∧ t.regsAs s [Reg.key .TRIM_STATUS τ 0 0] ∧ t.memAs s) ∧
        (s.tsetOk τ k = false → t.tbit .TRIM_STATUS τ 1 = true ∧ t.tbit .TRIM_TAP τ 16 c = true ∧
          t.faults = s.faults ++ [s.msg τ 0x18 c] ∧
          t.regsAs s [Reg.key .TRIM_STATUS τ 0 0, Reg.key .TRIM_TAP τ c 0] ∧ t.memAs s)) ∧
    ((s.inHold || s.tileHold τ || s.sable || s.flag .wearStop) = true →
      ∃ t, exec (.trimPulseStart τ) s = .next t ∧ t = { s with lats := t.lats } ∧ t.latsAs s [Lat.key .trimChosen τ 0 0]) ∧
    (s.flag .trimRun τ = true →
      let c := s.nlat .pulseCh τ
      let cell := 64 * τ + c
      c < 64 → s.dramBad (s.ledgerOff cell) 16 = none → s.dramFresh (s.ledgerOff cell) 16 = [] →
      ∃ t, exec (.trimPulseEnd τ) s = .next t ∧ t.flag .trimRun τ = false ∧ t.tbit .TRIM_STATUS τ 2 = false ∧
        t.wearCount cell = (s.wearCount cell + 1) % 2 ^ 32 ∧ t.dramVal (s.ledgerOff cell + 12) 4 = s.reg .WEAR_AGE_S ∧
        (∀ a, (a < s.ledgerOff cell ∨ s.ledgerOff cell + 16 ≤ a) → spFind t.dram a = spFind s.dram a) ∧
        (∀ a, t.flashByte a = s.flashByte a) ∧
        t.otherRegs s [.TRIM_STATUS, .TRIM_TAP, .TRIM_BUSY, .WEAR_LOW_TILE] ∧
        (s.flag .pulseTrain τ = true → s.pulsesPerTap τ ≤ s.tfld .TRIM_BUSY τ 9 6 + 1 →
          t.tfld .TRIM_TAP τ 5 0 c = s.nlat .trainTarget τ % 64 ∧ t.treg .TRIM_BUSY τ = 0 ∧
          t.wearQ = s.wearQ ++ [⟨cell, 2, s.nlat .trainTarget τ, s.reg .WEAR_AGE_S⟩])))

/-- The wear log (R112, R113, R115): a record made durable stands at the end of the half in use and leaves the queue;
one that cannot be stops all trims; a compaction gives the other half a valid header of the next generation and
erases the full one; each powered second counts and every 3,600th appends an AGE record. The headroom (R117, R120):
a query of a cell clears DONE and one that names none is refused; its end gives the allowance of the cell's age less
its count, saturated, and sets DONE. -/
def Obligations.WearLog : Prop :=
  (∀ (s : State), s.Sound →
    (∀ r q, s.wearQ = r :: q → s.reg .WEAR_LOG_FILL + 16 ≤ s.logHalf → s.reg .WEAR_LOG_FILL + 8 < 2 ^ 32 →
      ∃ t, exec (.wearRecordDurable true) s = .next t ∧ t.wearQ = q ∧ t.reg .WEAR_LOG_FILL = s.reg .WEAR_LOG_FILL + 8 ∧
        t.flashBytes (s.logAddr (s.nlat .logUse) + s.reg .WEAR_LOG_FILL) 8 = r.bytes ∧
        (∀ a, (a < s.logAddr (s.nlat .logUse) + s.reg .WEAR_LOG_FILL ∨
          s.logAddr (s.nlat .logUse) + s.reg .WEAR_LOG_FILL + 8 ≤ a) → t.flashByte a = s.flashByte a) ∧
        t.regsAs s [Reg.key .WEAR_LOG_FILL 0 0 0] ∧ t.faults = s.faults) ∧
    (∀ r q, s.wearQ = r :: q → ∃ t, exec (.wearRecordDurable false) s = .next t ∧ t.wearQ = q ∧ t.flag .wearStop = true ∧
      t.rbit .WEAR_STATUS 2 = true ∧ t.faults = s.faults ++ [s.msg 0x10D 0x1A 0] ∧ t.memAs s ∧
      t.regsAs s [Reg.key .WEAR_STATUS 0 0 0]) ∧
    (s.wearQ = [] → ∀ ok, exec (.wearRecordDurable ok) s = .next s) ∧
    (s.rbit .WEAR_STATUS 1 = true → s.nlat .logUse < 2 → 16 ≤ s.logHalf → ∃ t, exec .logCompactionDone s = .next t ∧
      t.rbit .WEAR_STATUS 1 = false ∧ t.regsAs s [Reg.key .WEAR_STATUS 0 0 0] ∧
      (∀ k, k < s.logHalf → t.flashByte (s.logAddr (1 - s.nlat .logUse) + k) = 0xFF) ∧
      t.flashVal (s.logAddr (s.nlat .logUse)) 4 = 0x474F4C57 ∧
      t.flashVal (s.logAddr (s.nlat .logUse) + 4) 4 = (s.nlat .logGen + 1) % 2 ^ 32) ∧
    (∃ t, exec .ageTick s = .next t ∧ t.reg .WEAR_AGE_S = (s.reg .WEAR_AGE_S + 1) % 2 ^ 32 ∧
      t.regsAs s [Reg.key .WEAR_AGE_S 0 0 0] ∧ (∀ a, t.flashByte a = s.flashByte a) ∧
      ((s.reg .WEAR_AGE_S + 1) % 3600 ≠ 0 → t.wearQ = s.wearQ) ∧
      (s.flag .ledgerUp = true → (s.reg .WEAR_AGE_S + 1) % 3600 = 0 → s.reg .WEAR_AGE_S + 1 < 2 ^ 32 →
        t.wearQ = s.wearQ ++ [⟨0x3FFF, 3, 0, s.reg .WEAR_AGE_S + 1⟩]))) ∧
  (∀ (s : State), s.Sound →
    (∀ cell, cell ≤ 11263 → ∃ t, exec (.wearQuery cell) s = .next t ∧ t.rbit .WEAR_STATUS 0 = false ∧
      t.lat .wearQueryCell = (cell + 1 : Nat) ∧ t.regsAs s [Reg.key .WEAR_STATUS 0 0 0] ∧ t.memAs s ∧ t.faults = s.faults) ∧
    (∀ cell, 11263 < cell → cell < 2 ^ 14 → ∃ t, exec (.wearQuery cell) s = .next t ∧ t.rbit .WEAR_STATUS 3 = true ∧
      t.faults = s.faults ++ [s.msg 0x10D 0x02 (Reg.addr .WEAR_QUERY 0 0 0)] ∧ t.regsAs s [Reg.key .WEAR_STATUS 0 0 0] ∧
      t.memAs s) ∧
    (∀ cell, s.lat .wearQueryCell = (cell + 1 : Nat) → s.dramBad (s.ledgerOff cell) 16 = none →
      s.dramFresh (s.ledgerOff cell) 16 = [] →
      ∃ t, exec .wearQueryDone s = .next t ∧ t.rbit .WEAR_STATUS 0 = true ∧ t.lat .wearQueryCell = 0 ∧
        sx 32 (t.reg .WEAR_HEADROOM) =
          sat32 ((s.wearBudget cell * s.reg .WEAR_AGE_S / s.reg .WEAR_LIFE_S : Nat) - (s.wearCount cell : Nat)) ∧
        t.regsAs s [Reg.key .WEAR_STATUS 0 0 0, Reg.key .WEAR_HEADROOM 0 0 0] ∧ t.memAs s))

/-- System calibration (R135 to R137): in CHARACTERISE with none running and AVG up to 8 an operation begins, BUSY with
no result, DARK clearing CAL_VALID; ACCEPT clears ADC_BAD and sets CAL_VALID. Else the write is refused. DARK, once
every round is in, gives each input with a role its four mean offsets, when all lie within 56 to 656, else marks it
bad. Open-wire tests and the reference (R133, R138, R140): PERIOD spans after the last, the automatic test begins on
the next input and polarity when nothing else runs; a single test waits for the span boundary or is refused; READY sets
2 ms after the reference was enabled and at no other moment. -/
def Obligations.SystemCalibration : Prop :=
  (∀ (s : State) (τ avg : Nat), s.Sound → τ < 176 → avg < 16 → s.inUse τ = true →
    let begins := fun (i : Instr) (valid : Bool) => ∃ t, exec i s = .next t ∧ t.tbit .ADC_STATUS τ 8 = true ∧
      t.tbit .ADC_STATUS τ 4 = valid ∧ (∀ b, b ≠ 8 → b ≠ 4 → t.tbit .ADC_STATUS τ b = s.tbit .ADC_STATUS τ b) ∧
      t = { s with regs := t.regs, lats := t.lats } ∧ t.regsAs s [Reg.key .ADC_STATUS τ 0 0]
    let refused := fun (i : Instr) => ∃ t, exec i s = .next t ∧ t.tbit .ADC_STATUS τ 0 = true ∧
      t.faults = s.faults ++ [s.msg τ 0x02 (Reg.addr .ADC_SYSCAL τ 0 0)] ∧ t.regsAs s [Reg.key .ADC_STATUS τ 0 0] ∧ t.memAs s
    (s.mode = .characterise → s.sysBusy τ = false → avg ≤ 8 →
      begins (.syscalDark τ avg) false ∧ begins (.syscalGainInject τ avg) (s.tbit .ADC_STATUS τ 4) ∧
      begins (.syscalGainIllum τ avg) (s.tbit .ADC_STATUS τ 4) ∧
      ∃ t, exec (.syscalAccept τ avg) s = .next t ∧ (∀ k, k < 4 → t.treg .ADC_BAD τ k = 0) ∧
        t.tbit .ADC_STATUS τ 4 = true ∧ t = { s with regs := t.regs } ∧ t.otherRegs s [.ADC_BAD, .ADC_STATUS]) ∧
    (s.mode ≠ .characterise ∨ s.sysBusy τ = true ∨ 8 < avg →
      refused (.syscalDark τ avg) ∧ refused (.syscalGainInject τ avg) ∧ refused (.syscalGainIllum τ avg) ∧
        refused (.syscalAccept τ avg)) ∧
    (s.sysBusy τ = true → s.sysComplete τ = true → s.lat .sysOp τ = 1 → 0 < s.nlat .sysN τ →
      ∃ t, exec (.syscalDone τ) s = .next t ∧ t.sysBusy τ = false ∧ t.memAs s ∧ t.faults = s.faults ∧
        t.otherRegs s [.ADC_STATUS, .ADC_BAD, .ADC_OFS, .ADC_RNOW] ∧
        ∀ i, i < 128 → s.chRole τ (i % 64) ≠ 0 →
          let mean := fun r => (s.nlat .sysSum τ i r + s.nlat .sysN τ / 2) / s.nlat .sysN τ
          ((∀ r, r < 4 → 56 ≤ mean r ∧ mean r ≤ 656) →
            t.treg .ADC_OFS τ i 0 = 65536 * mean 1 + mean 0 ∧ t.treg .ADC_OFS τ i 1 = 65536 * mean 3 + mean 2) ∧
          ((∃ r, r < 4 ∧ (mean r < 56 ∨ 656 < mean r)) → t.mapBit .ADC_BAD τ i = true ∧ t.tbit .ADC_STATUS τ 9 = true ∧
            t.treg .ADC_OFS τ i 0 = s.treg .ADC_OFS τ i 0)) ∧
    (s.sysBusy τ = false ∨ s.sysComplete τ = false → exec (.syscalDone τ) s = .next s)) ∧
  (∀ (s : State) (τ : Nat), s.Sound → τ < 176 → s.inUse τ = true →
    (∀ x, s.tbit .ADC_OWT τ 31 = true → s.flag .owtPhase τ = false → s.flag .owtCmd τ = false → s.sysBusy τ = false →
      s.nlat .owtAt τ + s.tfld .ADC_OWT τ 15 0 ≤ s.tileN τ → s.owtNextTest τ = some x → ∃ t, exec (.owtAutoStart τ) s = .next t ∧ t.tbit .ADC_STATUS τ 3 = true ∧
        t.nlat .owtInput τ = x / 2 ∧ t.flag .owtDown τ = (x % 2 == 1) ∧ t.nlat .owtNext τ = (x + 1) % 256 ∧
        t = { s with regs := t.regs, lats := t.lats } ∧ t.regsAs s [Reg.key .ADC_STATUS τ 0 0]) ∧
    (s.tileN τ < s.nlat .owtAt τ + s.tfld .ADC_OWT τ 15 0 → exec (.owtAutoStart τ) s = .next s) ∧
    (∀ i down, i < 128 →
      (let barred := s.flag .owtPhase τ || s.flag .owtCmd τ || s.sysBusy τ || s.mode == .boot || s.mode == .sable
       (barred = false → ∃ t, exec (.adcOwtCmd τ i down) s = .next t ∧ t.flag .owtCmd τ = true ∧
          t = { s with lats := t.lats } ∧ t.latsAs s [Lat.key .owtCmd τ 0 0]) ∧
       (barred = true → ∃ t, exec (.adcOwtCmd τ i down) s = .next t ∧ t.tbit .ADC_STATUS τ 0 = true ∧
          t.faults = s.faults ++ [s.msg τ 0x02 (Reg.addr .ADC_OWT_CMD τ 0 0)] ∧
          t = { s with regs := t.regs, faults := t.faults } ∧ t.regsAs s [Reg.key .ADC_STATUS τ 0 0]))) ∧
    (s.tbit .ADC_REF τ 0 = true → s.tbit .ADC_REF τ 1 = false → s.refSettled τ = true →
      ∃ t, exec (.refReady τ) s = .next t ∧ t.tbit .ADC_REF τ 1 = true ∧ t.tbit .ADC_REF τ 0 = true ∧
        t = { s with regs := t.regs, lats := t.lats } ∧ t.regsAs s [Reg.key .ADC_REF τ 0 0] ∧
        t.latsAs s [Lat.key .rdyAt τ 0 0]) ∧
    (s.tbit .ADC_REF τ 0 = false ∨ s.tbit .ADC_REF τ 1 = true ∨ s.refSettled τ = false → exec (.refReady τ) s = .next s))

/-- Conversions (R123, R127, R128, R132): the converter's next sample joins those on their way, with the calibrated
value of its code, 0 when it did not complete, and marked bad when its check failed; a failed check counts. A sample
that arrives leaves the queue and, of a round of the tile's own, stands in the record of its cell, unless it comes after
its span has ended (R225). Before the image has been loaded nothing converts (R129). -/
def Obligations.Conversions : Prop :=
  ∀ (s : State) (τ v slot code : Nat) (ok done : Bool) (volt : Nat), s.Sound → τ < 176 → v < 2 → slot < 128 → code < 16384 →
    volt < 2 ^ 32 → s.inUse τ = true →
    (s.flag .imgUp = false → exec (.conversionComplete τ v slot code ok done volt) s = .next s) ∧
    (s.flag .imgUp = true → slot < s.roundLen τ v → s.flag .convLong τ (1 - v) = false →
      let i := s.inputOf τ v slot
      ∃ t m, exec (.conversionComplete τ v slot code ok done volt) s = .next t ∧ t.samples = s.samples ++ [m] ∧
        m.tile = τ ∧ m.conv = v ∧ m.input = i ∧ m.span = s.nlat .convSpan τ v ∧
        m.p = s.adcValue τ i (s.rangeNow τ i) (if done then code else 0) (s.nominal τ v slot) ∧
        m.sat = ((if done then code else 0) == 0 || (if done then code else 0) == 16383) ∧
        ((ok && done) = false → m.bad = true ∧ t.tfld .ADC_ERRCNT τ (16 * v + 15) (16 * v) =
          min (s.tfld .ADC_ERRCNT τ (16 * v + 15) (16 * v) + 1) 65535) ∧
        ((ok && done) = true → t.treg .ADC_ERRCNT τ = s.treg .ADC_ERRCNT τ) ∧ t.memAs s ∧ t.mode = s.mode ∧
        t.otherRegs s [.ADC_STATUS, .ADC_ERRCNT, .ADC_RNOW, .ADC_OPEN, .ADC_LEAK, .DMA_CAP_DROP]) ∧
    (∀ m, s.samples.find? (fun m => m.tile == τ && m.conv == v) = some m → m.extra = false → m.input < 64 →
      let bank := if m.span = s.nlat .tileSpan τ ∧ s.flag .spanUp = true then s.bankNow τ else 1 - s.bankNow τ
      (s.flag .spanUp = true → m.span < s.nlat .tileSpan τ →
        exec (.sampleDelivered τ v) s = .next { s with samples := s.samples.erase m }) ∧
      (s.flag .loopRec τ (64 * bank + m.input) 7 = false → (s.flag .spanUp = true → s.nlat .tileSpan τ ≤ m.span) →
      ∃ t, exec (.sampleDelivered τ v) s = .next t ∧ t.samples = s.samples.erase m ∧
        t.lat .loopRec τ (64 * bank + m.input) 0 = m.p ∧ t = { s with lats := t.lats, samples := t.samples }))

/-- Capture rings (R146 to R149): a ring that is enabled starts at 0; its oldest record goes to DRAM at WP, which moves
on by 16 within the ring; with the ring full and no wrap allowed the record is dropped and counted. -/
def Obligations.CaptureRings : Prop :=
  ∀ (s : State) (r : Nat), s.Sound → r < 8 →
    (s.rbit .DMA_CAP_CTRL 0 r = false → ∃ t, exec (.captureRingEnable r) s = .next t ∧ t.rbit .DMA_CAP_CTRL 0 r = true ∧
      t.reg .DMA_CAP_WP r = 0 ∧ t.reg .DMA_CAP_RP r = 0 ∧ t.reg .DMA_CAP_WRAP r = 0 ∧ t.memAs s ∧ t.faults = s.faults ∧
      t.regsAs s [Reg.key .DMA_CAP_CTRL 0 r 0, Reg.key .DMA_CAP_WP 0 r 0, Reg.key .DMA_CAP_RP 0 r 0,
        Reg.key .DMA_CAP_WRAP 0 r 0]) ∧
    (∀ q, s.capQ.find? (fun q => q.ring == r) = some q → s.rbit .DMA_CAP_CTRL 0 r = true → s.nlat .capLost r = 0 →
      let s' := { s with capQ := s.capQ.erase q }
      let wp := s.reg .DMA_CAP_WP r
      let full := s.rbit .DMA_CAP_CTRL 1 r = false ∧ (wp + 16) % s.ringSize r = s.reg .DMA_CAP_RP r % s.ringSize r
      (full → ∃ t, exec (.captureRecordWritten r) s = .next t ∧ t.capQ = s.capQ.erase q ∧
        t.reg .DMA_CAP_DROP r = min (s.reg .DMA_CAP_DROP r + 1) (2 ^ 32 - 1) ∧ t.memAs s ∧
        t.regsAs s [Reg.key .DMA_CAP_DROP 0 r 0]) ∧
      (¬full → ∀ s1 pa o o', s'.translate (16 + r)
          ((2 ^ 32 * s.fld .DMA_CAP_BASE_HI 7 0 r + 4096 * s.fld .DMA_CAP_BASE_LO 31 12 r + wp) % 2 ^ 39) true = (.inr pa, s1) →
        s1.target pa = some (.dram, o) → s1.target (pa + 15) = some (.dram, o') →
        ∃ t, exec (.captureRecordWritten r) s = .next t ∧ t.capQ = s.capQ.erase q ∧
          t.dramBytes o 16 = q.bytes ∧ t.reg .DMA_CAP_WP r = (wp + 16) % s.ringSize r ∧
          (∀ a, (a < o ∨ o + 16 ≤ a) → spFind t.dram a = spFind s1.dram a)))

/-- Correction blocks (R170): at the fetch instant of an occurrence EN is sampled for it, and with EN 1 every tile in use
holds or requests the block of its position for it; a block arrives with its 64 entries from DRAM; at the deadline a
block of the coming occurrence that has not come is late for it, in the block, the flag and the count. A span boundary
(R281, R158, R159), at the grain at which it is due: the device's span count goes up by one, once the first has begun
it; the span is stamped; in a mode that closes no loop every channel of a tile whose span begins is open. At any other
grain nothing happens. -/
def Obligations.SpanBoundary : Prop :=
  (∀ (s : State) (pend : Bool) (p : Nat), s.Sound → p < 1024 →
    (∀ m, s.rcList pend = some m → p < s.listSpan m →
      ∃ t, exec (.correctionBlockFetch pend p) s = .next t ∧
        t = { s with lats := t.lats, occs := t.occs, blocks := t.blocks } ∧ t.latsAs s [Lat.key .occN 0 0 0] ∧
        t.occs = s.occs ++ [⟨s.nlat .occN, p, pend, s.rbit .SLOT_RC_CTRL 0, false, false, false, 0⟩] ∧
        (s.rbit .SLOT_RC_CTRL 0 = false → t.blocks = s.blocks) ∧
        (s.rbit .SLOT_RC_CTRL 0 = true → ∀ τ, s.inUse τ = true → τ < 176 → ∃ b ∈ t.blocks, b.tile = τ ∧ b.pos = p ∧
          b.addr = s.blockAddr (s.rcTable pend) τ p ∧ s.nlat .occN ∈ b.occs)) ∧
    (s.rcList pend = none → exec (.correctionBlockFetch pend p) s = .next s) ∧
    (∀ τ b o, τ < 176 → s.blockWaiting pend τ p = some b → b.addr = some o → s.dramBad o 128 = none →
      s.dramFresh o 128 = [] →
      ∃ t b', exec (.correctionBlockArrival pend τ p) s = .next t ∧ b' ∈ t.blocks ∧ b'.arrived = true ∧ b'.late = b.late ∧
        b'.occs = b.occs ∧ b'.addr = b.addr ∧ b'.entries.length = 64 ∧
        (∀ c, c < 64 → b'.entries.getD c 0 = sx 16 (leVal (slice (s.dramBytes o 128) (2 * c) 2))) ∧
        t = { s with blocks := t.blocks, freeCtr := t.freeCtr }) ∧
    (∃ t, exec (.correctionBlockDeadline pend p) s = .next t ∧ t.memAs s ∧ t.mode = s.mode ∧
      t.otherRegs s [.SLOT_RC_LATE, .LOOP_STATUS, .FLT_LOST_TILE] ∧
      (∀ o τ b, s.nextOcc pend p = some o → τ < 176 → s.inUse τ = true → s.occBlock τ o.no = some b → b.arrived = false →
        o.no ∉ b.late → { b with late := b.late ++ [o.no] } ∈ t.blocks ∧ t.tbit .LOOP_STATUS τ 2 = true) ∧
      (s.nextOcc pend p = none → t = s) ∧
      (∀ o, s.nextOcc pend p = some o → (∀ τ b, s.inUse τ = true → s.occBlock τ o.no = some b → b.arrived = true ∨
        o.no ∈ b.late) → t = s))) ∧
  (∀ (s : State) (u o : Nat), s.Sound → u < 4 → o < 4 →
    (s.spanDue = true → s.slotHalf 0 ≠ 0 ∨ s.slotHalf 1 ≠ 0 →
      ∃ t, exec (.spanBoundary u o) s = .next t ∧ t.spanCount = s.spanCount + b2n (s.flag .spanUp) ∧
        t.flag .spanUp = true ∧ t.nlat .spanAt = s.grain ∧ t.reg .PTP_SPAN_NS = s.time.ns ∧
        t.reg .PTP_SPAN_S_LO = s.time.sec % 2 ^ 32 ∧ t.reg .PTP_SPAN_CNT = t.spanCount % 2 ^ 32 ∧ t.mode = s.mode ∧
        (s.boundaryMode ≠ .static → s.boundaryMode ≠ .slotted → ∀ τ c, τ < 176 → c < 64 → s.inUse τ = true →
          s.tbit .ADC_STATUS τ 5 = false → s.tbit .ADC_STATUS τ 6 = false → s.fallback τ = false →
          t.mapBit .LOOP_ISOPEN τ c = true ∧ t.nlat .tileSpanAt τ = s.grain)) ∧
    (s.spanDue = false ∨ (s.slotHalf 0 = 0 ∧ s.slotHalf 1 = 0) → exec (.spanBoundary u o) s = .next s))

/-- A program grain of a half (R202, R211, R216, R372): a word fetched with a parity error or from another index puts
the half in machine check, in the calibration entry as well (R223); a wait grain only writes the results that are
due, but for grain 3,904, which publishes the complement of the
signature; an unconditional ADDS, SUB, MIN or MAX of an ALU slot delivers its result one grain later. -/
def Obligations.ProgramGrain : Prop :=
  ∀ (s : State) (τ h g ix perr : Nat), s.Sound → τ < 176 → h < 2 → g < 3968 → ix < 4096 → perr < 256 →
    s.inUse τ = true → s.flag .spanUp = true → s.executes τ h = true →
    let word := s.csWord τ h ix
    let bad := (word / 2 ^ 256) ^^^ parityBits word ^^^ perr
    (3840 ≤ g ∨ g < s.cycles τ → s.tbit .MC_STATUS τ 3 = false → bad ≠ 0 ∨ ix ≠ g →
      ∃ t, exec (.programGrain τ h g ix perr) s = .next t ∧ t.inMchk τ h = true ∧ t.executes τ h = false ∧
        t.treg .MC_MCHK τ h = (if bad ≠ 0 then 2 ^ 28 + 2 ^ 16 * (bad % 2 ^ 11) else 2 * 2 ^ 28) + 2 ^ 27 * h + ix ∧
        t.memAs s ∧ t.mode = s.mode) ∧
    (3840 ≤ g → s.cycles τ ≤ g → bad = 0 → ix = g →
      ∃ t, exec (.programGrain τ h g ix perr) s = .next t ∧
        t = { s with regs := t.regs, lats := t.lats, pipe := t.pipe, freeCtr := t.freeCtr } ∧
        (g ≠ 3904 → t.regs = s.regs) ∧
        (g = 3904 → t.regsAs s [Reg.key .RED_SIG τ h 0] ∧ t.treg .RED_SIG τ h = (s.nlat .engSig τ h ^^^ 0xFFFFFFFF) % 2 ^ 32)) ∧
    (g + 1 < s.cycles τ → s.cycles τ ≤ 3840 → s.tbit .MC_STATUS τ 3 = false → bad = 0 → ix = g →
      ∃ t, exec (.programGrain τ h g ix perr) s = .next t ∧ t.inMchk τ h = s.inMchk τ h ∧ t.mode = s.mode ∧
        ∀ k, k = 1 ∨ k = 2 →
          let f := bits word (32 * k + 31) (32 * k)
          let r := s.landUpto τ h g
          let a := sx 32 (r.source τ h word (bits f 15 10))
          let b := sx 32 (r.source τ h word (bits f 9 4))
          let delivers := fun (v : Int) => PipeW.mk τ h (g + 1) 0 (bits f 21 16) (ux 32 v) ∈ t.pipe
          bits f 26 22 = 0 → bits f 21 16 < 48 →
            (bits f 31 27 = 0x01 → delivers (sat32 (a + b))) ∧ (bits f 31 27 = 0x04 → delivers (a - b)) ∧
            (bits f 31 27 = 0x0C → delivers (min a b)) ∧ (bits f 31 27 = 0x0D → delivers (max a b))) ∧
    (s.cycles τ ≤ g → g < 3840 → s.tbit .MC_STATUS τ 3 = false → g ≠ 0 →
      exec (.programGrain τ h g ix perr) s = .next (s.landUpto τ h g)) ∧
    (s.tbit .MC_STATUS τ 3 = true → g < 128 → bad ≠ 0 ∨ ix ≠ 3968 + g →
      ∃ t, exec (.programGrain τ h g ix perr) s = .next t ∧ t.inMchk τ h = true ∧ t.executes τ h = false ∧
        t.treg .MC_MCHK τ h = (if bad ≠ 0 then 2 ^ 28 + 2 ^ 16 * (bad % 2 ^ 11) else 2 * 2 ^ 28) + 2 ^ 27 * h + ix ∧
        t.memAs s ∧ t.mode = s.mode) ∧
    (s.tbit .MC_STATUS τ 3 = true → 128 ≤ g → g < 3840 →
      exec (.programGrain τ h g ix perr) s = .next (s.landUpto τ h g))

/-- Loop programs (R219 to R221, R230): START begins a load where every target is idle, else it is refused; the load
ends with the code of the first check that fails, or with the program and its contract in every target; a read of
MC_CS_DATA[0] captures the addressed word and its parity. -/
def Obligations.ProgramLoads : Prop :=
  ∀ s : State, s.Sound →
    let sel := s.fld .MC_LOAD_CTRL 1 0
    (s.loadBusy = false → s.loadTargets.all (fun τ => s.loadAllowed τ sel) = true →
      ∃ t, exec .mcLoadStart s = .next t ∧ t.reg .MC_LOAD_STATUS = 2 ^ 31 ∧ (∀ k, k < 6 → t.reg .MC_LOAD_FAIL k = 0) ∧
        t = { s with regs := t.regs, lats := t.lats } ∧ t.otherRegs s [.MC_LOAD_STATUS, .MC_LOAD_FAIL]) ∧
    (s.loadBusy = true ∨ s.loadTargets.all (fun τ => s.loadAllowed τ sel) = false →
      ∃ t, exec .mcLoadStart s = .next t ∧ t.faults = s.faults ++ [s.msg 0x10B 0x02 (Reg.addr .MC_LOAD_CMD 0 0 0)] ∧
        t.reg .MC_LOAD_STATUS = (if s.loadBusy then s.reg .MC_LOAD_STATUS else 2 ^ 30 + 0x0C) ∧
        t.otherRegs s [.MC_LOAD_STATUS] ∧ t.memAs s) ∧
    (∀ bad o, bad.all (fun τ => decide (τ < 176)) = true → s.loadBusy = true →
      s.dramOff (2 ^ 32 * s.fld .MC_LOAD_ADDR_HI 7 0 + s.reg .MC_LOAD_ADDR_LO) = some o →
      let rd := fun k => s.dramByte (o + k)
      let len := 320 + 32 * imgCycles rd
      let code := s.programCheck rd s.loadTargets
      o + len ≤ s.dramSize → s.dramBad o len = none → s.dramFresh o len = [] →
      ∃ t, exec (.mcLoadDone bad) s = .next t ∧ t.mode = s.mode ∧ t.faults = s.faults ∧
        (code ≠ 0 → t.reg .MC_LOAD_STATUS = 2 ^ 30 + code ∧ t.otherRegs s [.MC_LOAD_STATUS] ∧ t.memAs s) ∧
        (code = 0 →
          t.reg .MC_LOAD_STATUS = 2 ^ 30 + (if s.loadTargets.any (fun τ => bad.contains τ) then 0x0D else 0) ∧
          ∀ τ, τ ∈ s.loadTargets → t.treg .MC_CYCLES τ = imgW rd 8 ∧ t.treg .MC_CRC τ = imgW rd 28 ∧
            (t.tbit .MC_STATUS τ 0 = !bad.contains τ) ∧ (bad.contains τ = true → t.mapBit .MC_LOAD_FAIL 0 τ = true) ∧
            ∀ h w, h < 2 → halfNamed (s.nlat .mcHalf) h = true → w < imgCycles rd →
              t.csWord τ h w = withParity (imgWord rd w))) ∧
    (s.loadBusy = true → s.dramOff (2 ^ 32 * s.fld .MC_LOAD_ADDR_HI 7 0 + s.reg .MC_LOAD_ADDR_LO) = none →
      ∃ t, exec (.mcLoadDone []) s = .next t ∧ t.reg .MC_LOAD_STATUS = 2 ^ 30 + 0x0E ∧ t = { s with regs := t.regs } ∧
        t.otherRegs s [.MC_LOAD_STATUS]) ∧
    (∀ τ, τ < 176 → s.inUse τ = true →
      let word := s.csWord τ (s.tfld .MC_CS_ADDR τ 16 16) (s.tfld .MC_CS_ADDR τ 11 0)
      ∃ t, exec (.controlStoreRead τ) s = .next t ∧ (∀ k, k < 8 → t.treg .MC_CS_DATA τ k = bits word (32 * k + 31) (32 * k)) ∧
        t.treg .MC_CS_PAR τ = word / 2 ^ 256 ∧ t.resp = ⟨false, bits word 31 0⟩ ∧
        t = { s with regs := t.regs, resp := t.resp } ∧ t.otherRegs s [.MC_CS_DATA, .MC_CS_PAR])

/-- The dither list swap and the sweep player (R188, R190 to R196): where each of ddsSwap, swpCmdStart, swpCmdStop,
swpCmdResume, swpJumpWrite, sweepFrameArrival and outputInstant completes, and with what. DDS_SWAP makes a swap pending,
or is refused while one is. START begins a segment in CHARACTERISE, STOP leaves the last outputs in HTR_MAN, RESUME ends
a pause, and each is refused in another state; a jump target waits; a frame that the player wants arrives in its buffer,
and frames that it does not want change nothing. At an output instant in CHARACTERISE (R190): between frames the position
moves on and every mapped channel takes its resampled value; at the end of a frame the next one becomes the current one,
and where it is missing there is an underrun; with no segment in progress the instant has no effect. The heater of a tile
in HOLD keeps its code (R28). -/
def Obligations.SweepPlayer : Prop :=
  (∀ (s : State) (τ : Nat), s.Sound → τ < 176 → s.inUse τ = true → s.tbit .DDS_STATUS τ 2 = false →
    ∃ t, exec (.ddsSwap τ) s = .next t ∧ t.tbit .DDS_STATUS τ 2 = true ∧
      (∀ k, k ≠ 2 → t.tbit .DDS_STATUS τ k = s.tbit .DDS_STATUS τ k) ∧ t = { s with regs := t.regs } ∧
      t.regsAs s [Reg.key .DDS_STATUS τ 0 0]) ∧
  (∀ (s : State) (τ : Nat), s.Sound → τ < 176 → s.inUse τ = true → s.tbit .DDS_STATUS τ 2 = true →
    ∃ t, exec (.ddsSwap τ) s = .next t ∧ t.refusedAt s .DDS_SWAP τ .DDS_STATUS 0) ∧
  (∀ (s : State) (g : Nat), s.Sound → g < 256 → s.mode = .characterise → s.swpBusy = false →
    ∃ t, exec (.swpCmdStart g) s = .next t ∧ t.swpState = 1 ∧ t.reg .SWP_POS = 2 ^ 24 * g ∧ t.reg .SWP_FRAC = 0 ∧
      t.swpBuf = [] ∧ t.swpX = [] ∧ t = { s with regs := t.regs, lats := t.lats, swpBuf := [], swpX := [] } ∧
      t.otherRegs s [.SWP_STATUS, .SWP_POS, .SWP_FRAC]) ∧
  (∀ (s : State) (g : Nat), s.Sound → g < 256 → s.swpBusy = true →
    ∃ t, exec (.swpCmdStop g) s = .next t ∧ t.swpState = 0 ∧ t.swpJump = false ∧
      t = { s with regs := t.regs, lats := t.lats, swpBuf := [], swpX := [] } ∧
      t.otherRegs s [.SWP_STATUS, .SWP_JUMP, .HTR_MAN] ∧
      ∀ p, p < 64 → s.rbit .SWP_MAP 31 p = true → 0 < s.lat .swpOut p → s.lat .swpOut p ≤ 65536 →
        (∀ q, q < 64 → q ≠ p → s.rbit .SWP_MAP 31 q = true → s.fld .SWP_MAP 13 0 q ≠ s.fld .SWP_MAP 13 0 p) →
        t.treg .HTR_MAN (s.fld .SWP_MAP 13 0 p / 64) (s.fld .SWP_MAP 13 0 p % 64) = s.nlat .swpOut p - 1) ∧
  (∀ (s : State) (g : Nat), s.Sound → g < 256 → s.mode = .characterise → s.swpState = 3 →
    ∃ t, exec (.swpCmdResume g) s = .next t ∧ t.swpState = 1 ∧ t = { s with regs := t.regs, lats := t.lats } ∧
      t.regsAs s [Reg.key .SWP_STATUS 0 0 0]) ∧
  (∀ (s : State) (g : Nat), s.Sound → g < 256 →
    ∀ c, (c = .swpCmdStart g ∧ (s.mode ≠ .characterise ∨ s.swpBusy = true)) ∨ (c = .swpCmdStop g ∧ s.swpBusy = false) ∨
        (c = .swpCmdResume g ∧ (s.mode ≠ .characterise ∨ s.swpState ≠ 3)) →
      ∃ t, exec c s = .next t ∧ t.refusedAt (s.setLat .swpSeg g) .SWP_CMD 0 .SWP_STATUS 7) ∧
  (∀ (s : State) (g : Nat), s.Sound → g < 256 →
    ∃ t, exec (.swpJumpWrite g) s = .next t ∧ t.reg .SWP_JUMP = 2 ^ 31 + g ∧ t = { s with regs := t.regs } ∧
      t.regsAs s [Reg.key .SWP_JUMP 0 0 0]) ∧
  (∀ (s : State) (g i n : Nat), s.Sound → g < 256 → i < 2 ^ 24 → n ≤ 256 →
    ∃ t, exec (.sweepFrameArrival g i n) s = .next t ∧ t.mode = s.mode ∧ t.swpX = s.swpX ∧
      (n = 0 ∨ s.swpBusy = false → t = s)) ∧
  (∀ (s : State) (g : Nat), s.Sound → g < 256 →
    ∀ i pa s1 bs s2, i < 2 ^ 24 → s.swpWants g i = true →
      s.translate 24 ((2 ^ 32 * s.fld .SWP_SEG_HI 7 0 g + s.reg .SWP_SEG_LO g + 128 * i) % 2 ^ 39) false = (.inr pa, s1) →
      s1.memGet .swp pa 128 = (.ok bs, s2) →
      ∃ t f, exec (.sweepFrameArrival g i 1) s = .next t ∧ t.swpBuf = s.swpBuf ++ [f] ∧ f.seg = g ∧ f.ix = i ∧
        (∀ p, p < 64 → f.codes.getD p 0 = leVal (slice bs (2 * p) 2)) ∧ t = { s2 with swpBuf := t.swpBuf } ∧ t.memAs s2) ∧
  (∀ (s : State), s.Sound → s.mode = .characterise → s.swpState = 1 → s.flag .swpFirst = false →
    let f := s.fld .SWP_FRAC 23 0 + s.reg .SWP_STEP
    let next := s.swpIx + 1
    (f < 2 ^ 24 →
      ∃ t, exec .outputInstant s = .next t ∧ t.reg .SWP_FRAC = f ∧ t.reg .SWP_POS = s.reg .SWP_POS ∧ t.swpBuf = s.swpBuf ∧
        (∀ p, p < 64 → s.rbit .SWP_MAP 31 p = true → t.nlat .swpOut p = resample s.swpX (bits f 23 19) p + 1) ∧
        (∀ τ c, τ < 256 → c < 64 → s.tileHold τ = true → t.treg .HTR_ACTIVE τ c = s.treg .HTR_ACTIVE τ c) ∧
        t.otherRegs s [.SWP_FRAC, .HTR_ACTIVE, .HTR_PARTS, .HTR_STATUS] ∧ t.memAs s) ∧
    (2 ^ 24 ≤ f → f < 2 ^ 25 → s.lat .swpTail = 0 → next ≠ s.fld .SWP_SEG_LEN 23 0 s.swpCur → s.swpHas s.swpCur next = true →
      ∃ t, exec .outputInstant s = .next t ∧ t.reg .SWP_FRAC = f - 2 ^ 24 ∧ t.swpState = 1 ∧
        t.reg .SWP_POS = (2 ^ 24 * s.swpCur + next) % 2 ^ 32 ∧ t.swpHas s.swpCur next = false ∧
        t.swpX = s.swpX.drop (s.swpX.length - 15) ++ [s.swpCodes s.swpCur next] ∧
        t.otherRegs s [.SWP_FRAC, .SWP_POS, .HTR_ACTIVE, .HTR_PARTS, .HTR_STATUS] ∧ t.memAs s) ∧
    (2 ^ 24 ≤ f → f < 2 ^ 25 → s.lat .swpTail = 0 → next ≠ s.fld .SWP_SEG_LEN 23 0 s.swpCur → s.swpHas s.swpCur next = false →
      ∃ t, exec .outputInstant s = .next t ∧ t.swpState = 2 ∧ t.rbit .SWP_STATUS 8 = true ∧
        t.reg .SWP_UNDER_CNT = min (s.reg .SWP_UNDER_CNT + 1) (2 ^ 32 - 1) ∧ t.reg .SWP_FRAC = s.reg .SWP_FRAC ∧
        t.otherRegs s [.SWP_STATUS, .SWP_UNDER_N, .SWP_UNDER_CNT] ∧ t.memAs s)) ∧
  (∀ (s : State), s.Sound → s.mode ≠ .characterise ∨ (s.swpState ≠ 1 ∧ s.swpState ≠ 2) → exec .outputInstant s = .next s)

/-- Commits outside SLOTTED (R237): CFG_COMMIT of a valid bank in CHARACTERISE, or in STATIC with no list armed, is
taken when none waits; a bank that is not valid is refused with its flag. -/
def Obligations.StaticCommits : Prop :=
  ∀ (s s1 : State) (b : Nat) (guard : Bool), s.Sound → b < 512 →
    (s.checkBank b = (true, s1) → s.mode = .characterise ∨ (s.mode = .static ∧ s.armed = false) →
      s.rbit .CFG_STATUS 4 = false →
      ∃ t, exec (.cfgCommit b guard) s = .next t ∧ t.rbit .CFG_STATUS 4 = true ∧ t.nlat .cfgReq = b + 1 ∧
        t.flag .cfgGuard = guard ∧ t.nlat .cfgFrom = s.grain + 2000 ∧ t.lat .cfgHeld = 0 ∧
        t = { s1 with regs := t.regs, lats := t.lats } ∧ t.regsAs s1 [Reg.key .CFG_STATUS 0 0 0]) ∧
    (s.checkBank b = (true, s1) →
      (s.mode ≠ .characterise ∧ (s.mode ≠ .static ∨ s.armed = true)) ∨ s.rbit .CFG_STATUS 4 = true →
      ∃ t, exec (.cfgCommit b guard) s = .next t ∧ t.refusedAt s1 .CFG_COMMIT 0 .CFG_STATUS 0) ∧
    (s.checkBank b = (false, s1) →
      ∃ t, exec (.cfgCommit b guard) s = .next t ∧ t.rbit .CFG_STATUS 3 = true ∧ t.rbit .CFG_STATUS 0 = true ∧
        t.lats = s1.lats ∧ t.faults = s1.faults ++ [s.msg 0x109 0x02 (Reg.addr .CFG_COMMIT 0 0 0)] ∧
        t = { s1 with regs := t.regs, faults := t.faults } ∧ t.regsAs s1 [Reg.key .CFG_STATUS 0 0 0])

/-- Slot lists (R238 to R242, R245, R246, R279): ARM takes the free list memory for validation; a list that fails keeps
its code and entry and is not armed, a valid one is armed with its length, its cycle time and its start, no earlier
than 2,000 ns on; DISARM clears it while the start is that far off; STOP of a valid bank fixes the stop boundary;
the grain of the coming boundary is fixed at the first grain that is 512 ns before it or less, and at no other; a copy that was requested arrives in its staging
bank. -/
def Obligations.SlotLists : Prop :=
  ∀ s : State, s.Sound →
    let free := if s.running then 1 - s.opMem else 0
    let mayArm := (s.under = .static ∨ s.under = .slotted) ∧ s.armed = false ∧ s.lat .armBusy = 0 ∧ s.stopping = false ∧
      s.armClash free = false
    (mayArm → ∃ t, exec .slotArm s = .next t ∧ t.nlat .armBusy = free + 1 ∧ t = { s with lats := t.lats } ∧
      t.latsAs s [Lat.key .armBusy 0 0 0]) ∧
    (¬mayArm → ∃ t, exec .slotArm s = .next t ∧ t.refusedAt s .SLOT_CMD 0 .SLOT_STATUS 0) ∧
    (∀ (m c e : Nat) (s1 : State), s.lat .armBusy = (m : Int) + 1 → (s.setLat .armBusy 0).listCode m = (c, e, s1) →
      (c ≠ 0 → ∃ t, exec .armValidationDone s = .next t ∧ t.reg .SLOT_ARMERR = (2 ^ 24 * c + e) % 2 ^ 32 ∧
        t.armed = s.armed ∧ t.lat .armBusy = 0 ∧ t = { s1 with regs := t.regs } ∧
        t.regsAs s1 [Reg.key .SLOT_ARMERR 0 0 0]) ∧
      (c = 0 →
        let n := s.listSpan m
        let tc := s.durSum m 0 n
        ∃ t, exec .armValidationDone s = .next t ∧ t.armed = true ∧ t.lat .armBusy = 0 ∧ t.reg .SLOT_PEND_LEN = n ∧
          2 ^ 32 * t.reg .SLOT_PEND_TC_HI + t.reg .SLOT_PEND_TC_LO = tc ∧ t.nlat .pendMem = m ∧
          s.nowCeil + 2000 ≤ t.nlat .pendS ∧ (∃ k, t.nlat .pendS = s.slotBase + k * tc) ∧
          t.reg .SLOT_START_NS = t.nlat .pendS % 1000000000 ∧
          (s.nowCeil + 2000 ≤ s.slotBase → t.nlat .pendS = s.slotBase ∧ t.rbit .SLOT_STATUS 1 = s.rbit .SLOT_STATUS 1) ∧
          (s.slotBase < s.nowCeil + 2000 → t.rbit .SLOT_STATUS 1 = true) ∧ t.mode = s.mode ∧
          t.otherRegs s1 [.SLOT_STATUS, .SLOT_START_NS, .SLOT_START_S_LO, .SLOT_START_S_HI, .SLOT_PEND_TC_LO,
            .SLOT_PEND_TC_HI, .SLOT_PEND_LEN] ∧ t.memAs s1)) ∧
    (s.lat .armBusy = 0 → exec .armValidationDone s = .next s) ∧
    (let may := s.armed = true ∧ s.nowCeil + 2000 ≤ s.nlat .pendS
     (may → ∃ t, exec .slotDisarm s = .next t ∧ t.armed = false ∧ t.occs = s.occs.filter (fun o => !o.forPend) ∧
        t.blocks = (s.blocks.map (fun b => { b with occs := b.occs.filter (fun n =>
          !((s.occs.filter (fun o => o.forPend)).map (fun o => o.no)).contains n) })).filter (fun b => !b.occs.isEmpty) ∧
        t = { s with regs := t.regs, lats := t.lats, occs := t.occs, blocks := t.blocks } ∧
        t.regsAs s [Reg.key .SLOT_STATUS 0 0 0]) ∧
     (¬may → ∃ t, exec .slotDisarm s = .next t ∧ t.refusedAt s .SLOT_CMD 0 .SLOT_STATUS 0)) ∧
    (∀ b guard atEnd s1, b < 512 →
      let may := s.mode = .slotted ∧ s.armed = false ∧ s.lat .armBusy = 0 ∧ s.stopping = false ∧ s.running = true
      (may → s.checkBank b = (true, s1) →
        ∃ t, exec (.slotStop b guard atEnd) s = .next t ∧ t.stopping = true ∧ t.nlat .stopWord = 512 * b2n guard + b ∧
          t.nlat .stopAt = s.stopSearch s.opMem (s.listSpan s.opMem) (s.nowCeil + 2000) atEnd
            (4 * s.listSpan s.opMem + 8) (s.nlat .opNext) (s.nlat .opNextPos) ∧
          t = { s1 with regs := t.regs, lats := t.lats } ∧ t.regsAs s1 [Reg.key .SLOT_STATUS 0 0 0]) ∧
      (¬may → ∃ t, exec (.slotStop b guard atEnd) s = .next t ∧ t.refusedAt s .SLOT_CMD 0 .SLOT_STATUS 0)) ∧
    (∀ T start, s.nextSlot = some (T, start) → s.lat .fixG = 0 → 2 ^ 32 * T ≤ s.time.total + 512 * 2 ^ 32 →
      s.time0.total + 512 * 2 ^ 32 < 2 ^ 32 * T →
      ∃ t, exec .boundaryFixGrain s = .next t ∧ t.nlat .fixG = s.fixedGrain T + 1 ∧ t = { s with lats := t.lats } ∧
        t.latsAs s [Lat.key .fixG 0 0 0]) ∧
    (s.nextSlot = none ∨ s.lat .fixG ≠ 0 → exec .boundaryFixGrain s = .next s) ∧
    (∀ T start, s.nextSlot = some (T, start) → (s.time.total + 512 * 2 ^ 32 < 2 ^ 32 * T ∨
      2 ^ 32 * T ≤ s.time0.total + 512 * 2 ^ 32) → exec .boundaryFixGrain s = .next s) ∧
    (∀ m k o s1, m < 2 → k < 16 → s.lat .ringSt m k = 1 → s.dramCfgOff (s.nlat .ringCfg m k) = some o →
      s.checkDramCfg (s.nlat .ringCfg m k) = (true, s1) →
      ∃ t, exec (.stagingCopyArrival m k) s = .next t ∧ t.lat .ringSt m k = 2 ∧
        (∀ w, w < 512 → t.bankWord (480 + 16 * m + k) w = s1.dramVal (o + 4 * w) 4) ∧
        (∀ b w, b ≠ 480 + 16 * m + k → b < 512 → w < 512 → t.bankWord b w = s.bankWord b w) ∧ t.regs = s1.regs ∧
        t.mode = s.mode) ∧
    (∀ m k, m < 2 → k < 16 → s.lat .ringSt m k ≠ 1 → exec (.stagingCopyArrival m k) s = .next s)

/-- The route solver (R255 to R259): a command begins when none runs, and ends with STATE while one does; it completes
with the code of its arguments and the time that it took. MARK marks its cell, TRACE gives the port that the input
reaches, EXTRACT every live circuit, ADD of an input or a port that is live ends with CONFLICT and SOLVE of two
requests for one port too, and none of those writes a configuration. -/
def Obligations.RouteSolver : Prop :=
  ∀ s : State, s.Sound →
    (∀ c op, (c, op) ∈ [(Instr.rteSolve, 1), (.rteAdd, 2), (.rteDrop, 3), (.rteShutmask, 4), (.rteTrace, 5), (.rteExtract, 6),
        (.rteMark, 7)] →
      (s.rbit .RTE_STATUS 31 = false →
        ∃ t, exec c s = .next t ∧ t.reg .RTE_STATUS = 2 ^ 31 ∧ t.nlat .rteOp = op + 1 ∧ t.nlat .rteCode = s.rtePre op ∧
          t = { s with regs := t.regs, lats := t.lats } ∧ t.regsAs s [Reg.key .RTE_STATUS 0 0 0]) ∧
      (s.rbit .RTE_STATUS 31 = true →
        ∃ t, exec c s = .next t ∧ t.fld .RTE_STATUS 7 0 = 6 ∧ t.rbit .RTE_STATUS 31 = true ∧ t = { s with regs := t.regs } ∧
          t.regsAs s [Reg.key .RTE_STATUS 0 0 0])) ∧
    (∀ cyc, cyc < 2 ^ 32 →
      let ends := fun (code : Nat) (rs : List Reg) (P : State → Prop) => ∃ t, exec (.routeSolverDone cyc) s = .next t ∧
        t.reg .RTE_STATUS = 2 ^ 30 + code ∧ t.reg .RTE_TIME = cyc ∧ t.lat .rteOp = 0 ∧ t.mode = s.mode ∧
        t.otherRegs s (.RTE_STATUS :: .RTE_TIME :: rs) ∧ P t
      let src := cfgArg (s.reg .RTE_ARG0)
      let runs := fun (op : Int) => s.lat .rteOp = op + 1 ∧ s.lat .rteCode = 0
      (s.lat .rteOp ≠ 0 → 0 < s.lat .rteCode → s.lat .rteCode < 8 → ends (s.nlat .rteCode) [] (fun t => t.memAs s)) ∧
      (s.lat .rteOp = 0 → exec (.routeSolverDone cyc) s = .next s) ∧
      (runs 7 → ends 0 [.RTE_FAULT] (fun t => t.mapBit .RTE_FAULT 0 (s.fld .RTE_ARG2 13 0) = true ∧ t.memAs s ∧
        ∀ c, c < 16384 → c ≠ s.fld .RTE_ARG2 13 0 → t.mapBit .RTE_FAULT 0 c = s.mapBit .RTE_FAULT 0 c)) ∧
      (runs 1 → s.order ≤ 10 → (∃ i j p, i < 1024 ∧ j < 1024 ∧ i ≠ j ∧ p < s.ports ∧ s.reg .RTE_PERM i = 2 ^ 31 + p ∧
          s.reg .RTE_PERM j = 2 ^ 31 + p) →
        (∀ i, i < 1024 → s.rbit .RTE_PERM 31 i = true → i < s.ports ∧ s.fld .RTE_PERM 9 0 i < s.ports) →
        ends 4 [] (fun t => t.memAs s)) ∧
      (s.checkCfg src = (true, s) → s.order ≤ 10 →
        (runs 2 → (s.liveCircuits src).any (fun c => c.1 == s.fld .RTE_ARG2 9 0 || c.2.1 == s.fld .RTE_ARG2 25 16) = true →
          ends 4 [] (fun t => t.memAs s)) ∧
        (runs 5 → ends 0 [.RTE_RESULT] (fun t => t.memAs s ∧
          t.fld .RTE_RESULT 15 0 = (tracePath s.order (s.cfgStates s.cellTable src.1 src.2) (s.fld .RTE_ARG2 9 0)).2 % 2 ^ 16 ∧
          ((tracePath s.order (s.cfgStates s.cellTable src.1 src.2) (s.fld .RTE_ARG2 9 0)).2 < 1024 →
            (t.rbit .RTE_RESULT 31 = true ↔ s.cfgPass s.attTable src.1 src.2
            (tracePath s.order (s.cfgStates s.cellTable src.1 src.2) (s.fld .RTE_ARG2 9 0)).2 = true)))) ∧
        (runs 6 → ends 0 [.RTE_PERM] (fun t => t.memAs s ∧ ∀ i, i < s.ports →
          match (s.liveCircuits src).find? (fun c => c.1 == i) with
          | some c => t.reg .RTE_PERM i = (2 ^ 31 + c.2.1) % 2 ^ 32
          | none => t.reg .RTE_PERM i = 0))))

/-- Network time (R264, R267): STEP sets the counter and ADJ adds a signed number of nanoseconds, both refused while a
slot program can run or the MACs still take a step over; the increment is loaded whole, within its range, or
refused. -/
def Obligations.ClockCommands : Prop :=
  ∀ s : State, s.Sound →
    let sum : Int := (s.nowNs : Int) + sx 32 (s.reg .PTP_ADJ_NS)
    (s.ptpCmdOk = true →
      ∃ t, exec .ptpStep s = .next t ∧ t.time.sec = 2 ^ 32 * s.fld .PTP_SET_S_HI 15 0 + s.reg .PTP_SET_S_LO ∧ t.time.frac = 0 ∧
        (s.fld .PTP_SET_NS 29 0 < 1000000000 → t.time.ns = s.fld .PTP_SET_NS 29 0) ∧ t.rbit .PTP_STATUS 1 = true ∧
        t.rbit .PTP_STATUS 4 = true ∧ t = { s with regs := t.regs, time := t.time } ∧ t.regsAs s [Reg.key .PTP_STATUS 0 0 0]) ∧
    (s.ptpCmdOk = true → 0 ≤ sum →
      ∃ t, exec .ptpAdj s = .next t ∧ (t.nowNs : Int) = sum % (1000000000 * 2 ^ 48) ∧ t.time.frac = s.time.frac ∧
        t.time.ns < 1000000000 ∧ t = { s with time := t.time }) ∧
    (s.ptpCmdOk = false → ∃ t, exec .ptpStep s = .next t ∧ t.refusedAt s .PTP_CMD 0 .PTP_STATUS 0) ∧
    (s.ptpCmdOk = false ∨ sum < 0 → ∃ t, exec .ptpAdj s = .next t ∧ t.refusedAt s .PTP_CMD 0 .PTP_STATUS 0) ∧
    (∃ t, exec .macTimeSettled s = .next t ∧ t.rbit .PTP_STATUS 4 = false ∧
      (∀ b, b ≠ 4 → t.rbit .PTP_STATUS b = s.rbit .PTP_STATUS b) ∧ t = { s with regs := t.regs } ∧
      t.regsAs s [Reg.key .PTP_STATUS 0 0 0]) ∧
    (∀ v, v < 2 ^ 32 →
      let pair := 2 ^ 32 * (v % 2) + s.nlat .incrStage
      let inRange := 0xE6666666 ≤ pair ∧ pair ≤ 0x119999999
      (s.slotsQuiet = true → ∃ t, exec (.ptpIncrFracWrite v) s = .next t ∧ t.nlat .incrStage = v ∧
        t = { s with lats := t.lats } ∧ t.latsAs s [Lat.key .incrStage 0 0 0]) ∧
      (s.slotsQuiet = false → ∃ t, exec (.ptpIncrFracWrite v) s = .next t ∧ t.refusedAt s .PTP_INCR_FRAC 0 .PTP_STATUS 0) ∧
      (s.slotsQuiet = true → s.nlat .incrStage < 2 ^ 32 → inRange →
        ∃ t, exec (.ptpIncrNsWrite v) s = .next t ∧ t.reg .PTP_INCR_NS = v % 2 ∧ t.reg .PTP_INCR_FRAC = s.nlat .incrStage ∧
          t = { s with regs := t.regs } ∧ t.otherRegs s [.PTP_INCR_NS, .PTP_INCR_FRAC]) ∧
      (s.slotsQuiet = false ∨ ¬inRange →
        ∃ t, exec (.ptpIncrNsWrite v) s = .next t ∧ t.refusedAt s .PTP_INCR_NS 0 .PTP_STATUS 0))

/-- The servo, 1PPS and the transmit stamps (R268 to R270, R275 to R277): an accepted offset moves the integral and the
trim, each clamped; a silence of PTP_SERVO_HOLD enters HOLDOVER and is reported, before an offset that comes with it is
judged; an edge of the polarity POL, of a pulse of 100 ns or more, is stamped in 125 ps within 250 ps of network time,
and its offset goes to the servo or is flagged; no edge for 1.5 s is reported once; the output rises at a whole second
plus DLY and falls WIDTH µs later, and at no other grain; a read takes the oldest stamp of its port. -/
def Obligations.ServoAndPps : Prop :=
  ∀ s : State, s.Sound →
    let lim : Int := s.reg .PTP_SERVO_LIM
    let integ := fun (o : Int) => clampI (-lim) lim (sx 32 (s.reg .PTP_SERVO_INTEG) +
      mulsh (sat32 (-o)) (sx 32 (s.reg .PTP_SERVO_KI)) (s.fld .PTP_SERVO_SH 4 0))
    let trim := fun (o : Int) => clampI (-lim) lim (integ o +
      mulsh (sat32 (-o)) (sx 32 (s.reg .PTP_SERVO_KP)) (s.fld .PTP_SERVO_SH 12 8))
    (∀ v, v < 2 ^ 32 → s.rbit .PTP_CTRL 0 = true → s.fld .PTP_CTRL 2 1 = 0 →
      let o := sx 32 v
      ∃ t, exec (.servoOffsetWrite v) s = .next t ∧ t.reg .PTP_SERVO_INTEG = ux 32 (integ o) ∧
        t.reg .PTP_TRIM = ux 32 (trim o) ∧
        t = { s with regs := t.regs, lats := t.lats, faults := t.faults, events := t.events } ∧
        t.otherRegs s [.PTP_SERVO_INTEG, .PTP_TRIM, .PTP_STATUS] ∧
        t.faults = s.faults ++ (if s.silent then [s.msg 0x10E 0x30 0] else []) ∧ (s.silent = false → t.events = s.events) ∧
        (s.rbit .PTP_STATUS 3 = true ∨ s.silent = true → t.rbit .PTP_STATUS 3 = false ∧ t.rbit .PTP_STATUS 2 = false) ∧
        (s.silent = false → s.rbit .PTP_STATUS 3 = false → s.rbit .PTP_STATUS 2 = true →
          (t.rbit .PTP_STATUS 2 = true ↔ o.natAbs ≤ 4 * s.reg .PTP_SERVO_LOCK)) ∧
        (s.silent = false → s.rbit .PTP_STATUS 3 = false → s.rbit .PTP_STATUS 2 = false →
          (t.rbit .PTP_STATUS 2 = true ↔ o.natAbs ≤ s.reg .PTP_SERVO_LOCK ∧ 15 ≤ s.nlat .lockN))) ∧
    (∀ v, v < 2 ^ 32 → s.rbit .PTP_CTRL 0 = false ∨ s.fld .PTP_CTRL 2 1 ≠ 0 → exec (.servoOffsetWrite v) s = .next s) ∧
    (s.silent = true → ∃ t, exec .servoSilence s = .next t ∧ t.rbit .PTP_STATUS 2 = false ∧ t.rbit .PTP_STATUS 3 = true ∧
      t.faults = s.faults ++ [s.msg 0x10E 0x30 0] ∧ t.regsAs s [Reg.key .PTP_STATUS 0 0 0] ∧
      t = { s with regs := t.regs, faults := t.faults, events := t.events }) ∧
    (s.silent = false → exec .servoSilence s = .next s) ∧
    (∀ at' w fall, at' < 2 ^ 112 → w < 2 ^ 32 → s.rbit .PTP_PPSIN_CTRL 31 = true → fall = s.rbit .PTP_PPSIN_CTRL 30 → 100 ≤ w →
      let st := s.ppsStamp at'
      let d := ppsError st (sx 32 (s.reg .PTP_PPSIN_DLY))
      st % 2 ^ 29 = 0 ∧ s.time.total ≤ st + 2 ^ 30 ∧ st ≤ s.time.total + s.incr + 2 ^ 30 ∧
      ∃ t, exec (.ppsInEdge ⟨at', w, fall⟩) s = .next t ∧ t.reg .PTP_PPSIN_FRAC = st % 2 ^ 32 ∧
        t.reg .PTP_PPSIN_NS = st / 2 ^ 32 % 1000000000 ∧ t.reg .PTP_PPSIN_S_LO = st / 2 ^ 32 / 1000000000 % 2 ^ 32 ∧
        t.otherRegs s [.PTP_PPSIN_FRAC, .PTP_PPSIN_NS, .PTP_PPSIN_S_LO, .PTP_PPSIN_S_HI, .PTP_STATUS, .PTP_SERVO_INTEG,
          .PTP_TRIM] ∧ (s.silent = false → t.faults = s.faults) ∧ t.memAs s ∧
        (2 ^ 23 * 1000 * 2 ^ 32 ≤ d.natAbs → t.rbit .PTP_STATUS 6 = true ∧ t.reg .PTP_TRIM = s.reg .PTP_TRIM) ∧
        (d.natAbs < 2 ^ 23 * 1000 * 2 ^ 32 → s.rbit .PTP_CTRL 0 = true → s.fld .PTP_CTRL 2 1 = 1 →
          t.reg .PTP_TRIM = ux 32 (trim (tdiv d (1000 * 2 ^ 24))))) ∧
    (∀ at' w fall, at' < 2 ^ 112 → w < 2 ^ 32 →
      s.rbit .PTP_PPSIN_CTRL 31 = false ∨ fall ≠ s.rbit .PTP_PPSIN_CTRL 30 ∨ w < 100 →
      exec (.ppsInEdge ⟨at', w, fall⟩) s = .next s) ∧
    (let lost := s.rbit .PTP_PPSIN_CTRL 31 = true ∧ s.flag .ppsLost = false ∧ s.nlat .ppsAt + 1500000000 ≤ s.grain + 1
     (lost → ∃ t, exec .ppsLoss s = .next t ∧ t.rbit .PTP_STATUS 5 = true ∧ t.flag .ppsLost = true ∧
        t.faults = s.faults ++ [s.msg 0x10E 0x31 0] ∧ t.regsAs s [Reg.key .PTP_STATUS 0 0 0] ∧
        t = { s with regs := t.regs, lats := t.lats, faults := t.faults }) ∧
     (¬lost → exec .ppsLoss s = .next s)) ∧
    (s.rbit .PTP_PPSOUT_CTRL 31 = true → s.mode ≠ .sable → s.ppsOutDue = true →
      ∃ t, exec .ppsOutRise s = .next t ∧ t.lat .ppsOut = 1 ∧
        t.nlat .ppsEnd = s.grain + 1000 * s.fld .PTP_PPSOUT_CTRL 18 0 ∧ t = { s with lats := t.lats } ∧
        t.latsAs s [Lat.key .ppsOut 0 0 0, Lat.key .ppsEnd 0 0 0]) ∧
    (s.rbit .PTP_PPSOUT_CTRL 31 = false ∨ s.mode = .sable ∨ s.ppsOutDue = false → exec .ppsOutRise s = .next s) ∧
    (s.nlat .ppsEnd = s.grain → ∃ t, exec .ppsOutFall s = .next t ∧ t.lat .ppsOut = 0 ∧ t = { s with lats := t.lats } ∧
      t.latsAs s [Lat.key .ppsOut 0 0 0]) ∧
    (s.nlat .ppsEnd ≠ s.grain → exec .ppsOutFall s = .next s) ∧
    (∀ p, p < 8 →
      (s.txts.find? (fun e => e.port == p) = none → ∃ t, exec (.txtsFifoRead p) s = .next t ∧ t.resp = ⟨false, 0⟩ ∧
        t = { s with resp := t.resp }) ∧
      (∀ e, s.txts.find? (fun e => e.port == p) = some e →
        ∃ t, exec (.txtsFifoRead p) s = .next t ∧ t.resp = ⟨false, 2 ^ 31 + 2 ^ 20 * (e.mtype % 16) + e.seqId % 2 ^ 16⟩ ∧
          t.reg .PTP_TXTS_FRAC p = e.time % 2 ^ 32 ∧ t.reg .PTP_TXTS_NS p = e.time / 2 ^ 32 % 1000000000 ∧
          t.txts.length + 1 = s.txts.length ∧ t.txts.filter (fun e => e.port != p) = s.txts.filter (fun e => e.port != p) ∧
          t = { s with regs := t.regs, txts := t.txts, resp := t.resp } ∧
          t.otherRegs s [.PTP_TXTS_FRAC, .PTP_TXTS_NS, .PTP_TXTS_S_LO, .PTP_TXTS_S_HI]))

/-- The fault collector (R394 to R400, R402): the head message of the source served next is counted and either repeats
the newest entry, or makes the next one with its words and reaction; LOG does no more, THOLD holds its tile, DHOLD
holds the device, SABLE drives the line, at whose assertion the histories freeze and the stamp is taken (R411); FLT_ACK takes entries off the unacknowledged list. -/
def Obligations.FaultCollector : Prop :=
  ∀ s : State, s.Sound →
    let q := (s.reg .FLT_SEQ + 1) % 2 ^ 32
    (s.faults = [] → exec .faultMessageAccept s = .next s) ∧
    (∀ src m, s.nextSource = some src → s.headOf src = some m → m.src < 4096 → m.kind < 256 → m.cls < 4 →
      let r := s.taken m
      let holds := r = 2 ∨ r = 3
      (s.merges m = false →
        ∃ t, exec .faultMessageAccept s = .next t ∧ t.reg .FLT_SEQ = q ∧
          t.reg .FLT_LOG (q % 1024) 0 = 2 ^ 20 * m.src + 2 ^ 12 * m.kind + 2 ^ 10 * m.cls + 2 ^ 7 * r +
            (if holds ∧ s.unacks.length < 256 then 2 ^ 6 else 0) ∧
          t.reg .FLT_LOG (q % 1024) 1 = m.addr % 2 ^ 32 ∧ t.reg .FLT_LOG (q % 1024) 2 = m.ns % 2 ^ 32 ∧
          t.reg .FLT_LOG (q % 1024) 3 = m.sec % 2 ^ 32 ∧ t.reg .FLT_LOG (q % 1024) 5 = q ∧
          t.reg .FLT_CNT m.cls = min (s.reg .FLT_CNT m.cls + 1) (2 ^ 32 - 1) ∧ t.memAs s ∧
          (holds → s.unacks.length < 256 → t.unacks = s.unacks ++ [⟨q, if r = 2 then m.tile else none⟩]) ∧
          (¬holds → t.unacks = s.unacks) ∧
          (r = 0 → t.faults = dropHead src s.faults ∧ t.mode = s.mode ∧ t.sable = s.sable ∧ t.events = s.events ∧
            t.otherRegs s [.FLT_CNT, .FLT_SEQ, .FLT_LOG, .FLT_STATUS, .FLT_FATAL, .RTE_FAULT]) ∧
          (1 ≤ r → t.rbit .FLT_STATUS 1 = true) ∧
          (∀ τ, r = 2 → m.tile = some τ → t.tileHold τ = true ∧ t.tbit .RED_THCAUSE τ 1 = true ∧ t.mode = s.mode) ∧
          (r = 3 → t.rbit .MGT_HOLD_CAUSE 2 = true ∧ (s.inRun = true → t.mode = .hold ∧ t.prior = s.mode) ∧
            (s.inRun = false → t.mode = s.mode)) ∧
          (r = 4 → t.sable = true ∧ t.mode = s.mode ∧ (s.sable = false → t.rbit .FLT_REC_STATUS 31 = true ∧
            t.reg .FLT_REC_TIME 0 = s.time.ns ∧ t.reg .FLT_REC_TIME 1 = s.time.sec % 2 ^ 32 ∧
            t.reg .FLT_REC_TIME 2 = s.time.sec / 2 ^ 32 % 2 ^ 16 ∧ t.reg .FLT_REC_TIME 3 = s.spanCount % 2 ^ 32))) ∧
      (s.merges m = true →
        ∃ t, exec .faultMessageAccept s = .next t ∧ t.reg .FLT_SEQ = s.reg .FLT_SEQ ∧ t.unacks = s.unacks ∧
          t.fld .FLT_LOG 31 16 (s.reg .FLT_SEQ % 1024) 4 = min 65535 (s.fld .FLT_LOG 31 16 (s.reg .FLT_SEQ % 1024) 4 + 1) ∧
          t.reg .FLT_CNT m.cls = min (s.reg .FLT_CNT m.cls + 1) (2 ^ 32 - 1) ∧ t.memAs s)) ∧
    (∀ n, n < 2 ^ 31 →
      (∀ u, s.unacks.find? (fun u => u.seq % 2 ^ 31 == n) = some u →
        ∃ t, exec (.fltAckOne n) s = .next t ∧ t.unacks = s.unacks.filter (fun v => v.seq != u.seq) ∧
          (s.reg .FLT_LOG (u.seq % 1024) 5 = u.seq → t.rbit .FLT_LOG 6 (u.seq % 1024) 0 = false) ∧
          t = { s with regs := t.regs, unacks := t.unacks } ∧ t.regsAs s [Reg.key .FLT_LOG 0 (u.seq % 1024) 0]) ∧
      (s.unacks.find? (fun u => u.seq % 2 ^ 31 == n) = none → exec (.fltAckOne n) s = .next s)) ∧
    (∃ t, exec .fltAckAll s = .next t ∧ t.unacks = [] ∧ t.flag .unackOvf = false ∧
      (∀ u ∈ s.unacks, s.reg .FLT_LOG (u.seq % 1024) 5 = u.seq → t.rbit .FLT_LOG 6 (u.seq % 1024) 0 = false) ∧
      t = { s with regs := t.regs, lats := t.lats, unacks := [] } ∧ t.otherRegs s [.FLT_LOG])

/-- SABLE and the flight record (R94, R407, R411, R413): when the line has reached every block each attenuator takes its
block codes and every other output 0, the 1PPS output falls, the stamp taken at the assertion stands, and the mode is
SABLE; the flight routine writes the record at FLT_REC_BASE and sets DONE; UNFREEZE clears both. -/
def Obligations.SableAndRecord : Prop :=
  ∀ s : State, s.Sound →
    (s.sable = true → s.mode ≠ .sable → s.flag .imgUp = true →
      ∃ t, exec .sableEntry s = .next t ∧ t.mode = .sable ∧ t.sable = true ∧
        t.rbit .FLT_REC_STATUS 31 = s.rbit .FLT_REC_STATUS 31 ∧ (∀ k, t.reg .FLT_REC_TIME k = s.reg .FLT_REC_TIME k) ∧
        t.lat .ppsOut = 0 ∧ t.flag .flightRun = !s.flag .mgtFail ∧ t.reg .MGT_MODE_STAMP_NS = s.time.ns ∧
        (∀ τ c, τ < 176 → c < 64 → s.inUse τ = true →
          let att := s.chRole τ c = 2
          (t.tfld .DRV_ACTIVE τ 11 0 c = if s.flag .drvDead τ c = false ∧ att then s.tfld .DRV_BLOCK τ 11 0 c else 0) ∧
          (t.treg .HTR_ACTIVE τ c = if s.flag .htrDead τ c = false ∧ att then s.tfld .HTR_BLOCK τ 15 0 c else 0))) ∧
    (s.sable = false ∨ s.mode = .sable → exec .sableEntry s = .next s) ∧
    (s.flag .flightRun = true → s.flag .mgtFail = false → s.rbit .FLT_CTRL 1 = false →
      let run := s.flightSecs globalRuns
      (s.recBase = 0 → ∃ t, exec .fltRecDone s = .next t ∧ t.rbit .FLT_REC_STATUS 30 = true ∧ t.flag .flightRun = false ∧
        t.mode = s.mode ∧ t.memAs s) ∧
      (∀ o, s.recBase ≠ 0 → s.dramOff s.recBase = some o →
        let bs := run.2.flightRecord (2 ^ 40) run.1
        o + bs.length ≤ s.dramSize →
        ∃ t, exec .fltRecDone s = .next t ∧ t.rbit .FLT_REC_STATUS 30 = true ∧ t.flag .flightRun = false ∧
          t.mode = s.mode ∧ t.dramBytes o bs.length = bs ∧ t.dramVal o 4 = 0x43455246 ∧
          (∀ a, (a < o ∨ o + bs.length ≤ a) → spFind t.dram a = spFind s.dram a))) ∧
    (s.flag .flightRun = false ∨ s.flag .mgtFail = true → exec .fltRecDone s = .next s) ∧
    (∃ t, exec .fltRecUnfreeze s = .next t ∧ t.rbit .FLT_REC_STATUS 31 = false ∧ t.rbit .FLT_REC_STATUS 30 = false ∧
      (∀ b, b ≠ 30 → b ≠ 31 → t.rbit .FLT_REC_STATUS b = s.rbit .FLT_REC_STATUS b) ∧
      t = { s with regs := t.regs, lats := t.lats } ∧ t.regsAs s [Reg.key .FLT_REC_STATUS 0 0 0] ∧
      t.latsAs s [Lat.key .dumpDone 0 0 0])

/-- Calibration campaigns (R337 to R339, R342, R343): START and the pending start enter RUN with the first group, where a
trim command that waits is discarded (R104), or are refused or wait; ABORT abandons a campaign with its staged values and clears a pending start; the check finds the
first tile whose temperature has moved; a block of comparator decisions steps the staged trim against its bias or
ends it; 16 probes make a vote that moves the staged delay; a visit that takes too long is skipped. -/
def Obligations.Campaigns : Prop :=
  ∀ s : State, s.Sound →
    let began := fun (t : State) (trig : Nat) => t.campaign = true ∧ t.fld .CAL_TRIGGER 31 30 = trig ∧
      t.rbit .CAL_STATUS 1 = false ∧ t.mode = s.mode ∧ t.faults = s.faults ∧
      (∀ τ, τ ∈ s.tiles.take (s.fld .CAL_CTRL 19 16) → s.tileHold τ = false → t.calState = 2 ∧ t.calStage τ = 1) ∧
      t.memAs s ∧ t.otherRegs s [.CAL_STATUS, .CAL_TRIGGER, .CAL_DONE_TILE, .CAL_SKIP_TILE, .TILE_CAL_STATUS, .TILE_CMPT_NEXT,
        .TILE_SKEW_NEXT, .EVT_STATUS, .EVT_LOOP_CNT, .TRIM_STATUS] ∧
      (∀ τ, t.treg .TRIM_STATUS τ = s.treg .TRIM_STATUS τ ∨ ((s.trimCmd τ).isSome = true ∧ t.trimCmd τ = none))
    (s.calState < 2 → s.calStartOk = true → ∃ t, exec .calStart s = .next t ∧ began t 2) ∧
    (2 ≤ s.calState ∨ (s.calState = 0 ∧ s.calStartOk = false) →
      ∃ t, exec .calStart s = .next t ∧ t.refusedAt s .CAL_CMD 0 .CAL_STATUS 0) ∧
    (s.calState = 1 → s.calStartOk = false → exec .calStart s = .next s) ∧
    (s.calState = 1 → s.calStartOk = true → s.calHeldOff = true → ∃ t, exec .campaignPendingStart s = .next t ∧ began t 1) ∧
    (s.calState ≠ 1 ∨ s.calStartOk = false ∨ s.calHeldOff = false → exec .campaignPendingStart s = .next s) ∧
    (s.campaign = true → ∃ t, exec .calAbort s = .next t ∧ t.calState = 0 ∧ t.rbit .CAL_STATUS 2 = true ∧
      s.msg 0x107 0x3B 0 ∈ t.faults ∧ t.memAs s ∧ t.mode = s.mode ∧
      ∀ τ, τ < 176 → s.inUse τ = true → t.calStage τ = 0 ∧ ∀ k, k < 2 →
        t.treg .TILE_CMPT_NEXT τ k = s.treg .TILE_CMPT τ k ∧ t.treg .TILE_SKEW_NEXT τ k = s.treg .TILE_SKEW τ k) ∧
    (s.calState = 1 → ∃ t, exec .calAbort s = .next t ∧ t.calState = 0 ∧ t.rbit .CAL_STATUS 1 = false ∧
      t = { s with regs := t.regs } ∧ t.regsAs s [Reg.key .CAL_STATUS 0 0 0]) ∧
    (s.calState = 0 → exec .calAbort s = .next s) ∧
    (s.rbit .CAL_CTRL 31 = true → s.calState = 0 → s.mode ≠ .boot → s.mode ≠ .sable →
      (∀ τ, s.tiles.find? s.calTriggers = some τ → ∃ t, exec .calTriggerCheck s = .next t ∧ t.calState = 1 ∧
        t.fld .CAL_TRIGGER 7 0 = τ ∧ t.rbit .CAL_STATUS 1 = true ∧ t = { s with regs := t.regs } ∧
        t.otherRegs s [.CAL_TRIGGER, .CAL_STATUS]) ∧
      (s.tiles.find? s.calTriggers = none → exec .calTriggerCheck s = .next s)) ∧
    (∀ τ k n1, τ < 176 → k < 2 → n1 ≤ 1024 →
      let v := sx 6 (s.treg .TILE_CMPT_NEXT τ k)
      (s.calStage τ = 2 → s.flag .calCmpDone τ k = false →
        (∀ d : Int, (d = -1 ∧ 544 < n1 ∧ -32 < v) ∨ (d = 1 ∧ n1 < 480 ∧ v < 31) →
          (s.nlat .calCmpN τ k < 23 → ∃ t, exec (.comparatorBlockDone τ k n1) s = .next t ∧
            t.treg .TILE_CMPT_NEXT τ k = ux 6 (v + d) ∧ t.nlat .calCmpN τ k = s.nlat .calCmpN τ k + 1 ∧
            t = { s with regs := t.regs, lats := t.lats } ∧ t.regsAs s [Reg.key .TILE_CMPT_NEXT τ k 0]) ∧
          (23 ≤ s.nlat .calCmpN τ k → ∃ t, exec (.comparatorBlockDone τ k n1) s = .next t ∧
            t.treg .TILE_CMPT_NEXT τ k = s.treg .TILE_CMPT τ k ∧ t.tbit .TILE_CAL_STATUS τ 4 = true ∧
            t.flag .calCmpDone τ k = true ∧ t.faults = s.faults ++ [s.msg 0x107 0x38 (256 * k + τ)])) ∧
        (480 ≤ n1 → n1 ≤ 544 → ∃ t, exec (.comparatorBlockDone τ k n1) s = .next t ∧ t.flag .calCmpDone τ k = true ∧
          t = { s with lats := t.lats })) ∧
      (s.calStage τ ≠ 2 ∨ s.flag .calCmpDone τ k = true → exec (.comparatorBlockDone τ k n1) s = .next s)) ∧
    (∀ τ k late, τ < 176 → k < 2 →
      (s.calStage τ = 2 → s.flag .skDone τ k = false →
        (s.nlat .skProbes τ k < 15 → ∃ t, exec (.probeMarker τ k late) s = .next t ∧
          t.nlat .skProbes τ k = s.nlat .skProbes τ k + 1 ∧ t.nlat .skLate τ k = s.nlat .skLate τ k + b2n late ∧
          t = { s with lats := t.lats } ∧ t.latsAs s [Lat.key .skProbes τ k 0, Lat.key .skLate τ k 0]) ∧
        (∀ w, s.nlat .skProbes τ k = 15 → s.lat .skDir τ k = 0 → s.nlat .skSteps τ k < 64 →
          skewStep (s.treg .TILE_SKEW_NEXT τ k) (decide (s.nlat .skLate τ k + b2n late < 9)) = some w →
          ∃ t, exec (.probeMarker τ k late) s = .next t ∧ t.treg .TILE_SKEW_NEXT τ k = w % 2 ^ 32 ∧ t.lat .skProbes τ k = 0 ∧
            t.nlat .skDir τ k = (if 9 ≤ s.nlat .skLate τ k + b2n late then 1 else 2) ∧
            t = { s with regs := t.regs, lats := t.lats } ∧ t.regsAs s [Reg.key .TILE_SKEW_NEXT τ k 0])) ∧
      (s.calStage τ ≠ 2 ∨ s.flag .skDone τ k = true → exec (.probeMarker τ k late) s = .next s)) ∧
    (∀ τ, τ < 176 →
      (s.calStage τ = 2 → s.fld .CAL_TIMING 31 16 < s.nlat .calSpans τ → τ < s.nlat .calNext →
        ∃ t, exec (.measureTimeout τ) s = .next t ∧ t.calStage τ = 0 ∧ t.mapBit .CAL_SKIP_TILE 0 τ = true ∧
          t.faults = s.faults ++ [s.msg 0x107 0x3A τ] ∧ t.memAs s ∧ t.mode = s.mode) ∧
      (s.calStage τ ≠ 2 ∨ s.nlat .calSpans τ ≤ s.fld .CAL_TIMING 31 16 → exec (.measureTimeout τ) s = .next s))

/-- Temperatures, levels and monitors (R351 to R364): a reading, of a tile in use or before a map stands of every tile, is clamped and shown, a fourth one out of range in a row
fails the sensor, a second one in a row at THM_SHUT drives the Sable line, unless this path has done so before, at whose assertion the histories freeze with
a stamp (R411); with MODEL 0 THM_HOT reads the sensor value; a device temperature at THM_THROT takes
NORMAL to THROTTLE with both messages; a rail reads its sample, and the fourth in a row outside the FAIL window is
reported; a count is shown, and the eighth low one in a row is reported. -/
def Obligations.Monitors : Prop :=
  ∀ s : State, s.Sound →
    (∀ τ (raw : Int), τ < 176 → s.lat .bootStep ≠ 20 → s.inUse τ = true ∨ (s.tiles = [] ∧ s.flag .imgUp = false) →
      let v := clampI (-6000) 20000 raw
      ∃ t, exec (.tempReading τ raw) s = .next t ∧ t.tfld .TILE_TEMP τ 15 0 = ux 16 v ∧ t.mode = s.mode ∧ t.memAs s ∧
        t.otherRegs s [.TILE_TEMP, .TILE_TEMP_MAX, .TILE_HLT_STATUS, .THM_SHUT_INFO, .FLT_REC_STATUS, .FLT_REC_TIME] ∧
        (s.sable = true ∨ t.sable = false → t.otherRegs s [.TILE_TEMP, .TILE_TEMP_MAX, .TILE_HLT_STATUS, .THM_SHUT_INFO]) ∧
        (∀ u, u ≠ τ → u < 176 → t.treg .TILE_TEMP u = s.treg .TILE_TEMP u) ∧
        (raw = v → t.lat .tempOut τ = 0 ∧ t.sensFail τ = s.sensFail τ) ∧
        (raw ≠ v → s.nlat .tempOut τ = 3 → s.sensFail τ = false → t.sensFail τ = true ∧ s.msg 0x105 0x40 τ ∈ t.faults) ∧
        (raw = v → s.sensFail τ = false → sx 16 (s.reg .THM_SHUT) ≤ v → s.lat .shutRun τ = 1 →
          t.sable = (s.sable || !s.flag .shutSable) ∧ s.msg 0x105 0x45 (2 ^ 16 * ux 16 v + τ) ∈ t.faults) ∧
        (raw = v → s.sensFail τ = false → v < sx 16 (s.reg .THM_SHUT) → t.sable = s.sable ∧ t.lat .shutRun τ = 0)) ∧
    (∀ τ (raw : Int), τ < 176 → s.lat .bootStep = 20 ∨ (s.inUse τ = false ∧ (s.tiles ≠ [] ∨ s.flag .imgUp = true)) →
      exec (.tempReading τ raw) s = .next s) ∧
    (∃ t, exec .modelStep s = .next t ∧ t.mode = s.mode ∧ t.memAs s ∧
      t.otherRegs s [.THM_HOT, .THM_TDEV, .THM_STATUS, .THM_SHUT_INFO, .RED_HOLD_REF, .RED_HOLD_EST, .FLT_REC_STATUS,
        .FLT_REC_TIME] ∧
      (s.sable = true ∨ t.sable = false →
        t.otherRegs s [.THM_HOT, .THM_TDEV, .THM_STATUS, .THM_SHUT_INFO, .RED_HOLD_REF, .RED_HOLD_EST]) ∧
      (s.rbit .THM_CTRL 0 = false → ∀ τ, τ < 176 → s.inUse τ = true →
        t.readWord .THM_HOT 0 τ 0 = ux 16 (satS 16 (s.sensor τ))) ∧
      (s.modelRuns = false → ∀ τ, t.reg .THM_HOT τ = s.reg .THM_HOT τ) ∧
      ((∃ τ ∈ s.sensedTiles, sx 16 (s.reg .THM_THROT) ≤ s.sensor τ) → s.thmLevel = 0 → t.thmLevel = 2 ∧
        (∃ a, s.msg 0x105 0x43 a ∈ t.faults ∧ s.msg 0x105 0x44 a ∈ t.faults) ∧ t.nlat .thrAt = s.grain + 1) ∧
      (s.modelRuns = false → (∀ τ ∈ s.sensedTiles, s.sensor τ < sx 16 (s.reg .THM_WARN)) →
        (∀ τ ∈ s.sensedTiles, s.sensor τ < sx 16 (s.reg .THM_THROT)) → s.thmLevel = 0 → t.thmLevel = 0)) ∧
    (∀ r mv, r < 8 → mv < 65536 →
      ∃ t, exec (.railSample r mv) s = .next t ∧ t.reg .HLT_V r = mv ∧ t.otherRegs s [.HLT_V, .HLT_VSTAT] ∧
        t = { s with regs := t.regs, lats := t.lats, faults := t.faults } ∧ (s.flag .imgUp = false → t.faults = s.faults) ∧
        (s.flag .imgUp = true → s.inWindow r 1 mv = false → s.flag .vExc r 1 = false → s.nlat .vOut r 1 = 3 →
          t.rbit .HLT_VSTAT (8 + r) = true ∧ s.msg 0x106 0x47 (2 ^ 16 * s.nlat .vFirst r 1 + r) ∈ t.faults) ∧
        (s.inWindow r 0 mv = true → s.inWindow r 1 mv = true → t.faults = s.faults)) ∧
    (∀ τ n, τ < 176 → n < 2 ^ 20 →
      (s.inUse τ = true → ∃ t, exec (.ringOscCount τ n) s = .next t ∧ t.treg .TILE_PROC τ = n ∧
        t = { s with regs := t.regs, lats := t.lats, faults := t.faults } ∧
        t.regsAs s [Reg.key .TILE_PROC τ 0 0, Reg.key .TILE_HLT_STATUS τ 0 0] ∧
        (s.fld .HLT_PROC_MIN 19 0 ≤ n → t.faults = s.faults ∧ t.lat .procLow τ = 0) ∧
        (n < s.fld .HLT_PROC_MIN 19 0 → s.nlat .procLow τ = 7 → s.flag .procSent τ = false →
          t.faults = s.faults ++ [s.msg 0x106 0x48 (256 * n + τ)] ∧ t.tbit .TILE_HLT_STATUS τ 1 = true)) ∧
      (s.inUse τ = false → exec (.ringOscCount τ n) s = .next s))

/-- The commands of the redundant halves (R28, R377, R383, R384, R388, R391, R392): HOLD sets its cause and the tile's
HOLD, RELEASE clears the command cause, and the fault cause where no cause stays, or is refused with the cause that
stays (DEDUCED, log entry 72) and while a load of its program runs;
REJOIN, RESTART, DISABLE and SWAP are latched where they are legal; the slot-timer pair likewise; else each is
refused, and a tile that is not in use faults. -/
def Obligations.HalfCommands : Prop :=
  ∀ (s : State) (τ n : Nat), s.Sound → τ < 176 → n < 4 →
    let h := n - 1
    let one := n = 1 ∨ n = 2
    let refused := fun (c : Instr) => ∃ t, exec c s = .next t ∧ t.refusedAt s .RED_TCMD τ .RED_TSTATUS 0
    let latched := fun (c : Instr) (l : Machine.Lat) (i v : Nat) => ∃ t, exec c s = .next t ∧ t.nlat l τ i = v ∧
      t = { s with lats := t.lats } ∧ t.latsAs s [Lat.key l τ i 0]
    (s.inUse τ = true →
      (s.tileCmdMode = true → ∃ t, exec (.tileHoldCmd τ) s = .next t ∧ t.tileHold τ = true ∧
        t.tbit .RED_THCAUSE τ 0 = true ∧ t.mode = s.mode ∧ t.faults = s.faults ∧ t.memAs s ∧
        (∀ u, u ≠ τ → u < 176 → t.tileHold u = s.tileHold u)) ∧
      (s.tileCmdMode = true → (s.loadBusy && s.mapBit .MC_LOAD_TILES 0 τ) = false →
        ∃ t, exec (.tileReleaseCmd τ) s = .next t ∧ t.tbit .RED_THCAUSE τ 0 = false ∧
          t.tbit .RED_THCAUSE τ 1 = (s.tbit .RED_THCAUSE τ 1 && s.causeStays τ) ∧
          t.tbit .RED_THCAUSE τ 2 = s.tbit .RED_THCAUSE τ 2 ∧
          (s.causeStays τ = false → t = { s with regs := t.regs } ∧ t.regsAs s [Reg.key .RED_THCAUSE τ 0 0]) ∧
          (s.causeStays τ = true → t.refusedAt (s.setTbit .RED_THCAUSE τ 0 false) .RED_TCMD τ .RED_TSTATUS 0)) ∧
      (s.tileCmdMode = true → (s.loadBusy && s.mapBit .MC_LOAD_TILES 0 τ) = true → refused (.tileReleaseCmd τ)) ∧
      (s.causeStays τ = true ↔ s.tbit .RED_THCAUSE τ 2 = true ∨ (s.tbit .RED_THCAUSE τ 1 = true ∧ s.tileAcked τ = false)) ∧
      (s.tileCmdMode = false → refused (.tileHoldCmd τ) ∧ refused (.tileReleaseCmd τ)) ∧
      (one → s.rejoinOk τ h = true → latched (.tileRejoin τ n) .rjReq 0 n) ∧
      (¬one ∨ s.rejoinOk τ h = false → refused (.tileRejoin τ n)) ∧
      (let legal := n ≠ 0 ∧ s.tileHold τ = true ∧ (∀ k, k < 2 → s.halfState τ k ≠ 4 ∧ s.halfState τ k ≠ 5 ∧
          (n.testBit k = true → s.inMchk τ k = false))
       (legal → latched (.tileRestart τ n) .redRestart 0 n) ∧ (¬legal → refused (.tileRestart τ n))) ∧
      (let legal := one ∧ (s.halfState τ h ≠ 1 ∨ s.halfState τ (1 - h) = 2)
       (legal → latched (.tileDisable τ n) .redDis h 1) ∧ (¬legal → refused (.tileDisable τ n))) ∧
      (s.halfState τ (1 - s.token τ) = 2 → latched (.tileSwap τ) .redSwap 0 1) ∧
      (s.halfState τ (1 - s.token τ) ≠ 2 → refused (.tileSwap τ))) ∧
    (s.inUse τ = false → ∀ c ∈ [Instr.tileHoldCmd τ, .tileReleaseCmd τ, .tileRejoin τ n, .tileRestart τ n, .tileDisable τ n,
      .tileSwap τ], ∃ t, exec c s = .next t ∧ t.addrFaulted s (Reg.addr .RED_TCMD τ 0 0)) ∧
    (let legal := one ∧ s.slotHalf h = 0 ∧ s.slotHalf (1 - h) = 1
     (legal → ∃ t, exec (.slotTimerRejoin n) s = .next t ∧ t.slotHalf h = 5 ∧ t.nlat .slotJoin h = 1 ∧
        t = { s with regs := t.regs, lats := t.lats } ∧ t.regsAs s [Reg.key .RED_SLOT_STATE 0 0 0]) ∧
     (¬legal → ∃ t, exec (.slotTimerRejoin n) s = .next t ∧ t.refusedAt s .RED_SLOT_CMD 0 .RED_STATUS 0)) ∧
    (s.slotEligible (1 - s.slotToken) = true → ∃ t, exec .slotTimerSwap s = .next t ∧ t.flag .slotSwap = true ∧
      t = { s with lats := t.lats } ∧ t.latsAs s [Lat.key .slotSwap 0 0 0]) ∧
    (s.slotEligible (1 - s.slotToken) = false →
      ∃ t, exec .slotTimerSwap s = .next t ∧ t.refusedAt s .RED_SLOT_CMD 0 .RED_STATUS 0)

/-- Heartbeats, the token decision and the management cores (R373 to R375, R389): a pulse that a half sent is kept;
halves that differ are counted and reported, and the standby is to go OUT; a dead holder's token is to move to a
standby that lives; a mismatch or a silent watchdog restarts the cores, and the fourth restart within 60 s holds
them; a write of RED_MGT_HB starts the watchdog anew. -/
def Obligations.HalfSupervision : Prop :=
  ∀ s : State, s.Sound →
    (∀ τ h second, τ < 176 → h < 2 →
      let sent := bit (s.nlat .hbSent τ h) (1 + b2n second)
      (s.inUse τ = true → sent = true → ∃ t, exec (.heartbeatReceived τ h second) s = .next t ∧
        t.nlat .hbGot τ h = s.nlat .hbGot τ h ||| (1 + b2n second) ∧ t = { s with lats := t.lats } ∧
        t.latsAs s [Lat.key .hbGot τ h 0]) ∧
      (s.inUse τ = false ∨ sent = false → exec (.heartbeatReceived τ h second) s = .next s)) ∧
    (∀ τ iu io verdict, τ < 176 →
      let hold := s.token τ
      let oth := 1 - hold
      let pulse := fun (h : Nat) => (if h = 0 then iu else io) && bit (s.nlat .hbSent τ h) 0
      (s.inUse τ = true → s.flag .spanUp = true → s.executes τ 0 = true → s.executes τ 1 = true →
        s.flag .mchkNew τ 0 = false → s.flag .mchkNew τ 1 = false → s.halfState τ hold = 1 → s.halfState τ oth = 2 →
        (pulse 0 = true → pulse 1 = true → s.treg .RED_SIG τ 0 ≠ s.treg .RED_SIG τ 1 →
          ∃ t, exec (.tokenDecision τ iu io verdict) s = .next t ∧ t.mode = s.mode ∧ t.memAs s ∧
            t.treg .RED_MISMATCH_CNT τ = min (s.treg .RED_MISMATCH_CNT τ + 1) (2 ^ 32 - 1) ∧ t.tbit .RED_TSTATUS τ 1 = true ∧
            t.flag .decNoLoad τ = true ∧ t.lat .decState τ oth = 1 ∧ s.msg 0x104 0x54 (2 ^ 8 * oth + τ) ∈ t.faults ∧
            t.otherRegs s [.RED_TSTATE, .RED_PATH_TILE, .RED_MISMATCH_CNT, .RED_TSTATUS]) ∧
        (pulse hold = false → verdict = false → pulse oth = true →
          ∃ t, exec (.tokenDecision τ iu io verdict) s = .next t ∧ t.mode = s.mode ∧ t.memAs s ∧
            t.flag .decMove τ = true ∧ t.lat .decState τ hold = 1 ∧ s.msg 0x104 0x52 (2 ^ 8 * hold + τ) ∈ t.faults ∧
            s.msg 0x104 0x53 (2 ^ 8 * oth + τ) ∈ t.faults)) ∧
      (s.inUse τ = false ∨ s.flag .spanUp = false ∨ s.mode = .boot ∨ s.mode = .sable →
        exec (.tokenDecision τ iu io verdict) s = .next s)) ∧
    (∀ c k, (c = Instr.lockstepMismatch ∧ k = 0x5F) ∨ (c = .watchdogExpiry ∧ k = 0x60 ∧ s.wdtDue = true) →
      s.flag .mgtFail = false →
      ∃ t, exec c s = .next t ∧ t.reg .RED_MGT_RESTARTS = min (s.reg .RED_MGT_RESTARTS + 1) (2 ^ 32 - 1) ∧
        t.nlat .warmAt 0 = s.grain + 1 ∧ t.lat .warmAt 1 = s.lat .warmAt 0 ∧ t.lat .warmAt 2 = s.lat .warmAt 1 ∧
        t = { s with regs := t.regs, lats := t.lats, faults := t.faults } ∧
        t.regsAs s [Reg.key .RED_MGT_RESTARTS 0 0 0] ∧
        (let fourth := s.lat .warmAt 2 ≠ 0 ∧ (s.grain : Int) + 1 - s.lat .warmAt 2 ≤ 60000000000
         (fourth → t.flag .mgtFail = true ∧ t.faults = s.faults ++ [s.msg 0x104 k 0, s.msg 0x104 0x61 0]) ∧
         (¬fourth → t.flag .mgtFail = false ∧ t.faults = s.faults ++ [s.msg 0x104 k 0] ∧ t.nlat .hbAt = s.grain + 1))) ∧
    (s.flag .mgtFail = true → exec .lockstepMismatch s = .next s ∧ exec .watchdogExpiry s = .next s) ∧
    (s.wdtDue = false → exec .watchdogExpiry s = .next s) ∧
    (∃ t, exec .mgtHeartbeatWrite s = .next t ∧ t.nlat .hbAt = s.grain + 1 ∧ t = { s with lats := t.lats } ∧
      t.latsAs s [Lat.key .hbAt 0 0 0])

/-- The event router (R415 to R425): in one cycle an enabled input whose channel has events, its group enabled, and
which holds none takes an occurrence with the least source and the greatest hop count, and one that holds one is
marked overrun; nothing stays published; a relay publishes on with one hop more, or reports a loop at HOP 6. -/
def Obligations.EventRouting : Prop :=
  ∀ s : State, s.Sound →
    (∃ t, exec .eventRouting s = .next t ∧ t.events = [] ∧ t.mode = s.mode ∧ t.memAs s ∧ t.faults = s.faults ∧
      t.otherRegs s [.EVT_INST, .EVT_STATUS, .EVT_GROUPS, .EVT_MERGED, .EVT_DROP_CNT] ∧
      (s.rbit .EVT_CTRL 0 = false → t = { s with events := [] }) ∧
      (s.rbit .EVT_CTRL 0 = true → ∀ i, evtInput i = true → i < 0x260 → s.rbit .EVT_SUB 31 i = true →
        let evs := s.events.filter (fun e => e.chan == s.fld .EVT_SUB 8 0 i && s.evtGroupOn e.chan)
        (evs = [] → t.reg .EVT_INST i = s.reg .EVT_INST i) ∧
        (evs ≠ [] → s.evtPend i = true → t.evtPend i = true ∧ t.rbit .EVT_INST 30 i = true ∧
          t.fld .EVT_INST 29 0 i = s.fld .EVT_INST 29 0 i ∧ t.rbit .EVT_STATUS 2 = true) ∧
        (∀ e f, e ∈ evs → f ∈ evs → (∀ x ∈ evs, e.src ≤ x.src ∧ x.hop ≤ f.hop) → e.src < 2 ^ 10 → f.hop < 8 →
          s.evtPend i = false →
          t.reg .EVT_INST i = 2 ^ 31 + 2 ^ 30 * b2n (s.rbit .EVT_INST 30 i) + 2 ^ 27 * f.hop + e.src))) ∧
    (∀ r, r < 32 →
      let w := s.reg .EVT_SRC (0x240 + r)
      (s.evtPend (0x240 + r) = true → s.evtHop (0x240 + r) < 6 →
        ∃ t, exec (.relayInput r) s = .next t ∧ t.evtPend (0x240 + r) = false ∧
          t.events = s.events ++ (if bit w 31 then [⟨0x240 + r, bits w 8 0, s.evtHop (0x240 + r) + 1⟩] else []) ∧
          t = { s with regs := t.regs, events := t.events } ∧ t.regsAs s [Reg.key .EVT_INST 0 (0x240 + r) 0]) ∧
      (s.evtPend (0x240 + r) = true → 6 ≤ s.evtHop (0x240 + r) → bit w 31 = true →
        ∃ t, exec (.relayInput r) s = .next t ∧ t.evtPend (0x240 + r) = false ∧ t.events = s.events ∧
          t.reg .EVT_LOOP_CNT = min (s.reg .EVT_LOOP_CNT + 1) (2 ^ 32 - 1) ∧ t.rbit .EVT_STATUS 1 = true ∧
          t.faults = s.faults ++ [s.msg 0x103 0x68 (2 ^ 16 * bits w 8 0 + (0x240 + r))]) ∧
      (s.evtPend (0x240 + r) = false → exec (.relayInput r) s = .next s))

/-- Consumers and entries (R418, R419, R424, R425): the input of the player starts or stops it, that of the calibration
engine starts a campaign, that of a DMA channel runs an ARMED one, that of a host message sends it, and each takes its
occurrence; an interrupt is taken, but for an occurrence that came in the same grain (R10); software publishes; a write of an entry that its rules allow is made, one that they do not is refused, and an
index without an entry faults. -/
def Obligations.EventConsumers : Prop :=
  ∀ s : State, s.Sound →
    (s.evtPend 0x238 = true → s.mode = .characterise → s.swpBusy = false →
      ∃ t, exec .swpStartInput s = .next t ∧ t.evtPend 0x238 = false ∧ t.swpState = 1 ∧
        t.reg .SWP_POS = 2 ^ 24 * s.nlat .swpSeg % 2 ^ 32 ∧ t.nlat .swpHop = s.evtHop 0x238 + 1 ∧ t.memAs s ∧
        t.otherRegs s [.EVT_INST, .SWP_STATUS, .SWP_POS, .SWP_FRAC]) ∧
    (s.evtPend 0x239 = true → s.swpBusy = true →
      ∃ t, exec .swpStopInput s = .next t ∧ t.evtPend 0x239 = false ∧ t.swpState = 0 ∧ t.memAs s ∧
        t.otherRegs s [.EVT_INST, .SWP_STATUS, .SWP_JUMP, .HTR_MAN]) ∧
    (s.evtPend 0x23A = true → s.calState < 2 → s.calStartOk = true →
      ∃ t, exec .calStartInput s = .next t ∧ t.evtPend 0x23A = false ∧ t.campaign = true ∧ t.fld .CAL_TRIGGER 31 30 = 2 ∧
        t.nlat .calHop = s.evtHop 0x23A + 1 ∧ t.mode = s.mode ∧ t.memAs s) ∧
    (s.evtPend 0x238 = false → exec .swpStartInput s = .next s) ∧ (s.evtPend 0x239 = false → exec .swpStopInput s = .next s) ∧
    (s.evtPend 0x23A = false → exec .calStartInput s = .next s) ∧
    (∀ ch, ch < 16 →
      let runs := s.evtPend (0x228 + ch) = true ∧ s.dmaState ch = 2 ∧ s.flag .dmaAbort ch = false
      (runs → ∃ t, exec (.dmaTrigInput ch) s = .next t ∧ t.evtPend (0x228 + ch) = false ∧ t.dmaState ch = 1 ∧
        t.nlat .dmaHop ch = s.evtHop (0x228 + ch) + 1 ∧ t = { s with regs := t.regs, lats := t.lats } ∧
        t.regsAs s [Reg.key .EVT_INST 0 (0x228 + ch) 0, Reg.key .DMA_CH_STATUS 0 ch 0]) ∧
      (¬runs → exec (.dmaTrigInput ch) s = .next s)) ∧
    (∀ k, k < 8 →
      let goes := s.evtPend (0x220 + k) = true ∧ s.wouldSend s.msgLink 4 8 = true
      (goes → ∃ t f, exec (.hostMessageInput k) s = .next t ∧ t.evtPend (0x220 + k) = false ∧ f ∈ t.plvOut ∧
        f.link = s.msgLink ∧ f.ttype = 4 ∧
        (s.plvOut.all (fun g => g.link != s.msgLink || g.seq.isSome) = true → f.seq = some (s.nlat .plvTx s.msgLink)) ∧
        f.data = leBytes 4 k ++ leBytes 4 (2 ^ 10 * s.evtHop (0x220 + k) + s.fld .EVT_INST 9 0 (0x220 + k)) ∧
        t = { s with regs := t.regs, lats := t.lats, plvOut := t.plvOut } ∧
        t.regsAs s [Reg.key .EVT_INST 0 (0x220 + k) 0]) ∧
      (¬goes → exec (.hostMessageInput k) s = .next s)) ∧
    (∀ q, q < 32 → ∃ t, exec (.interruptTake q) s = .next t ∧
      t.evtPend (0x200 + q) = (s.evtPend (0x200 + q) && !s.before.evtPend (0x200 + q)) ∧
      (∀ b, b ≠ 31 → t.rbit .EVT_INST b (0x200 + q) = s.rbit .EVT_INST b (0x200 + q)) ∧
      t = { s with regs := t.regs, regs0 := t.regs0 } ∧
      t.regsAs s [Reg.key .EVT_INST 0 (0x200 + q) 0]) ∧
    (∀ ini k, k < 8 →
      let w := s.reg .EVT_SRC (0x260 + k)
      (ini = .core ∨ s.evtSec (bits w 8 0) = false → ∃ t, exec (.softwarePublish ini k) s = .next t ∧ t.resp = ⟨false, 0⟩ ∧
        t.events = s.events ++ (if bit w 31 then [⟨0x260 + k, bits w 8 0, 0⟩] else []) ∧
        t = { s with events := t.events, resp := t.resp }) ∧
      (ini ≠ .core → s.evtSec (bits w 8 0) = true → ∃ t, exec (.softwarePublish ini k) s = .next t ∧ t.events = s.events ∧
        t.rbit .EVT_STATUS 0 = true ∧ t.faults = s.faults ++ [s.msg 0x103 0x02 (Reg.addr .EVT_SWPUB 0 0 0)])) ∧
    (∀ ini input i v, i < 1024 → v < 2 ^ 32 →
      let r := evtReg input
      let c := bits v 8 0
      let there := if input then evtInput i else evtSource i
      let tileOk := match evtTile input i with
        | some τ => s.inUse τ
        | none => true
      let may := tileOk = true ∧ (ini = .core ∨ (s.evtSec (s.fld r 8 0 i) = false ∧ s.evtSec c = false)) ∧
        (bit v 31 = true → s.evtMayEnable ini input i c = true)
      (there = true → may → ∃ t, exec (.eventEntryWrite ini input i v) s = .next t ∧
        t.reg r i = 2 ^ 31 * b2n (bit v 31) + c ∧ t.resp = ⟨false, 0⟩ ∧ t = { s with regs := t.regs, resp := t.resp } ∧
        t.regsAs s [r.key 0 i 0]) ∧
      (there = true → ¬may → ∃ t, exec (.eventEntryWrite ini input i v) s = .next t ∧ t.rbit .EVT_STATUS 0 = true ∧
        t.faults = s.faults ++ [s.msg 0x103 0x02 (r.addr 0 i 0)] ∧ t.regsAs s [Reg.key .EVT_STATUS 0 0 0] ∧
        t = { s with regs := t.regs, faults := t.faults, resp := t.resp }) ∧
      (there = false → ∃ t, exec (.eventEntryWrite ini input i v) s = .next t ∧ t.addrFaulted s (r.addr 0 i 0)))

/-- DMA channels (R436, R437, R439): START of an idle channel, and RESUME of one parked on a fetch, fetch the
descriptor: a valid one runs or arms, one that is not valid ends with its code, a translation fault parks with its
registers; RESUME of one parked on a unit goes on; ABORT ends at once where no unit is in flight; and each is
refused in another state. -/
def Obligations.DmaChannels : Prop :=
  ∀ (s : State) (ch : Nat), s.Sound → ch < 16 →
    let iova := 2 ^ 32 * s.fld .DMA_CH_DESC_HI 6 0 ch + s.fld .DMA_CH_DESC_LO 31 5 ch * 32
    let s0 := (((((s.setLat .dmaHop 0 ch).setReg .DMA_CH_CUR_LO (iova % 2 ^ 32) ch).setReg .DMA_CH_CUR_HI
      (iova / 2 ^ 32 % 2 ^ 7) ch).setReg .DMA_CH_DONE 0 ch).setLat .dmaPos 0 ch)
    let idle := s.dmaState ch = 0 ∨ s.dmaState ch = 4
    let refused := fun (c : Instr) => ∃ t, exec c s = .next t ∧ t = { s with faults := t.faults } ∧
      t.faults = s.faults ++ [s.msg 0x115 0x02 (Reg.addr .DMA_CH_CMD 0 ch 0)]
    (∀ pa s1 bs s2, idle → s0.translate ch (iova % 2 ^ 39) false = (.inr pa, s1) → s1.memGet .dma pa 32 = (.ok bs, s2) →
      let w := fun k => leVal (slice bs (4 * k) 4)
      let valid := descValid (w 0) (w 1) (w 3) (w 5) (w 7) (bit (w 0) 27) (bit (w 0) 26)
      ∃ t, exec (.dmaStart ch) s = .next t ∧ (∀ k, k < 8 → t.dmaWord ch k = w k) ∧ t.dmaCur ch = iova ∧
        t.reg .DMA_CH_DONE ch = 0 ∧ t.mode = s.mode ∧
        (valid = true → t.dmaState ch = (if bit (w 0) 29 then 2 else 1) ∧ t = { s2 with regs := t.regs, lats := t.lats } ∧
          t.memAs s2) ∧
        (valid = false → t.dmaState ch = 4 ∧ t.fld .DMA_CH_STATUS 7 0 ch = 5)) ∧
    (∀ c s1, idle → s0.translate ch (iova % 2 ^ 39) false = (.inl c, s1) →
      ∃ t, exec (.dmaStart ch) s = .next t ∧ t.dmaState ch = 3 ∧ t.fld .DMA_CH_STATUS 7 0 ch = 1 ∧
        t.reg .DMA_CH_FAULT_LO ch = iova % 2 ^ 32 ∧ t.rbit .DMA_CH_FAULT_HI 12 ch = true ∧
        t.fld .DMA_CH_FAULT_HI 11 9 ch = c.code ∧ t.memAs s1 ∧ t.mode = s.mode) ∧
    (¬idle → refused (.dmaStart ch)) ∧
    (s.dmaState ch = 3 → s.flag .dmaAbort ch = false → s.rbit .DMA_CH_FAULT_HI 12 ch = false →
      ∃ t, exec (.dmaResume ch) s = .next t ∧ t.dmaState ch = 1 ∧ t.fld .DMA_CH_STATUS 28 0 ch = s.fld .DMA_CH_STATUS 28 0 ch ∧
        t = { s with regs := t.regs } ∧ t.regsAs s [Reg.key .DMA_CH_STATUS 0 ch 0]) ∧
    (s.dmaState ch ≠ 3 ∨ s.flag .dmaAbort ch = true → refused (.dmaResume ch)) ∧
    (1 ≤ s.dmaState ch → s.dmaState ch ≤ 3 →
      (s.dmaBusy ch = false → ∃ t, exec (.dmaAbort ch) s = .next t ∧ t.dmaState ch = 0 ∧ t.fld .DMA_CH_STATUS 7 0 ch = 6 ∧
        t = { s with regs := t.regs, lats := t.lats } ∧ t.regsAs s [Reg.key .DMA_CH_STATUS 0 ch 0]) ∧
      (s.dmaBusy ch = true → ∃ t, exec (.dmaAbort ch) s = .next t ∧ t.flag .dmaAbort ch = true ∧ t = { s with lats := t.lats } ∧
        t.latsAs s [Lat.key .dmaAbort ch 0 0])) ∧
    (s.dmaState ch = 0 ∨ 3 < s.dmaState ch → refused (.dmaAbort ch))

/-- DMA units, translations and the DRAM scrubber (R434, R435, R438 to R440, R443, R449): a unit of at most 64 bytes
within a 64-byte block of the destination is issued; a unit that completes has stored its bytes and moves DONE, and
one that meets an error ends its channel with the code; a host read without an answer ends it with HOST; an
invalidation removes what it names and nothing else; the scrubber counts and reports what it finds; a word that nothing
has written holds a free value with a free error (R503, log entry 56), which a correction writes back. -/
def Obligations.DmaUnitsAndMemory : Prop :=
  ∀ s : State, s.Sound →
    (∀ ch rs s1 ws s2, s.dmaUnits.length < 8 → s.dmaChoose = some ch →
      let pos := s.nlat .dmaPos ch
      let w0 := s.dmaWord ch 0
      let dst := s.dmaWord ch 4 + 2 ^ 32 * s.dmaWord ch 5 + pos
      let n := min (s.dmaLen ch - pos) (64 - dst % 64)
      (s.setLat .dmaPick (ch + 1 : Nat)).dmaSide ch (bit w0 27) false (s.dmaWord ch 2 + 2 ^ 32 * s.dmaWord ch 3 + pos) n =
        (.inr rs, s1) →
      s1.dmaSide ch (bit w0 26) true dst n = (.inr ws, s2) →
      ∃ t u, exec .dmaUnitIssue s = .next t ∧ t.dmaUnits = s.dmaUnits ++ [u] ∧ u.ch = ch ∧ u.pos = pos ∧ u.len = n ∧
        u.src = rs ∧ u.dst = ws ∧ u.stray = false ∧ t.nlat .dmaPos ch = pos + n ∧ t.mode = s.mode ∧ t.memAs s2) ∧
    (8 ≤ s.dmaUnits.length ∨ s.dmaChoose = none → exec .dmaUnitIssue s = .next s) ∧
    (∀ ch u, ch < 16 → s.dmaUnits.find? (fun u => u.ch == ch) = some u → u.srcHost = false → u.dstHost = false → u.data = none →
      u.stray = false → s.flag .dmaAbort ch = false →
      let s0 := { s with dmaUnits := s.dmaUnits.erase u }
      (∀ bs s1 s2, s0.dmaGather u.src = (.ok bs, s1) → s1.dmaScatter u.dst bs = (true, s2) → u.pos + u.len ≠ s.dmaLen ch →
        ∃ t, exec (.dmaUnitComplete ch) s = .next t ∧ t.reg .DMA_CH_DONE ch = (u.pos + u.len) % 2 ^ 32 ∧
          t.dmaUnits = s.dmaUnits.erase u ∧ t = { s2 with regs := t.regs } ∧ t.regsAs s2 [Reg.key .DMA_CH_DONE 0 ch 0]) ∧
      (∀ s1, s0.dmaGather u.src = (.ue, s1) →
        ∃ t, exec (.dmaUnitComplete ch) s = .next t ∧ t.dmaState ch = 4 ∧ t.fld .DMA_CH_STATUS 7 0 ch = 3 ∧
          t.reg .DMA_CH_DONE ch = u.pos % 2 ^ 32 ∧ t.mode = s.mode)) ∧
    (∀ ch, ch < 16 → s.dmaUnits.find? (fun u => u.ch == ch) = none → exec (.dmaUnitComplete ch) s = .next s) ∧
    (∀ l g, l < 2 → g < 256 →
      (∀ u, s.tagUnit l g = some u → u.ch < 16 → u.stray = false → s.flag .dmaAbort u.ch = false →
        ∃ t, exec (.dmaRdTimeout l g) s = .next t ∧ t.dmaState u.ch = 4 ∧ t.fld .DMA_CH_STATUS 7 0 u.ch = 4 ∧
          t.dmaUnits.length + 1 = s.dmaUnits.length ∧ t.mode = s.mode) ∧
      (s.tagUnit l g = none → exec (.dmaRdTimeout l g) s = .next s)) ∧
    (∃ t, exec .mmuInvAll s = .next t ∧ t = { s with tlb := [] }) ∧
    (∀ n, n < 32 →
      (∃ t, exec (.mmuInvStream n) s = .next t ∧ t = { s with tlb := t.tlb } ∧
        ∀ e, e ∈ t.tlb ↔ e ∈ s.tlb ∧ e.stream ≠ n) ∧
      (let a := 2 ^ 32 * s.fld .MMU_INV_IOVA_HI 6 0 + 4096 * s.fld .MMU_INV_IOVA_LO 31 12
       ∃ t, exec (.mmuInvPage n) s = .next t ∧ t = { s with tlb := t.tlb } ∧
        ∀ e, e ∈ t.tlb ↔ e ∈ s.tlb ∧ ¬(e.stream = n ∧ e.iova ≤ a ∧ a < e.iova + e.size))) ∧
    exec .dqsTracking s = .next s ∧
    (∀ w e, w < 2 ^ 29 → e < 3 →
      let off := 32 * w
      let a := 2 ^ 28 * (2 * bits off 9 8 + bits off 10 10) + bits off 33 6
      let blank := s.dramFresh off 32 ≠ []
      let uncorrectable := fun (t : State) => w ∈ t.dramUe ∧ t.reg .DRAM_ERR_ADDR = a % 2 ^ 32 ∧
        t.reg .DRAM_UE_CNT = min (s.reg .DRAM_UE_CNT + 1) (2 ^ 32 - 1) ∧ t.faults = s.faults ++ [s.msg 0x117 0x71 a] ∧
        t = { s with regs := t.regs, faults := t.faults, dramUe := t.dramUe } ∧ t.otherRegs s [.DRAM_UE_CNT, .DRAM_ERR_ADDR]
      let corrected := fun (t : State) => t.reg .DRAM_CE_CNT = min (s.reg .DRAM_CE_CNT + 1) (2 ^ 32 - 1) ∧
        t.faults = s.faults ++ [s.msg 0x117 0x70 a] ∧ t.otherRegs s [.DRAM_CE_CNT]
      (s.rbit .DRAM_CTRL 0 = true → w * 32 < s.dramSize → w ∈ s.dramUe ∨ (e = 2 ∧ ¬blank) →
        ∃ t, exec (.patrolScrub w e) s = .next t ∧ uncorrectable t) ∧
      (s.rbit .DRAM_CTRL 0 = true → w * 32 < s.dramSize → e = 1 → ¬blank → w ∉ s.dramUe →
        ∃ t, exec (.patrolScrub w e) s = .next t ∧ corrected t ∧ t = { s with regs := t.regs, faults := t.faults }) ∧
      (s.rbit .DRAM_CTRL 0 = true → w * 32 < s.dramSize → blank → w ∉ s.dramUe →
        ∃ t, exec (.patrolScrub w e) s = .next t ∧ (2 ≤ s.freshEcc w → uncorrectable t) ∧ (s.freshEcc w = 0 → t = s) ∧
          (s.freshEcc w = 1 → corrected t ∧ t = { s with regs := t.regs, faults := t.faults, dram := t.dram } ∧
            t.dramFresh off 32 = [] ∧ t.dramBytes off 32 = s.dramBytes off 32 ∧
            ∀ x, (x < off ∨ off + 32 ≤ x) → spFind t.dram x = spFind s.dram x)) ∧
      (s.rbit .DRAM_CTRL 0 = false ∨ s.dramSize ≤ w * 32 ∨ (w ∉ s.dramUe ∧ e = 0 ∧ ¬blank) →
        exec (.patrolScrub w e) s = .next s))

/-- The Plovom links (R445, R448, R449): an enabled link follows its lanes, and with the host's INIT it is UP with its
credit; a link that leaves UP is reported and its frames are lost; ACK and NAK free what they name; what is left
after NAK, or after 10 µs, is sent again, and the fourth replay of a frame takes the link down; credit is counted
from INIT; a bad frame is counted and answered. -/
def Obligations.PlovomLinks : Prop :=
  ∀ (s : State) (l : Nat), s.Sound → l < 2 →
    let noneWaits := s.plvOut.all (fun f => f.link != l || f.seq.isSome) = true
    (∀ v lanes, v < 3 → lanes < 16 →
      (s.plvEnabled l = true → v = 0 → lanes ≠ 15 →
        ∃ t, exec (.plovomLinkState l v lanes) s = .next t ∧ t.plvState l = 0 ∧ t.fld .PLV_LSTATUS 7 4 l = lanes ∧
          t.plvOut = s.plvOut.filter (fun f => f.link != l) ∧ t.mode = s.mode ∧
          (s.plvUp l = true → s.msg 0x118 0x73 l ∈ t.faults)) ∧
      (s.plvEnabled l = true → v = 1 → lanes = 15 →
        ∃ t, exec (.plovomLinkState l v lanes) s = .next t ∧ t.plvState l = 1 ∧ t.fld .PLV_LSTATUS 7 4 l = 15 ∧
          t.plvOut = s.plvOut.filter (fun f => f.link != l) ∧ t.mode = s.mode) ∧
      (s.plvEnabled l = true → v = 2 → lanes = 15 → s.plvState l = 1 →
        ∃ t, exec (.plovomLinkState l v lanes) s = .next t ∧ t.plvState l = 2 ∧ t.fld .PLV_LSTATUS 7 4 l = 15 ∧
          t = { s with regs := t.regs } ∧ t.regsAs s [Reg.key .PLV_LSTATUS 0 l 0]) ∧
      (s.plvEnabled l = false → exec (.plovomLinkState l v lanes) s = .next s)) ∧
    (∀ p np cpl, p < 2 ^ 16 → np < 2 ^ 16 → cpl < 2 ^ 16 →
      (s.plvEnabled l = true → s.plvState l = 2 →
        ∃ t, exec (.plvInit l p np cpl) s = .next t ∧ t.plvUp l = true ∧ t.nlat .plvLim l 0 = p ∧ t.nlat .plvLim l 1 = np ∧
          t.nlat .plvLim l 2 = cpl ∧ t.lat .plvRx l = 0 ∧ t.faults = s.faults ++ [s.msg 0x118 0x73 (2 ^ 8 + l)] ∧
          (noneWaits → t.lat .plvTx l = 0 ∧ t.plvOut = s.plvOut) ∧
          t = { s with regs := t.regs, lats := t.lats, faults := t.faults, plvOut := t.plvOut } ∧
          t.regsAs s [Reg.key .PLV_LSTATUS 0 l 0]) ∧
      (s.plvEnabled l = false ∨ s.plvState l ≠ 2 → exec (.plvInit l p np cpl) s = .next s) ∧
      (s.plvUp l = true → ∃ t, exec (.plvCredit l p np cpl) s = .next t ∧
        t.nlat .plvLim l 0 = (s.nlat .plvInit l 0 + p) % 2 ^ 16 ∧ t.nlat .plvLim l 1 = (s.nlat .plvInit l 1 + np) % 2 ^ 16 ∧
        t.nlat .plvLim l 2 = (s.nlat .plvInit l 2 + cpl) % 2 ^ 16 ∧ (noneWaits → t.plvOut = s.plvOut) ∧
        t = { s with lats := t.lats, plvOut := t.plvOut })) ∧
    (∀ q, q < 4096 → s.plvUp l = true → noneWaits →
      let left := s.plvOut.filter (fun f => !(f.link == l && (f.seq.map (coveredBy q)).getD false))
      let mine := left.filter (fun f => f.link == l && f.seq.isSome)
      (∃ t, exec (.plvAck l q) s = .next t ∧ t = { s with plvOut := left }) ∧
      (mine.all (fun f => decide (f.replays < 3)) = true →
        ∃ t, exec (.plvNak l q) s = .next t ∧ t.plvUp l = true ∧
          t.reg .PLV_REPLAY l = min (s.reg .PLV_REPLAY l + mine.length) (2 ^ 32 - 1) ∧
          t.plvOut = left.map (fun f => if f.link = l ∧ f.seq.isSome = true then { f with replays := f.replays + 1 } else f) ∧
          t = { s with regs := t.regs, plvOut := t.plvOut } ∧ t.regsAs s [Reg.key .PLV_REPLAY 0 l 0])) ∧
    (s.plvUp l = true → s.unacked l ≠ [] →
      ((s.unacked l).all (fun f => decide (f.replays < 3)) = true →
        ∃ t, exec (.plvReplayTimeout l) s = .next t ∧ t.plvUp l = true ∧
          t.reg .PLV_REPLAY l = min (s.reg .PLV_REPLAY l + (s.unacked l).length) (2 ^ 32 - 1) ∧
          t = { s with regs := t.regs, plvOut := t.plvOut } ∧ t.plvOut.length = s.plvOut.length) ∧
      ((∃ f ∈ s.unacked l, 3 ≤ f.replays) →
        ∃ t, exec (.plvReplayTimeout l) s = .next t ∧ t.plvState l = 0 ∧ s.msg 0x118 0x73 (2 * 2 ^ 9 + l) ∈ t.faults ∧
          t.unacked l = [] ∧ t.mode = s.mode)) ∧
    (s.unacked l = [] → exec (.plvReplayTimeout l) s = .next s) ∧
    (∀ crc, s.plvUp l = true → ∃ t, exec (.plvBadFrame l crc) s = .next t ∧
      t.nlat .plvCtl l = 3 * 4096 + (s.nlat .plvRx l + 4095) % 4096 ∧
      t.reg .PLV_CRC_ERR l = (if crc then min (s.reg .PLV_CRC_ERR l + 1) (2 ^ 32 - 1) else s.reg .PLV_CRC_ERR l) ∧
      t = { s with regs := t.regs, lats := t.lats } ∧ t.regsAs s [Reg.key .PLV_CRC_ERR 0 l 0]) ∧
    (s.plvUp l = false → ∀ c ∈ [Instr.plvAck l 0, .plvNak l 0, .plvReplayTimeout l, .plvBadFrame l true, .plvCredit l 0 0 0],
      exec c s = .next s)

/-- The host's transactions (R429, R447, R449, R451): a burst that is well formed reads or writes memory and is answered
with its tag, one that is not is answered UR, or counted, and to registers also logged as ADDR (R5); a message enters the mailbox, or is lost when it is full;
a completion gives its data to the unit that waits for it, or ends its channel; a read takes the oldest message. -/
def Obligations.PlovomTransactions : Prop :=
  ∀ (s : State) (l tag a : Nat), s.Sound → l < 2 → tag < 256 → a < 2 ^ 40 →
    let answers := fun (t : State) (st : Nat) (bs : List Byte) => ∃ f ∈ t.plvOut, f.link = l ∧ f.ttype = 8 ∧ f.tag = tag ∧
      f.status = st ∧ f.data = bs
    let got := fun (t : State) => t.nlat .plvRx l = (s.nlat .plvRx l + 1) % 4096 ∧ t.nlat .plvCtl l = 2 * 4096 + s.nlat .plvRx l
    let logged := fun (t : State) (n : Nat) => t.faults = s.faults ++
      (if s.atReg a = true ∧ ¬(n = 4 ∧ a % 4 = 0) then [s.msg 0x101 0x01 (a % 2 ^ 32) (a / 2 ^ 32)] else [])
    (∀ n, s.plvUp l = true → 1 ≤ n → n ≤ 256 →
      (s.burstOk a n = false → ∃ t, exec (.plvRead l tag a n) s = .next t ∧ answers t 2 [] ∧ got t ∧ logged t n ∧
        t = { s with lats := t.lats, plvOut := t.plvOut, faults := t.faults }) ∧
      (∀ bs s1, s.burstOk a n = true → s.atReg a = false → (s.plvAccept l 1 0).memGet .plv a n = (.ok bs, s1) →
        ∃ t, exec (.plvRead l tag a n) s = .next t ∧ answers t 0 bs ∧ got t ∧ t.memAs s1 ∧ t.mode = s.mode ∧
          t = { s1 with lats := t.lats, plvOut := t.plvOut }) ∧
      (∀ s1, s.burstOk a n = true → s.atReg a = true → (s.plvAccept l 1 0).busRead (plvIni l) a = s1 → s1.resp.err = false →
        ∃ t, exec (.plvRead l tag a n) s = .next t ∧ answers t 0 (leBytes 4 s1.resp.data) ∧ got t ∧ t.memAs s)) ∧
    (∀ bs : List Byte, s.plvUp l = true → 1 ≤ bs.length → bs.length ≤ 256 →
      (s.burstOk a bs.length = false →
        (∃ t, exec (.plvWrite l tag a bs) s = .next t ∧ answers t 2 [] ∧ got t ∧ logged t bs.length ∧
          t = { s with lats := t.lats, plvOut := t.plvOut, faults := t.faults }) ∧
        (∃ t, exec (.plvPwrite l a bs) s = .next t ∧ got t ∧ logged t bs.length ∧
          t.reg .PLV_UR l = min (s.reg .PLV_UR l + 1) (2 ^ 32 - 1) ∧
          t = { s with regs := t.regs, lats := t.lats, faults := t.faults } ∧
          t.regsAs s [Reg.key .PLV_UR 0 l 0])) ∧
      (∀ o o', s.burstOk a bs.length = true → s.target a = some (.sram, o) → s.target (a + bs.length - 1) = some (.sram, o') →
        (∃ t, exec (.plvWrite l tag a bs) s = .next t ∧ answers t 0 [] ∧ got t ∧ t.regs = s.regs ∧ t.mode = s.mode ∧
          (∀ k, k < bs.length → t.sramByte (o + k) = bs.getD k 0) ∧
          (∀ x, (x < o ∨ o + bs.length ≤ x) → t.sramByte x = s.sramByte x)) ∧
        (∃ t, exec (.plvPwrite l a bs) s = .next t ∧ got t ∧ t.regs = s.regs ∧ t.plvOut = s.plvOut ∧
          (∀ k, k < bs.length → t.sramByte (o + k) = bs.getD k 0) ∧
          (∀ x, (x < o ∨ o + bs.length ≤ x) → t.sramByte x = s.sramByte x)))) ∧
    (∀ ix d, ix < 256 → d < 2 ^ 32 → s.plvUp l = true →
      (s.mbox.length < 16 → ∃ t, exec (.plvMsg l ix d) s = .next t ∧ t.mbox = s.mbox ++ [⟨ix, d⟩] ∧
        t.rbit .PLV_STATUS 2 = true ∧ got t ∧ t = { s with regs := t.regs, lats := t.lats, mbox := t.mbox } ∧
        t.regsAs s [Reg.key .PLV_STATUS 0 0 0]) ∧
      (16 ≤ s.mbox.length → ∃ t, exec (.plvMsg l ix d) s = .next t ∧ t.mbox = s.mbox ∧ t.rbit .PLV_STATUS 1 = true ∧ got t ∧
        t = { s with regs := t.regs, lats := t.lats } ∧ t.regsAs s [Reg.key .PLV_STATUS 0 0 0])) ∧
    (∀ (u : DmaUnit) (bs : List Byte) st, s.plvUp l = true → st < 256 → bs.length ≤ 256 → s.tagUnit l tag = some u →
      (st = 0 → bs.length = u.len → ∃ t, exec (.plvCpl l tag st bs) s = .next t ∧ { u with data := some bs } ∈ t.dmaUnits ∧
        got t ∧ t = { s with lats := t.lats, dmaUnits := t.dmaUnits } ∧ t.dmaUnits.length = s.dmaUnits.length) ∧
      (st ≠ 0 ∨ bs.length ≠ u.len → u.ch < 16 → u.stray = false → s.flag .dmaAbort u.ch = false →
        ∃ t, exec (.plvCpl l tag st bs) s = .next t ∧ t.dmaState u.ch = 4 ∧ t.fld .DMA_CH_STATUS 7 0 u.ch = 4 ∧ got t)) ∧
    (∃ t, exec .plvMboxRead s = .next t ∧ t.mbox = s.mbox.tail ∧ t.resp.err = false ∧
      (s.mbox = [] → t = { s with resp := ⟨false, 0⟩ }) ∧
      (∀ m r, s.mbox = m :: r → t.resp.data = 2 ^ 31 + m.index % 256 ∧ t.reg .PLV_MBOX_DATA = m.data % 2 ^ 32 ∧
        t.rbit .PLV_STATUS 2 = !r.isEmpty ∧ t = { s with regs := t.regs, mbox := r, resp := t.resp } ∧
        t.otherRegs s [.PLV_MBOX_DATA, .PLV_STATUS])) ∧
    (s.plvUp l = false → ∀ c ∈ [Instr.plvRead l tag a 4, .plvWrite l tag a [0], .plvPwrite l a [0], .plvMsg l 0 0,
      .plvCpl l tag 0 []], exec c s = .next s)

/-- The MAC table (R290 to R296): a queued request refreshes its entry, moves it within its window or locks it at the
ninth move, leaves a fixed or locked one, takes a free slot, or fails and is reported once; a window closes and a
hold-down ends after their times; the sweeper clears HIT, then removes the entry, but never a fixed one, and an entry that
is hit in the same cycle stays hit. -/
def Obligations.MacLearning : Prop :=
  ∀ (s : State) (q : Nat), s.Sound → q < 2 →
    (∀ r, s.learnQ.find? (fun r => r.pipe == q) = some r → s.replacing q = false → r.port < 6 →
      let rest := dropLearn q s.learnQ
      (∀ pos e, s.macFind q r.vid r.mac = some (pos, e) →
        (e.port = r.port → ∃ t, exec (.learnRequestApply q) s = .next t ∧ t.learnQ = rest ∧
          t.macAt q pos = some { e with hit := true, hitAt := s.grain + 1 } ∧ t = { s with learnQ := rest, mac := t.mac }) ∧
        (e.port ≠ r.port → e.fixed = true ∨ e.lock = true → exec (.learnRequestApply q) s = .next { s with learnQ := rest }) ∧
        (e.port ≠ r.port → e.fixed = false → e.lock = false → e.win = 0 ∨ e.moves < 8 →
          ∃ t e', exec (.learnRequestApply q) s = .next t ∧ t.macAt q pos = some e' ∧ e'.port = r.port ∧ e'.hit = e.hit ∧
            e'.win = (if e.win = 0 then s.grain + 1 else e.win) ∧ e'.moves = (if e.win = 0 then 1 else e.moves + 1) ∧
            t.reg .FWD_MOVES q = min (s.reg .FWD_MOVES q + 1) (2 ^ 32 - 1) ∧
            t = { s with regs := t.regs, learnQ := rest, mac := t.mac } ∧ t.regsAs s [Reg.key .FWD_MOVES 0 q 0]) ∧
        (e.port ≠ r.port → e.fixed = false → e.lock = false → e.win ≠ 0 → 8 ≤ e.moves →
          ∃ t e', exec (.learnRequestApply q) s = .next t ∧ t.macAt q pos = some e' ∧ e'.port = e.port ∧ e'.lock = true ∧
            e'.lockAt = s.grain ∧ t.reg .FWD_FLAPS q = min (s.reg .FWD_FLAPS q + 1) (2 ^ 32 - 1) ∧
            t.faults = s.faults ++ [s.msg 0x110 0x35 (2 ^ 16 * q + pos)] ∧ t.regsAs s [Reg.key .FWD_FLAPS 0 q 0])) ∧
      (s.macFind q r.vid r.mac = none →
        (∀ pos, s.macFree q r.vid r.mac = some pos → ∃ t, exec (.learnRequestApply q) s = .next t ∧
          t.macAt q pos = some (newEnt r.vid r.mac r.port) ∧ t = { s with learnQ := rest, mac := t.mac } ∧
          (∀ x ∈ t.mac, x.1 ≠ macKey q pos → x ∈ s.mac)) ∧
        (s.macFree q r.vid r.mac = none → ∃ t, exec (.learnRequestApply q) s = .next t ∧ t.mac = s.mac ∧
          t.reg .FWD_INSFAIL q = min (s.reg .FWD_INSFAIL q + 1) (2 ^ 32 - 1) ∧ t.rbit .FWD_STATUS 1 q = true ∧
          t.faults = (if s.rbit .FWD_STATUS 1 q then s.faults else s.faults ++ [s.msg 0x110 0x36 (2 ^ 16 * q)])))) ∧
    (s.learnQ.find? (fun r => r.pipe == q) = none ∨ s.replacing q = true → exec (.learnRequestApply q) s = .next s) ∧
    (∀ pos e, pos < 65536 → s.macAt q pos = some e →
      (let closes := e.win ≠ 0 ∧ e.lock = false ∧ e.win + 1000000000 ≤ s.grain + 1
       (closes → ∃ t, exec (.flapWindowClose q pos) s = .next t ∧ t.macAt q pos = some { e with win := 0, moves := 0 } ∧
        t = { s with mac := t.mac }) ∧ (¬closes → exec (.flapWindowClose q pos) s = .next s)) ∧
      (let ends := e.lock = true ∧ e.lockAt + 1000000000 * s.fld .FWD_FLAP 11 0 q ≤ s.grain
       (ends → ∃ t, exec (.flapHoldExpiry q pos) s = .next t ∧
        t.macAt q pos = some { e with lock := false, win := 0, moves := 0 } ∧ t = { s with mac := t.mac }) ∧
       (¬ends → exec (.flapHoldExpiry q pos) s = .next s)) ∧
      (s.fld .FWD_AGE 19 0 q ≠ 0 → s.replacing q = false → e.fixed = false → (e.hit = true → e.hitAt ≠ s.grain + 1) →
        ∃ t, exec (.ageSweep q pos) s = .next t ∧
        t.macAt q pos = (if e.hit then some { e with hit := false } else none) ∧ t = { s with mac := t.mac }) ∧
      (e.hit = true → e.hitAt = s.grain + 1 → exec (.ageSweep q pos) s = .next s) ∧
      (e.fixed = true → exec (.ageSweep q pos) s = .next s)) ∧
    (∀ pos, pos < 65536 → s.macAt q pos = none ∨ s.fld .FWD_AGE 19 0 q = 0 → exec (.ageSweep q pos) s = .next s)

/-- Table commands and prefixes (R297 to R303): a command begins when none runs, else it is refused; SEARCH gives its
entry or NOKEY, FLUSH_PORT removes the port's entries and counts them, a prefix is inserted, replaced, deleted or
looked up longest first, and each ends with DONE and its code. -/
def Obligations.TableCommands : Prop :=
  ∀ (s : State), s.Sound →
    (∀ q c op, q < 2 → (c, op) ∈ [(Instr.fwdSearch q, 1), (.fwdNext q, 2), (.fwdFlushPort q, 3), (.fwdBulkLoad q, 4)] →
      (s.rbit .FWD_STATUS 31 q = false → ∃ t, exec c s = .next t ∧ t.rbit .FWD_STATUS 31 q = true ∧
        t.rbit .FWD_STATUS 30 q = false ∧ t.nlat .fwdOp q = op + 1 ∧
        (op ≠ 4 ∨ s.rbit .FWD_ARG 24 q 2 = false → t = { s with regs := t.regs, lats := t.lats } ∧
          t.regsAs s [Reg.key .FWD_STATUS 0 q 0])) ∧
      (s.rbit .FWD_STATUS 31 q = true → ∃ t, exec c s = .next t ∧ t.rbit .FWD_STATUS 0 q = true ∧
        t.faults = s.faults ++ [s.msg 0x110 0x02 (Reg.addr .FWD_CMD 0 q 0)] ∧ t = { s with regs := t.regs, faults := t.faults } ∧
        t.regsAs s [Reg.key .FWD_STATUS 0 q 0])) ∧
    (∀ q, q < 2 →
      let ends := fun (err : Nat) (P : State → Prop) => ∃ t, exec (.fwdCmdDone q) s = .next t ∧ t.rbit .FWD_STATUS 31 q = false ∧
        t.rbit .FWD_STATUS 30 q = true ∧ t.fld .FWD_STATUS 15 8 q = err ∧ t.lat .fwdOp q = 0 ∧ t.mode = s.mode ∧ t.memAs s ∧ P t
      let mac := 2 ^ 32 * (s.reg .FWD_ARG q 1 % 2 ^ 16) + s.reg .FWD_ARG q 0
      let vid := bits (s.reg .FWD_ARG q 1) 27 16
      let port := bits (s.reg .FWD_ARG q 2) 2 0
      (∀ pos e, s.lat .fwdOp q = 2 → s.macFind q vid mac = some (pos, e) → e.mac < 2 ^ 48 → e.vid < 4096 → e.port < 8 →
        ends 0 (fun t => t.mac = s.mac ∧ t.reg .FWD_RES q 0 = e.mac % 2 ^ 32 ∧
          t.reg .FWD_RES q 1 = 2 ^ 16 * e.vid + e.mac / 2 ^ 32 ∧ t.reg .FWD_RES q 2 = 2 ^ 8 * b2n e.fixed + e.port)) ∧
      (s.lat .fwdOp q = 2 → s.macFind q vid mac = none → ends 1 (fun t => t.otherRegs s [.FWD_STATUS])) ∧
      (s.lat .fwdOp q = 4 → port < 6 →
        let goes := fun (x : Nat × MacEnt) => x.1 / 65536 = q ∧ x.2.port = port ∧
          (s.rbit .FWD_ARG 8 q 2 = true ∨ x.2.fixed = false)
        ends 0 (fun t => (∀ x, x ∈ t.mac ↔ x ∈ s.mac ∧ ¬goes x) ∧
          t.reg .FWD_RES q 0 = (s.mac.length - t.mac.length) % 2 ^ 32)) ∧
      (s.lat .fwdOp q = 4 → 6 ≤ port → ends 4 (fun t => t.mac = s.mac)) ∧
      (s.lat .fwdOp q = 0 → exec (.fwdCmdDone q) s = .next s)) ∧
    (∀ c op, (c, op) ∈ [(Instr.lpmInsert, 1), (.lpmDelete, 2), (.lpmLookup, 3)] →
      (s.rbit .LPM_STATUS 31 = false → ∃ t, exec c s = .next t ∧ t.rbit .LPM_STATUS 31 = true ∧ t.rbit .LPM_STATUS 30 = false ∧
        t.nlat .lpmOp = op ∧ t = { s with regs := t.regs, lats := t.lats } ∧ t.regsAs s [Reg.key .LPM_STATUS 0 0 0]) ∧
      (s.rbit .LPM_STATUS 31 = true → ∃ t, exec c s = .next t ∧ t.refusedAt s .LPM_CMD 0 .LPM_STATUS 8)) ∧
    (let key := s.lpmKey
     let len := s.fld .LPM_LEN 7 0
     let ok := len ≤ 144 ∧ key % 2 ^ (144 - len) = 0
     let there := ∃ e ∈ s.lpm, e.key = key ∧ e.len = len
     let ends := fun (err : Nat) (P : State → Prop) => ∃ t, exec .lpmCmdDone s = .next t ∧ t.rbit .LPM_STATUS 31 = false ∧
       t.rbit .LPM_STATUS 30 = true ∧ t.fld .LPM_STATUS 7 0 = err ∧ t.lat .lpmOp = 0 ∧
       t = { s with regs := t.regs, lats := t.lats, lpm := t.lpm } ∧ t.otherRegs s [.LPM_STATUS, .LPM_RES] ∧ P t
     (s.lat .lpmOp = 1 → ok → ¬there → s.lpm.length < 4096 → ends 0 (fun t => t.lpm.length = s.lpm.length + 1 ∧
       ∀ e, e ∈ t.lpm ↔ e ∈ s.lpm ∨ e = ⟨key, len, s.fld .LPM_DATA 9 0⟩)) ∧
     (s.lat .lpmOp = 1 → ok → there → ends 0 (fun t => t.lpm.length = s.lpm.length ∧
       (⟨key, len, s.fld .LPM_DATA 9 0⟩ : LpmEnt) ∈ t.lpm)) ∧
     (s.lat .lpmOp = 1 → ok → ¬there → 4096 ≤ s.lpm.length → ends 2 (fun t => t.lpm = s.lpm)) ∧
     (s.lat .lpmOp = 2 → ok → there → ends 0 (fun t => ∀ e, e ∈ t.lpm ↔ e ∈ s.lpm ∧ ¬(e.key = key ∧ e.len = len))) ∧
     (s.lat .lpmOp = 2 → ok → ¬there → ends 3 (fun t => t.lpm = s.lpm)) ∧
     (s.lat .lpmOp = 1 ∨ s.lat .lpmOp = 2 → ¬ok → ends 1 (fun t => t.lpm = s.lpm)) ∧
     (∀ e, s.lat .lpmOp = 3 → s.lpmLookup key = some e → e.len ≤ 144 → e.group < 1024 →
       ends 0 (fun t => t.lpm = s.lpm ∧ t.reg .LPM_RES = 2 ^ 31 + 2 ^ 16 * e.len + e.group)) ∧
     (s.lat .lpmOp = 3 → s.lpmLookup key = none → ends 3 (fun t => t.lpm = s.lpm ∧ t.reg .LPM_RES = 0)) ∧
     (s.lat .lpmOp = 0 → exec .lpmCmdDone s = .next s))

/-- Signalling ports (R284 to R289, R324, R325): a link that comes up or goes down takes its corrections, is reported,
and loses its queue when it goes down; a frame too short or too long, of a wrong FCS or of type 0x8808 is dropped and
counted, and a unicast frame with an entry for a local port goes to that port's queue; the transmitter takes the oldest
frame of the highest queue that may send; port M's transmit ring is drained up to WP. -/
def Obligations.SignallingPorts : Prop :=
  ∀ (s : State) (p : Nat), s.Sound → p < 8 →
    (∀ var, var ≤ 10240 →
      (s.linkUp p = false → s.rbit .SIG_PORT_CFG 31 p = true → s.mode ≠ .boot → s.mode ≠ .sable →
        let kr := s.rbit .SIG_PORT_CFG 28 p = false
        ∃ t, exec (.portLinkChange p true var) s = .next t ∧ t.linkUp p = true ∧
          t.reg .SIG_PORT_STATUS p = (if kr ∧ s.rbit .SIG_PORT_CFG 27 p = true then 7 else 3) ∧
          t.reg .PTP_PORT_TXC p = (if kr then 38400 else 36200) ∧ t.reg .PTP_PORT_RXC p = (if kr then 118200 else 114600) ∧
          t.reg .PTP_PORT_VAR p = var ∧ t.faults = s.faults ++ [s.msg 0x10F 0x34 (2 ^ 8 + p)] ∧ t.txq = s.txq ∧
          t.regsAs s [Reg.key .SIG_PORT_STATUS 0 p 0, Reg.key .PTP_PORT_TXC 0 p 0, Reg.key .PTP_PORT_RXC 0 p 0,
            Reg.key .PTP_PORT_VAR 0 p 0]) ∧
      (s.linkUp p = true → ∃ t, exec (.portLinkChange p false var) s = .next t ∧ t.linkUp p = false ∧
        t.reg .PTP_PORT_TXC p = 0 ∧ t.reg .PTP_PORT_RXC p = 0 ∧ t.txq = s.txq.filter (fun f => f.port != p) ∧
        t.faults = s.faults ++ [s.msg 0x10F 0x34 p] ∧
        t.otherRegs s [.SIG_PORT_STATUS, .PTP_PORT_TXC, .PTP_PORT_RXC, .SHP_QDROP]) ∧
      (s.linkUp p = false → exec (.portLinkChange p false var) s = .next s) ∧
      (s.rbit .SIG_PORT_CFG 31 p = false ∨ s.mode = .boot ∨ s.mode = .sable ∨ s.linkUp p = true →
        exec (.portLinkChange p true var) s = .next s)) ∧
    (∀ bs st cw unc good, 14 ≤ bs.length → bs.length ≤ 16384 → st < 2 ^ 112 →
      let c := Instr.frameReceive p ⟨bs, good⟩ st cw unc
      (s.linkUp p = false → exec c s = .next s) ∧
      (s.linkUp p = true →
        good = false ∨ frameLen bs < 64 ∨ s.fld .SIG_PORT_CFG 13 0 p < frameLen bs ∨ etherType bs = 0x8808 →
        ∃ t, exec c s = .next t ∧ t.reg .SIG_PORT_RX_DROP p = min (s.reg .SIG_PORT_RX_DROP p + 1) (2 ^ 32 - 1) ∧
          t.reg .SIG_PORT_FEC_CW p = min (s.reg .SIG_PORT_FEC_CW p + cw) (2 ^ 32 - 1) ∧
          t.reg .SIG_PORT_FEC_UNC p = min (s.reg .SIG_PORT_FEC_UNC p + unc) (2 ^ 32 - 1) ∧ t = { s with regs := t.regs } ∧
          t.regsAs s [Reg.key .SIG_PORT_RX_DROP 0 p 0, Reg.key .SIG_PORT_FEC_CW 0 p 0, Reg.key .SIG_PORT_FEC_UNC 0 p 0]) ∧
      (good = true → s.linkUp p = true → 64 ≤ frameLen bs → frameLen bs ≤ s.fld .SIG_PORT_CFG 13 0 p → etherType bs ≠ 0x8808 →
        s.rbit .POL_MAP 31 p (s.frameClass bs) = false → isPtp bs = false → dstMac bs ≠ s.selfMac →
        (dstMac bs < 0x0180C2000000 ∨ 0x0180C200000F < dstMac bs) → isGroup (srcMac bs) = false →
        s.rbit .SIG_PORT_CFG 30 p = true → isGroup (dstMac bs) = false →
        let q := p / 4
        let vid := s.frameVid ⟨p % 4, some p⟩ bs
        let s1 := ((s.fecCount p cw unc).bulkAdvance q).learn q vid (srcMac bs) (p % 4)
        ∀ pos e, s1.macFind q vid (dstMac bs) = some (pos, e) → e.port < 4 → e.port ≠ p % 4 →
          let out := 4 * q + e.port
          let n := s.queueOf out bs
          s.rbit .SIG_PORT_CFG 30 out = true → s.linkUp out = true →
          bytesHeld ((s.txq.filter (fun f => f.port == out)).filter (fun f => f.queue == n)) + frameLen bs ≤
            1024 * s.fld .SHP_QLIM 8 0 out n →
          bytesHeld (s.txq.filter (fun f => f.port == out)) + frameLen bs ≤ 384 * 1024 →
          ∃ t, exec c s = .next t ∧ t.txq = s.txq ++ [⟨out, n, bs⟩] ∧ t = { s1 with txq := t.txq })) ∧
    (∀ st, st < 2 ^ 112 →
      (s.nextQueue p = none → exec (.egressFrameStart p st) s = .next s) ∧
      (∀ q f, s.nextQueue p = some q → s.txq.find? (fun f => f.port == p && f.queue == q) = some f →
        ptpEvent f.bytes = none →
        ∃ t, exec (.egressFrameStart p st) s = .next t ∧ t.sent = some f ∧ t.txq = dropFrame p q s.txq ∧
          (bit (s.nlat .shpQ p q) 31 = false → t = { s with txq := t.txq, sent := t.sent }) ∧
          (bit (s.nlat .shpQ p q) 31 = true →
            t.lat .shpC p q = s.lat .shpC p q - ((frameLen f.bytes + s.fld .SHP_PORT_CFG 4 0 p) * 64 : Nat) ∧
            t.reg .SHP_CREDIT p q = ux 32 (t.lat .shpC p q) ∧ t.mode = s.mode ∧ t.faults = s.faults ∧ t.memAs s ∧
            t.regsAs s [Reg.key .SHP_CREDIT 0 p q]))) ∧
    (∀ wp, wp < 64 →
      (s.rbit .SIG_M_TX_CTRL 31 = false → ∃ t, exec (.portMTxSubmit wp) s = .next t ∧ t.reg .SIG_M_TX_WP = wp ∧
        t = { s with regs := t.regs } ∧ t.regsAs s [Reg.key .SIG_M_TX_WP 0 0 0]) ∧
      (s.rbit .SIG_M_TX_CTRL 31 = true → s.fld .SIG_M_TX_CTRL 2 0 ≤ 6 →
        ∃ t, exec (.portMTxSubmit wp) s = .next t ∧ t.reg .SIG_M_TX_WP = wp ∧
          t.reg .SIG_M_TX_RP % ringElems (s.reg .SIG_M_TX_CTRL) = wp % ringElems (s.reg .SIG_M_TX_CTRL) ∧ t.mode = s.mode))

/-- Traffic (R316 to R335): at a traffic tick a two-rate meter's buckets fill up to their sizes and a queue without a
shaper has no credit; at a move tick an input port's buckets fill; a meter whose settings allow it is enabled with
full buckets at the next tick, else it is refused; a shaper word is kept for the next tick; a move takes its colour
from the buckets, is admitted or not, and is charged by CHARGE and not by PEEK; a port takes a profile that is
whole. -/
def Obligations.TrafficMeters : Prop :=
  ∀ s : State, s.Sound →
    (∃ t, exec .trafficTick s = .next t ∧ t = { s with regs := t.regs, lats := t.lats } ∧
      t.otherRegs s [.POL_TC, .POL_TP, .SHP_CREDIT] ∧
      (∀ m, m < 256 → s.rbit .POL_CFG 31 m = true → s.flag .polNew m = true →
        t.nlat .polTc m = 2 ^ 16 * s.reg .POL_CBS m ∧ t.nlat .polTp m = 2 ^ 16 * s.reg .POL_PBS m ∧ t.flag .polNew m = false) ∧
      (∀ m, m < 256 → s.rbit .POL_CFG 31 m = true → s.flag .polNew m = false → s.rbit .POL_CFG 30 m = true →
        t.nlat .polTc m = min (s.nlat .polTc m + s.reg .POL_CIR m) (2 ^ 16 * s.reg .POL_CBS m) ∧
        t.nlat .polTp m = min (s.nlat .polTp m + s.reg .POL_PIR m) (2 ^ 16 * s.reg .POL_PBS m) ∧
        t.reg .POL_TC m = t.nlat .polTc m / 2 ^ 16 % 2 ^ 32) ∧
      (∀ p q, p < 8 → q < 8 → t.nlat .shpQ p q = s.reg .SHP_Q p q ∧
        (s.rbit .SHP_Q 31 p q = false → t.reg .SHP_CREDIT p q = 0 ∧ t.lat .shpC p q = 0))) ∧
    (∃ t, exec .moveTick s = .next t ∧ t = { s with regs := t.regs, lats := t.lats } ∧ t.otherRegs s [.MOVE_TC, .MOVE_TP] ∧
      ∀ i, i < 1024 → s.nlat .moveProf i = s.fld .MOVE_PORT 3 0 i →
        let k := s.fld .MOVE_PORT 3 0 i
        t.reg .MOVE_TC i = min (s.reg .MOVE_TC i + s.reg .MOVE_CIR k) (2 ^ 16 * s.fld .MOVE_CBS 15 0 k) ∧
        t.reg .MOVE_TP i = min (s.reg .MOVE_TP i + s.reg .MOVE_PIR k) (2 ^ 16 * s.fld .MOVE_PBS 15 0 k)) ∧
    (∀ m v, m < 256 → 2 ^ 31 ≤ v → v < 2 ^ 32 →
      let w := v &&& 0xFF00001F
      let legal := bits w 27 26 < 2 ∧ bits w 25 24 < 2 ∧ s.meterOk m w = true
      (s.rbit .POL_CFG 31 m = false → legal → ∃ t, exec (.meterEnable m v) s = .next t ∧ t.reg .POL_CFG m = w ∧
        t.flag .polNew m = true ∧ t = { s with regs := t.regs, lats := t.lats } ∧ t.regsAs s [Reg.key .POL_CFG 0 m 0]) ∧
      (s.rbit .POL_CFG 31 m = false → ¬legal → ∃ t, exec (.meterEnable m v) s = .next t ∧ t.rbit .POL_STATUS 0 = true ∧
        t.faults = s.faults ++ [s.msg 0x112 0x02 (Reg.addr .POL_CFG 0 m 0)] ∧ t = { s with regs := t.regs, faults := t.faults } ∧
        t.regsAs s [Reg.key .POL_STATUS 0 0 0])) ∧
    (∀ p q v, p < 8 → q < 8 → v < 2 ^ 32 → ∃ t, exec (.shaperUpdate p q v) s = .next t ∧ t.reg .SHP_Q p q = v ∧
      t = { s with regs := t.regs } ∧ t.regsAs s [Reg.key .SHP_Q 0 p q]) ∧
    (∀ i wear, i < 1024 →
      let tc := s.reg .MOVE_TC i
      let tp := s.reg .MOVE_TP i
      let green := 2 ^ 16 ≤ tc ∧ 2 ^ 16 ≤ tp
      let yellow := tc < 2 ^ 16 ∧ 2 ^ 16 ≤ tp
      let goes := green ∨ (yellow ∧ wear = true ∧ s.throttled = false)
      let res := 2 ^ 31 + (if goes then 2 ^ 30 else 0) + (if green then 0 else if yellow then 1 else 2)
      (∃ t, exec (.movePeek i wear) s = .next t ∧ t.reg .MOVE_RES = res ∧ t.rbit .MOVE_STATUS 1 = true ∧
        t = { s with regs := t.regs } ∧ t.otherRegs s [.MOVE_RES, .MOVE_STATUS]) ∧
      (∃ t, exec (.moveCharge i wear) s = .next t ∧ t.reg .MOVE_RES = res ∧ t.rbit .MOVE_STATUS 1 = true ∧
        t.reg .MOVE_TP i = (if goes then tp - 2 ^ 16 else tp) ∧ t.reg .MOVE_TC i = (if green then tc - 2 ^ 16 else tc) ∧
        (green → t.reg .MOVE_CNT_G = min (s.reg .MOVE_CNT_G + 1) (2 ^ 32 - 1)) ∧
        (tp < 2 ^ 16 → t.reg .MOVE_CNT_R = min (s.reg .MOVE_CNT_R + 1) (2 ^ 32 - 1)) ∧
        (yellow → goes → t.reg .MOVE_CNT_Y = min (s.reg .MOVE_CNT_Y + 1) (2 ^ 32 - 1)) ∧
        (yellow → wear = false → t.reg .MOVE_CNT_WEAR = min (s.reg .MOVE_CNT_WEAR + 1) (2 ^ 32 - 1)) ∧
        t = { s with regs := t.regs } ∧ t.otherRegs s [.MOVE_RES, .MOVE_STATUS, .MOVE_TC, .MOVE_TP, .MOVE_CNT_G, .MOVE_CNT_Y,
          .MOVE_CNT_R, .MOVE_CNT_WEAR, .MOVE_CNT_THR] ∧
        (∀ j, j ≠ i → j < 1024 → t.reg .MOVE_TC j = s.reg .MOVE_TC j ∧ t.reg .MOVE_TP j = s.reg .MOVE_TP j))) ∧
    (∀ i v, i < 1024 → v < 2 ^ 32 →
      let k := v % 16
      let whole := s.reg .MOVE_CIR k ≤ s.reg .MOVE_PIR k ∧ s.fld .MOVE_CBS 15 0 k ≠ 0 ∧ s.fld .MOVE_PBS 15 0 k ≠ 0
      (whole → ∃ t, exec (.movePortWrite i v) s = .next t ∧ t.reg .MOVE_PORT i = k ∧ t = { s with regs := t.regs } ∧
        t.regsAs s [Reg.key .MOVE_PORT 0 i 0]) ∧
      (¬whole → ∃ t, exec (.movePortWrite i v) s = .next t ∧ t.rbit .MOVE_STATUS 0 = true ∧
        t.faults = s.faults ++ [s.msg 0x114 0x02 (Reg.addr .MOVE_PORT 0 i 0)] ∧ t = { s with regs := t.regs, faults := t.faults } ∧
        t.regsAs s [Reg.key .MOVE_STATUS 0 0 0]))

/-- Circuit requests (R304 to R312): the oldest request of its kind is served in STATIC: a SETUP whose lookups, ports,
solver, cells and moves all pass, and a RELEASE whose inputs are live, ask for the commit of the target bank with
their circuits; one without a group, or without a configuration in force, is refused; a QUERY is answered out of the
port it came by; out of STATIC a SETUP or RELEASE is refused; a request whose commits were suppressed three times is
given up. -/
def Obligations.CircuitRequests : Prop :=
  ∀ (s : State) (r : CircReq) (rest : List CircReq), s.Sound → s.reqQ = r :: rest → s.eng = none → reqOk r.bytes = true →
    s.reqToFirmware = false →
    let s0 := { s with reqQ := rest }
    let refusal := fun (c : Instr) => ∃ t, exec c s = .next t ∧ t.reqQ = rest ∧ t.eng = none ∧
      t.reg .SIG_REQ_REFUSALS = min (s.reg .SIG_REQ_REFUSALS + 1) (2 ^ 32 - 1) ∧ t.mode = s.mode ∧ t.memAs s ∧
      t.otherRegs s [.SIG_REQ_REFUSALS, .SHP_QDROP]
    let asked := fun (t : State) (circs : List (Nat × Nat)) (tgt : Nat) => (∃ e, t.eng = some e ∧ e.req = r ∧
      e.phase = .commit ∧ e.circs = circs ∧ e.tgt = tgt ∧ e.supp = 0) ∧ t.nlat .cfgReq = tgt + 1 ∧ t.rbit .CFG_STATUS 4 = true
    (s.mode = .static → s.armed = false → reqOp r.bytes = 1 → ∀ src, s.inForceCfg = some src →
      (∀ k, s0.lookups r.bytes (reqN r.bytes) 0 [] = .inr k → refusal .circuitSetup) ∧
      (∀ groups circs, s0.lookups r.bytes (reqN r.bytes) 0 [] = .inl groups →
        s0.choosePorts r.bytes groups 0 ((s0.liveCircuits src).map (·.1)) ((s0.liveCircuits src).map (·.2.1)) [] = .inl circs →
        s0.engTarget < 512 → ∃ t, exec .circuitSetup s = .next t ∧ t.reqQ = rest ∧ t.mode = s.mode ∧
          (∀ s1 ch s2, s0.addAll s0.engTarget circs 0 src = (none, s1) →
            (s1.cellsDiffer src (false, s0.engTarget)).any (fun c => s1.tileHold (c / 64)) = false →
            s1.meterAll src (false, s0.engTarget) circs 0 [] = (none, ch, s2) → reqGuard r.bytes = false →
            ((s2.chargeAll circs).checkBank s0.engTarget).1 = true → (s2.chargeAll circs).rbit .CFG_STATUS 4 = false →
            asked t circs s0.engTarget))) ∧
    (s.mode = .static → s.armed = false → reqOp r.bytes = 2 →
      (s.inForceCfg = none → refusal .circuitRelease) ∧
      (∀ src, s.inForceCfg = some src → ∃ t, exec .circuitRelease s = .next t ∧ t.reqQ = rest ∧ t.mode = s.mode ∧
        (∀ circs s1, s0.dropAll r.bytes s0.engTarget (reqN r.bytes) 0 src [] = (none, circs, s1) →
          (s1.checkBank s0.engTarget).1 = true → s1.rbit .CFG_STATUS 4 = false → asked t circs s0.engTarget))) ∧
    (s.mode ≠ .static → s.mode ≠ .slotted →
      (reqOp r.bytes = 1 → refusal .circuitSetup) ∧ (reqOp r.bytes = 2 → refusal .circuitRelease)) ∧
    (reqOp r.bytes = 3 → s.mode ≠ .boot → s.mode ≠ .sable → s.linkUp r.port = true →
      s.txq.all (fun f => f.port != r.port) = true → r.port < 8 → 32 ≤ s.fld .SHP_QLIM 8 0 r.port 7 →
      ∃ t f, exec .circuitQuery s = .next t ∧ t = { s with reqQ := rest, txq := s.txq ++ [f] } ∧ f.port = r.port ∧ f.queue = 7 ∧
        f.bytes.take 6 = slice r.bytes 6 6 ∧ 60 ≤ f.bytes.length) ∧
    (reqOp r.bytes ≠ 1 → exec .circuitSetup s = .next s) ∧ (reqOp r.bytes ≠ 2 → exec .circuitRelease s = .next s) ∧
    (reqOp r.bytes ≠ 3 → exec .circuitQuery s = .next s) ∧ exec .engineCommitRetry s = .next s ∧
    (∀ e : EngReq, e.phase = .retry → s.rbit .CFG_STATUS 4 = false → e.supp < 3 →
      s.inForceCfg = some (e.srcDram, e.srcIdx) → (s.checkBank e.tgt).1 = true → s.mode = .static → s.armed = false →
      ∃ t, exec .engineCommitRetry { s with eng := some e } = .next t ∧ t.eng = some { e with phase := .commit } ∧
        t.nlat .cfgReq = e.tgt + 1 ∧ t.rbit .CFG_STATUS 4 = true ∧ t.mode = s.mode) ∧
    (∀ e : EngReq, e.phase = .retry → s.rbit .CFG_STATUS 4 = false → 3 ≤ e.supp →
      ∃ t, exec .engineCommitRetry { s with eng := some e } = .next t ∧ t.eng = none ∧
        t.reg .SIG_REQ_REFUSALS = min (s.reg .SIG_REQ_REFUSALS + 1) (2 ^ 32 - 1) ∧
        t.otherRegs s [.SIG_REQ_REFUSALS, .SHP_QDROP])
end

