-- ==== Sys2Proof/Laws/Bits.lean ====
section
/-! SUPPORT. Laws of bit fields: what a bit or a field of a word reads after a field has been replaced. -/
set_option Elab.async false
namespace Sys2Proof.Machine

@[simp] theorem computed_eq {α : Type} (n : Nat) (f : Nat → α) : computed n f = f n := by
  cases n <;> rfl

/-- A bit of a word of which a field has been replaced. -/
theorem testBit_setBits (n hi lo v j : Nat) (h : lo ≤ hi + 1) :
    (setBits n hi lo v).testBit j = if j < lo then n.testBit j else if j ≤ hi then v.testBit (j - lo) else n.testBit j := by
  have e : setBits n hi lo v = 2 ^ lo * (2 ^ (hi + 1 - lo) * (n >>> (hi + 1)) + v % 2 ^ (hi + 1 - lo)) + n % 2 ^ lo := by
    unfold setBits
    have p : 2 ^ (hi + 1) = 2 ^ lo * 2 ^ (hi + 1 - lo) := by rw [← Nat.pow_add]; congr 1; omega
    rw [Nat.shiftLeft_eq, Nat.shiftLeft_eq, p, Nat.mul_add, Nat.mul_comm (n >>> _), Nat.mul_assoc, Nat.mul_comm (v % _)]
  rw [e, Nat.testBit_two_pow_mul_add _ (Nat.mod_lt _ (Nat.two_pow_pos _)),
    Nat.testBit_two_pow_mul_add _ (Nat.mod_lt _ (Nat.two_pow_pos _))]
  by_cases c : j < lo
  · rw [if_pos c, if_pos c, Nat.testBit_mod_two_pow]; simp [c]
  · rw [if_neg c, if_neg c]
    by_cases d : j ≤ hi
    · rw [if_pos d, if_pos (by omega), Nat.testBit_mod_two_pow]
      have : j - lo < hi + 1 - lo := by omega
      simp [this]
    · rw [if_neg d, if_neg (by omega), Nat.testBit_shiftRight]
      congr 1; omega

/-- The bit written reads what was written; the others read what they read. -/
theorem bit_setBit (n i j : Nat) (b : Bool) : bit (setBit n i b) j = if j = i then b else bit n j := by
  unfold bit setBit
  rw [testBit_setBits _ _ _ _ _ (by omega)]
  by_cases c : j < i
  · rw [if_pos c, if_neg (by omega)]
  · rw [if_neg c]
    by_cases d : j = i
    · subst d; rw [if_pos (Nat.le_refl _), if_pos rfl, Nat.sub_self]; cases b <;> rfl
    · rw [if_neg (by omega), if_neg d]

/-- A field reads what was written to it. -/
theorem bits_setBits (n hi lo v : Nat) (h : lo ≤ hi + 1) : bits (setBits n hi lo v) hi lo = v % 2 ^ (hi + 1 - lo) := by
  apply Nat.eq_of_testBit_eq
  intro j
  unfold bits
  rw [Nat.testBit_mod_two_pow, Nat.testBit_mod_two_pow, Nat.testBit_shiftRight, testBit_setBits _ _ _ _ _ h]
  by_cases c : j < hi + 1 - lo
  · rw [if_neg (by omega), if_pos (by omega), Nat.add_sub_cancel_left]
  · simp [c]

/-- A word of 32 bits keeps its width when a field within it is replaced. -/
theorem setBits_lt {n hi lo v w : Nat} (hn : n < 2 ^ w) (h : lo ≤ hi + 1) (hh : hi < w) : setBits n hi lo v < 2 ^ w := by
  apply Nat.lt_pow_two_of_testBit
  intro j hj
  rw [testBit_setBits _ _ _ _ _ h, if_neg (by omega), if_neg (by omega)]
  exact Nat.testBit_lt_two_pow (Nat.lt_of_lt_of_le hn (Nat.pow_le_pow_right (by decide) hj))

theorem setBit_lt {n i w : Nat} {b : Bool} (hn : n < 2 ^ w) (hi : i < w) : setBit n i b < 2 ^ w :=
  setBits_lt hn (by omega) hi

/-- A bit of the low part of a word. -/
theorem bit_mod (n w j : Nat) (h : j < w) : bit (n % 2 ^ w) j = bit n j := by
  unfold bit
  rw [Nat.testBit_mod_two_pow]; simp [h]

/-- Two words of w bits with equal bits are equal. -/
theorem eq_of_bit {a b w : Nat} (ha : a < 2 ^ w) (hb : b < 2 ^ w) (h : ∀ i < w, bit a i = bit b i) : a = b := by
  apply Nat.eq_of_testBit_eq
  intro i
  by_cases c : i < w
  · exact h i c
  · rw [Nat.testBit_lt_two_pow (Nat.lt_of_lt_of_le ha (Nat.pow_le_pow_right (by decide) (Nat.le_of_not_lt c))),
      Nat.testBit_lt_two_pow (Nat.lt_of_lt_of_le hb (Nat.pow_le_pow_right (by decide) (Nat.le_of_not_lt c)))]

end Sys2Proof.Machine
end

