-- ==== Sys2Proof/Laws/Flight.lean ====
section
/-! SUPPORT. The lengths of the flight record and its sections (R412): what a writer of the record must have room for. -/
namespace Sys2Proof.Machine

theorem leBytes_length (n v : Nat) : (leBytes n v).length = n := by
  induction n generalizing v with
  | zero => rfl
  | succ n ih => simp [leBytes, ih]

theorem State.flightWords_length (s : State) (a n : Nat) : (s.flightWords a n).1.length = n := by
  induction n generalizing s a with
  | zero => rfl
  | succ n ih => simp [State.flightWords, ih]

theorem flatMap_leBytes_length (l : List Nat) : (l.flatMap (leBytes 4)).length = 4 * l.length := by
  induction l with
  | nil => rfl
  | cons x l ih => simp [leBytes_length, ih]; omega

theorem State.flightRuns_length (s : State) (rs : List (Nat × Nat)) :
    (s.flightRuns rs).1.length = 4 * (rs.map (·.2)).sum := by
  induction rs generalizing s with
  | nil => rfl
  | cons x rs ih =>
    simp only [State.flightRuns, List.length_append, ih, flatMap_leBytes_length, State.flightWords_length, List.map_cons,
      List.sum_cons]
    omega

theorem placeSecs_length (room : Nat) (o : Nat) (xs : List FlightSec) : (placeSecs room o xs).length = xs.length := by
  induction xs generalizing o with
  | nil => rfl
  | cons x xs ih => simp [placeSecs, ih]

theorem secDesc_length (x : FlightSec × Nat × Bool) : (secDesc x).length = 16 := by simp [secDesc, leBytes_length]

theorem flatMap_length_const {α β : Type} (f : α → List β) (n : Nat) (h : ∀ x, (f x).length = n) (l : List α) :
    (l.flatMap f).length = n * l.length := by
  induction l with
  | nil => rfl
  | cons x l ih => simp [h, ih]; rw [Nat.mul_add]; omega

theorem placeSecs_bytes (room o : Nat) (xs : List FlightSec) :
    ((placeSecs room o xs).flatMap (fun x => x.1.bytes)).length ≤ (xs.map (fun x => x.bytes.length)).sum := by
  induction xs generalizing o with
  | nil => simp [placeSecs]
  | cons x xs ih =>
    simp only [placeSecs, List.flatMap_cons, List.length_append, List.map_cons, List.sum_cons, List.length_take]
    exact Nat.add_le_add (Nat.min_le_right _ _) (ih _)

theorem State.flightRecord_length (s : State) (room : Nat) (xs : List FlightSec) (h : xs.length ≤ 12) :
    (s.flightRecord room xs).length ≤ 256 + (xs.map (fun x => x.bytes.length)).sum := by
  have hb := placeSecs_bytes room 256 xs
  have hh : (s.flightHead (placeSecs room 256 xs)).length = 256 := by
    simp only [State.flightHead, List.length_append, leBytes_length, List.length_replicate,
      flatMap_length_const _ 4 (fun _ => leBytes_length 4 _), flatMap_length_const _ 16 secDesc_length, placeSecs_length, List.length_range]
    omega
  simp only [State.flightRecord, List.length_append, hh]
  omega

theorem State.flightLog_length (s : State) : s.flightLog.length = 32768 := by
  have h (k : Nat) : ((List.range 8).flatMap (fun w => leBytes 4 (s.reg .FLT_LOG k w))).length = 32 := by
    rw [flatMap_length_const _ 4 (fun _ => leBytes_length 4 _)]; simp
  simp only [State.flightLog]
  rw [flatMap_length_const _ 32 (fun _ => h _)]; simp

theorem State.flightSlots_length (s : State) : s.flightSlots.length = 4096 := by
  have h (n : Nat) : ((List.range 4).flatMap (fun w => leBytes 4 (s.histWord n w))).length = 16 := by
    rw [flatMap_length_const _ 4 (fun _ => leBytes_length 4 _)]; simp
  simp only [State.flightSlots]
  rw [flatMap_length_const _ 16 h]; simp

theorem State.flightSamples_length (s : State) (t : Nat) : (s.flightSamples t).length = 16384 := by
  simp only [State.flightSamples]
  rw [flatMap_length_const _ 2 (fun _ => leBytes_length 2 _)]; simp

theorem State.flightSecs_length (s : State) (rs : List (Nat × Nat)) : (s.flightSecs rs).1.length = 5 := rfl

theorem State.tiles_length (s : State) : s.tiles.length ≤ 176 := by
  have h := List.length_filter_le s.inUse (List.range 176)
  rw [List.length_range] at h
  exact h

theorem sum_const {α : Type} (f : α → Nat) (n : Nat) (h : ∀ x, f x = n) (l : List α) : (l.map f).sum = n * l.length := by
  induction l with
  | nil => rfl
  | cons x l ih => simp only [List.map_cons, List.sum_cons, h, ih, List.length_cons, Nat.mul_add]; omega

theorem tileRuns_sum (l : List Nat) : ((l.flatMap tileRuns).map (·.2)).sum = 9216 * l.length := by
  induction l with
  | nil => rfl
  | cons x l ih =>
    simp only [List.flatMap_cons, List.map_append, List.sum_append, ih, List.length_cons, Nat.mul_add]
    simp only [tileRuns, List.map_cons, List.map_nil, List.sum_cons, List.sum_nil]
    omega

theorem globalRuns_sum : (globalRuns.map (·.2)).sum = 26624 := by
  simp only [globalRuns, List.map_map]
  exact (sum_const _ 1024 (fun _ => rfl) (List.range 26)).trans (by rw [List.length_range])

theorem State.flightSamples_all (s : State) (l : List Nat) : (l.flatMap s.flightSamples).length = 16384 * l.length :=
  flatMap_length_const s.flightSamples 16384 s.flightSamples_length l

/-- The sections never take more than the log, the history, the runs and 176 tiles. -/
theorem State.flightSecs_bytes (s : State) (rs : List (Nat × Nat)) :
    ((s.flightSecs rs).1.map (fun x => x.bytes.length)).sum ≤ 36864 + 4 * (rs.map (·.2)).sum + 53248 * 176 := by
  have h1 := s.flightLog_length
  have h2 := s.flightSlots_length
  have h3 := s.flightRuns_length rs
  have hr := State.tiles_length (s.flightRuns rs).2
  have h4 := (s.flightRuns rs).2.flightRuns_length ((s.flightRuns rs).2.tiles.flatMap tileRuns)
  rw [tileRuns_sum] at h4
  have hu := State.tiles_length ((s.flightRuns rs).2.flightRuns ((s.flightRuns rs).2.tiles.flatMap tileRuns)).2
  have h5 := State.flightSamples_all ((s.flightRuns rs).2.flightRuns ((s.flightRuns rs).2.tiles.flatMap tileRuns)).2
    ((s.flightRuns rs).2.flightRuns ((s.flightRuns rs).2.tiles.flatMap tileRuns)).2.tiles
  simp only [State.flightSecs, List.map_cons, List.map_nil, List.sum_cons, List.sum_nil, h1, h2, h3, h4, h5]
  omega

/-- The record never takes more than its head, the log, the history, the global blocks and 176 tiles. -/
theorem State.flightRecord_bound (s t : State) (room : Nat) :
    (t.flightRecord room (s.flightSecs globalRuns).1).length ≤ 9515264 := by
  have h := t.flightRecord_length room (s.flightSecs globalRuns).1 (by rw [State.flightSecs_length]; omega)
  have hb := s.flightSecs_bytes globalRuns
  rw [globalRuns_sum] at hb
  omega

end Sys2Proof.Machine
end

