-- ==== Sys2Proof/Laws/Store.lean ====
section
/-! SUPPORT. Laws of the sparse stores: reading after writing, and the canonical form. -/
set_option Elab.async false
namespace Sys2Proof.Machine

variable {α : Type}

/-! ### The canonical form -/

theorem spWfFrom_mono [DecidableEq α] {d : α} {l : List (Nat × α)} {a b : Nat} (h : spWfFrom d b l = true) (hab : a ≤ b) :
    spWfFrom d a l = true := by
  cases l with
  | nil => rfl
  | cons x r =>
    simp only [spWfFrom, Bool.and_eq_true, decide_eq_true_eq] at h ⊢
    exact ⟨⟨Nat.le_trans hab h.1.1, h.1.2⟩, h.2⟩

theorem spDrop_wf [DecidableEq α] {d : α} {l : List (Nat × α)} {k : Nat} : ∀ {lo}, spWfFrom d lo l = true →
    spWfFrom d (k + 1) (spDrop l k) = true := by
  induction l with
  | nil => intro lo _; rfl
  | cons x r ih =>
    intro lo h
    simp only [spWfFrom, Bool.and_eq_true, decide_eq_true_eq] at h
    simp only [spDrop]
    split
    · exact ih h.2
    · rename_i hk
      simp only [spWfFrom, Bool.and_eq_true, decide_eq_true_eq]
      exact ⟨⟨by omega, h.1.2⟩, h.2⟩

theorem spPut_wfFrom [DecidableEq α] {d : α} {l : List (Nat × α)} {k : Nat} {v : α} : ∀ {lo}, spWfFrom d lo l = true → lo ≤ k →
    spWfFrom d lo (spPut d l k v) = true := by
  induction l with
  | nil =>
    intro lo _ hk
    simp only [spPut]
    split
    · rfl
    · rename_i hv
      simp [spWfFrom, hk, hv]
  | cons x r ih =>
    intro lo h hk
    obtain ⟨k0, v0⟩ := x
    have hd := spDrop_wf (k := k) h
    simp only [spWfFrom, Bool.and_eq_true, decide_eq_true_eq] at h
    simp only [spPut]
    split
    · simp only [spWfFrom, Bool.and_eq_true, decide_eq_true_eq]
      exact ⟨h.1, ih h.2 (by omega)⟩
    · split
      · exact spWfFrom_mono hd (by omega)
      · rename_i hv
        simp only [spWfFrom, Bool.and_eq_true, decide_eq_true_eq]
        exact ⟨⟨hk, hv⟩, hd⟩

/-- Writing a key keeps the canonical form. -/
theorem spPut_wf [DecidableEq α] {d : α} {l : List (Nat × α)} (k : Nat) (v : α) (h : spWf d l = true) :
    spWf d (spPut d l k v) = true := spPut_wfFrom h (Nat.zero_le k)

theorem filter_wfFrom [DecidableEq α] {d : α} (p : Nat × α → Bool) {l : List (Nat × α)} : ∀ {lo}, spWfFrom d lo l = true →
    spWfFrom d lo (l.filter p) = true := by
  induction l with
  | nil => intro lo _; rfl
  | cons x r ih =>
    intro lo h
    simp only [spWfFrom, Bool.and_eq_true, decide_eq_true_eq] at h
    simp only [List.filter_cons]
    split
    · simp only [spWfFrom, Bool.and_eq_true, decide_eq_true_eq]
      exact ⟨h.1, ih h.2⟩
    · exact spWfFrom_mono (ih h.2) (by omega)

/-- Leaving entries out keeps the canonical form. -/
theorem filter_wf [DecidableEq α] {d : α} (p : Nat × α → Bool) {l : List (Nat × α)} (h : spWf d l = true) :
    spWf d (l.filter p) = true := filter_wfFrom p h

theorem spRisingFrom_mono {l : List (Nat × α)} {a b : Nat} (h : spRisingFrom b l = true) (hab : a ≤ b) :
    spRisingFrom a l = true := by
  cases l with
  | nil => rfl
  | cons x r =>
    simp only [spRisingFrom, Bool.and_eq_true, decide_eq_true_eq] at h ⊢
    exact ⟨Nat.le_trans hab h.1, h.2⟩

theorem spDrop_rising {l : List (Nat × α)} {k : Nat} : ∀ {lo}, spRisingFrom lo l = true →
    spRisingFrom (k + 1) (spDrop l k) = true := by
  induction l with
  | nil => intro lo _; rfl
  | cons x r ih =>
    intro lo h
    simp only [spRisingFrom, Bool.and_eq_true, decide_eq_true_eq] at h
    simp only [spDrop]
    split
    · exact ih h.2
    · rename_i hk
      simp only [spRisingFrom, Bool.and_eq_true, decide_eq_true_eq]
      exact ⟨by omega, h.2⟩

theorem spSet_risingFrom {l : List (Nat × α)} {k : Nat} {v : α} : ∀ {lo}, spRisingFrom lo l = true → lo ≤ k →
    spRisingFrom lo (spSet l k v) = true := by
  induction l with
  | nil => intro lo _ hk; simp [spSet, spRisingFrom, hk]
  | cons x r ih =>
    intro lo h hk
    obtain ⟨k0, v0⟩ := x
    have hd := spDrop_rising (k := k) h
    simp only [spRisingFrom, Bool.and_eq_true, decide_eq_true_eq] at h
    simp only [spSet]
    split
    · simp only [spRisingFrom, Bool.and_eq_true, decide_eq_true_eq]
      exact ⟨h.1, ih h.2 (by omega)⟩
    · simp only [spRisingFrom, Bool.and_eq_true, decide_eq_true_eq]
      exact ⟨hk, hd⟩

/-- Writing a key keeps the rising order. -/
theorem spSet_rising {l : List (Nat × α)} (k : Nat) (v : α) (h : spRising l = true) : spRising (spSet l k v) = true :=
  spSet_risingFrom h (Nat.zero_le k)

theorem filter_risingFrom (p : Nat × α → Bool) {l : List (Nat × α)} : ∀ {lo}, spRisingFrom lo l = true →
    spRisingFrom lo (l.filter p) = true := by
  induction l with
  | nil => intro lo _; rfl
  | cons x r ih =>
    intro lo h
    simp only [spRisingFrom, Bool.and_eq_true, decide_eq_true_eq] at h
    simp only [List.filter_cons]
    split
    · simp only [spRisingFrom, Bool.and_eq_true, decide_eq_true_eq]
      exact ⟨h.1, ih h.2⟩
    · exact spRisingFrom_mono (ih h.2) (by omega)

/-- Leaving entries out keeps the rising order. -/
theorem filter_rising (p : Nat × α → Bool) {l : List (Nat × α)} (h : spRising l = true) : spRising (l.filter p) = true :=
  filter_risingFrom p h

/-! ### Reading after writing -/

theorem spGet_drop {d : α} {l : List (Nat × α)} {j k : Nat} (h : j < k) : spGet d (spDrop l j) k = spGet d l k := by
  induction l with
  | nil => rfl
  | cons x r ih =>
    obtain ⟨k0, v0⟩ := x
    simp only [spDrop]
    split
    · rename_i hk
      rw [ih]; simp only [spGet]; rw [if_pos (by omega)]
    · rfl

theorem spGet_low [DecidableEq α] {d : α} {l : List (Nat × α)} {lo k : Nat} (hl : spWfFrom d lo l = true) (h : k < lo) :
    spGet d l k = d := by
  cases l with
  | nil => rfl
  | cons x r =>
    obtain ⟨k0, v0⟩ := x
    simp only [spWfFrom, Bool.and_eq_true, decide_eq_true_eq] at hl
    simp only [spGet]
    rw [if_neg (by omega), if_neg (by omega)]

theorem spDrop_wf_low [DecidableEq α] {d : α} {l : List (Nat × α)} {k lo : Nat} (h : spWfFrom d lo l = true) :
    spGet d (spDrop l k) k = d := spGet_low (spDrop_wf h) (Nat.lt_succ_self k)

/-- A key reads what was written to it, in a store in canonical form. -/
theorem spGet_put_same [DecidableEq α] {d : α} {l : List (Nat × α)} (k : Nat) (v : α) (h : spWf d l = true) :
    spGet d (spPut d l k v) k = v := by
  suffices H : ∀ lo, spWfFrom d lo l = true → spGet d (spPut d l k v) k = v from H 0 h
  clear h
  induction l with
  | nil =>
    intro lo _
    simp only [spPut]
    split
    · rename_i hv; simp [spGet, hv]
    · simp [spGet]
  | cons x r ih =>
    intro lo h
    obtain ⟨k0, v0⟩ := x
    have hd := spDrop_wf_low (k := k) h
    simp only [spWfFrom, Bool.and_eq_true, decide_eq_true_eq] at h
    simp only [spPut]
    split
    · rename_i hk
      simp only [spGet]; rw [if_pos hk]; exact ih _ h.2
    · split
      · rename_i hv; rw [hd, hv]
      · simp [spGet]

/-- The other keys read what they read before. -/
theorem spGet_put_other [DecidableEq α] {d : α} {l : List (Nat × α)} {j k : Nat} (v : α) (h : spWf d l = true) (hjk : j ≠ k) :
    spGet d (spPut d l k v) j = spGet d l j := by
  suffices H : ∀ lo, spWfFrom d lo l = true → spGet d (spPut d l k v) j = spGet d l j from H 0 h
  clear h
  induction l with
  | nil =>
    intro lo _
    simp only [spPut]
    split
    · rfl
    · simp only [spGet]; split
      · rfl
      · rw [if_neg (fun h => hjk h.symm)]
  | cons x r ih =>
    intro lo h
    obtain ⟨k0, v0⟩ := x
    have hw := h
    have hd := spDrop_wf (k := k) h
    simp only [spWfFrom, Bool.and_eq_true, decide_eq_true_eq] at h
    simp only [spPut]
    split
    · simp only [spGet]; rw [ih _ h.2]
    · rename_i hk
      have low : j < k → spGet d ((k0, v0) :: r) j = d := fun hj => by
        simp only [spGet]; rw [if_neg (by omega), if_neg (by omega)]
      split
      · rcases Nat.lt_or_ge j k with hj | hj
        · rw [low hj]; exact spGet_low hd (by omega)
        · exact spGet_drop (by omega)
      · rw [show spGet d ((k, v) :: spDrop ((k0, v0) :: r) k) j =
            (if k < j then spGet d (spDrop ((k0, v0) :: r) k) j else if k = j then v else d) from rfl]
        split
        · exact spGet_drop (by assumption)
        · rw [if_neg (fun h => hjk h.symm)]
          exact (low (by omega)).symm

end Sys2Proof.Machine
end

