-- ==== Sys2Proof/Laws/Sound.lean ====
section
/-! SUPPORT. What every operation keeps, operation by operation: soundness, the queue, and every piece of state that
the operation has no business with. A kit names what is to be kept as a set of bits, one for each register name, each
internal word and each field of the state; the law of an operation names, as such a set, all that it may change. -/
set_option Elab.async false
namespace Sys2Proof.Machine

/-- What is known of a state besides that it is sound: its queue; where given, its grain, its mode and its network
time; whether the hardware Sable line is driven; and that it agrees with the state `s0` in what `mask` names: bit
`r.ctorIdx` is register r (all its elements), bit `512 + l.ctorIdx` internal word l, and the bits from 1024 on are the
fields of the state in their order, from `regs0` on. -/
structure Kit where
  q : List Instr
  g : Option Nat
  m : Option Mode
  tm : Option NetTime
  sb : Bool
  s0 : State
  mask : Nat

/-- The state is as the kit says. -/
structure State.Kept (k : Kit) (s : State) : Prop where
  q : s.pending = k.q
  g : ∀ x, k.g = some x → s.grain = x
  m : ∀ x, k.m = some x → s.mode = x
  tm : ∀ x, k.tm = some x → s.time = x
  sb : k.sb = true → s.sable = true
  kregs : ∀ r : Reg, k.mask.testBit r.ctorIdx = true → ∀ t i j, s.treg r t i j = k.s0.treg r t i j
  klats : ∀ l : Lat, k.mask.testBit (512 + l.ctorIdx) = true → ∀ t i j, s.lat l t i j = k.s0.lat l t i j
  kregs0 : k.mask.testBit 1024 = true → s.regs0 = k.s0.regs0
  klats0 : k.mask.testBit 1025 = true → s.lats0 = k.s0.lats0
  kmode0 : k.mask.testBit 1026 = true → s.mode0 = k.s0.mode0
  ktime0 : k.mask.testBit 1027 = true → s.time0 = k.s0.time0
  kbanks : k.mask.testBit 1028 = true → s.banks = k.s0.banks
  kbankEcc : k.mask.testBit 1029 = true → s.bankEcc = k.s0.bankEcc
  kcs : k.mask.testBit 1030 = true → s.cs = k.s0.cs
  kdm : k.mask.testBit 1031 = true → s.dm = k.s0.dm
  ksram : k.mask.testBit 1032 = true → s.sram = k.s0.sram
  kdram : k.mask.testBit 1033 = true → s.dram = k.s0.dram
  kdramUe : k.mask.testBit 1034 = true → s.dramUe = k.s0.dramUe
  kflash : k.mask.testBit 1035 = true → s.flash = k.s0.flash
  ksnap : k.mask.testBit 1036 = true → s.snap = k.s0.snap
  kresp : k.mask.testBit 1037 = true → s.resp = k.s0.resp
  kmode : k.mask.testBit 1038 = true → s.mode = k.s0.mode
  kprior : k.mask.testBit 1039 = true → s.prior = k.s0.prior
  ksable : k.mask.testBit 1040 = true → s.sable = k.s0.sable
  kgrain : k.mask.testBit 1041 = true → s.grain = k.s0.grain
  ktime : k.mask.testBit 1042 = true → s.time = k.s0.time
  kfreeCtr : k.mask.testBit 1043 = true → s.freeCtr = k.s0.freeCtr
  kfaults : k.mask.testBit 1044 = true → s.faults = k.s0.faults
  kunacks : k.mask.testBit 1045 = true → s.unacks = k.s0.unacks
  kevents : k.mask.testBit 1046 = true → s.events = k.s0.events
  kcommit : k.mask.testBit 1047 = true → s.commit = k.s0.commit
  kslotHist : k.mask.testBit 1048 = true → s.slotHist = k.s0.slotHist
  kblocks : k.mask.testBit 1049 = true → s.blocks = k.s0.blocks
  kblocks0 : k.mask.testBit 1050 = true → s.blocks0 = k.s0.blocks0
  koccs : k.mask.testBit 1051 = true → s.occs = k.s0.occs
  kwearQ : k.mask.testBit 1052 = true → s.wearQ = k.s0.wearQ
  ksamples : k.mask.testBit 1053 = true → s.samples = k.s0.samples
  kcapQ : k.mask.testBit 1054 = true → s.capQ = k.s0.capQ
  kpipe : k.mask.testBit 1055 = true → s.pipe = k.s0.pipe
  ktlb : k.mask.testBit 1056 = true → s.tlb = k.s0.tlb
  kdmaUnits : k.mask.testBit 1057 = true → s.dmaUnits = k.s0.dmaUnits
  kswpBuf : k.mask.testBit 1058 = true → s.swpBuf = k.s0.swpBuf
  kswpX : k.mask.testBit 1059 = true → s.swpX = k.s0.swpX
  kplvOut : k.mask.testBit 1060 = true → s.plvOut = k.s0.plvOut
  kmbox : k.mask.testBit 1061 = true → s.mbox = k.s0.mbox
  ktxts : k.mask.testBit 1062 = true → s.txts = k.s0.txts
  ktxq : k.mask.testBit 1063 = true → s.txq = k.s0.txq
  ksent : k.mask.testBit 1064 = true → s.sent = k.s0.sent
  kmac : k.mask.testBit 1065 = true → s.mac = k.s0.mac
  klearnQ : k.mask.testBit 1066 = true → s.learnQ = k.s0.learnQ
  klpm : k.mask.testBit 1067 = true → s.lpm = k.s0.lpm
  kreqQ : k.mask.testBit 1068 = true → s.reqQ = k.s0.reqQ
  keng : k.mask.testBit 1069 = true → s.eng = k.s0.eng
  kmgmt : k.mask.testBit 1070 = true → s.mgmt = k.s0.mgmt

/-- A state is sound and as the kit says. -/
def State.Ok (q : Kit) (s : State) : Prop := s.Kept q ∧ s.Sound

/-- The kit says nothing of the mode by itself, or that it is SABLE. -/
def Kit.anyMode (k : Kit) : Prop := k.m = none ∨ k.m = some .sable

/-- The kit says nothing of network time by itself. -/
def Kit.anyTime (k : Kit) : Prop := k.tm = none

/-- The kit says nothing but the queue, the grain and what the mask names. -/
def Kit.bare (k : Kit) : Prop := k.m = none ∧ k.tm = none ∧ k.sb = false

theorem Kit.bare.mode {k : Kit} (h : k.bare) : k.anyMode := .inl h.1

theorem Kit.bare.time {k : Kit} (h : k.bare) : k.anyTime := h.2.1

/-- A bit of a set that the kit does not keep. -/
theorem Kit.bit {m W i : Nat} (h : m &&& W = 0) (e : W.testBit i = true) : m.testBit i = false := by
  have a := congrArg (·.testBit i) h
  simp only [Nat.testBit_and, e, Bool.and_true, Nat.zero_testBit] at a
  exact a

/-- A smaller set. -/
theorem Kit.sub {m W V : Nat} (h : m &&& W = 0) (e : V &&& W = V) : m &&& V = 0 := by
  rw [← e, Nat.and_comm V, ← Nat.and_assoc, h, Nat.zero_and]

theorem Kit.bitz {m i : Nat} (h : m = 0) : m.testBit i = false := by rw [h, Nat.zero_testBit]

theorem Kit.subz {m V : Nat} (h : m = 0) : m &&& V = 0 := by rw [h, Nat.zero_and]

/-- A kept component contradicts one that may change. -/
theorem Kit.no {m i : Nat} {P : Prop} (a : m.testBit i = false) (b : m.testBit i = true) : P := nomatch a.symm.trans b

variable {q : Kit} {s : State}

/-- A sound state is as a kit says that keeps what `mask` names as it is there. -/
theorem State.ok_self (h : s.Sound) (mask : Nat) : s.Ok ⟨s.pending, none, none, none, false, s, mask⟩ := by
  refine ⟨?_, h⟩
  constructor
  · rfl
  · exact nofun
  · exact nofun
  · exact nofun
  · exact nofun
  · exact fun _ _ _ _ _ => rfl
  · exact fun _ _ _ _ _ => rfl
  all_goals exact fun _ => rfl

/-! ### Widths -/

theorem bits_lt (n hi lo : Nat) : bits n hi lo < 2 ^ (hi + 1 - lo) := Nat.mod_lt _ (Nat.two_pow_pos _)

theorem treg_lt (s : State) (r : Reg) (t i j : Nat) : s.treg r t i j < 2 ^ 32 := BitVec.isLt _

theorem fld_lt (s : State) (r : Reg) (hi lo i j : Nat) : s.fld r hi lo i j < 2 ^ (hi + 1 - lo) := bits_lt _ _ _

/-! ### Places -/

theorem Reg.ctorIdx_inj {r q : Reg} (h : r.ctorIdx = q.ctorIdx) : r = q := by
  rw [← Reg.ofNat_ctorIdx r, ← Reg.ofNat_ctorIdx q, h]

theorem Lat.ctorIdx_inj {l m : Lat} (h : l.ctorIdx = m.ctorIdx) : l = m := by
  rw [← Lat.ofNat_ctorIdx l, ← Lat.ofNat_ctorIdx m, h]

/-- Different register elements have different places. -/
theorem Reg.key_inj {r q : Reg} {t i j t' i' j' : Nat} (h : r.key t i j = q.key t' i' j') :
    r = q ∧ t % 256 = t' % 256 ∧ i % 16384 = i' % 16384 ∧ j % 2048 = j' % 2048 := by
  unfold Reg.key at h
  exact ⟨Reg.ctorIdx_inj (by omega), by omega, by omega, by omega⟩

/-- Different internal words have different places. -/
theorem Lat.key_inj {l m : Lat} {t i j t' i' j' : Nat} (h : l.key t i j = m.key t' i' j') :
    l = m ∧ t % 256 = t' % 256 ∧ i % 16384 = i' % 16384 ∧ j % 2048 = j' % 2048 := by
  unfold Lat.key at h
  exact ⟨Lat.ctorIdx_inj (by omega), by omega, by omega, by omega⟩

/-! ### Updates of one field -/

theorem ok_regs0 (h : s.Ok q) (hw : q.mask.testBit 1024 = false) {x} (hx : spWf 0#32 x = true) : State.Ok q { s with regs0 := x } :=
  ⟨{ h.1 with kregs0 := Kit.no hw }, { h.2 with regs0 := hx }⟩
theorem ok_lats0 (h : s.Ok q) (hw : q.mask.testBit 1025 = false) {x} (hx : spWf (0 : Int) x = true) : State.Ok q { s with lats0 := x } :=
  ⟨{ h.1 with klats0 := Kit.no hw }, { h.2 with lats0 := hx }⟩
theorem ok_mode0 (h : s.Ok q) (hw : q.mask.testBit 1026 = false) {x} : State.Ok q { s with mode0 := x } :=
  ⟨{ h.1 with kmode0 := Kit.no hw }, { h.2 with }⟩
theorem ok_time0 (h : s.Ok q) (hw : q.mask.testBit 1027 = false) {x} : State.Ok q { s with time0 := x } :=
  ⟨{ h.1 with ktime0 := Kit.no hw }, { h.2 with }⟩
theorem ok_banks (h : s.Ok q) (hw : q.mask.testBit 1028 = false) {x} (hx : spWf 0#32 x = true) : State.Ok q { s with banks := x } :=
  ⟨{ h.1 with kbanks := Kit.no hw }, { h.2 with banks := hx }⟩
theorem ok_bankEcc (h : s.Ok q) (hw : q.mask.testBit 1029 = false) {x} (hx : spWf 0 x = true) : State.Ok q { s with bankEcc := x } :=
  ⟨{ h.1 with kbankEcc := Kit.no hw }, { h.2 with bankEcc := hx }⟩
theorem ok_cs (h : s.Ok q) (hw : q.mask.testBit 1030 = false) {x} (hx : spWf 0#264 x = true) : State.Ok q { s with cs := x } :=
  ⟨{ h.1 with kcs := Kit.no hw }, { h.2 with cs := hx }⟩
theorem ok_dm (h : s.Ok q) (hw : q.mask.testBit 1031 = false) {x} (hx : spWf 0#32 x = true) : State.Ok q { s with dm := x } :=
  ⟨{ h.1 with kdm := Kit.no hw }, { h.2 with dm := hx }⟩
theorem ok_sram (h : s.Ok q) (hw : q.mask.testBit 1032 = false) {x} (hx : spWf 0#8 x = true) : State.Ok q { s with sram := x } :=
  ⟨{ h.1 with ksram := Kit.no hw }, { h.2 with sram := hx }⟩
theorem ok_dram (h : s.Ok q) (hw : q.mask.testBit 1033 = false) {x} (hx : spRising x = true) : State.Ok q { s with dram := x } :=
  ⟨{ h.1 with kdram := Kit.no hw }, { h.2 with dram := hx }⟩
theorem ok_dramUe (h : s.Ok q) (hw : q.mask.testBit 1034 = false) {x} : State.Ok q { s with dramUe := x } :=
  ⟨{ h.1 with kdramUe := Kit.no hw }, { h.2 with }⟩
theorem ok_flash (h : s.Ok q) (hw : q.mask.testBit 1035 = false) {x} (hx : spWf 0xFF#8 x = true) : State.Ok q { s with flash := x } :=
  ⟨{ h.1 with kflash := Kit.no hw }, { h.2 with flash := hx }⟩
theorem ok_snap (h : s.Ok q) (hw : q.mask.testBit 1036 = false) {x} (hx : spRising x = true) : State.Ok q { s with snap := x } :=
  ⟨{ h.1 with ksnap := Kit.no hw }, { h.2 with snap := hx }⟩
theorem ok_resp (h : s.Ok q) (hw : q.mask.testBit 1037 = false) {x} : State.Ok q { s with resp := x } :=
  ⟨{ h.1 with kresp := Kit.no hw }, { h.2 with }⟩
theorem ok_prior (h : s.Ok q) (hw : q.mask.testBit 1039 = false) {x} : State.Ok q { s with prior := x } :=
  ⟨{ h.1 with kprior := Kit.no hw }, { h.2 with }⟩
theorem ok_freeCtr (h : s.Ok q) (hw : q.mask.testBit 1043 = false) {x} : State.Ok q { s with freeCtr := x } :=
  ⟨{ h.1 with kfreeCtr := Kit.no hw }, { h.2 with }⟩
theorem ok_faults (h : s.Ok q) (hw : q.mask.testBit 1044 = false) {x} : State.Ok q { s with faults := x } :=
  ⟨{ h.1 with kfaults := Kit.no hw }, { h.2 with }⟩
theorem ok_unacks (h : s.Ok q) (hw : q.mask.testBit 1045 = false) {x} (hx : x.length ≤ 256) : State.Ok q { s with unacks := x } :=
  ⟨{ h.1 with kunacks := Kit.no hw }, { h.2 with unacks := hx }⟩
theorem ok_events (h : s.Ok q) (hw : q.mask.testBit 1046 = false) {x} : State.Ok q { s with events := x } :=
  ⟨{ h.1 with kevents := Kit.no hw }, { h.2 with }⟩
theorem ok_commit (h : s.Ok q) (hw : q.mask.testBit 1047 = false) {x} : State.Ok q { s with commit := x } :=
  ⟨{ h.1 with kcommit := Kit.no hw }, { h.2 with }⟩
theorem ok_slotHist (h : s.Ok q) (hw : q.mask.testBit 1048 = false) {x} (hx : x.length ≤ 256) : State.Ok q { s with slotHist := x } :=
  ⟨{ h.1 with kslotHist := Kit.no hw }, { h.2 with slotHist := hx }⟩
theorem ok_blocks (h : s.Ok q) (hw : q.mask.testBit 1049 = false) {x} : State.Ok q { s with blocks := x } :=
  ⟨{ h.1 with kblocks := Kit.no hw }, { h.2 with }⟩
theorem ok_blocks0 (h : s.Ok q) (hw : q.mask.testBit 1050 = false) {x} : State.Ok q { s with blocks0 := x } :=
  ⟨{ h.1 with kblocks0 := Kit.no hw }, { h.2 with }⟩
theorem ok_occs (h : s.Ok q) (hw : q.mask.testBit 1051 = false) {x} : State.Ok q { s with occs := x } :=
  ⟨{ h.1 with koccs := Kit.no hw }, { h.2 with }⟩
theorem ok_wearQ (h : s.Ok q) (hw : q.mask.testBit 1052 = false) {x} : State.Ok q { s with wearQ := x } :=
  ⟨{ h.1 with kwearQ := Kit.no hw }, { h.2 with }⟩
theorem ok_samples (h : s.Ok q) (hw : q.mask.testBit 1053 = false) {x} : State.Ok q { s with samples := x } :=
  ⟨{ h.1 with ksamples := Kit.no hw }, { h.2 with }⟩
theorem ok_capQ (h : s.Ok q) (hw : q.mask.testBit 1054 = false) {x} : State.Ok q { s with capQ := x } :=
  ⟨{ h.1 with kcapQ := Kit.no hw }, { h.2 with }⟩
theorem ok_pipe (h : s.Ok q) (hw : q.mask.testBit 1055 = false) {x} : State.Ok q { s with pipe := x } :=
  ⟨{ h.1 with kpipe := Kit.no hw }, { h.2 with }⟩
theorem ok_tlb (h : s.Ok q) (hw : q.mask.testBit 1056 = false) {x} : State.Ok q { s with tlb := x } :=
  ⟨{ h.1 with ktlb := Kit.no hw }, { h.2 with }⟩
theorem ok_dmaUnits (h : s.Ok q) (hw : q.mask.testBit 1057 = false) {x} : State.Ok q { s with dmaUnits := x } :=
  ⟨{ h.1 with kdmaUnits := Kit.no hw }, { h.2 with }⟩
theorem ok_swpBuf (h : s.Ok q) (hw : q.mask.testBit 1058 = false) {x} : State.Ok q { s with swpBuf := x } :=
  ⟨{ h.1 with kswpBuf := Kit.no hw }, { h.2 with }⟩
theorem ok_swpX (h : s.Ok q) (hw : q.mask.testBit 1059 = false) {x} : State.Ok q { s with swpX := x } :=
  ⟨{ h.1 with kswpX := Kit.no hw }, { h.2 with }⟩
theorem ok_plvOut (h : s.Ok q) (hw : q.mask.testBit 1060 = false) {x} : State.Ok q { s with plvOut := x } :=
  ⟨{ h.1 with kplvOut := Kit.no hw }, { h.2 with }⟩
theorem ok_mbox (h : s.Ok q) (hw : q.mask.testBit 1061 = false) {x} (hx : x.length ≤ 16) : State.Ok q { s with mbox := x } :=
  ⟨{ h.1 with kmbox := Kit.no hw }, { h.2 with mbox := hx }⟩
theorem ok_txts (h : s.Ok q) (hw : q.mask.testBit 1062 = false) {x} : State.Ok q { s with txts := x } :=
  ⟨{ h.1 with ktxts := Kit.no hw }, { h.2 with }⟩
theorem ok_txq (h : s.Ok q) (hw : q.mask.testBit 1063 = false) {x} : State.Ok q { s with txq := x } :=
  ⟨{ h.1 with ktxq := Kit.no hw }, { h.2 with }⟩
theorem ok_sent (h : s.Ok q) (hw : q.mask.testBit 1064 = false) {x} : State.Ok q { s with sent := x } :=
  ⟨{ h.1 with ksent := Kit.no hw }, { h.2 with }⟩
theorem ok_mac (h : s.Ok q) (hw : q.mask.testBit 1065 = false) {x} : State.Ok q { s with mac := x } :=
  ⟨{ h.1 with kmac := Kit.no hw }, { h.2 with }⟩
theorem ok_learnQ (h : s.Ok q) (hw : q.mask.testBit 1066 = false) {x} : State.Ok q { s with learnQ := x } :=
  ⟨{ h.1 with klearnQ := Kit.no hw }, { h.2 with }⟩
theorem ok_lpm (h : s.Ok q) (hw : q.mask.testBit 1067 = false) {x} : State.Ok q { s with lpm := x } :=
  ⟨{ h.1 with klpm := Kit.no hw }, { h.2 with }⟩
theorem ok_reqQ (h : s.Ok q) (hw : q.mask.testBit 1068 = false) {x} : State.Ok q { s with reqQ := x } :=
  ⟨{ h.1 with kreqQ := Kit.no hw }, { h.2 with }⟩
theorem ok_eng (h : s.Ok q) (hw : q.mask.testBit 1069 = false) {x} : State.Ok q { s with eng := x } :=
  ⟨{ h.1 with keng := Kit.no hw }, { h.2 with }⟩
theorem ok_mgmt (h : s.Ok q) (hw : q.mask.testBit 1070 = false) {x} : State.Ok q { s with mgmt := x } :=
  ⟨{ h.1 with kmgmt := Kit.no hw }, { h.2 with }⟩

theorem ok_swp (h : s.Ok q) (hb : q.mask.testBit 1058 = false) (hx : q.mask.testBit 1059 = false) {x y} :
    State.Ok q { s with swpBuf := x, swpX := y } :=
  ⟨{ h.1 with kswpBuf := Kit.no hb, kswpX := Kit.no hx }, { h.2 with }⟩

theorem ok_arrive (h : s.Ok q) (hb : q.mask.testBit 1049 = false) (hx : q.mask.testBit 1043 = false) {x y} :
    State.Ok q { s with blocks := x, freeCtr := y } :=
  ⟨{ h.1 with kblocks := Kit.no hb, kfreeCtr := Kit.no hx }, { h.2 with }⟩

theorem ok_time (h : s.Ok q) (ht : q.anyTime) (hw : q.mask.testBit 1042 = false) {t : NetTime} (hn : t.ns < 1000000000)
    (hs : t.sec < 2 ^ 48) (hf : t.frac < 2 ^ 32) : State.Ok q { s with time := t } :=
  ⟨{ h.1 with tm := fun _ e => (nomatch ht.symm.trans e), ktime := Kit.no hw }, { h.2 with ns := hn, sec := hs, frac := hf }⟩

theorem ok_sable (h : s.Ok q) (hw : q.mask.testBit 1040 = false) : State.Ok q { s with sable := true } :=
  ⟨{ h.1 with sb := fun _ => rfl, ksable := Kit.no hw }, { h.2 with }⟩

/-- A change of the mode, which does not leave SABLE. -/
theorem ok_mode (h : s.Ok q) (hm : q.anyMode) (hw : q.mask.testBit 1038 = false) {m : Mode} (hs : s.mode = .sable → m = .sable) :
    State.Ok q { s with mode := m } :=
  ⟨{ h.1 with
      m := fun m' e => by
        rcases hm with hm | hm
        · exact nomatch hm.symm.trans e
        · have a := Option.some.inj (hm.symm.trans e)
          exact (hs ((h.1.m m' e).trans a.symm)).trans a
      kmode := Kit.no hw }, { h.2 with }⟩

/-! ### Folds, pairs, options -/

theorem foldl_ok {α : Type} {f : State → α → State} (hf : ∀ s a, s.Ok q → (f s a).Ok q) (l : List α) (h : s.Ok q) :
    (l.foldl f s).Ok q := by
  induction l generalizing s with
  | nil => exact h
  | cons a r ih => exact ih (hf _ _ h)

theorem forUpto_ok {n : Nat} {f : Nat → State → State} (h : s.Ok q) (hf : ∀ i s, s.Ok q → (f i s).Ok q) :
    (forUpto n s f).Ok q := foldl_ok (fun s a => hf a s) _ h

theorem forIn'_ok {α : Type} {l : List α} {f : α → State → State} (h : s.Ok q) (hf : ∀ i s, s.Ok q → (f i s).Ok q) :
    (forIn' l s f).Ok q := foldl_ok (fun s a => hf a s) _ h

theorem ok_snd {α : Type} {p : α × State} {v : α} {t : State} (e : p = (v, t)) (h : p.2.Ok q) : t.Ok q := by
  subst e; exact h

theorem ok_thd {α β : Type} {p : α × β × State} {v : α} {u : β} {t : State} (e : p = (v, u, t)) (h : p.2.2.Ok q) : t.Ok q := by
  subst e; exact h

theorem ok_ite {c : Prop} [Decidable c] {a b : State} (ha : c → a.Ok q) (hb : ¬c → b.Ok q) : (if c then a else b).Ok q := by
  split
  · exact ha ‹_›
  · exact hb ‹_›

theorem ok_ite_snd {α : Type} {c : Prop} [Decidable c] {a b : α × State} (ha : c → a.2.Ok q) (hb : ¬c → b.2.Ok q) :
    (if c then a else b).2.Ok q := by
  split
  · exact ha ‹_›
  · exact hb ‹_›

theorem ok_ite_thd {α β : Type} {c : Prop} [Decidable c] {a b : α × β × State} (ha : c → a.2.2.Ok q) (hb : ¬c → b.2.2.Ok q) :
    (if c then a else b).2.2.Ok q := by
  split
  · exact ha ‹_›
  · exact hb ‹_›

/-- An answer that, when there is one, keeps soundness and the queue. -/
def OptOk (q : Kit) (o : Option State) : Prop := ∀ t, o = some t → t.Ok q

theorem optOk_none : OptOk q none := fun _ h => nomatch h

theorem optOk_some {t : State} (h : t.Ok q) : OptOk q (some t) := fun _ e => Option.some.inj e ▸ h

theorem optOk_map {α : Type} {o : Option α} {f : α → State} (h : ∀ a, (f a).Ok q) : OptOk q (o.map f) := by
  cases o with
  | none => exact optOk_none
  | some a => exact optOk_some (h a)

theorem optOk_ite {c : Prop} [Decidable c] {a b : Option State} (ha : c → OptOk q a) (hb : ¬c → OptOk q b) :
    OptOk q (if c then a else b) := by
  split
  · exact ha ‹_›
  · exact hb ‹_›

theorem ok_mid {α β : Type} {p : α × State × β} {v : α} {u : β} {t : State} (e : p = (v, t, u)) (h : p.2.1.Ok q) : t.Ok q := by
  subst e; exact h

theorem ok_some {o : Option State} {t : State} (e : o = some t) (h : OptOk q o) : t.Ok q := h t e


/-! ### The operations that touch a store -/

/-- Writing a register element changes no other name. -/
theorem State.setTreg_ok (h : s.Ok q) (r : Reg) (t v i j : Nat) (hb : q.mask.testBit r.ctorIdx = false) :
    (s.setTreg r t v i j).Ok q :=
  ⟨{ h.1 with
      kregs := fun r' e t' i' j' => by
        rw [← h.1.kregs r' e t' i' j']
        have ne : r' ≠ r := fun a => Kit.no (a ▸ hb) e
        unfold State.treg State.setTreg
        dsimp only
        rw [spGet_put_other _ h.2.regs (fun a => ne (Reg.key_inj a).1)] }, { h.2 with regs := spPut_wf _ _ h.2.regs }⟩

/-- Writing an internal word changes no other name. -/
theorem State.setLat_ok (h : s.Ok q) (l : Lat) (v : Int) (t i j : Nat) (hb : q.mask.testBit (512 + l.ctorIdx) = false) :
    (s.setLat l v t i j).Ok q :=
  ⟨{ h.1 with
      klats := fun l' e t' i' j' => by
        rw [← h.1.klats l' e t' i' j']
        have ne : l' ≠ l := fun a => Kit.no (a ▸ hb) e
        exact spGet_put_other _ h.2.lats (fun a => ne (Lat.key_inj a).1) }, { h.2 with lats := spPut_wf _ _ h.2.lats }⟩

theorem foldl_put_wf {α β : Type} [DecidableEq α] {d : α} {m : List (Nat × α)} {key : β → Nat} {val : β → α} (l : List β)
    (h : spWf d m = true) : spWf d (l.foldl (fun m k => spPut d m (key k) (val k)) m) = true := by
  induction l generalizing m with
  | nil => exact h
  | cons a r ih => exact ih (spPut_wf _ _ h)

theorem foldl_set_rising {α β : Type} {m : List (Nat × α)} {key : β → Nat} {val : β → α} (l : List β)
    (h : spRising m = true) : spRising (l.foldl (fun m k => spSet m (key k) (val k)) m) = true := by
  induction l generalizing m with
  | nil => exact h
  | cons a r ih => exact ih (spSet_rising _ _ h)

theorem State.sramWrite_ok (h : s.Ok q) (o : Nat) (bs : List Byte) (hw : q.mask.testBit 1032 = false) : (s.sramWrite o bs).Ok q :=
  ok_sram h hw (foldl_put_wf _ h.2.sram)

theorem State.flashPut_ok (h : s.Ok q) (o : Nat) (bs : List Byte) (hw : q.mask.testBit 1035 = false) : (s.flashPut o bs).Ok q :=
  ok_flash h hw (foldl_put_wf _ h.2.flash)

theorem State.flashErase_ok (h : s.Ok q) (a n : Nat) (hw : q.mask.testBit 1035 = false) : (s.flashErase a n).Ok q :=
  ok_flash h hw (filter_wf _ h.2.flash)

theorem State.dramWrite_ok (h : s.Ok q) (o : Nat) (bs : List Byte) (hw : q.mask.testBit 1033 = false)
    (hu : q.mask.testBit 1034 = false) : (s.dramWrite o bs).Ok q :=
  ok_dramUe (ok_dram h hw (foldl_set_rising _ h.2.dram)) hu

theorem eccWrite_wf {l : List (Nat × Nat)} (k w : Nat) (h : spWf 0 l = true) : spWf 0 (eccWrite l k w) = true := by
  unfold eccWrite; dsimp only; split
  · exact h
  · exact spPut_wf _ _ h

theorem State.setBankWord_ok (h : s.Ok q) (c w v : Nat) (hw : q.mask.testBit 1028 = false)
    (hu : q.mask.testBit 1029 = false) : (s.setBankWord c w v).Ok q :=
  ok_bankEcc (ok_banks h hw (spPut_wf _ _ h.2.banks)) hu (eccWrite_wf _ _ h.2.bankEcc)

/-- One grain keeps network time in range. -/
theorem NetTime.advance_range {t : NetTime} (i : Nat) (hs : t.sec < 2 ^ 48) (hn : t.ns < 1000000000) (hf : t.frac < 2 ^ 32) :
    (t.advance i).ns < 1000000000 ∧ (t.advance i).sec < 2 ^ 48 ∧ (t.advance i).frac < 2 ^ 32 := by
  unfold NetTime.advance; dsimp only; split <;> refine ⟨?_, ?_, ?_⟩ <;> dsimp only <;> omega

/-- A grain that passes keeps soundness. -/
theorem State.grainPass_sound (h : s.Sound) : s.grainPass.Sound :=
  have a := NetTime.advance_range s.incr h.sec h.ns h.frac
  { h with regs0 := h.regs, lats0 := h.lats, ns := a.1, sec := a.2.1, frac := a.2.2 }

theorem State.setCs_ok (h : s.Ok q) (t h' w v : Nat) (hw : q.mask.testBit 1030 = false) : (s.setCs t h' w v).Ok q :=
  ok_cs h hw (spPut_wf _ _ h.2.cs)

theorem State.setDm_ok (h : s.Ok q) (t h' w v : Nat) (hw : q.mask.testBit 1031 = false) : (s.setDm t h' w v).Ok q :=
  ok_dm h hw (spPut_wf _ _ h.2.dm)

theorem State.snapWords_ok (h : s.Ok q) (r : Reg) (t i : Nat) (hw : q.mask.testBit 1036 = false) : (s.snapWords r t i).Ok q :=
  ok_snap h hw (foldl_set_rising _ h.2.snap)

theorem State.keepOnly_ok (h : s.Ok q) (rs : List Reg) (ls : List Lat) (hz : q.mask = 0) : (s.keepOnly rs ls).Ok q :=
  ⟨{ h.1 with kregs := fun _ => Kit.no (Kit.bitz hz), klats := fun _ => Kit.no (Kit.bitz hz) },
    { h.2 with regs := filter_wf _ h.2.regs, lats := filter_wf _ h.2.lats }⟩

end Sys2Proof.Machine
end

