-- ==== Sys2Proof/Laws/KeepOps.lean ====
section
/-! SUPPORT. The operations of Machine/Ops.lean keep soundness and the queue. -/
set_option Elab.async false
namespace Sys2Proof.Machine

variable {Q : Kit} {s : State}

theorem State.setReg_ok (h : s.Ok Q) (r : Reg) (v : Nat) (i j : Nat) (hb : Q.mask.testBit r.ctorIdx = false) : (s.setReg r v i j).Ok Q := by
  unfold State.setReg
  repeat' first
    | with_reducible assumption
    | with_reducible apply State.setTreg_ok
    | with_reducible rfl
    | with_reducible refine ok_ite (fun _ => ?_) (fun _ => ?_)
    | (intro s1; refine (fun (h1 : State.Ok Q s1) => ?_) ?_; rotate_left; subst s1; rotate_right)
    | (intro (f : _ → _); subst f; dsimp -zeta only)
    | (intro s1; fail_if_success (have : State := s1))
    | lift_lets
    | split
    | intro _

theorem State.setTfld_ok (h : s.Ok Q) (r : Reg) (t hi lo v : Nat) (i j : Nat) (hb : Q.mask.testBit r.ctorIdx = false) : (s.setTfld r t hi lo v i j).Ok Q := by
  unfold State.setTfld
  repeat' first
    | with_reducible assumption
    | with_reducible apply State.setTreg_ok
    | with_reducible rfl
    | with_reducible refine ok_ite (fun _ => ?_) (fun _ => ?_)
    | (intro s1; refine (fun (h1 : State.Ok Q s1) => ?_) ?_; rotate_left; subst s1; rotate_right)
    | (intro (f : _ → _); subst f; dsimp -zeta only)
    | (intro s1; fail_if_success (have : State := s1))
    | lift_lets
    | split
    | intro _

theorem State.setFld_ok (h : s.Ok Q) (r : Reg) (hi lo v : Nat) (i j : Nat) (hb : Q.mask.testBit r.ctorIdx = false) : (s.setFld r hi lo v i j).Ok Q := by
  unfold State.setFld
  repeat' first
    | with_reducible assumption
    | with_reducible apply State.setTfld_ok
    | with_reducible rfl
    | with_reducible refine ok_ite (fun _ => ?_) (fun _ => ?_)
    | (intro s1; refine (fun (h1 : State.Ok Q s1) => ?_) ?_; rotate_left; subst s1; rotate_right)
    | (intro (f : _ → _); subst f; dsimp -zeta only)
    | (intro s1; fail_if_success (have : State := s1))
    | lift_lets
    | split
    | intro _

theorem State.setTbit_ok (h : s.Ok Q) (r : Reg) (t b : Nat) (v : Bool) (i j : Nat) (hb : Q.mask.testBit r.ctorIdx = false) : (s.setTbit r t b v i j).Ok Q := by
  unfold State.setTbit
  repeat' first
    | with_reducible assumption
    | with_reducible apply State.setTfld_ok
    | with_reducible rfl
    | with_reducible refine ok_ite (fun _ => ?_) (fun _ => ?_)
    | (intro s1; refine (fun (h1 : State.Ok Q s1) => ?_) ?_; rotate_left; subst s1; rotate_right)
    | (intro (f : _ → _); subst f; dsimp -zeta only)
    | (intro s1; fail_if_success (have : State := s1))
    | lift_lets
    | split
    | intro _

theorem State.setRbit_ok (h : s.Ok Q) (r : Reg) (b : Nat) (v : Bool) (i j : Nat) (hb : Q.mask.testBit r.ctorIdx = false) : (s.setRbit r b v i j).Ok Q := by
  unfold State.setRbit
  repeat' first
    | with_reducible assumption
    | with_reducible apply State.setTbit_ok
    | with_reducible rfl
    | with_reducible refine ok_ite (fun _ => ?_) (fun _ => ?_)
    | (intro s1; refine (fun (h1 : State.Ok Q s1) => ?_) ?_; rotate_left; subst s1; rotate_right)
    | (intro (f : _ → _); subst f; dsimp -zeta only)
    | (intro s1; fail_if_success (have : State := s1))
    | lift_lets
    | split
    | intro _

theorem State.setMapBit_ok (h : s.Ok Q) (r : Reg) (t n : Nat) (v : Bool) (hb : Q.mask.testBit r.ctorIdx = false) : (s.setMapBit r t n v).Ok Q := by
  unfold State.setMapBit
  repeat' first
    | with_reducible assumption
    | with_reducible apply State.setTbit_ok
    | with_reducible rfl
    | with_reducible refine ok_ite (fun _ => ?_) (fun _ => ?_)
    | (intro s1; refine (fun (h1 : State.Ok Q s1) => ?_) ?_; rotate_left; subst s1; rotate_right)
    | (intro (f : _ → _); subst f; dsimp -zeta only)
    | (intro s1; fail_if_success (have : State := s1))
    | lift_lets
    | split
    | intro _

theorem State.satAdd_ok (h : s.Ok Q) (r : Reg) (k : Nat) (t : Nat) (i j : Nat) (hb : Q.mask.testBit r.ctorIdx = false) : (s.satAdd r k t i j).Ok Q := by
  unfold State.satAdd
  repeat' first
    | with_reducible assumption
    | with_reducible apply State.setTreg_ok
    | with_reducible rfl
    | with_reducible refine ok_ite (fun _ => ?_) (fun _ => ?_)
    | (intro s1; refine (fun (h1 : State.Ok Q s1) => ?_) ?_; rotate_left; subst s1; rotate_right)
    | (intro (f : _ → _); subst f; dsimp -zeta only)
    | (intro s1; fail_if_success (have : State := s1))
    | lift_lets
    | split
    | intro _

theorem State.wrapInc_ok (h : s.Ok Q) (r : Reg) (t : Nat) (i j : Nat) (hb : Q.mask.testBit r.ctorIdx = false) : (s.wrapInc r t i j).Ok Q := by
  unfold State.wrapInc
  repeat' first
    | with_reducible assumption
    | with_reducible apply State.setTreg_ok
    | with_reducible rfl
    | with_reducible refine ok_ite (fun _ => ?_) (fun _ => ?_)
    | (intro s1; refine (fun (h1 : State.Ok Q s1) => ?_) ?_; rotate_left; subst s1; rotate_right)
    | (intro (f : _ → _); subst f; dsimp -zeta only)
    | (intro s1; fail_if_success (have : State := s1))
    | lift_lets
    | split
    | intro _

theorem State.setFlag_ok (h : s.Ok Q) (l : Lat) (v : Bool) (t i j : Nat) (hb : Q.mask.testBit (512 + l.ctorIdx) = false) : (s.setFlag l v t i j).Ok Q := by
  unfold State.setFlag
  repeat' first
    | with_reducible assumption
    | with_reducible apply State.setLat_ok
    | with_reducible rfl
    | with_reducible refine ok_ite (fun _ => ?_) (fun _ => ?_)
    | (intro s1; refine (fun (h1 : State.Ok Q s1) => ?_) ?_; rotate_left; subst s1; rotate_right)
    | (intro (f : _ → _); subst f; dsimp -zeta only)
    | (intro s1; fail_if_success (have : State := s1))
    | lift_lets
    | split
    | intro _

theorem State.draw_ok (h : s.Ok Q) (w : Nat) (hw : Q.mask &&& 0x800000000000000000000000000000000000000000000000000000000000000000000000000000000000000000000000000000000000000000000000000000000000000000000000000000000000000000000000000000000000000000000000000000000000000000000000000000000000000000000000000000000000000000000 = 0) : (s.draw w).2.Ok Q := by
  unfold State.draw
  repeat' first
    | with_reducible assumption
    | with_reducible exact Kit.bit hw (by decide +kernel)
    | with_reducible exact Kit.sub hw (by decide +kernel)
    | with_reducible rfl
    | with_reducible refine ok_ite (fun _ => ?_) (fun _ => ?_)
    | with_reducible refine ok_ite_snd (fun _ => ?_) (fun _ => ?_)
    | (intro s1; refine (fun (h1 : State.Ok Q s1) => ?_) ?_; rotate_left; subst s1; rotate_right)
    | (intro (f : _ → _); subst f; dsimp -zeta only)
    | (intro s1; fail_if_success (have : State := s1))
    | lift_lets
    | (split <;> first | (rename_i e; with_reducible refine (fun (h1 : State.Ok Q _) => ?_) (ok_snd e ?_)) | (rename_i e; with_reducible refine (fun (h1 : State.Ok Q _) => ?_) (ok_thd e ?_)) | (rename_i e; with_reducible refine (fun (h1 : State.Ok Q _) => ?_) (ok_mid e ?_)) | (rename_i e; with_reducible refine (fun (h1 : State.Ok Q _) => ?_) (ok_some e ?_)) | (rename_i e _; with_reducible refine (fun (h1 : State.Ok Q _) => ?_) (ok_snd e ?_)) | (rename_i e _; with_reducible refine (fun (h1 : State.Ok Q _) => ?_) (ok_thd e ?_)) | (rename_i e _; with_reducible refine (fun (h1 : State.Ok Q _) => ?_) (ok_mid e ?_)) | (rename_i e _; with_reducible refine (fun (h1 : State.Ok Q _) => ?_) (ok_some e ?_)) | skip)
    | intro _
    | with_reducible apply ok_freeCtr

theorem State.setBefore_ok (h : s.Ok Q) (r : Reg) (t v i j : Nat) (hw : Q.mask &&& 0x10000000000000000000000000000000000000000000000000000000000000000000000000000000000000000000000000000000000000000000000000000000000000000000000000000000000000000000000000000000000000000000000000000000000000000000000000000000000000000000000000000000000000000 = 0) : (s.setBefore r t v i j).Ok Q :=
  ok_regs0 h (Kit.bit hw (by decide +kernel)) (spPut_wf _ _ h.2.regs0)

theorem State.sendClass_ok (h : s.Ok Q) (src kind cls addr : Nat) (xaddr : Nat) (hw : Q.mask &&& 0x1000000000000000000000000000000000000000000000000000000000000000000000000000000000000000000000000000000000000000000000000000000000000000000000000000000000000000000000000000000000000000000000000000000000000000000000000000000000000000000000000000000000000000000000 = 0) : (s.sendClass src kind cls addr xaddr).Ok Q := by
  unfold State.sendClass
  repeat' first
    | with_reducible assumption
    | with_reducible exact Kit.bit hw (by decide +kernel)
    | with_reducible exact Kit.sub hw (by decide +kernel)
    | with_reducible rfl
    | with_reducible refine ok_ite (fun _ => ?_) (fun _ => ?_)
    | (intro s1; refine (fun (h1 : State.Ok Q s1) => ?_) ?_; rotate_left; subst s1; rotate_right)
    | (intro (f : _ → _); subst f; dsimp -zeta only)
    | (intro s1; fail_if_success (have : State := s1))
    | lift_lets
    | split
    | intro _
    | with_reducible apply ok_faults

theorem State.send_ok (h : s.Ok Q) (src kind addr : Nat) (xaddr : Nat) (hw : Q.mask &&& 0x1000000000000000000000000000000000000000000000000000000000000000000000000000000000000000000000000000000000000000000000000000000000000000000000000000000000000000000000000000000000000000000000000000000000000000000000000000000000000000000000000000000000000000000000 = 0) : (s.send src kind addr xaddr).Ok Q := by
  unfold State.send
  repeat' first
    | with_reducible assumption
    | with_reducible exact Kit.bit hw (by decide +kernel)
    | with_reducible exact Kit.sub hw (by decide +kernel)
    | with_reducible apply State.sendClass_ok
    | with_reducible rfl
    | with_reducible refine ok_ite (fun _ => ?_) (fun _ => ?_)
    | (intro s1; refine (fun (h1 : State.Ok Q s1) => ?_) ?_; rotate_left; subst s1; rotate_right)
    | (intro (f : _ → _); subst f; dsimp -zeta only)
    | (intro s1; fail_if_success (have : State := s1))
    | lift_lets
    | split
    | intro _

theorem State.sendEngine_ok (h : s.Ok Q) (t kind cls addr : Nat) (hw : Q.mask &&& 0x1000000000000000000000000000000000000000000000000000000000000000000000000000000000000000000000000000000000000000000000000000000000000000000000000000000000001000000000000000000000000000000000000000000000000000000000000000000000000000000000000000000000000000000000 = 0) : (s.sendEngine t kind cls addr).Ok Q := by
  unfold State.sendEngine
  repeat' first
    | with_reducible assumption
    | with_reducible exact Kit.bit hw (by decide +kernel)
    | with_reducible exact Kit.sub hw (by decide +kernel)
    | with_reducible apply State.satAdd_ok
    | with_reducible apply State.sendClass_ok
    | with_reducible rfl
    | with_reducible refine ok_ite (fun _ => ?_) (fun _ => ?_)
    | (intro s1; refine (fun (h1 : State.Ok Q s1) => ?_) ?_; rotate_left; subst s1; rotate_right)
    | (intro (f : _ → _); subst f; dsimp -zeta only)
    | (intro s1; fail_if_success (have : State := s1))
    | lift_lets
    | split
    | intro _

theorem State.assertSable_ok (h : s.Ok Q) (hw : Q.mask &&& 0x100000000000000000000000000000000000000000000000000000000000000000000000000000000000000000003000000000000000000000000000000000000000000000000000000000000000240000000000000000000000000000000000000000000000000000000000000000000000000000000000000000000000000000000 = 0) : s.assertSable.Ok Q := by
  unfold State.assertSable
  have e : State.Ok Q { s with sable := true } := ok_sable h (Kit.bit hw (by decide +kernel))
  repeat' first
    | with_reducible assumption
    | with_reducible exact Kit.bit hw (by decide +kernel)
    | with_reducible exact Kit.sub hw (by decide +kernel)
    | with_reducible apply State.setLat_ok
    | with_reducible apply State.setFlag_ok
    | with_reducible apply State.setRbit_ok
    | with_reducible apply State.setReg_ok
    | with_reducible rfl
    | with_reducible refine ok_ite (fun _ => ?_) (fun _ => ?_)
    | (intro s1; refine (fun (h1 : State.Ok Q s1) => ?_) ?_; rotate_left; subst s1; rotate_right)
    | (intro (f : _ → _); subst f; dsimp -zeta only)
    | (intro s1; fail_if_success (have : State := s1))
    | lift_lets
    | split
    | intro _
    | with_reducible apply ok_sable


theorem State.driveSable_ok (h : s.Ok Q) (hw : Q.mask &&& 0x100000000000000000000000000000000000000000000000000000000000000000000000000000000000000000003800000000000000000000000000000000000000000000000000000000000000240000000000000000000000000000000000000000000000000000000000000000000000000000000000000000000000000000000 = 0) : (s.driveSable).Ok Q := by
  unfold State.driveSable
  repeat' first
    | with_reducible assumption
    | with_reducible exact Kit.bit hw (by decide +kernel)
    | with_reducible exact Kit.sub hw (by decide +kernel)
    | with_reducible apply State.assertSable_ok
    | with_reducible apply State.setFlag_ok
    | with_reducible rfl
    | with_reducible refine ok_ite (fun _ => ?_) (fun _ => ?_)
    | (intro s1; refine (fun (h1 : State.Ok Q s1) => ?_) ?_; rotate_left; subst s1; rotate_right)
    | (intro (f : _ → _); subst f; dsimp -zeta only)
    | (intro s1; fail_if_success (have : State := s1))
    | lift_lets
    | split
    | intro _

theorem State.publish_ok (h : s.Ok Q) (src : Nat) (hop : Nat) (hw : Q.mask &&& 0x4000000000000000000000000000000000000000000000000000000000000000000000000000000000000000000000000000000000000000000000000000000000000000000000000000000000000000000000000000000000000000000000000000000000000000000000000000000000000000000000000000000000000000000000 = 0) : (s.publish src hop).Ok Q := by
  unfold State.publish
  repeat' first
    | with_reducible assumption
    | with_reducible exact Kit.bit hw (by decide +kernel)
    | with_reducible exact Kit.sub hw (by decide +kernel)
    | with_reducible rfl
    | with_reducible refine ok_ite (fun _ => ?_) (fun _ => ?_)
    | (intro s1; refine (fun (h1 : State.Ok Q s1) => ?_) ?_; rotate_left; subst s1; rotate_right)
    | (intro (f : _ → _); subst f; dsimp -zeta only)
    | (intro s1; fail_if_success (have : State := s1))
    | lift_lets
    | split
    | intro _
    | with_reducible apply ok_events

theorem State.publishDerived_ok (h : s.Ok Q) (src hop : Nat) (hw : Q.mask &&& 0x5000000000000000000000000000000000000000000000000000000000000000000000000000000000000000000000000000000000000000000000000000000000000000000000000000000000120000000000000000000000000000000000000000000000000000000000000000000000000000000000000000000000000000000000 = 0) : (s.publishDerived src hop).Ok Q := by
  unfold State.publishDerived
  repeat' first
    | with_reducible assumption
    | with_reducible exact Kit.bit hw (by decide +kernel)
    | with_reducible exact Kit.sub hw (by decide +kernel)
    | with_reducible apply State.publish_ok
    | with_reducible apply State.satAdd_ok
    | with_reducible apply State.setRbit_ok
    | with_reducible apply State.send_ok
    | with_reducible rfl
    | with_reducible refine ok_ite (fun _ => ?_) (fun _ => ?_)
    | (intro s1; refine (fun (h1 : State.Ok Q s1) => ?_) ?_; rotate_left; subst s1; rotate_right)
    | (intro (f : _ → _); subst f; dsimp -zeta only)
    | (intro s1; fail_if_success (have : State := s1))
    | lift_lets
    | split
    | intro _

theorem State.publishFor_ok (h : s.Ok Q) (src hh : Nat) (hw : Q.mask &&& 0x5000000000000000000000000000000000000000000000000000000000000000000000000000000000000000000000000000000000000000000000000000000000000000000000000000000000120000000000000000000000000000000000000000000000000000000000000000000000000000000000000000000000000000000000 = 0) : (s.publishFor src hh).Ok Q := by
  unfold State.publishFor
  repeat' first
    | with_reducible assumption
    | with_reducible exact Kit.bit hw (by decide +kernel)
    | with_reducible exact Kit.sub hw (by decide +kernel)
    | with_reducible apply State.publish_ok
    | with_reducible apply State.publishDerived_ok
    | with_reducible rfl
    | with_reducible refine ok_ite (fun _ => ?_) (fun _ => ?_)
    | (intro s1; refine (fun (h1 : State.Ok Q s1) => ?_) ?_; rotate_left; subst s1; rotate_right)
    | (intro (f : _ → _); subst f; dsimp -zeta only)
    | (intro s1; fail_if_success (have : State := s1))
    | lift_lets
    | split
    | intro _

theorem refusedFlag_bit {addr b : Nat} {r : Reg} (e : refusedFlag addr = some (r, b)) : (0x20002000020000400402000000800010001000040800400002000000000008000200000800000000810010000000010000008800080000800800).testBit r.ctorIdx = true := by
  unfold refusedFlag at e
  repeat' split at e
  all_goals (cases e <;> decide +kernel)

theorem State.refuseAddr_ok (h : s.Ok Q) (addr : Nat) (hw : Q.mask &&& 0x1000000000000000000000000000000000000000000000000000000000000000000000000000000000000000000000000000000000000000000000000000000000000000000000000020002000020000400402000000800010001000040800400002000000000008000200000800000000810010000000010000008800080000800800 = 0) : (s.refuseAddr addr).Ok Q := by
  unfold State.refuseAddr
  extract_lets s1
  refine State.send_ok ?_ _ _ _ _ (Kit.sub hw (by decide +kernel))
  show State.Ok Q (match refusedFlag addr with | none => s | some (r, b) => _)
  split
  · exact h
  · rename_i r b e
    have hb : Q.mask.testBit r.ctorIdx = false := Kit.bit (Kit.sub hw (by decide +kernel)) (refusedFlag_bit e)
    repeat' first
      | with_reducible assumption
      | with_reducible exact Kit.bit hw (by decide +kernel)
      | with_reducible exact Kit.sub hw (by decide +kernel)
      | with_reducible apply State.setTbit_ok
      | with_reducible apply State.setRbit_ok
      | with_reducible apply State.send_ok
      | with_reducible rfl
      | with_reducible refine ok_ite (fun _ => ?_) (fun _ => ?_)
      | (intro s1; refine (fun (h1 : State.Ok Q s1) => ?_) ?_; rotate_left; subst s1; rotate_right)
      | (intro (f : _ → _); subst f; dsimp -zeta only)
      | (intro s1; fail_if_success (have : State := s1))
      | lift_lets
      | split
      | intro _
  

theorem State.refuse_ok (h : s.Ok Q) (r : Reg) (t : Nat) (i j : Nat) (hw : Q.mask &&& 0x1000000000000000000000000000000000000000000000000000000000000000000000000000000000000000000000000000000000000000000000000000000000000000000000000020002000020000400402000000800010001000040800400002000000000008000200000800000000810010000000010000008800080000800800 = 0) : (s.refuse r t i j).Ok Q := by
  unfold State.refuse
  repeat' first
    | with_reducible assumption
    | with_reducible exact Kit.bit hw (by decide +kernel)
    | with_reducible exact Kit.sub hw (by decide +kernel)
    | with_reducible apply State.refuseAddr_ok
    | with_reducible rfl
    | with_reducible refine ok_ite (fun _ => ?_) (fun _ => ?_)
    | (intro s1; refine (fun (h1 : State.Ok Q s1) => ?_) ?_; rotate_left; subst s1; rotate_right)
    | (intro (f : _ → _); subst f; dsimp -zeta only)
    | (intro s1; fail_if_success (have : State := s1))
    | lift_lets
    | split
    | intro _

theorem State.respond_ok (h : s.Ok Q) (err : Bool) (data : Nat) (hw : Q.mask &&& 0x20000000000000000000000000000000000000000000000000000000000000000000000000000000000000000000000000000000000000000000000000000000000000000000000000000000000000000000000000000000000000000000000000000000000000000000000000000000000000000000000000000000000000000000 = 0) : (s.respond err data).Ok Q := by
  unfold State.respond
  repeat' first
    | with_reducible assumption
    | with_reducible exact Kit.bit hw (by decide +kernel)
    | with_reducible exact Kit.sub hw (by decide +kernel)
    | with_reducible rfl
    | with_reducible refine ok_ite (fun _ => ?_) (fun _ => ?_)
    | (intro s1; refine (fun (h1 : State.Ok Q s1) => ?_) ?_; rotate_left; subst s1; rotate_right)
    | (intro (f : _ → _); subst f; dsimp -zeta only)
    | (intro s1; fail_if_success (have : State := s1))
    | lift_lets
    | split
    | intro _
    | with_reducible apply ok_resp

theorem State.addrLog_ok (h : s.Ok Q) (addr : Nat) (hw : Q.mask &&& 0x1000000000000000000000000000000000000000000000000000000000000000000000000000000000000000000000000000000000000000000000000000000000000000000000000000000000000000000000000000000000000000000000000000000000000000000000000000000000000000000000000000000000000000000000 = 0) : (s.addrLog addr).Ok Q := by
  unfold State.addrLog
  repeat' first
    | with_reducible assumption
    | with_reducible exact Kit.bit hw (by decide +kernel)
    | with_reducible exact Kit.sub hw (by decide +kernel)
    | with_reducible apply State.send_ok
    | with_reducible rfl
    | with_reducible refine ok_ite (fun _ => ?_) (fun _ => ?_)
    | (intro s1; refine (fun (h1 : State.Ok Q s1) => ?_) ?_; rotate_left; subst s1; rotate_right)
    | (intro (f : _ → _); subst f; dsimp -zeta only)
    | (intro s1; fail_if_success (have : State := s1))
    | lift_lets
    | split
    | intro _

theorem State.addrFault_ok (h : s.Ok Q) (addr : Nat) (hw : Q.mask &&& 0x1020000000000000000000000000000000000000000000000000000000000000000000000000000000000000000000000000000000000000000000000000000000000000000000000000000000000000000000000000000000000000000000000000000000000000000000000000000000000000000000000000000000000000000000 = 0) : (s.addrFault addr).Ok Q := by
  unfold State.addrFault
  repeat' first
    | with_reducible assumption
    | with_reducible exact Kit.bit hw (by decide +kernel)
    | with_reducible exact Kit.sub hw (by decide +kernel)
    | with_reducible apply State.addrLog_ok
    | with_reducible apply State.respond_ok
    | with_reducible rfl
    | with_reducible refine ok_ite (fun _ => ?_) (fun _ => ?_)
    | (intro s1; refine (fun (h1 : State.Ok Q s1) => ?_) ?_; rotate_left; subst s1; rotate_right)
    | (intro (f : _ → _); subst f; dsimp -zeta only)
    | (intro s1; fail_if_success (have : State := s1))
    | lift_lets
    | split
    | intro _

theorem State.sltMark_ok (h : s.Ok Q) (b : Bool) (hw : Q.mask &&& 0x400000000000000000000000000000000000000000000000000000000000000000000000000000000000000000000000000000000000000000000000000000000000000000000000000000000000000000000000000000000000000000000000000 = 0) : (s.sltMark b).Ok Q := by
  unfold State.sltMark
  repeat' first
    | with_reducible assumption
    | with_reducible exact Kit.bit hw (by decide +kernel)
    | with_reducible exact Kit.sub hw (by decide +kernel)
    | with_reducible apply State.setLat_ok
    | with_reducible apply forUpto_ok
    | with_reducible rfl
    | (intro i1 s1 (h1 : State.Ok Q s1))
    | (intro s1 i1 (h1 : State.Ok Q s1))
    | with_reducible refine ok_ite (fun _ => ?_) (fun _ => ?_)
    | (intro s1; refine (fun (h1 : State.Ok Q s1) => ?_) ?_; rotate_left; subst s1; rotate_right)
    | (intro (f : _ → _); subst f; dsimp -zeta only)
    | (intro s1; fail_if_success (have : State := s1))
    | lift_lets
    | split
    | intro _

theorem State.enterMode_ok (h : s.Ok Q) (hm : Q.anyMode) (m : Mode) (hs : s.mode = .sable → m = .sable) (hw : Q.mask &&& 0x404000000000000000000000000000000000000000000000000000000000000000040000000000000000000000000000000000000000000000000000000000000000000000000000000000000000000000000000000000000000000000000000000000000000000000000000000000000000000000000000000000000000000000001c = 0) : (s.enterMode m).Ok Q := by
  unfold State.enterMode
  refine ok_ite (fun _ => h) (fun _ => ?_)
  have e : State.Ok Q { s with mode := m } := ok_mode h hm (Kit.bit hw (by decide +kernel)) hs
  repeat' first
    | with_reducible assumption
    | with_reducible exact Kit.bit hw (by decide +kernel)
    | with_reducible exact Kit.sub hw (by decide +kernel)
    | with_reducible apply State.sltMark_ok
    | with_reducible apply State.setReg_ok
    | with_reducible apply State.publish_ok
    | with_reducible rfl
    | with_reducible refine ok_ite (fun _ => ?_) (fun _ => ?_)
    | (intro s1; refine (fun (h1 : State.Ok Q s1) => ?_) ?_; rotate_left; subst s1; rotate_right)
    | (intro (f : _ → _); subst f; dsimp -zeta only)
    | (intro s1; fail_if_success (have : State := s1))
    | lift_lets
    | split
    | intro _


theorem State.enterMode_none (h : s.Ok Q) (hn : Q.m = none) (m : Mode) (hw : Q.mask &&& 0x404000000000000000000000000000000000000000000000000000000000000000040000000000000000000000000000000000000000000000000000000000000000000000000000000000000000000000000000000000000000000000000000000000000000000000000000000000000000000000000000000000000000000000001c = 0) : (s.enterMode m).Ok Q := by
  unfold State.enterMode
  refine ok_ite (fun _ => h) (fun _ => ?_)
  have e : State.Ok Q { s with mode := m } :=
    ⟨{ h.1 with m := fun _ e => (nomatch hn.symm.trans e), kmode := Kit.no (Kit.bit hw (by decide +kernel)) }, { h.2 with }⟩
  repeat' first
    | with_reducible assumption
    | with_reducible exact Kit.bit hw (by decide +kernel)
    | with_reducible exact Kit.sub hw (by decide +kernel)
    | with_reducible apply State.sltMark_ok
    | with_reducible apply State.setReg_ok
    | with_reducible apply State.publish_ok
    | with_reducible rfl
    | with_reducible refine ok_ite (fun _ => ?_) (fun _ => ?_)
    | (intro s1; refine (fun (h1 : State.Ok Q s1) => ?_) ?_; rotate_left; subst s1; rotate_right)
    | (intro (f : _ → _); subst f; dsimp -zeta only)
    | (intro s1; fail_if_success (have : State := s1))
    | lift_lets
    | split
    | intro _


theorem State.dramError_ok (h : s.Ok Q) (o : Nat) (hw : Q.mask &&& 0x100000000000000000000000000000000000000000000000000000000000000000000000000000000000000000000000000000000000000000000000000000000000000000000000000c000000000000000000000000000000000000000000000000000000000000000000000000000000000000000000000000000000000000000000 = 0) : (s.dramError o).Ok Q := by
  unfold State.dramError
  repeat' first
    | with_reducible assumption
    | with_reducible exact Kit.bit hw (by decide +kernel)
    | with_reducible exact Kit.sub hw (by decide +kernel)
    | with_reducible apply State.satAdd_ok
    | with_reducible apply State.setReg_ok
    | with_reducible apply State.send_ok
    | with_reducible rfl
    | with_reducible refine ok_ite (fun _ => ?_) (fun _ => ?_)
    | (intro s1; refine (fun (h1 : State.Ok Q s1) => ?_) ?_; rotate_left; subst s1; rotate_right)
    | (intro (f : _ → _); subst f; dsimp -zeta only)
    | (intro s1; fail_if_success (have : State := s1))
    | lift_lets
    | split
    | intro _

theorem State.dramCorrected_ok (h : s.Ok Q) (o : Nat) (hw : Q.mask &&& 0x1000000000000000000000000000000000000000000000000000000000000000000000000000000000000000000000000000000000000000000000000000000000000000000000000002000000000000000000000000000000000000000000000000000000000000000000000000000000000000000000000000000000000000000000 = 0) : (s.dramCorrected o).Ok Q := by
  unfold State.dramCorrected
  repeat' first
    | with_reducible assumption
    | with_reducible exact Kit.bit hw (by decide +kernel)
    | with_reducible exact Kit.sub hw (by decide +kernel)
    | with_reducible apply State.satAdd_ok
    | with_reducible apply State.send_ok
    | with_reducible rfl
    | with_reducible refine ok_ite (fun _ => ?_) (fun _ => ?_)
    | (intro s1; refine (fun (h1 : State.Ok Q s1) => ?_) ?_; rotate_left; subst s1; rotate_right)
    | (intro (f : _ → _); subst f; dsimp -zeta only)
    | (intro s1; fail_if_success (have : State := s1))
    | lift_lets
    | split
    | intro _

theorem State.dramMeet_ok (h : s.Ok Q) (o n : Nat) (hw : Q.mask &&& 0x1006000000000000000000000000000000000000000000000000000000000000000000000000000000000000000000000000000000000000000000000000000000000000000000000002000000000000000000000000000000000000000000000000000000000000000000000000000000000000000000000000000000000000000000 = 0) : (s.dramMeet o n).Ok Q := by
  unfold State.dramMeet
  repeat' first
    | with_reducible assumption
    | with_reducible exact Kit.bit hw (by decide +kernel)
    | with_reducible exact Kit.sub hw (by decide +kernel)
    | with_reducible apply State.dramCorrected_ok
    | with_reducible apply State.dramWrite_ok
    | with_reducible apply foldl_ok
    | with_reducible rfl
    | (intro i1 s1 (h1 : State.Ok Q s1))
    | (intro s1 i1 (h1 : State.Ok Q s1))
    | with_reducible refine ok_ite (fun _ => ?_) (fun _ => ?_)
    | (intro s1; refine (fun (h1 : State.Ok Q s1) => ?_) ?_; rotate_left; subst s1; rotate_right)
    | (intro (f : _ → _); subst f; dsimp -zeta only)
    | (intro s1; fail_if_success (have : State := s1))
    | lift_lets
    | split
    | intro _

end Sys2Proof.Machine
end

