-- ==== Sys2Proof/Laws/KeepMotion.lean ====
section
/-! SUPPORT. The operations of Machine/Motion.lean keep soundness and the queue. -/
set_option Elab.async false
namespace Sys2Proof.Machine

variable {Q : Kit} {s : State}

theorem State.setPrf_ok (h : s.Ok Q) (t c : Nat) (x v a : Int) (hw : Q.mask &&& 0x700000000000000000000000000000000000000000000000000000000000000000000000000000000000000000000003800000000000000000000000000000000 = 0) : (s.setPrf t c x v a).Ok Q := by
  unfold State.setPrf
  repeat' first
    | with_reducible assumption
    | with_reducible exact Kit.bit hw (by decide +kernel)
    | with_reducible exact Kit.sub hw (by decide +kernel)
    | with_reducible apply State.setLat_ok
    | with_reducible apply State.setTreg_ok
    | with_reducible rfl
    | with_reducible refine ok_ite (fun _ => ?_) (fun _ => ?_)
    | (intro s1; refine (fun (h1 : State.Ok Q s1) => ?_) ?_; rotate_left; subst s1; rotate_right)
    | (intro (f : _ → _); subst f; dsimp -zeta only)
    | (intro s1; fail_if_success (have : State := s1))
    | lift_lets
    | split
    | intro _

theorem State.prfEnd_ok (h : s.Ok Q) (t c : Nat) (hw : Q.mask &&& 0x3000000000000000000000000000000000000000000000000000000000000000000000000000000000000000000000000020000000000000000000000000000000 = 0) : (s.prfEnd t c).Ok Q := by
  unfold State.prfEnd
  repeat' first
    | with_reducible assumption
    | with_reducible exact Kit.bit hw (by decide +kernel)
    | with_reducible exact Kit.sub hw (by decide +kernel)
    | with_reducible apply State.setMapBit_ok
    | with_reducible apply State.setFlag_ok
    | with_reducible rfl
    | with_reducible refine ok_ite (fun _ => ?_) (fun _ => ?_)
    | (intro s1; refine (fun (h1 : State.Ok Q s1) => ?_) ?_; rotate_left; subst s1; rotate_right)
    | (intro (f : _ → _); subst f; dsimp -zeta only)
    | (intro s1; fail_if_success (have : State := s1))
    | lift_lets
    | split
    | intro _

theorem State.prfPause_ok (h : s.Ok Q) (t c : Nat) (hw : Q.mask &&& 0x3700000000000000000000000000000000000000000000000000000000000000000000000000000000000000000000003800000000000000000000000000000000 = 0) : (s.prfPause t c).Ok Q := by
  unfold State.prfPause
  repeat' first
    | with_reducible assumption
    | with_reducible exact Kit.bit hw (by decide +kernel)
    | with_reducible exact Kit.sub hw (by decide +kernel)
    | with_reducible apply State.setPrf_ok
    | with_reducible apply State.setFlag_ok
    | with_reducible rfl
    | with_reducible refine ok_ite (fun _ => ?_) (fun _ => ?_)
    | (intro s1; refine (fun (h1 : State.Ok Q s1) => ?_) ?_; rotate_left; subst s1; rotate_right)
    | (intro (f : _ → _); subst f; dsimp -zeta only)
    | (intro s1; fail_if_success (have : State := s1))
    | lift_lets
    | split
    | intro _

theorem State.prfPauseTile_ok (h : s.Ok Q) (t : Nat) (hw : Q.mask &&& 0x3700000000000000000000000000000000000000000000000000000000000000000000000000000000000000000000003800000000000000000000000000000000 = 0) : (s.prfPauseTile t).Ok Q := by
  unfold State.prfPauseTile
  repeat' first
    | with_reducible assumption
    | with_reducible exact Kit.bit hw (by decide +kernel)
    | with_reducible exact Kit.sub hw (by decide +kernel)
    | with_reducible apply State.prfPause_ok
    | with_reducible apply forUpto_ok
    | with_reducible rfl
    | (intro i1 s1 (h1 : State.Ok Q s1))
    | (intro s1 i1 (h1 : State.Ok Q s1))
    | with_reducible refine ok_ite (fun _ => ?_) (fun _ => ?_)
    | (intro s1; refine (fun (h1 : State.Ok Q s1) => ?_) ?_; rotate_left; subst s1; rotate_right)
    | (intro (f : _ → _); subst f; dsimp -zeta only)
    | (intro s1; fail_if_success (have : State := s1))
    | lift_lets
    | split
    | intro _

theorem State.prfPauseAll_ok (h : s.Ok Q) (hw : Q.mask &&& 0x3700000000000000000000000000000000000000000000000000000000000000000000000000000000000000000000003800000000000000000000000000000000 = 0) : (s.prfPauseAll).Ok Q := by
  unfold State.prfPauseAll
  repeat' first
    | with_reducible assumption
    | with_reducible exact Kit.bit hw (by decide +kernel)
    | with_reducible exact Kit.sub hw (by decide +kernel)
    | with_reducible apply State.prfPauseTile_ok
    | with_reducible apply forIn'_ok
    | with_reducible rfl
    | (intro i1 s1 (h1 : State.Ok Q s1))
    | (intro s1 i1 (h1 : State.Ok Q s1))
    | with_reducible refine ok_ite (fun _ => ?_) (fun _ => ?_)
    | (intro s1; refine (fun (h1 : State.Ok Q s1) => ?_) ?_; rotate_left; subst s1; rotate_right)
    | (intro (f : _ → _); subst f; dsimp -zeta only)
    | (intro s1; fail_if_success (have : State := s1))
    | lift_lets
    | split
    | intro _

theorem State.prfEndAll_ok (h : s.Ok Q) (hw : Q.mask &&& 0x3000000000000000000000000000000000000000000000000000000000000000000000000000000000000000000000000020000000000000000000000000000000 = 0) : (s.prfEndAll).Ok Q := by
  unfold State.prfEndAll
  repeat' first
    | with_reducible assumption
    | with_reducible exact Kit.bit hw (by decide +kernel)
    | with_reducible exact Kit.sub hw (by decide +kernel)
    | with_reducible apply State.prfEnd_ok
    | with_reducible apply forUpto_ok
    | with_reducible apply forIn'_ok
    | with_reducible rfl
    | (intro i1 s1 (h1 : State.Ok Q s1))
    | (intro s1 i1 (h1 : State.Ok Q s1))
    | with_reducible refine ok_ite (fun _ => ?_) (fun _ => ?_)
    | (intro s1; refine (fun (h1 : State.Ok Q s1) => ?_) ?_; rotate_left; subst s1; rotate_right)
    | (intro (f : _ → _); subst f; dsimp -zeta only)
    | (intro s1; fail_if_success (have : State := s1))
    | lift_lets
    | split
    | intro _

theorem State.prfBoundary_ok (h : s.Ok Q) (t c : Nat) (load : State → Nat → State)
    (hl : ∀ s n, s.Ok Q → (load s n).Ok Q) (hw : Q.mask &&& 0x3f00000000000000000000000000000000000000000000000000000000000000000000000000000000000000000000003860000000000000000000000000000000 = 0) : (s.prfBoundary t c load).Ok Q := by
  unfold State.prfBoundary
  repeat' first
    | with_reducible assumption
    | with_reducible apply hl
    | with_reducible exact Kit.bit hw (by decide +kernel)
    | with_reducible exact Kit.sub hw (by decide +kernel)
    | with_reducible apply State.setLat_ok
    | with_reducible apply State.prfEnd_ok
    | with_reducible apply State.setPrf_ok
    | with_reducible apply State.setFlag_ok
    | with_reducible apply State.setMapBit_ok
    | with_reducible rfl
    | with_reducible refine ok_ite (fun _ => ?_) (fun _ => ?_)
    | (intro s1; refine (fun (h1 : State.Ok Q s1) => ?_) ?_; rotate_left; subst s1; rotate_right)
    | (intro (f : _ → _); subst f; dsimp -zeta only)
    | (intro s1; fail_if_success (have : State := s1))
    | lift_lets
    | split
    | intro _


end Sys2Proof.Machine
end

