-- ==== Sys2Proof/Laws/KeepDrive.lean ====
section
/-! SUPPORT. The operations of Machine/Drive.lean keep soundness and the queue. -/
set_option Elab.async false
namespace Sys2Proof.Machine

variable {Q : Kit} {s : State}

theorem State.htrSat_ok (h : s.Ok Q) (t c : Nat) (sat : Bool) (hw : Q.mask &&& 0x8000000000000000000000000000000000000000000000000000000000000000000000000000000000000000000000000000000000000000000000000000000000000000000000000000000000000000000000000000000000000000000000800000 = 0) : (s.htrSat t c sat).Ok Q := by
  unfold State.htrSat
  repeat' first
    | with_reducible assumption
    | with_reducible exact Kit.bit hw (by decide +kernel)
    | with_reducible exact Kit.sub hw (by decide +kernel)
    | with_reducible apply State.setTbit_ok
    | with_reducible apply State.setLat_ok
    | with_reducible rfl
    | with_reducible refine ok_ite (fun _ => ?_) (fun _ => ?_)
    | (intro s1; refine (fun (h1 : State.Ok Q s1) => ?_) ?_; rotate_left; subst s1; rotate_right)
    | (intro (f : _ → _); subst f; dsimp -zeta only)
    | (intro s1; fail_if_success (have : State := s1))
    | lift_lets
    | split
    | intro _

theorem State.htrForm_ok (h : s.Ok Q) (t c : Nat) (hw : Q.mask &&& 0x8000000000000000000000000000000000000000000000000000000000000000000000000000000000000000000000000000000000000000000000000000000000000000000000000000000000000000000000000000000000000000000040800000 = 0) : (s.htrForm t c).Ok Q := by
  unfold State.htrForm
  repeat' first
    | with_reducible assumption
    | with_reducible exact Kit.bit hw (by decide +kernel)
    | with_reducible exact Kit.sub hw (by decide +kernel)
    | with_reducible apply State.htrSat_ok
    | with_reducible apply State.setTreg_ok
    | with_reducible rfl
    | with_reducible refine ok_ite (fun _ => ?_) (fun _ => ?_)
    | (intro s1; refine (fun (h1 : State.Ok Q s1) => ?_) ?_; rotate_left; subst s1; rotate_right)
    | (intro (f : _ → _); subst f; dsimp -zeta only)
    | (intro s1; fail_if_success (have : State := s1))
    | lift_lets
    | split
    | intro _

theorem State.loadLoop_ok (h : s.Ok Q) (t c v : Nat) (hw : Q.mask &&& 0x80000000000000000000000000000000000000000000000000000000000000000000000000000000000000000000000000000000000000000000000000000000000000000000000000000000000000000000000000000000000000000000c0800000 = 0) : (s.loadLoop t c v).Ok Q := by
  unfold State.loadLoop
  repeat' first
    | with_reducible assumption
    | with_reducible exact Kit.bit hw (by decide +kernel)
    | with_reducible exact Kit.sub hw (by decide +kernel)
    | with_reducible apply State.setTfld_ok
    | with_reducible apply State.htrForm_ok
    | with_reducible rfl
    | with_reducible refine ok_ite (fun _ => ?_) (fun _ => ?_)
    | (intro s1; refine (fun (h1 : State.Ok Q s1) => ?_) ?_; rotate_left; subst s1; rotate_right)
    | (intro (f : _ → _); subst f; dsimp -zeta only)
    | (intro s1; fail_if_success (have : State := s1))
    | lift_lets
    | split
    | intro _

theorem State.loadCorr_ok (h : s.Ok Q) (t c : Nat) (v : Int) (hw : Q.mask &&& 0x80000000000000000000000000000000000000000000000000000000000000000000000000000000000000000000000000000000000000000000000000000000000000000000000000000000000000000000000000000000000000000000c0800000 = 0) : (s.loadCorr t c v).Ok Q := by
  unfold State.loadCorr
  repeat' first
    | with_reducible assumption
    | with_reducible exact Kit.bit hw (by decide +kernel)
    | with_reducible exact Kit.sub hw (by decide +kernel)
    | with_reducible apply State.setTfld_ok
    | with_reducible apply State.htrForm_ok
    | with_reducible rfl
    | with_reducible refine ok_ite (fun _ => ?_) (fun _ => ?_)
    | (intro s1; refine (fun (h1 : State.Ok Q s1) => ?_) ?_; rotate_left; subst s1; rotate_right)
    | (intro (f : _ → _); subst f; dsimp -zeta only)
    | (intro s1; fail_if_success (have : State := s1))
    | lift_lets
    | split
    | intro _

theorem State.setLoopAct_ok (h : s.Ok Q) (t c u o : Nat) (hw : Q.mask &&& 0x2000000000000000000000000000000000000000000000000000000000000000000000000000000000000000000000000000000000000000000000000000000000000000000000000000000000000000000000000000000 = 0) : (s.setLoopAct t c u o).Ok Q := by
  unfold State.setLoopAct
  repeat' first
    | with_reducible assumption
    | with_reducible exact Kit.bit hw (by decide +kernel)
    | with_reducible exact Kit.sub hw (by decide +kernel)
    | with_reducible apply State.setLat_ok
    | with_reducible rfl
    | with_reducible refine ok_ite (fun _ => ?_) (fun _ => ?_)
    | (intro s1; refine (fun (h1 : State.Ok Q s1) => ?_) ?_; rotate_left; subst s1; rotate_right)
    | (intro (f : _ → _); subst f; dsimp -zeta only)
    | (intro s1; fail_if_success (have : State := s1))
    | lift_lets
    | split
    | intro _

theorem State.selectLoop_ok (h : s.Ok Q) (t c : Nat) (hw : Q.mask &&& 0x80000000000000000000000000000000000000000000000000000000000000000000000000000000000000000000000000000000000000000000000000000000000000000000000000000000000000000000000000000000000000000000c0800000 = 0) : (s.selectLoop t c).Ok Q := by
  unfold State.selectLoop
  repeat' first
    | with_reducible assumption
    | with_reducible exact Kit.bit hw (by decide +kernel)
    | with_reducible exact Kit.sub hw (by decide +kernel)
    | with_reducible apply State.loadLoop_ok
    | with_reducible rfl
    | with_reducible refine ok_ite (fun _ => ?_) (fun _ => ?_)
    | (intro s1; refine (fun (h1 : State.Ok Q s1) => ?_) ?_; rotate_left; subst s1; rotate_right)
    | (intro (f : _ → _); subst f; dsimp -zeta only)
    | (intro s1; fail_if_success (have : State := s1))
    | lift_lets
    | split
    | intro _

theorem State.loadMan_ok (h : s.Ok Q) (t c v : Nat) (hw : Q.mask &&& 0x80000000000000000000020000000000000000000000000000000000000000000000000000000000000000000000000000000000000000000000000000000000000000000000000000000000000000000000000000000000000000000000c0800000 = 0) : (s.loadMan t c v).Ok Q := by
  unfold State.loadMan
  repeat' first
    | with_reducible assumption
    | with_reducible exact Kit.bit hw (by decide +kernel)
    | with_reducible exact Kit.sub hw (by decide +kernel)
    | with_reducible apply State.setLoopAct_ok
    | with_reducible apply State.setTreg_ok
    | with_reducible apply State.htrForm_ok
    | with_reducible rfl
    | with_reducible refine ok_ite (fun _ => ?_) (fun _ => ?_)
    | (intro s1; refine (fun (h1 : State.Ok Q s1) => ?_) ?_; rotate_left; subst s1; rotate_right)
    | (intro (f : _ → _); subst f; dsimp -zeta only)
    | (intro s1; fail_if_success (have : State := s1))
    | lift_lets
    | split
    | intro _

theorem State.htrModeBoundary_ok (h : s.Ok Q) (t c : Nat) (hw : Q.mask &&& 0x20000000000000000000000000000000000000000000180000000000000000000000000000000000000000000000000000000000000000000000000000000000000000000000000000000000000000000000000c0000000 = 0) : (s.htrModeBoundary t c).Ok Q := by
  unfold State.htrModeBoundary
  repeat' first
    | with_reducible assumption
    | with_reducible exact Kit.bit hw (by decide +kernel)
    | with_reducible exact Kit.sub hw (by decide +kernel)
    | with_reducible apply State.setFlag_ok
    | with_reducible apply State.setLoopAct_ok
    | with_reducible apply State.setTreg_ok
    | with_reducible rfl
    | with_reducible refine ok_ite (fun _ => ?_) (fun _ => ?_)
    | (intro s1; refine (fun (h1 : State.Ok Q s1) => ?_) ?_; rotate_left; subst s1; rotate_right)
    | (intro (f : _ → _); subst f; dsimp -zeta only)
    | (intro s1; fail_if_success (have : State := s1))
    | lift_lets
    | split
    | intro _

theorem State.noteState_ok (h : s.Ok Q) (t c : Nat) (st : Bool) (hw : Q.mask &&& 0x400000000000000000000000000000000000000000000000000000000000000000000000000000000000000000000000000000000000000000000000000000000000000000000000 = 0) : (s.noteState t c st).Ok Q := by
  unfold State.noteState
  repeat' first
    | with_reducible assumption
    | with_reducible exact Kit.bit hw (by decide +kernel)
    | with_reducible exact Kit.sub hw (by decide +kernel)
    | with_reducible apply State.setLat_ok
    | with_reducible rfl
    | with_reducible refine ok_ite (fun _ => ?_) (fun _ => ?_)
    | (intro s1; refine (fun (h1 : State.Ok Q s1) => ?_) ?_; rotate_left; subst s1; rotate_right)
    | (intro (f : _ → _); subst f; dsimp -zeta only)
    | (intro s1; fail_if_success (have : State := s1))
    | lift_lets
    | split
    | intro _

theorem State.loadDrv_ok (h : s.Ok Q) (t c code : Nat) (fine : Nat) (state profile : Bool) (grp : Nat) (hw : Q.mask &&& 0x400000000000000000000000000000000000000000000000000000000000000000000000000000000000000000000000000000000000000000000000000000000000000000100000 = 0) : (s.loadDrv t c code fine state profile grp).Ok Q := by
  unfold State.loadDrv
  repeat' first
    | with_reducible assumption
    | with_reducible exact Kit.bit hw (by decide +kernel)
    | with_reducible exact Kit.sub hw (by decide +kernel)
    | with_reducible apply State.noteState_ok
    | with_reducible apply State.setTreg_ok
    | with_reducible rfl
    | with_reducible refine ok_ite (fun _ => ?_) (fun _ => ?_)
    | (intro s1; refine (fun (h1 : State.Ok Q s1) => ?_) ?_; rotate_left; subst s1; rotate_right)
    | (intro (f : _ → _); subst f; dsimp -zeta only)
    | (intro s1; fail_if_success (have : State := s1))
    | lift_lets
    | split
    | intro _

theorem State.forceSable_ok (h : s.Ok Q) (t c : Nat) (hw : Q.mask &&& 0x40100000 = 0) : (s.forceSable t c).Ok Q := by
  unfold State.forceSable
  repeat' first
    | with_reducible assumption
    | with_reducible exact Kit.bit hw (by decide +kernel)
    | with_reducible exact Kit.sub hw (by decide +kernel)
    | with_reducible apply State.setTfld_ok
    | with_reducible apply State.setTreg_ok
    | with_reducible rfl
    | with_reducible refine ok_ite (fun _ => ?_) (fun _ => ?_)
    | (intro s1; refine (fun (h1 : State.Ok Q s1) => ?_) ?_; rotate_left; subst s1; rotate_right)
    | (intro (f : _ → _); subst f; dsimp -zeta only)
    | (intro s1; fail_if_success (have : State := s1))
    | lift_lets
    | split
    | intro _

theorem State.composeCh_ok (h : s.Ok Q) (cm : Commit) (t c : Nat) (hw : Q.mask &&& 0xc0000000000000000000000000000000000000000000000000000000000000000000000000000000000000000000000000000000000000000000000000000084000 = 0) : (s.composeCh cm t c).Ok Q := by
  unfold State.composeCh
  repeat' first
    | with_reducible assumption
    | with_reducible exact Kit.bit hw (by decide +kernel)
    | with_reducible exact Kit.sub hw (by decide +kernel)
    | with_reducible apply State.setMapBit_ok
    | with_reducible apply State.setTreg_ok
    | with_reducible apply State.setLat_ok
    | with_reducible apply State.setFlag_ok
    | with_reducible rfl
    | with_reducible refine ok_ite (fun _ => ?_) (fun _ => ?_)
    | (intro s1; refine (fun (h1 : State.Ok Q s1) => ?_) ?_; rotate_left; subst s1; rotate_right)
    | (intro (f : _ → _); subst f; dsimp -zeta only)
    | (intro s1; fail_if_success (have : State := s1))
    | lift_lets
    | split
    | intro _

theorem State.composeTile_ok (h : s.Ok Q) (cm : Commit) (t : Nat) (hw : Q.mask &&& 0xc0000000000000000000000000000000000000000000000000000000000000000000000000000000000000000000000000000000000000000000000000000084000 = 0) : (s.composeTile cm t).Ok Q := by
  unfold State.composeTile
  repeat' first
    | with_reducible assumption
    | with_reducible exact Kit.bit hw (by decide +kernel)
    | with_reducible exact Kit.sub hw (by decide +kernel)
    | with_reducible apply State.composeCh_ok
    | with_reducible apply forUpto_ok
    | with_reducible rfl
    | (intro i1 s1 (h1 : State.Ok Q s1))
    | (intro s1 i1 (h1 : State.Ok Q s1))
    | with_reducible refine ok_ite (fun _ => ?_) (fun _ => ?_)
    | (intro s1; refine (fun (h1 : State.Ok Q s1) => ?_) ?_; rotate_left; subst s1; rotate_right)
    | (intro (f : _ → _); subst f; dsimp -zeta only)
    | (intro s1; fail_if_success (have : State := s1))
    | lift_lets
    | split
    | intro _

theorem State.composeLeft_ok (h : s.Ok Q) (t : Nat) (hw : Q.mask &&& 0xc0000000000000000000000000000000000000000000000000000000000000000000000000000000000000000000000000000000000000000000000000000084000 = 0) : (s.composeLeft t).Ok Q := by
  unfold State.composeLeft
  repeat' first
    | with_reducible assumption
    | with_reducible exact Kit.bit hw (by decide +kernel)
    | with_reducible exact Kit.sub hw (by decide +kernel)
    | with_reducible apply State.composeTile_ok
    | with_reducible rfl
    | with_reducible refine ok_ite (fun _ => ?_) (fun _ => ?_)
    | (intro s1; refine (fun (h1 : State.Ok Q s1) => ?_) ?_; rotate_left; subst s1; rotate_right)
    | (intro (f : _ → _); subst f; dsimp -zeta only)
    | (intro s1; fail_if_success (have : State := s1))
    | lift_lets
    | split
    | intro _

theorem State.loadShadow_ok (h : s.Ok Q) (cm : Commit) (t c : Nat) (hw : Q.mask &&& 0x80000000000000000000000000000000000000000000000000004000000000000000000000000000000000000000000000000000000000000000000000000000000000000000000000000000000000000000000000000000000000000000c0900000 = 0) : (s.loadShadow cm t c).Ok Q := by
  unfold State.loadShadow
  repeat' first
    | with_reducible assumption
    | with_reducible exact Kit.bit hw (by decide +kernel)
    | with_reducible exact Kit.sub hw (by decide +kernel)
    | with_reducible apply State.loadDrv_ok
    | with_reducible apply State.loadCorr_ok
    | with_reducible rfl
    | with_reducible refine ok_ite (fun _ => ?_) (fun _ => ?_)
    | (intro s1; refine (fun (h1 : State.Ok Q s1) => ?_) ?_; rotate_left; subst s1; rotate_right)
    | (intro (f : _ → _); subst f; dsimp -zeta only)
    | (intro s1; fail_if_success (have : State := s1))
    | lift_lets
    | split
    | intro _

theorem State.loadGentle_ok (h : s.Ok Q) (t c : Nat) (hw : Q.mask &&& 0x8000000000000000000000000000000000000000000000000000400000000000002f000000000000000000000000000000000000000000000000000000000000000000000000000000000000000000000078200000000000000000000000c0900000 = 0) : (s.loadGentle t c).Ok Q := by
  unfold State.loadGentle
  repeat' first
    | with_reducible assumption
    | with_reducible exact Kit.bit hw (by decide +kernel)
    | with_reducible exact Kit.sub hw (by decide +kernel)
    | with_reducible apply State.loadCorr_ok
    | with_reducible apply State.noteState_ok
    | with_reducible apply State.setTbit_ok
    | with_reducible apply State.setTreg_ok
    | with_reducible apply State.setFlag_ok
    | with_reducible apply State.setPrf_ok
    | with_reducible apply State.setMapBit_ok
    | with_reducible apply State.setLat_ok
    | with_reducible apply State.loadDrv_ok
    | with_reducible rfl
    | with_reducible refine ok_ite (fun _ => ?_) (fun _ => ?_)
    | (intro s1; refine (fun (h1 : State.Ok Q s1) => ?_) ?_; rotate_left; subst s1; rotate_right)
    | (intro (f : _ → _); subst f; dsimp -zeta only)
    | (intro s1; fail_if_success (have : State := s1))
    | lift_lets
    | split
    | intro _

theorem State.edgeCh_ok (h : s.Ok Q) (cm : Commit) (t c : Nat) (hw : Q.mask &&& 0x8000000000000000000000000000000000000000000000000000400000000000003f000000000000000000000000000000000000000000000000000000000000000000000000000000000000000000000078300000000000000000000000c0900000 = 0) : (s.edgeCh cm t c).Ok Q := by
  unfold State.edgeCh
  repeat' first
    | with_reducible assumption
    | with_reducible exact Kit.bit hw (by decide +kernel)
    | with_reducible exact Kit.sub hw (by decide +kernel)
    | with_reducible apply State.loadGentle_ok
    | with_reducible apply State.setTbit_ok
    | with_reducible apply State.prfEnd_ok
    | with_reducible apply State.loadDrv_ok
    | with_reducible apply State.loadShadow_ok
    | with_reducible rfl
    | with_reducible refine ok_ite (fun _ => ?_) (fun _ => ?_)
    | (intro s1; refine (fun (h1 : State.Ok Q s1) => ?_) ?_; rotate_left; subst s1; rotate_right)
    | (intro (f : _ → _); subst f; dsimp -zeta only)
    | (intro s1; fail_if_success (have : State := s1))
    | lift_lets
    | split
    | intro _

theorem State.groupCh_ok (h : s.Ok Q) (cm : Commit) (g t c : Nat) (hw : Q.mask &&& 0x80000000000000000000000000000000000000000000000000004000000000000800000000000000000000000000000000000000000000000000000000000000000000000000000000000000000000000000000000000000000000000000c0900000 = 0) : (s.groupCh cm g t c).Ok Q := by
  unfold State.groupCh
  repeat' first
    | with_reducible assumption
    | with_reducible exact Kit.bit hw (by decide +kernel)
    | with_reducible exact Kit.sub hw (by decide +kernel)
    | with_reducible apply State.loadShadow_ok
    | with_reducible apply State.setFlag_ok
    | with_reducible rfl
    | with_reducible refine ok_ite (fun _ => ?_) (fun _ => ?_)
    | (intro s1; refine (fun (h1 : State.Ok Q s1) => ?_) ?_; rotate_left; subst s1; rotate_right)
    | (intro (f : _ → _); subst f; dsimp -zeta only)
    | (intro s1; fail_if_success (have : State := s1))
    | lift_lets
    | split
    | intro _

theorem State.legLost_ok (h : s.Ok Q) (t c : Nat) (legB : Bool) (hw : Q.mask &&& 0x1000000000000000000000000000000000000000000000000000000000000000000000000000000000000000000000000000000000000000000000000000000000020000000000000000000000000000000000000000000000000000000000000000000000000000000000000000000000000000000000000000000000000000103000 = 0) : (s.legLost t c legB).Ok Q := by
  unfold State.legLost
  cases legB
  all_goals
    simp -zeta only [Bool.false_eq_true, if_false, if_true]
    repeat' first
      | with_reducible assumption
      | with_reducible exact Kit.bit hw (by decide +kernel)
      | with_reducible exact Kit.sub hw (by decide +kernel)
      | with_reducible apply State.setMapBit_ok
      | with_reducible apply State.send_ok
      | with_reducible apply State.setFlag_ok
      | with_reducible apply State.setTfld_ok
      | with_reducible rfl
      | with_reducible refine ok_ite (fun _ => ?_) (fun _ => ?_)
      | (intro s1; refine (fun (h1 : State.Ok Q s1) => ?_) ?_; rotate_left; subst s1; rotate_right)
      | (intro (f : _ → _); subst f; dsimp -zeta only)
      | (intro s1; fail_if_success (have : State := s1))
      | lift_lets
      | split
      | intro _
  

theorem State.connectSpare_ok (h : s.Ok Q) (t c k : Nat) (hw : Q.mask &&& 0x100000000000000000000000000000000000000000000000000000000000000400000000000000000000000000000000000000000000000000000000000000000000000000000000000000000000000000000000000000000000000000006000000 = 0) : (s.connectSpare t c k).Ok Q := by
  unfold State.connectSpare
  repeat' first
    | with_reducible assumption
    | with_reducible exact Kit.bit hw (by decide +kernel)
    | with_reducible exact Kit.sub hw (by decide +kernel)
    | with_reducible apply State.setTreg_ok
    | with_reducible apply State.setFlag_ok
    | with_reducible apply State.setLat_ok
    | with_reducible apply State.setMapBit_ok
    | with_reducible rfl
    | with_reducible refine ok_ite (fun _ => ?_) (fun _ => ?_)
    | (intro s1; refine (fun (h1 : State.Ok Q s1) => ?_) ?_; rotate_left; subst s1; rotate_right)
    | (intro (f : _ → _); subst f; dsimp -zeta only)
    | (intro s1; fail_if_success (have : State := s1))
    | lift_lets
    | split
    | intro _

theorem State.htrKill_ok (h : s.Ok Q) (t c : Nat) (hw : Q.mask &&& 0x4000000000000000000000000000000000000000000000000000000000000000000000000000000000000000000000000000000000000000000000000040000000 = 0) : (s.htrKill t c).Ok Q := by
  unfold State.htrKill
  repeat' first
    | with_reducible assumption
    | with_reducible exact Kit.bit hw (by decide +kernel)
    | with_reducible exact Kit.sub hw (by decide +kernel)
    | with_reducible apply State.setFlag_ok
    | with_reducible apply State.setTreg_ok
    | with_reducible rfl
    | with_reducible refine ok_ite (fun _ => ?_) (fun _ => ?_)
    | (intro s1; refine (fun (h1 : State.Ok Q s1) => ?_) ?_; rotate_left; subst s1; rotate_right)
    | (intro (f : _ → _); subst f; dsimp -zeta only)
    | (intro s1; fail_if_success (have : State := s1))
    | lift_lets
    | split
    | intro _

theorem State.sliceFailed_ok (h : s.Ok Q) (t c : Nat) (hw : Q.mask &&& 0x1000000000000000000000000000000000000000000000000000000000000000000100000000000000000000000000000000000000000000000000000000000000404000000000000000000000000000000000000000000000000000000000000000000000000000000000000000000000000000000000000000000000000046000000 = 0) : (s.sliceFailed t c).Ok Q := by
  unfold State.sliceFailed
  repeat' first
    | with_reducible assumption
    | with_reducible exact Kit.bit hw (by decide +kernel)
    | with_reducible exact Kit.sub hw (by decide +kernel)
    | with_reducible apply State.setTreg_ok
    | with_reducible apply State.connectSpare_ok
    | with_reducible apply State.send_ok
    | with_reducible apply State.setMapBit_ok
    | with_reducible apply State.htrKill_ok
    | with_reducible apply State.setFlag_ok
    | with_reducible rfl
    | with_reducible refine ok_ite (fun _ => ?_) (fun _ => ?_)
    | (intro s1; refine (fun (h1 : State.Ok Q s1) => ?_) ?_; rotate_left; subst s1; rotate_right)
    | (intro (f : _ → _); subst f; dsimp -zeta only)
    | (intro s1; fail_if_success (have : State := s1))
    | lift_lets
    | split
    | intro _

theorem State.htrSwap_ok (h : s.Ok Q) (t k c : Nat) (hw : Q.mask &&& 0x1000000000000000000000000000000000000000000000000000000000000000000100000000000000000000000000000000000000000000000000000000000000404000000000000020002000020000400402000000800010001000040800400002000000000008000200000800000000810010000000010000008800080046900800 = 0) : (s.htrSwap t k c).Ok Q := by
  unfold State.htrSwap
  repeat' first
    | with_reducible assumption
    | with_reducible exact Kit.bit hw (by decide +kernel)
    | with_reducible exact Kit.sub hw (by decide +kernel)
    | with_reducible apply State.setTreg_ok
    | with_reducible apply State.setFlag_ok
    | with_reducible apply State.connectSpare_ok
    | with_reducible apply State.forceSable_ok
    | with_reducible apply State.refuse_ok
    | with_reducible apply forUpto_ok
    | with_reducible rfl
    | (intro i1 s1 (h1 : State.Ok Q s1))
    | (intro s1 i1 (h1 : State.Ok Q s1))
    | with_reducible refine ok_ite (fun _ => ?_) (fun _ => ?_)
    | (intro s1; refine (fun (h1 : State.Ok Q s1) => ?_) ?_; rotate_left; subst s1; rotate_right)
    | (intro (f : _ → _); subst f; dsimp -zeta only)
    | (intro s1; fail_if_success (have : State := s1))
    | lift_lets
    | split
    | intro _

theorem State.measureLeg_ok (h : s.Ok Q) (t c : Nat) (legB : Bool) (i v : Nat) (hw : Q.mask &&& 0x1800000000000000000000000000000000000000000000000000000000000000000000000000000000000000000000000000000000000000000000000000000200000 = 0) : (s.measureLeg t c legB i v).Ok Q := by
  unfold State.measureLeg
  repeat' first
    | with_reducible assumption
    | with_reducible exact Kit.bit hw (by decide +kernel)
    | with_reducible exact Kit.sub hw (by decide +kernel)
    | with_reducible apply State.setTfld_ok
    | with_reducible apply State.setLat_ok
    | with_reducible rfl
    | with_reducible refine ok_ite (fun _ => ?_) (fun _ => ?_)
    | (intro s1; refine (fun (h1 : State.Ok Q s1) => ?_) ?_; rotate_left; subst s1; rotate_right)
    | (intro (f : _ → _); subst f; dsimp -zeta only)
    | (intro s1; fail_if_success (have : State := s1))
    | lift_lets
    | split
    | intro _

theorem State.nearQuot_ok (h : s.Ok Q) (num : Int) (den : Nat) (hw : Q.mask &&& 0x800000000000000000000000000000000000000000000000000000000000000000000000000000000000000000000000000000000000000000000000000000000000000000000000000000000000000000000000000000000000000000000000000000000000000000000000000000000000000000000000000000000000000000000 = 0) : (s.nearQuot num den).2.Ok Q := by
  unfold State.nearQuot
  repeat' first
    | with_reducible assumption
    | with_reducible exact Kit.bit hw (by decide +kernel)
    | with_reducible exact Kit.sub hw (by decide +kernel)
    | with_reducible apply State.draw_ok
    | with_reducible rfl
    | with_reducible refine ok_ite (fun _ => ?_) (fun _ => ?_)
    | with_reducible refine ok_ite_snd (fun _ => ?_) (fun _ => ?_)
    | (intro s1; refine (fun (h1 : State.Ok Q s1) => ?_) ?_; rotate_left; subst s1; rotate_right)
    | (intro (f : _ → _); subst f; dsimp -zeta only)
    | (intro s1; fail_if_success (have : State := s1))
    | lift_lets
    | (split <;> first | (rename_i e; with_reducible refine (fun (h1 : State.Ok Q _) => ?_) (ok_snd e ?_)) | (rename_i e; with_reducible refine (fun (h1 : State.Ok Q _) => ?_) (ok_thd e ?_)) | (rename_i e; with_reducible refine (fun (h1 : State.Ok Q _) => ?_) (ok_mid e ?_)) | (rename_i e; with_reducible refine (fun (h1 : State.Ok Q _) => ?_) (ok_some e ?_)) | (rename_i e _; with_reducible refine (fun (h1 : State.Ok Q _) => ?_) (ok_snd e ?_)) | (rename_i e _; with_reducible refine (fun (h1 : State.Ok Q _) => ?_) (ok_thd e ?_)) | (rename_i e _; with_reducible refine (fun (h1 : State.Ok Q _) => ?_) (ok_mid e ?_)) | (rename_i e _; with_reducible refine (fun (h1 : State.Ok Q _) => ?_) (ok_some e ?_)) | skip)
    | intro _

theorem State.driftCh_ok (h : s.Ok Q) (t c : Nat) (hw : Q.mask &&& 0x1000000000000000000000000000000000000000000000000000000000000000000000000000000000000000000000000000000000000000000000000000000002000000000000000000000000000000000000000000000000000000000000000000000000000000000000000000000000000000000000000000000000000000000000 = 0) : (s.driftCh t c).Ok Q := by
  unfold State.driftCh
  repeat' first
    | with_reducible assumption
    | with_reducible exact Kit.bit hw (by decide +kernel)
    | with_reducible exact Kit.sub hw (by decide +kernel)
    | with_reducible apply State.send_ok
    | with_reducible apply State.setFlag_ok
    | with_reducible rfl
    | with_reducible refine ok_ite (fun _ => ?_) (fun _ => ?_)
    | (intro s1; refine (fun (h1 : State.Ok Q s1) => ?_) ?_; rotate_left; subst s1; rotate_right)
    | (intro (f : _ → _); subst f; dsimp -zeta only)
    | (intro s1; fail_if_success (have : State := s1))
    | lift_lets
    | split
    | intro _

theorem State.skewApply_ok (h : s.Ok Q) (v : Nat) (hw : Q.mask &&& 0x4000000000000000000000000000000000000000000000010000000000000000000000000000000000000000000000000000000000000000000000000000000000000 = 0) : (s.skewApply v).Ok Q := by
  unfold State.skewApply
  repeat' first
    | with_reducible assumption
    | with_reducible exact Kit.bit hw (by decide +kernel)
    | with_reducible exact Kit.sub hw (by decide +kernel)
    | with_reducible apply State.setRbit_ok
    | with_reducible apply State.setFlag_ok
    | with_reducible rfl
    | with_reducible refine ok_ite (fun _ => ?_) (fun _ => ?_)
    | (intro s1; refine (fun (h1 : State.Ok Q s1) => ?_) ?_; rotate_left; subst s1; rotate_right)
    | (intro (f : _ → _); subst f; dsimp -zeta only)
    | (intro s1; fail_if_success (have : State := s1))
    | lift_lets
    | split
    | intro _

end Sys2Proof.Machine
end

