-- ==== Sys2Proof/Laws/KeepTrim.lean ====
section
/-! SUPPORT. The operations of Machine/Trim.lean keep soundness and the queue. -/
set_option Elab.async false
namespace Sys2Proof.Machine

variable {Q : Kit} {s : State}

theorem State.ledgerTap_ok (h : s.Ok Q) (t c : Nat) (hw : Q.mask &&& 0x6000000000000000000000000000000000000000000000000000000000000000000000000000000000000000000000000000000000000000000000000000000000000000000000000000000000000000000000000000000000000000000000000000000000000000000000000000000000000000000000000000000000000000000 = 0) : (s.ledgerTap t c).Ok Q := by
  unfold State.ledgerTap
  repeat' first
    | with_reducible assumption
    | with_reducible exact Kit.bit hw (by decide +kernel)
    | with_reducible exact Kit.sub hw (by decide +kernel)
    | with_reducible apply State.dramWrite_ok
    | with_reducible rfl
    | with_reducible refine ok_ite (fun _ => ?_) (fun _ => ?_)
    | (intro s1; refine (fun (h1 : State.Ok Q s1) => ?_) ?_; rotate_left; subst s1; rotate_right)
    | (intro (f : _ → _); subst f; dsimp -zeta only)
    | (intro s1; fail_if_success (have : State := s1))
    | lift_lets
    | split
    | intro _

theorem State.setTap_ok (h : s.Ok Q) (t c hi lo v : Nat) (hw : Q.mask &&& 0x6000000000000000000000000000000000000000000000000000000000000000000000000000000000000000000000000000000000000000000000000000000000000000000000000000000000000000000000000000000000000000000000000000000000000000000000000000000000000000000000000000004000000000000 = 0) : (s.setTap t c hi lo v).Ok Q := by
  unfold State.setTap
  repeat' first
    | with_reducible assumption
    | with_reducible exact Kit.bit hw (by decide +kernel)
    | with_reducible exact Kit.sub hw (by decide +kernel)
    | with_reducible apply State.setTfld_ok
    | with_reducible apply State.ledgerTap_ok
    | with_reducible rfl
    | with_reducible refine ok_ite (fun _ => ?_) (fun _ => ?_)
    | (intro s1; refine (fun (h1 : State.Ok Q s1) => ?_) ?_; rotate_left; subst s1; rotate_right)
    | (intro (f : _ → _); subst f; dsimp -zeta only)
    | (intro s1; fail_if_success (have : State := s1))
    | lift_lets
    | split
    | intro _

theorem State.ledgerCheck_ok (h : s.Ok Q) (t c : Nat) (hw : Q.mask &&& 0x100600000000000000000000000000000000000000000000000000000000000000000000000000000000000000000000000000000000000000000000000000000000000000000000000e000000000000000000000000000000000000000000000000000000000000000000000000000000000000000000000000000004000000000000 = 0) : (s.ledgerCheck t c).Ok Q := by
  unfold State.ledgerCheck
  repeat' first
    | with_reducible assumption
    | with_reducible exact Kit.bit hw (by decide +kernel)
    | with_reducible exact Kit.sub hw (by decide +kernel)
    | with_reducible apply State.dramMeet_ok
    | with_reducible apply State.dramError_ok
    | with_reducible apply State.setTfld_ok
    | with_reducible rfl
    | with_reducible refine ok_ite (fun _ => ?_) (fun _ => ?_)
    | (intro s1; refine (fun (h1 : State.Ok Q s1) => ?_) ?_; rotate_left; subst s1; rotate_right)
    | (intro (f : _ → _); subst f; dsimp -zeta only)
    | (intro s1; fail_if_success (have : State := s1))
    | lift_lets
    | split
    | intro _

theorem State.appendRec_ok (h : s.Ok Q) (cell kind value : Nat) (hw : Q.mask &&& 0x100000000000000000000000000000000000000000000000000000000000000000000000000000000000000000000000000000000000000000000000000000000000000000000000000000000000000000000000000000000000000000000000000000000000000000000000000000000000000000000000000000000000000000000000 = 0) : (s.appendRec cell kind value).Ok Q := by
  unfold State.appendRec
  repeat' first
    | with_reducible assumption
    | with_reducible exact Kit.bit hw (by decide +kernel)
    | with_reducible exact Kit.sub hw (by decide +kernel)
    | with_reducible rfl
    | with_reducible refine ok_ite (fun _ => ?_) (fun _ => ?_)
    | (intro s1; refine (fun (h1 : State.Ok Q s1) => ?_) ?_; rotate_left; subst s1; rotate_right)
    | (intro (f : _ → _); subst f; dsimp -zeta only)
    | (intro s1; fail_if_success (have : State := s1))
    | lift_lets
    | split
    | intro _
    | with_reducible apply ok_wearQ

theorem State.reserve_ok (h : s.Ok Q) (cell : Nat) (hw : Q.mask &&& 0x100000000000000000000000000000000000000000000000000000000000000000000000000000000000000000000000000000000000000000000000000000000000000000000000000000000000000000000000000000000000000000000000000000000000000000000000000000000000000000000000000000000000000000000000 = 0) : (s.reserve cell).Ok Q := by
  unfold State.reserve
  repeat' first
    | with_reducible assumption
    | with_reducible exact Kit.bit hw (by decide +kernel)
    | with_reducible exact Kit.sub hw (by decide +kernel)
    | with_reducible apply State.appendRec_ok
    | with_reducible rfl
    | with_reducible refine ok_ite (fun _ => ?_) (fun _ => ?_)
    | (intro s1; refine (fun (h1 : State.Ok Q s1) => ?_) ?_; rotate_left; subst s1; rotate_right)
    | (intro (f : _ → _); subst f; dsimp -zeta only)
    | (intro s1; fail_if_success (have : State := s1))
    | lift_lets
    | split
    | intro _

theorem State.trainPastEnd_ok (h : s.Ok Q) (t c : Nat) (hw : Q.mask &&& 0x1000000000000000000000000000000000000000000000000000000000000000000000000000000000000000000000000000000000000000000000000000000000000000000000000000000000000000000000000000000000000000000000000000000000000000000000000000000000000000000000000000000004000000000000 = 0) : (s.trainPastEnd t c).Ok Q := by
  unfold State.trainPastEnd
  repeat' first
    | with_reducible assumption
    | with_reducible exact Kit.bit hw (by decide +kernel)
    | with_reducible exact Kit.sub hw (by decide +kernel)
    | with_reducible apply State.setTbit_ok
    | with_reducible apply State.send_ok
    | with_reducible rfl
    | with_reducible refine ok_ite (fun _ => ?_) (fun _ => ?_)
    | (intro s1; refine (fun (h1 : State.Ok Q s1) => ?_) ?_; rotate_left; subst s1; rotate_right)
    | (intro (f : _ → _); subst f; dsimp -zeta only)
    | (intro s1; fail_if_success (have : State := s1))
    | lift_lets
    | split
    | intro _

theorem State.openTrain_ok (h : s.Ok Q) (t c target : Nat) (up : Bool) (hw : Q.mask &&& 0x6000000000000000000000000000000000000000000000000000000000000000000000000000000000000000000000000000000000000000000000000000180000000000000000000000000000000000000000000000000000000000000000000000000000000000000000000000000000000000000000000000004800000000000 = 0) : (s.openTrain t c target up).Ok Q := by
  unfold State.openTrain
  repeat' first
    | with_reducible assumption
    | with_reducible exact Kit.bit hw (by decide +kernel)
    | with_reducible exact Kit.sub hw (by decide +kernel)
    | with_reducible apply State.setTreg_ok
    | with_reducible apply State.setFlag_ok
    | with_reducible apply State.setLat_ok
    | with_reducible apply State.setTfld_ok
    | with_reducible apply State.ledgerTap_ok
    | with_reducible rfl
    | with_reducible refine ok_ite (fun _ => ?_) (fun _ => ?_)
    | (intro s1; refine (fun (h1 : State.Ok Q s1) => ?_) ?_; rotate_left; subst s1; rotate_right)
    | (intro (f : _ → _); subst f; dsimp -zeta only)
    | (intro s1; fail_if_success (have : State := s1))
    | lift_lets
    | split
    | intro _

theorem State.chooseTrain_ok (h : s.Ok Q) (t c : Nat) (up : Bool) (hw : Q.mask &&& 0x101006000000000000000000000000000000000000000000000000000000000000000000000000000000000000000000000000000000000000000000000000080180000000000000000000000000000000000000000000000000000000000000000000000000000000000000000000000000000000000000000000000004800000000000 = 0) : (s.chooseTrain t c up).Ok Q := by
  unfold State.chooseTrain
  repeat' first
    | with_reducible assumption
    | with_reducible exact Kit.bit hw (by decide +kernel)
    | with_reducible exact Kit.sub hw (by decide +kernel)
    | with_reducible apply State.trainPastEnd_ok
    | with_reducible apply State.setLat_ok
    | with_reducible apply State.appendRec_ok
    | with_reducible apply State.openTrain_ok
    | with_reducible rfl
    | with_reducible refine ok_ite (fun _ => ?_) (fun _ => ?_)
    | (intro s1; refine (fun (h1 : State.Ok Q s1) => ?_) ?_; rotate_left; subst s1; rotate_right)
    | (intro (f : _ → _); subst f; dsimp -zeta only)
    | (intro s1; fail_if_success (have : State := s1))
    | lift_lets
    | split
    | intro _

theorem State.chooseCmd_ok (h : s.Ok Q) (t w : Nat) (hw : Q.mask &&& 0x101000000000000000000000000000000000000000000000000000000000000000000000000000000000000000000000000000000000000000000000000000000070000000000000000000000000000000000000000000000000000000000000000000000000000000000000000000000000000000000000000000000004000000000000 = 0) : (s.chooseCmd t w).Ok Q := by
  unfold State.chooseCmd
  repeat' first
    | with_reducible assumption
    | with_reducible exact Kit.bit hw (by decide +kernel)
    | with_reducible exact Kit.sub hw (by decide +kernel)
    | with_reducible apply State.setLat_ok
    | with_reducible apply State.trainPastEnd_ok
    | with_reducible apply State.appendRec_ok
    | with_reducible apply State.setFlag_ok
    | with_reducible apply State.reserve_ok
    | with_reducible rfl
    | with_reducible refine ok_ite (fun _ => ?_) (fun _ => ?_)
    | (intro s1; refine (fun (h1 : State.Ok Q s1) => ?_) ?_; rotate_left; subst s1; rotate_right)
    | (intro (f : _ → _); subst f; dsimp -zeta only)
    | (intro s1; fail_if_success (have : State := s1))
    | lift_lets
    | split
    | intro _

theorem State.trimPaused_ok (h : s.Ok Q) (t : Nat) (hw : Q.mask &&& 0x800000000000 = 0) : (s.trimPaused t).Ok Q := by
  unfold State.trimPaused
  repeat' first
    | with_reducible assumption
    | with_reducible exact Kit.bit hw (by decide +kernel)
    | with_reducible exact Kit.sub hw (by decide +kernel)
    | with_reducible apply State.setTbit_ok
    | with_reducible rfl
    | with_reducible refine ok_ite (fun _ => ?_) (fun _ => ?_)
    | (intro s1; refine (fun (h1 : State.Ok Q s1) => ?_) ?_; rotate_left; subst s1; rotate_right)
    | (intro (f : _ → _); subst f; dsimp -zeta only)
    | (intro s1; fail_if_success (have : State := s1))
    | lift_lets
    | split
    | intro _

theorem State.trimChoose_ok (h : s.Ok Q) (t : Nat) (hw : Q.mask &&& 0x1010060000000000000000000000000000000000000000000000000000000000000000000000000000000000000000000000000000000000000000000000000807f0000000000000000000000000000000000000000000000000000000000000000000000000000000000000000000000000000000000000000000000004800000000000 = 0) : (s.trimChoose t).Ok Q := by
  unfold State.trimChoose
  repeat' first
    | with_reducible assumption
    | with_reducible exact Kit.bit hw (by decide +kernel)
    | with_reducible exact Kit.sub hw (by decide +kernel)
    | with_reducible apply State.trimPaused_ok
    | with_reducible apply State.setLat_ok
    | with_reducible apply State.reserve_ok
    | with_reducible apply State.chooseCmd_ok
    | with_reducible apply State.chooseTrain_ok
    | with_reducible rfl
    | with_reducible refine ok_ite (fun _ => ?_) (fun _ => ?_)
    | (intro s1; refine (fun (h1 : State.Ok Q s1) => ?_) ?_; rotate_left; subst s1; rotate_right)
    | (intro (f : _ → _); subst f; dsimp -zeta only)
    | (intro s1; fail_if_success (have : State := s1))
    | lift_lets
    | split
    | intro _

theorem State.trimDiscard_ok (h : s.Ok Q) (t : Nat) (hw : Q.mask &&& 0x100000000000000000000000000000000000000000000000000000000000000000000000000000000000000000000000000000000000000000000000000000000070000000000000000000000000000000000000000000000000000000000000000000000000000000000000000000000000000000000000000000000000080000000000 = 0) : (s.trimDiscard t).Ok Q := by
  unfold State.trimDiscard
  repeat' first
    | with_reducible assumption
    | with_reducible exact Kit.bit hw (by decide +kernel)
    | with_reducible exact Kit.sub hw (by decide +kernel)
    | with_reducible apply State.appendRec_ok
    | with_reducible apply State.setLat_ok
    | with_reducible apply State.setFlag_ok
    | with_reducible apply State.setTbit_ok
    | with_reducible rfl
    | with_reducible refine ok_ite (fun _ => ?_) (fun _ => ?_)
    | (intro s1; refine (fun (h1 : State.Ok Q s1) => ?_) ?_; rotate_left; subst s1; rotate_right)
    | (intro (f : _ → _); subst f; dsimp -zeta only)
    | (intro s1; fail_if_success (have : State := s1))
    | lift_lets
    | split
    | intro _

theorem State.trimDiscardAll_ok (h : s.Ok Q) (hw : Q.mask &&& 0x100000000000000000000000000000000000000000000000000000000000000000000000000000000000000000000000000000000000000000000000000000000070000000000000000000000000000000000000000000000000000000000000000000000000000000000000000000000000000000000000000000000000080000000000 = 0) : (s.trimDiscardAll).Ok Q := by
  unfold State.trimDiscardAll
  repeat' first
    | with_reducible assumption
    | with_reducible exact Kit.bit hw (by decide +kernel)
    | with_reducible exact Kit.sub hw (by decide +kernel)
    | with_reducible apply State.trimDiscard_ok
    | with_reducible apply forIn'_ok
    | with_reducible rfl
    | (intro i1 s1 (h1 : State.Ok Q s1))
    | (intro s1 i1 (h1 : State.Ok Q s1))
    | with_reducible refine ok_ite (fun _ => ?_) (fun _ => ?_)
    | (intro s1; refine (fun (h1 : State.Ok Q s1) => ?_) ?_; rotate_left; subst s1; rotate_right)
    | (intro (f : _ → _); subst f; dsimp -zeta only)
    | (intro s1; fail_if_success (have : State := s1))
    | lift_lets
    | split
    | intro _

theorem State.startPulse_ok (h : s.Ok Q) (t c k : Nat) (cmd train : Bool) (hw : Q.mask &&& 0x100000000000000000000000000000000000000000000000000000000000000000000000000000000000000000000000000000000000000000000000000007a068000000000000000000000000000000000000000000000000000000000000000000000000000000000000000000000000000000000000000000000004080000000000 = 0) : (s.startPulse t c k cmd train).Ok Q := by
  unfold State.startPulse
  repeat' first
    | with_reducible assumption
    | with_reducible exact Kit.bit hw (by decide +kernel)
    | with_reducible exact Kit.sub hw (by decide +kernel)
    | with_reducible apply State.setFlag_ok
    | with_reducible apply State.setTbit_ok
    | with_reducible apply State.setLat_ok
    | with_reducible apply State.send_ok
    | with_reducible apply forUpto_ok
    | with_reducible rfl
    | (intro i1 s1 (h1 : State.Ok Q s1))
    | (intro s1 i1 (h1 : State.Ok Q s1))
    | with_reducible refine ok_ite (fun _ => ?_) (fun _ => ?_)
    | (intro s1; refine (fun (h1 : State.Ok Q s1) => ?_) ?_; rotate_left; subst s1; rotate_right)
    | (intro (f : _ → _); subst f; dsimp -zeta only)
    | (intro s1; fail_if_success (have : State := s1))
    | lift_lets
    | split
    | intro _

theorem State.wearThresholds_ok (h : s.Ok Q) (t c : Nat) (report : Bool) (hw : Q.mask &&& 0x1006000000000000000000000000000000000000000000000000000000000000000000000000000000000000000000000000000000000000000000000000000000000000000000000000000000000000000000000000000000000000000000000000000000000000000000000000000000000000000000000000002004000000000000 = 0) : (s.wearThresholds t c report).Ok Q := by
  unfold State.wearThresholds
  repeat' first
    | with_reducible assumption
    | with_reducible exact Kit.bit hw (by decide +kernel)
    | with_reducible exact Kit.sub hw (by decide +kernel)
    | with_reducible apply State.setTap_ok
    | with_reducible apply State.setMapBit_ok
    | with_reducible apply State.send_ok
    | with_reducible rfl
    | with_reducible refine ok_ite (fun _ => ?_) (fun _ => ?_)
    | (intro s1; refine (fun (h1 : State.Ok Q s1) => ?_) ?_; rotate_left; subst s1; rotate_right)
    | (intro (f : _ → _); subst f; dsimp -zeta only)
    | (intro s1; fail_if_success (have : State := s1))
    | lift_lets
    | split
    | intro _

theorem State.countPulse_ok (h : s.Ok Q) (t c : Nat) (hw : Q.mask &&& 0x100600000000000000000000000000000000000000000000000000000000000000000000000000000000000000000000000000000000000000000000000000000000000000000000000e000000000000000000000000000000000000000000000000000000000000000000000000000000000000000000000000000004000000000000 = 0) : (s.countPulse t c).Ok Q := by
  unfold State.countPulse
  repeat' first
    | with_reducible assumption
    | with_reducible exact Kit.bit hw (by decide +kernel)
    | with_reducible exact Kit.sub hw (by decide +kernel)
    | with_reducible apply State.ledgerCheck_ok
    | with_reducible apply State.dramWrite_ok
    | with_reducible rfl
    | with_reducible refine ok_ite (fun _ => ?_) (fun _ => ?_)
    | (intro s1; refine (fun (h1 : State.Ok Q s1) => ?_) ?_; rotate_left; subst s1; rotate_right)
    | (intro (f : _ → _); subst f; dsimp -zeta only)
    | (intro s1; fail_if_success (have : State := s1))
    | lift_lets
    | split
    | intro _

theorem State.closeTrain_ok (h : s.Ok Q) (t c : Nat) (hw : Q.mask &&& 0x6000000000000000000000000000000000000000000000000000000000000000000000000000000000000000000000000000000000000000000000000000000000000000000000000000000000000000000000000000000000000000000000000000000000000000000000000000000000000000000000000000004800000000000 = 0) : (s.closeTrain t c).Ok Q := by
  unfold State.closeTrain
  repeat' first
    | with_reducible assumption
    | with_reducible exact Kit.bit hw (by decide +kernel)
    | with_reducible exact Kit.sub hw (by decide +kernel)
    | with_reducible apply State.setTreg_ok
    | with_reducible apply State.setTfld_ok
    | with_reducible apply State.ledgerTap_ok
    | with_reducible rfl
    | with_reducible refine ok_ite (fun _ => ?_) (fun _ => ?_)
    | (intro s1; refine (fun (h1 : State.Ok Q s1) => ?_) ?_; rotate_left; subst s1; rotate_right)
    | (intro (f : _ → _); subst f; dsimp -zeta only)
    | (intro s1; fail_if_success (have : State := s1))
    | lift_lets
    | split
    | intro _

theorem State.trainPulse_ok (h : s.Ok Q) (t c : Nat) (hw : Q.mask &&& 0x100006000000000000000000000000000000000000000000000000000000000000000000000000000000000000002000000000000000000000000000000000080800000000000000000000000000000000000000000000000000000000000000000000000000000000000000000000000000000000000000000000000004800000000000 = 0) : (s.trainPulse t c).Ok Q := by
  unfold State.trainPulse
  repeat' first
    | with_reducible assumption
    | with_reducible exact Kit.bit hw (by decide +kernel)
    | with_reducible exact Kit.sub hw (by decide +kernel)
    | with_reducible apply State.closeTrain_ok
    | with_reducible apply State.setTap_ok
    | with_reducible apply State.setTbit_ok
    | with_reducible apply State.appendRec_ok
    | with_reducible apply State.setLat_ok
    | with_reducible apply State.setTfld_ok
    | with_reducible rfl
    | with_reducible refine ok_ite (fun _ => ?_) (fun _ => ?_)
    | (intro s1; refine (fun (h1 : State.Ok Q s1) => ?_) ?_; rotate_left; subst s1; rotate_right)
    | (intro (f : _ → _); subst f; dsimp -zeta only)
    | (intro s1; fail_if_success (have : State := s1))
    | lift_lets
    | split
    | intro _

theorem State.pulseOff_ok (h : s.Ok Q) (t c : Nat) (hw : Q.mask &&& 0x5008000000000000000000000000000000000000000000000000000000000000000000000000000000000000000000000000000000000000000000000000080000000000 = 0) : (s.pulseOff t c).Ok Q := by
  unfold State.pulseOff
  repeat' first
    | with_reducible assumption
    | with_reducible exact Kit.bit hw (by decide +kernel)
    | with_reducible exact Kit.sub hw (by decide +kernel)
    | with_reducible apply State.setFlag_ok
    | with_reducible apply State.setTbit_ok
    | with_reducible apply State.setLat_ok
    | with_reducible rfl
    | with_reducible refine ok_ite (fun _ => ?_) (fun _ => ?_)
    | (intro s1; refine (fun (h1 : State.Ok Q s1) => ?_) ?_; rotate_left; subst s1; rotate_right)
    | (intro (f : _ → _); subst f; dsimp -zeta only)
    | (intro s1; fail_if_success (have : State := s1))
    | lift_lets
    | split
    | intro _

theorem State.cutPulse_ok (h : s.Ok Q) (t : Nat) (hw : Q.mask &&& 0x100600000000000000000000000000000000000000000000000000000000000000020000000000000000000000000000000000000000000000000000000000500800000000000000000e000000000000000000000000000000000000000000000000000000000000000000000000000000000000000000000000002004880000000000 = 0) : (s.cutPulse t).Ok Q := by
  unfold State.cutPulse
  repeat' first
    | with_reducible assumption
    | with_reducible exact Kit.bit hw (by decide +kernel)
    | with_reducible exact Kit.sub hw (by decide +kernel)
    | with_reducible apply State.pulseOff_ok
    | with_reducible apply State.countPulse_ok
    | with_reducible apply State.wearThresholds_ok
    | with_reducible apply State.closeTrain_ok
    | with_reducible apply State.setTap_ok
    | with_reducible apply State.setFlag_ok
    | with_reducible rfl
    | with_reducible refine ok_ite (fun _ => ?_) (fun _ => ?_)
    | (intro s1; refine (fun (h1 : State.Ok Q s1) => ?_) ?_; rotate_left; subst s1; rotate_right)
    | (intro (f : _ → _); subst f; dsimp -zeta only)
    | (intro s1; fail_if_success (have : State := s1))
    | lift_lets
    | split
    | intro _

theorem State.cutPulses_ok (h : s.Ok Q) (hw : Q.mask &&& 0x100600000000000000000000000000000000000000000000000000000000000000020000000000000000000000000000000000000000000000000000000000500800000000000000000e000000000000000000000000000000000000000000000000000000000000000000000000000000000000000000000000002004880000000000 = 0) : (s.cutPulses).Ok Q := by
  unfold State.cutPulses
  repeat' first
    | with_reducible assumption
    | with_reducible exact Kit.bit hw (by decide +kernel)
    | with_reducible exact Kit.sub hw (by decide +kernel)
    | with_reducible apply State.cutPulse_ok
    | with_reducible apply forIn'_ok
    | with_reducible rfl
    | (intro i1 s1 (h1 : State.Ok Q s1))
    | (intro s1 i1 (h1 : State.Ok Q s1))
    | with_reducible refine ok_ite (fun _ => ?_) (fun _ => ?_)
    | (intro s1; refine (fun (h1 : State.Ok Q s1) => ?_) ?_; rotate_left; subst s1; rotate_right)
    | (intro (f : _ → _); subst f; dsimp -zeta only)
    | (intro s1; fail_if_success (have : State := s1))
    | lift_lets
    | split
    | intro _

theorem State.trimCommand_ok (h : s.Ok Q) (t w : Nat) (hw : Q.mask &&& 0x101006000000000000000000000000000000000000000000000000000000000000000200000000000000000000000000000000000000000000000000000000000020000000000000000020002000020000400402000000800010001000040800400002000000000008000200000800000000810010000000010000008804080000800800 = 0) : (s.trimCommand t w).Ok Q := by
  unfold State.trimCommand
  repeat' first
    | with_reducible assumption
    | with_reducible exact Kit.bit hw (by decide +kernel)
    | with_reducible exact Kit.sub hw (by decide +kernel)
    | with_reducible apply State.refuse_ok
    | with_reducible apply State.setLat_ok
    | with_reducible apply State.trainPastEnd_ok
    | with_reducible apply State.setTfld_ok
    | with_reducible apply State.setFlag_ok
    | with_reducible apply State.setTap_ok
    | with_reducible apply State.appendRec_ok
    | with_reducible rfl
    | with_reducible refine ok_ite (fun _ => ?_) (fun _ => ?_)
    | (intro s1; refine (fun (h1 : State.Ok Q s1) => ?_) ?_; rotate_left; subst s1; rotate_right)
    | (intro (f : _ → _); subst f; dsimp -zeta only)
    | (intro s1; fail_if_success (have : State := s1))
    | lift_lets
    | split
    | intro _

theorem State.writeTset_ok (h : s.Ok Q) (t k e v : Nat) (hw : Q.mask &&& 0x6000000000000 = 0) : (s.writeTset t k e v).Ok Q := by
  unfold State.writeTset
  repeat' first
    | with_reducible assumption
    | with_reducible exact Kit.bit hw (by decide +kernel)
    | with_reducible exact Kit.sub hw (by decide +kernel)
    | with_reducible apply State.setTreg_ok
    | with_reducible apply State.setTbit_ok
    | with_reducible apply forUpto_ok
    | with_reducible rfl
    | (intro i1 s1 (h1 : State.Ok Q s1))
    | (intro s1 i1 (h1 : State.Ok Q s1))
    | with_reducible refine ok_ite (fun _ => ?_) (fun _ => ?_)
    | (intro s1; refine (fun (h1 : State.Ok Q s1) => ?_) ?_; rotate_left; subst s1; rotate_right)
    | (intro (f : _ → _); subst f; dsimp -zeta only)
    | (intro s1; fail_if_success (have : State := s1))
    | lift_lets
    | split
    | intro _

theorem State.recentreDrop_ok (h : s.Ok Q) (t c : Nat) (hw : Q.mask &&& 0x400000000000000000000000000000000000000000000000000000000000000000000000000000000000000000000000000000000000000000000000004000000000000 = 0) : (s.recentreDrop t c).Ok Q := by
  unfold State.recentreDrop
  repeat' first
    | with_reducible assumption
    | with_reducible exact Kit.bit hw (by decide +kernel)
    | with_reducible exact Kit.sub hw (by decide +kernel)
    | with_reducible apply State.setTbit_ok
    | with_reducible apply State.setLat_ok
    | with_reducible rfl
    | with_reducible refine ok_ite (fun _ => ?_) (fun _ => ?_)
    | (intro s1; refine (fun (h1 : State.Ok Q s1) => ?_) ?_; rotate_left; subst s1; rotate_right)
    | (intro (f : _ → _); subst f; dsimp -zeta only)
    | (intro s1; fail_if_success (have : State := s1))
    | lift_lets
    | split
    | intro _

theorem State.recentreCount_ok (h : s.Ok Q) (t c : Nat) (hw : Q.mask &&& 0xc00000000000000000000000000000000000000000000000000000000000000000000000000000000000000000000000000000000000000000000000000000000000000 = 0) : (s.recentreCount t c).Ok Q := by
  unfold State.recentreCount
  repeat' first
    | with_reducible assumption
    | with_reducible exact Kit.bit hw (by decide +kernel)
    | with_reducible exact Kit.sub hw (by decide +kernel)
    | with_reducible apply State.setLat_ok
    | with_reducible rfl
    | with_reducible refine ok_ite (fun _ => ?_) (fun _ => ?_)
    | (intro s1; refine (fun (h1 : State.Ok Q s1) => ?_) ?_; rotate_left; subst s1; rotate_right)
    | (intro (f : _ → _); subst f; dsimp -zeta only)
    | (intro s1; fail_if_success (have : State := s1))
    | lift_lets
    | split
    | intro _

theorem State.trimBoundary_ok (h : s.Ok Q) (t : Nat) (hw : Q.mask &&& 0x101006000000000000000000000000000000000000000000000000000000000000000000000000000000000000000000000000000000000000000000000000080ff0000000000000000000000000000000000000000000000000000000000000000000000000000000000000000000000000000000000000000000000004800000000000 = 0) : (s.trimBoundary t).Ok Q := by
  unfold State.trimBoundary
  repeat' first
    | with_reducible assumption
    | with_reducible exact Kit.bit hw (by decide +kernel)
    | with_reducible exact Kit.sub hw (by decide +kernel)
    | with_reducible apply State.recentreDrop_ok
    | with_reducible apply State.trimChoose_ok
    | with_reducible apply State.recentreCount_ok
    | with_reducible apply forUpto_ok
    | with_reducible rfl
    | (intro i1 s1 (h1 : State.Ok Q s1))
    | (intro s1 i1 (h1 : State.Ok Q s1))
    | with_reducible refine ok_ite (fun _ => ?_) (fun _ => ?_)
    | (intro s1; refine (fun (h1 : State.Ok Q s1) => ?_) ?_; rotate_left; subst s1; rotate_right)
    | (intro (f : _ → _); subst f; dsimp -zeta only)
    | (intro s1; fail_if_success (have : State := s1))
    | lift_lets
    | split
    | intro _

theorem State.logRoom_ok (h : s.Ok Q) (hw : Q.mask &&& 0x14000000000000000000000000000000000000000000000000000000000000000000000000000000000000000000000000000000000000000000000000001800000000000000 = 0) : (s.logRoom).Ok Q := by
  unfold State.logRoom
  repeat' first
    | with_reducible assumption
    | with_reducible exact Kit.bit hw (by decide +kernel)
    | with_reducible exact Kit.sub hw (by decide +kernel)
    | with_reducible apply State.setRbit_ok
    | with_reducible apply State.setLat_ok
    | with_reducible apply State.setReg_ok
    | with_reducible rfl
    | with_reducible refine ok_ite (fun _ => ?_) (fun _ => ?_)
    | (intro s1; refine (fun (h1 : State.Ok Q s1) => ?_) ?_; rotate_left; subst s1; rotate_right)
    | (intro (f : _ → _); subst f; dsimp -zeta only)
    | (intro s1; fail_if_success (have : State := s1))
    | lift_lets
    | split
    | intro _

theorem State.logPut_ok (h : s.Ok Q) (r : WearRec) (hw : Q.mask &&& 0x8000000000000000000000000000000000000000000000000000000000000000000000000000000000000000000000000000000000000000000000014100000000000000000000000000000000000000000000000000000000000000000000000000000000000000000000000000000000000000000000000001800000000000000 = 0) : (s.logPut r).Ok Q := by
  unfold State.logPut
  repeat' first
    | with_reducible assumption
    | with_reducible exact Kit.bit hw (by decide +kernel)
    | with_reducible exact Kit.sub hw (by decide +kernel)
    | with_reducible apply State.flashPut_ok
    | with_reducible apply State.setReg_ok
    | with_reducible apply State.setLat_ok
    | with_reducible apply State.logRoom_ok
    | with_reducible rfl
    | with_reducible refine ok_ite (fun _ => ?_) (fun _ => ?_)
    | (intro s1; refine (fun (h1 : State.Ok Q s1) => ?_) ?_; rotate_left; subst s1; rotate_right)
    | (intro (f : _ → _); subst f; dsimp -zeta only)
    | (intro s1; fail_if_success (have : State := s1))
    | lift_lets
    | split
    | intro _

theorem State.wearQuery_ok (h : s.Ok Q) (w : Nat) (hw : Q.mask &&& 0x1000000000000000000000000000000000000000000000000000000000000000000000000000000000000000000000000000000000000000000000000000800000000000000000000020002000020000400402000000800010001000040800400002000000000008000200000800000000810010000000010000008800080000800800 = 0) : (s.wearQuery w).Ok Q := by
  unfold State.wearQuery
  repeat' first
    | with_reducible assumption
    | with_reducible exact Kit.bit hw (by decide +kernel)
    | with_reducible exact Kit.sub hw (by decide +kernel)
    | with_reducible apply State.refuse_ok
    | with_reducible apply State.setRbit_ok
    | with_reducible apply State.setLat_ok
    | with_reducible rfl
    | with_reducible refine ok_ite (fun _ => ?_) (fun _ => ?_)
    | (intro s1; refine (fun (h1 : State.Ok Q s1) => ?_) ?_; rotate_left; subst s1; rotate_right)
    | (intro (f : _ → _); subst f; dsimp -zeta only)
    | (intro s1; fail_if_success (have : State := s1))
    | lift_lets
    | split
    | intro _

end Sys2Proof.Machine
end

