-- ==== Sys2Proof/Laws/KeepAdc.lean ====
section
/-! SUPPORT. The operations of Machine/Adc.lean keep soundness and the queue. -/
set_option Elab.async false
namespace Sys2Proof.Machine

variable {Q : Kit} {s : State}

theorem State.setRange_ok (h : s.Ok Q) (t i r : Nat) (hw : Q.mask &&& 0x40000000000000000000000000000000000000000000000000000000000000000000000000000000000000000000000000000000000000000000000000000008000000000000000000 = 0) : (s.setRange t i r).Ok Q := by
  unfold State.setRange
  repeat' first
    | with_reducible assumption
    | with_reducible exact Kit.bit hw (by decide +kernel)
    | with_reducible exact Kit.sub hw (by decide +kernel)
    | with_reducible apply State.setTfld_ok
    | with_reducible apply State.setLat_ok
    | with_reducible rfl
    | with_reducible refine ok_ite (fun _ => ?_) (fun _ => ?_)
    | (intro s1; refine (fun (h1 : State.Ok Q s1) => ?_) ?_; rotate_left; subst s1; rotate_right)
    | (intro (f : _ → _); subst f; dsimp -zeta only)
    | (intro s1; fail_if_success (have : State := s1))
    | lift_lets
    | split
    | intro _

theorem State.autorange_ok (h : s.Ok Q) (t i code : Nat) (hw : Q.mask &&& 0x40000000000000000000000000000000000000000000000000000000000000000000000000000000000000000000000000000000000000000000000000000008000000000000000000 = 0) : (s.autorange t i code).Ok Q := by
  unfold State.autorange
  repeat' first
    | with_reducible assumption
    | with_reducible exact Kit.bit hw (by decide +kernel)
    | with_reducible exact Kit.sub hw (by decide +kernel)
    | with_reducible apply State.setRange_ok
    | with_reducible apply State.setLat_ok
    | with_reducible rfl
    | with_reducible refine ok_ite (fun _ => ?_) (fun _ => ?_)
    | (intro s1; refine (fun (h1 : State.Ok Q s1) => ?_) ?_; rotate_left; subst s1; rotate_right)
    | (intro (f : _ → _); subst f; dsimp -zeta only)
    | (intro s1; fail_if_success (have : State := s1))
    | lift_lets
    | split
    | intro _

theorem State.rangeAfter_ok (h : s.Ok Q) (t i code : Nat) (clean : Bool) (hw : Q.mask &&& 0x2000000000000000000000000000000000000000000000000040000000000000000000000000000000000000000000000000000000000000000000000000000000000000000000000000000000000000000000000000000008000000000000000000 = 0) : (s.rangeAfter t i code clean).Ok Q := by
  unfold State.rangeAfter
  repeat' first
    | with_reducible assumption
    | with_reducible exact Kit.bit hw (by decide +kernel)
    | with_reducible exact Kit.sub hw (by decide +kernel)
    | with_reducible apply State.setRange_ok
    | with_reducible apply State.setLat_ok
    | with_reducible apply State.autorange_ok
    | with_reducible rfl
    | with_reducible refine ok_ite (fun _ => ?_) (fun _ => ?_)
    | (intro s1; refine (fun (h1 : State.Ok Q s1) => ?_) ?_; rotate_left; subst s1; rotate_right)
    | (intro (f : _ → _); subst f; dsimp -zeta only)
    | (intro s1; fail_if_success (have : State := s1))
    | lift_lets
    | split
    | intro _

theorem State.rangeFollow_ok (h : s.Ok Q) (t : Nat) (hw : Q.mask &&& 0x40000000000000000000000000000000000000000000000000000000000000000000000000000000000000000000000000000000000000000000000000000008000000000000000000 = 0) : (s.rangeFollow t).Ok Q := by
  unfold State.rangeFollow
  repeat' first
    | with_reducible assumption
    | with_reducible exact Kit.bit hw (by decide +kernel)
    | with_reducible exact Kit.sub hw (by decide +kernel)
    | with_reducible apply State.setRange_ok
    | with_reducible apply forUpto_ok
    | with_reducible rfl
    | (intro i1 s1 (h1 : State.Ok Q s1))
    | (intro s1 i1 (h1 : State.Ok Q s1))
    | with_reducible refine ok_ite (fun _ => ?_) (fun _ => ?_)
    | (intro s1; refine (fun (h1 : State.Ok Q s1) => ?_) ?_; rotate_left; subst s1; rotate_right)
    | (intro (f : _ → _); subst f; dsimp -zeta only)
    | (intro s1; fail_if_success (have : State := s1))
    | lift_lets
    | split
    | intro _

theorem State.rangeInit_ok (h : s.Ok Q) (t : Nat) (hw : Q.mask &&& 0x8000000000000000000 = 0) : (s.rangeInit t).Ok Q := by
  unfold State.rangeInit
  repeat' first
    | with_reducible assumption
    | with_reducible exact Kit.bit hw (by decide +kernel)
    | with_reducible exact Kit.sub hw (by decide +kernel)
    | with_reducible apply State.setTreg_ok
    | with_reducible apply forUpto_ok
    | with_reducible rfl
    | (intro i1 s1 (h1 : State.Ok Q s1))
    | (intro s1 i1 (h1 : State.Ok Q s1))
    | with_reducible refine ok_ite (fun _ => ?_) (fun _ => ?_)
    | (intro s1; refine (fun (h1 : State.Ok Q s1) => ?_) ?_; rotate_left; subst s1; rotate_right)
    | (intro (f : _ → _); subst f; dsimp -zeta only)
    | (intro s1; fail_if_success (have : State := s1))
    | lift_lets
    | split
    | intro _

theorem State.rangeFollowAll_ok (h : s.Ok Q) (hw : Q.mask &&& 0x40000000000000000000000000000000000000000000000000000000000000000000000000000000000000000000000000000000000000000000000000000008000000000000000000 = 0) : (s.rangeFollowAll).Ok Q := by
  unfold State.rangeFollowAll
  repeat' first
    | with_reducible assumption
    | with_reducible exact Kit.bit hw (by decide +kernel)
    | with_reducible exact Kit.sub hw (by decide +kernel)
    | with_reducible apply State.rangeFollow_ok
    | with_reducible apply forIn'_ok
    | with_reducible rfl
    | (intro i1 s1 (h1 : State.Ok Q s1))
    | (intro s1 i1 (h1 : State.Ok Q s1))
    | with_reducible refine ok_ite (fun _ => ?_) (fun _ => ?_)
    | (intro s1; refine (fun (h1 : State.Ok Q s1) => ?_) ?_; rotate_left; subst s1; rotate_right)
    | (intro (f : _ → _); subst f; dsimp -zeta only)
    | (intro s1; fail_if_success (have : State := s1))
    | lift_lets
    | split
    | intro _

theorem State.capPush_ok (h : s.Ok Q) (ring w0 w1 w2 w3 : Nat) (hw : Q.mask &&& 0x400000000000000000000000000000000000000000000000000000000000000000000000000000000000000000000000000000000000000000200000000000000000000000000000000000000000000000000000000000000000000000000000000000000000000000000000000000000000000000000000002000000000000000000000 = 0) : (s.capPush ring w0 w1 w2 w3).Ok Q := by
  unfold State.capPush
  repeat' first
    | with_reducible assumption
    | with_reducible exact Kit.bit hw (by decide +kernel)
    | with_reducible exact Kit.sub hw (by decide +kernel)
    | with_reducible apply State.satAdd_ok
    | with_reducible apply State.setLat_ok
    | with_reducible rfl
    | with_reducible refine ok_ite (fun _ => ?_) (fun _ => ?_)
    | (intro s1; refine (fun (h1 : State.Ok Q s1) => ?_) ?_; rotate_left; subst s1; rotate_right)
    | (intro (f : _ → _); subst f; dsimp -zeta only)
    | (intro s1; fail_if_success (have : State := s1))
    | lift_lets
    | split
    | intro _
    | with_reducible apply ok_capQ

theorem State.capture_ok (h : s.Ok Q) (m : Sample) (slot code range : Nat) (volt : Option Nat) (hw : Q.mask &&& 0x400000000000000000000000000000000000000000000000000000000000000000000000000000000000000000000000000000000000000000200000000000000000000000000000000000000000000000000000000000000000000000000000000000000000000000000000000000000000000000000000002000000000000000000000 = 0) : (s.capture m slot code range volt).Ok Q := by
  unfold State.capture
  repeat' first
    | with_reducible assumption
    | with_reducible exact Kit.bit hw (by decide +kernel)
    | with_reducible exact Kit.sub hw (by decide +kernel)
    | with_reducible apply State.capPush_ok
    | with_reducible rfl
    | with_reducible refine ok_ite (fun _ => ?_) (fun _ => ?_)
    | (intro s1; refine (fun (h1 : State.Ok Q s1) => ?_) ?_; rotate_left; subst s1; rotate_right)
    | (intro (f : _ → _); subst f; dsimp -zeta only)
    | (intro s1; fail_if_success (have : State := s1))
    | lift_lets
    | split
    | intro _

theorem State.owtStart_ok (h : s.Ok Q) (t i : Nat) (down : Bool) (hw : Q.mask &&& 0x3e000000000000000000000000000000000000000000000000000000000000000000000000000000000000000000000000000000000000000000000000000000000008000000000000000 = 0) : (s.owtStart t i down).Ok Q := by
  unfold State.owtStart
  repeat' first
    | with_reducible assumption
    | with_reducible exact Kit.bit hw (by decide +kernel)
    | with_reducible exact Kit.sub hw (by decide +kernel)
    | with_reducible apply State.setTbit_ok
    | with_reducible apply State.setLat_ok
    | with_reducible apply State.setFlag_ok
    | with_reducible rfl
    | with_reducible refine ok_ite (fun _ => ?_) (fun _ => ?_)
    | (intro s1; refine (fun (h1 : State.Ok Q s1) => ?_) ?_; rotate_left; subst s1; rotate_right)
    | (intro (f : _ → _); subst f; dsimp -zeta only)
    | (intro s1; fail_if_success (have : State := s1))
    | lift_lets
    | split
    | intro _

theorem State.owtJudge_ok (h : s.Ok Q) (t i : Nat) (v : Nat) (hw : Q.mask &&& 0x1000000000000000000000000000000000000000000000000000000000000000000000000000000000000000000000000000000000000000030000000000000000000000000000000000000000000000000000000000000000000000000000000000000000000000000000000000000000000000000000000001800000000000000000 = 0) : (s.owtJudge t i v).Ok Q := by
  unfold State.owtJudge
  repeat' first
    | with_reducible assumption
    | with_reducible exact Kit.bit hw (by decide +kernel)
    | with_reducible exact Kit.sub hw (by decide +kernel)
    | with_reducible apply State.setFlag_ok
    | with_reducible apply State.setMapBit_ok
    | with_reducible apply State.send_ok
    | with_reducible apply State.setLat_ok
    | with_reducible rfl
    | with_reducible refine ok_ite (fun _ => ?_) (fun _ => ?_)
    | (intro s1; refine (fun (h1 : State.Ok Q s1) => ?_) ?_; rotate_left; subst s1; rotate_right)
    | (intro (f : _ → _); subst f; dsimp -zeta only)
    | (intro s1; fail_if_success (have : State := s1))
    | lift_lets
    | split
    | intro _

theorem State.owtConversion_ok (h : s.Ok Q) (t i volt : Nat) (hw : Q.mask &&& 0x1000000000000000000000000000000000000000000000000000000000000000000000000000000000000000000000000000000000000000032000000000000000000000000000000000000000000000000000000000000000000000000000000000000000000000000000000000000000000000000000000001808000000000000000 = 0) : (s.owtConversion t i volt).Ok Q := by
  unfold State.owtConversion
  repeat' first
    | with_reducible assumption
    | with_reducible exact Kit.bit hw (by decide +kernel)
    | with_reducible exact Kit.sub hw (by decide +kernel)
    | with_reducible apply State.setLat_ok
    | with_reducible apply State.owtJudge_ok
    | with_reducible apply State.setTbit_ok
    | with_reducible rfl
    | with_reducible refine ok_ite (fun _ => ?_) (fun _ => ?_)
    | (intro s1; refine (fun (h1 : State.Ok Q s1) => ?_) ?_; rotate_left; subst s1; rotate_right)
    | (intro (f : _ → _); subst f; dsimp -zeta only)
    | (intro s1; fail_if_success (have : State := s1))
    | lift_lets
    | split
    | intro _

theorem State.owtCommand_ok (h : s.Ok Q) (t w : Nat) (hw : Q.mask &&& 0x1000000000000000000000000000000000000000000000000000000000000000000000000000000000000000000000000000000000000000080000000000000000000000000000000020002000020000400402000000800010001000040800400002000000000008000200000800000000810010000000010000008800080000800800 = 0) : (s.owtCommand t w).Ok Q := by
  unfold State.owtCommand
  repeat' first
    | with_reducible assumption
    | with_reducible exact Kit.bit hw (by decide +kernel)
    | with_reducible exact Kit.sub hw (by decide +kernel)
    | with_reducible apply State.refuse_ok
    | with_reducible apply State.setLat_ok
    | with_reducible rfl
    | with_reducible refine ok_ite (fun _ => ?_) (fun _ => ?_)
    | (intro s1; refine (fun (h1 : State.Ok Q s1) => ?_) ?_; rotate_left; subst s1; rotate_right)
    | (intro (f : _ → _); subst f; dsimp -zeta only)
    | (intro s1; fail_if_success (have : State := s1))
    | lift_lets
    | split
    | intro _

theorem State.owtBoundary_ok (h : s.Ok Q) (t : Nat) (hw : Q.mask &&& 0xbe000000000000000000000000000000000000000000000000000000000000000000000000000000000000000000000000000000000000000000000000000000000008000000000000000 = 0) : (s.owtBoundary t).Ok Q := by
  unfold State.owtBoundary
  repeat' first
    | with_reducible assumption
    | with_reducible exact Kit.bit hw (by decide +kernel)
    | with_reducible exact Kit.sub hw (by decide +kernel)
    | with_reducible apply State.setLat_ok
    | with_reducible apply State.owtStart_ok
    | with_reducible rfl
    | with_reducible refine ok_ite (fun _ => ?_) (fun _ => ?_)
    | (intro s1; refine (fun (h1 : State.Ok Q s1) => ?_) ?_; rotate_left; subst s1; rotate_right)
    | (intro (f : _ → _); subst f; dsimp -zeta only)
    | (intro s1; fail_if_success (have : State := s1))
    | lift_lets
    | split
    | intro _

theorem State.refEnable_ok (h : s.Ok Q) (t : Nat) (en : Bool) (hw : Q.mask &&& 0x800000000000000000000000000000000000000000000000080000000000000000000000000000000000000000000000000000000000000000000000000000000000000000000000000000000000000000000000000000000010000000000000000 = 0) : (s.refEnable t en).Ok Q := by
  unfold State.refEnable
  repeat' first
    | with_reducible assumption
    | with_reducible exact Kit.bit hw (by decide +kernel)
    | with_reducible exact Kit.sub hw (by decide +kernel)
    | with_reducible apply State.setTreg_ok
    | with_reducible apply State.setLat_ok
    | with_reducible rfl
    | with_reducible refine ok_ite (fun _ => ?_) (fun _ => ?_)
    | (intro s1; refine (fun (h1 : State.Ok Q s1) => ?_) ?_; rotate_left; subst s1; rotate_right)
    | (intro (f : _ → _); subst f; dsimp -zeta only)
    | (intro s1; fail_if_success (have : State := s1))
    | lift_lets
    | split
    | intro _

theorem State.sysRoundStart_ok (h : s.Ok Q) (t v : Nat) (hw : Q.mask &&& 0x440000000000000000000000000000000000000000000000000000000000000000000000000000000000000000000000000000000000000000000000000000008000000000000000000 = 0) : (s.sysRoundStart t v).Ok Q := by
  unfold State.sysRoundStart
  repeat' first
    | with_reducible assumption
    | with_reducible exact Kit.bit hw (by decide +kernel)
    | with_reducible exact Kit.sub hw (by decide +kernel)
    | with_reducible apply State.setLat_ok
    | with_reducible apply State.setRange_ok
    | with_reducible apply forUpto_ok
    | with_reducible rfl
    | (intro i1 s1 (h1 : State.Ok Q s1))
    | (intro s1 i1 (h1 : State.Ok Q s1))
    | with_reducible refine ok_ite (fun _ => ?_) (fun _ => ?_)
    | (intro s1; refine (fun (h1 : State.Ok Q s1) => ?_) ?_; rotate_left; subst s1; rotate_right)
    | (intro (f : _ → _); subst f; dsimp -zeta only)
    | (intro s1; fail_if_success (have : State := s1))
    | lift_lets
    | split
    | intro _

theorem State.sysConversion_ok (h : s.Ok Q) (t v i code : Nat) (p : Int) (clean : Bool) (hw : Q.mask &&& 0x840000000000000000000000000000000000000000000000000000000000000000000000000000000000000000000000000000000000000000000000000000008000000000000000000 = 0) : (s.sysConversion t v i code p clean).Ok Q := by
  unfold State.sysConversion
  repeat' first
    | with_reducible assumption
    | with_reducible exact Kit.bit hw (by decide +kernel)
    | with_reducible exact Kit.sub hw (by decide +kernel)
    | with_reducible apply State.autorange_ok
    | with_reducible apply State.setLat_ok
    | with_reducible rfl
    | with_reducible refine ok_ite (fun _ => ?_) (fun _ => ?_)
    | (intro s1; refine (fun (h1 : State.Ok Q s1) => ?_) ?_; rotate_left; subst s1; rotate_right)
    | (intro (f : _ → _); subst f; dsimp -zeta only)
    | (intro s1; fail_if_success (have : State := s1))
    | lift_lets
    | split
    | intro _

theorem State.sysEnd_ok (h : s.Ok Q) (t : Nat) (hw : Q.mask &&& 0x2000000000000000000000000000000000000000000000000d40000000000000000000000000000000000000000000000000000000000000000000000000000000000000000000000000000000000000000000000000000008008000000000000000 = 0) : (s.sysEnd t).Ok Q := by
  unfold State.sysEnd
  repeat' first
    | with_reducible assumption
    | with_reducible exact Kit.bit hw (by decide +kernel)
    | with_reducible exact Kit.sub hw (by decide +kernel)
    | with_reducible apply State.setTbit_ok
    | with_reducible apply State.setLat_ok
    | with_reducible apply State.setRange_ok
    | with_reducible apply forUpto_ok
    | with_reducible rfl
    | (intro i1 s1 (h1 : State.Ok Q s1))
    | (intro s1 i1 (h1 : State.Ok Q s1))
    | with_reducible refine ok_ite (fun _ => ?_) (fun _ => ?_)
    | (intro s1; refine (fun (h1 : State.Ok Q s1) => ?_) ?_; rotate_left; subst s1; rotate_right)
    | (intro (f : _ → _); subst f; dsimp -zeta only)
    | (intro s1; fail_if_success (have : State := s1))
    | lift_lets
    | split
    | intro _

theorem State.sysAbandonAll_ok (h : s.Ok Q) (hw : Q.mask &&& 0x2000000000000000000000000000000000000000000000000d40000000000000000000000000000000000000000000000000000000000000000000000000000000000000000000000000000000000000000000000000000008008000000000000000 = 0) : (s.sysAbandonAll).Ok Q := by
  unfold State.sysAbandonAll
  repeat' first
    | with_reducible assumption
    | with_reducible exact Kit.bit hw (by decide +kernel)
    | with_reducible exact Kit.sub hw (by decide +kernel)
    | with_reducible apply State.sysEnd_ok
    | with_reducible apply forIn'_ok
    | with_reducible rfl
    | (intro i1 s1 (h1 : State.Ok Q s1))
    | (intro s1 i1 (h1 : State.Ok Q s1))
    | with_reducible refine ok_ite (fun _ => ?_) (fun _ => ?_)
    | (intro s1; refine (fun (h1 : State.Ok Q s1) => ?_) ?_; rotate_left; subst s1; rotate_right)
    | (intro (f : _ → _); subst f; dsimp -zeta only)
    | (intro s1; fail_if_success (have : State := s1))
    | lift_lets
    | split
    | intro _

theorem State.sysStart_ok (h : s.Ok Q) (t op avg : Nat) (hw : Q.mask &&& 0x1700000000000000000000000000000000000000000000000000000000000000000000000000000000000000000000000000000000000000000000000000000000008000000000000000 = 0) : (s.sysStart t op avg).Ok Q := by
  unfold State.sysStart
  repeat' first
    | with_reducible assumption
    | with_reducible exact Kit.bit hw (by decide +kernel)
    | with_reducible exact Kit.sub hw (by decide +kernel)
    | with_reducible apply State.setTbit_ok
    | with_reducible apply State.setLat_ok
    | with_reducible apply forUpto_ok
    | with_reducible rfl
    | (intro i1 s1 (h1 : State.Ok Q s1))
    | (intro s1 i1 (h1 : State.Ok Q s1))
    | with_reducible refine ok_ite (fun _ => ?_) (fun _ => ?_)
    | (intro s1; refine (fun (h1 : State.Ok Q s1) => ?_) ?_; rotate_left; subst s1; rotate_right)
    | (intro (f : _ → _); subst f; dsimp -zeta only)
    | (intro s1; fail_if_success (have : State := s1))
    | lift_lets
    | split
    | intro _

theorem State.sysCommand_ok (h : s.Ok Q) (t w : Nat) (hw : Q.mask &&& 0x1000000000000000000000000000000000000000000000000000000000000000000000000000000000000000000000000000000000000000001700000000000000000000000000000020002000020000400402000000800010001000040800400002000000000008000200000800000000810010000000010002008800080000800800 = 0) : (s.sysCommand t w).Ok Q := by
  unfold State.sysCommand
  repeat' first
    | with_reducible assumption
    | with_reducible exact Kit.bit hw (by decide +kernel)
    | with_reducible exact Kit.sub hw (by decide +kernel)
    | with_reducible apply State.refuse_ok
    | with_reducible apply State.sysStart_ok
    | with_reducible apply State.setTreg_ok
    | with_reducible apply State.setTbit_ok
    | with_reducible apply forUpto_ok
    | with_reducible rfl
    | (intro i1 s1 (h1 : State.Ok Q s1))
    | (intro s1 i1 (h1 : State.Ok Q s1))
    | with_reducible refine ok_ite (fun _ => ?_) (fun _ => ?_)
    | (intro s1; refine (fun (h1 : State.Ok Q s1) => ?_) ?_; rotate_left; subst s1; rotate_right)
    | (intro (f : _ → _); subst f; dsimp -zeta only)
    | (intro s1; fail_if_success (have : State := s1))
    | lift_lets
    | split
    | intro _

theorem State.sysWrite_ok (h : s.Ok Q) (t w : Nat) (hw : Q.mask &&& 0x1020000000000000000000000000000000000000000000000000000000000000000000000000000000000000000000000000000000000000001700000000000000000000000000000020002000020000400402000000800010001000040800400002000000000008000200000800000000810010000000010002008800080000800800 = 0) : (s.sysWrite t w).Ok Q := by
  unfold State.sysWrite
  repeat' first
    | with_reducible assumption
    | with_reducible exact Kit.bit hw (by decide +kernel)
    | with_reducible exact Kit.sub hw (by decide +kernel)
    | with_reducible apply State.sysCommand_ok
    | with_reducible apply State.addrFault_ok
    | with_reducible rfl
    | with_reducible refine ok_ite (fun _ => ?_) (fun _ => ?_)
    | (intro s1; refine (fun (h1 : State.Ok Q s1) => ?_) ?_; rotate_left; subst s1; rotate_right)
    | (intro (f : _ → _); subst f; dsimp -zeta only)
    | (intro s1; fail_if_success (have : State := s1))
    | lift_lets
    | split
    | intro _

theorem State.sysFail_ok (h : s.Ok Q) (t i : Nat) (hw : Q.mask &&& 0x2008000000000000000 = 0) : (s.sysFail t i).Ok Q := by
  unfold State.sysFail
  repeat' first
    | with_reducible assumption
    | with_reducible exact Kit.bit hw (by decide +kernel)
    | with_reducible exact Kit.sub hw (by decide +kernel)
    | with_reducible apply State.setMapBit_ok
    | with_reducible apply State.setTbit_ok
    | with_reducible rfl
    | with_reducible refine ok_ite (fun _ => ?_) (fun _ => ?_)
    | (intro s1; refine (fun (h1 : State.Ok Q s1) => ?_) ?_; rotate_left; subst s1; rotate_right)
    | (intro (f : _ → _); subst f; dsimp -zeta only)
    | (intro s1; fail_if_success (have : State := s1))
    | lift_lets
    | split
    | intro _

theorem State.sysDarkInput_ok (h : s.Ok Q) (t i : Nat) (hw : Q.mask &&& 0x22008000000000000000 = 0) : (s.sysDarkInput t i).Ok Q := by
  unfold State.sysDarkInput
  repeat' first
    | with_reducible assumption
    | with_reducible exact Kit.bit hw (by decide +kernel)
    | with_reducible exact Kit.sub hw (by decide +kernel)
    | with_reducible apply State.setTreg_ok
    | with_reducible apply State.sysFail_ok
    | with_reducible rfl
    | with_reducible refine ok_ite (fun _ => ?_) (fun _ => ?_)
    | (intro s1; refine (fun (h1 : State.Ok Q s1) => ?_) ?_; rotate_left; subst s1; rotate_right)
    | (intro (f : _ → _); subst f; dsimp -zeta only)
    | (intro s1; fail_if_success (have : State := s1))
    | lift_lets
    | split
    | intro _

theorem State.sysInjectInput_ok (h : s.Ok Q) (t i : Nat) (hw : Q.mask &&& 0x42008000000000000000 = 0) : (s.sysInjectInput t i).Ok Q := by
  unfold State.sysInjectInput
  repeat' first
    | with_reducible assumption
    | with_reducible exact Kit.bit hw (by decide +kernel)
    | with_reducible exact Kit.sub hw (by decide +kernel)
    | with_reducible apply State.setTreg_ok
    | with_reducible apply State.sysFail_ok
    | with_reducible apply forUpto_ok
    | with_reducible rfl
    | (intro i1 s1 (h1 : State.Ok Q s1))
    | (intro s1 i1 (h1 : State.Ok Q s1))
    | with_reducible refine ok_ite (fun _ => ?_) (fun _ => ?_)
    | (intro s1; refine (fun (h1 : State.Ok Q s1) => ?_) ?_; rotate_left; subst s1; rotate_right)
    | (intro (f : _ → _); subst f; dsimp -zeta only)
    | (intro s1; fail_if_success (have : State := s1))
    | lift_lets
    | split
    | intro _

theorem State.sysIllumInput_ok (h : s.Ok Q) (t i : Nat) (hw : Q.mask &&& 0x42008000000000000000 = 0) : (s.sysIllumInput t i).Ok Q := by
  unfold State.sysIllumInput
  repeat' first
    | with_reducible assumption
    | with_reducible exact Kit.bit hw (by decide +kernel)
    | with_reducible exact Kit.sub hw (by decide +kernel)
    | with_reducible apply State.setTreg_ok
    | with_reducible apply State.sysFail_ok
    | with_reducible apply forUpto_ok
    | with_reducible rfl
    | (intro i1 s1 (h1 : State.Ok Q s1))
    | (intro s1 i1 (h1 : State.Ok Q s1))
    | with_reducible refine ok_ite (fun _ => ?_) (fun _ => ?_)
    | (intro s1; refine (fun (h1 : State.Ok Q s1) => ?_) ?_; rotate_left; subst s1; rotate_right)
    | (intro (f : _ → _); subst f; dsimp -zeta only)
    | (intro s1; fail_if_success (have : State := s1))
    | lift_lets
    | split
    | intro _

theorem State.convFail_ok (h : s.Ok Q) (t v : Nat) (hw : Q.mask &&& 0x1000000000000000000000000000000000000000000000000000000000000000000000000000000000000000000000000000000000000000000020000000000000000000000000000000000000000000000000000000000000000000000000000000000000000000000000000000000000000000000000000000008000000000000000 = 0) : (s.convFail t v).Ok Q := by
  unfold State.convFail
  repeat' first
    | with_reducible assumption
    | with_reducible exact Kit.bit hw (by decide +kernel)
    | with_reducible exact Kit.sub hw (by decide +kernel)
    | with_reducible apply State.setTbit_ok
    | with_reducible apply State.setLat_ok
    | with_reducible apply State.send_ok
    | with_reducible rfl
    | with_reducible refine ok_ite (fun _ => ?_) (fun _ => ?_)
    | (intro s1; refine (fun (h1 : State.Ok Q s1) => ?_) ?_; rotate_left; subst s1; rotate_right)
    | (intro (f : _ → _); subst f; dsimp -zeta only)
    | (intro s1; fail_if_success (have : State := s1))
    | lift_lets
    | split
    | intro _

theorem State.convCount_ok (h : s.Ok Q) (t v : Nat) (ok done : Bool) (hw : Q.mask &&& 0x1000000000000000000000000000000000000000000000000000000000000000000000000000000000000000000000000000000000000000000038000000000000000000000000000000000000000000000000000000000000000000000000000000000000000000000000000000000000000000000000000000208000000000000000 = 0) : (s.convCount t v ok done).Ok Q := by
  unfold State.convCount
  repeat' first
    | with_reducible assumption
    | with_reducible exact Kit.bit hw (by decide +kernel)
    | with_reducible exact Kit.sub hw (by decide +kernel)
    | with_reducible apply State.setLat_ok
    | with_reducible apply State.setTfld_ok
    | with_reducible apply State.convFail_ok
    | with_reducible rfl
    | with_reducible refine ok_ite (fun _ => ?_) (fun _ => ?_)
    | (intro s1; refine (fun (h1 : State.Ok Q s1) => ?_) ?_; rotate_left; subst s1; rotate_right)
    | (intro (f : _ → _); subst f; dsimp -zeta only)
    | (intro s1; fail_if_success (have : State := s1))
    | lift_lets
    | split
    | intro _

theorem State.roundStart_ok (h : s.Ok Q) (t v : Nat) (hw : Q.mask &&& 0x447800000000000000000000000000000000000000000000000000000000000000000000000000000000000000000000000000000000000000000000000000008000000000000000000 = 0) : (s.roundStart t v).Ok Q := by
  unfold State.roundStart
  repeat' first
    | with_reducible assumption
    | with_reducible exact Kit.bit hw (by decide +kernel)
    | with_reducible exact Kit.sub hw (by decide +kernel)
    | with_reducible apply State.setLat_ok
    | with_reducible apply State.setFlag_ok
    | with_reducible apply State.sysRoundStart_ok
    | with_reducible rfl
    | with_reducible refine ok_ite (fun _ => ?_) (fun _ => ?_)
    | (intro s1; refine (fun (h1 : State.Ok Q s1) => ?_) ?_; rotate_left; subst s1; rotate_right)
    | (intro (f : _ → _); subst f; dsimp -zeta only)
    | (intro s1; fail_if_success (have : State := s1))
    | lift_lets
    | split
    | intro _

theorem State.history_ok (h : s.Ok Q) (m : Sample) (range code : Nat) (hw : Q.mask &&& 0x10000000000000000000000000000000000000000000000000000000000000000000000000000000000000000000000000000000000000000000000000000000000000000000000000000000000000 = 0) : (s.history m range code).Ok Q := by
  unfold State.history
  repeat' first
    | with_reducible assumption
    | with_reducible exact Kit.bit hw (by decide +kernel)
    | with_reducible exact Kit.sub hw (by decide +kernel)
    | with_reducible apply State.setLat_ok
    | with_reducible rfl
    | with_reducible refine ok_ite (fun _ => ?_) (fun _ => ?_)
    | (intro s1; refine (fun (h1 : State.Ok Q s1) => ?_) ?_; rotate_left; subst s1; rotate_right)
    | (intro (f : _ → _); subst f; dsimp -zeta only)
    | (intro s1; fail_if_success (have : State := s1))
    | lift_lets
    | split
    | intro _

theorem State.historyRound_ok (h : s.Ok Q) (t v : Nat) (hw : Q.mask &&& 0x20000000000000000000000000000000000000000000000000000000000000000000000000000000000000000000000000000000000000000000000000000000000000000000000000000000000000 = 0) : (s.historyRound t v).Ok Q := by
  unfold State.historyRound
  repeat' first
    | with_reducible assumption
    | with_reducible exact Kit.bit hw (by decide +kernel)
    | with_reducible exact Kit.sub hw (by decide +kernel)
    | with_reducible apply State.setLat_ok
    | with_reducible rfl
    | with_reducible refine ok_ite (fun _ => ?_) (fun _ => ?_)
    | (intro s1; refine (fun (h1 : State.Ok Q s1) => ?_) ?_; rotate_left; subst s1; rotate_right)
    | (intro (f : _ → _); subst f; dsimp -zeta only)
    | (intro s1; fail_if_success (have : State := s1))
    | lift_lets
    | split
    | intro _

theorem State.conversion_ok (h : s.Ok Q) (t v slot code : Nat) (ok done : Bool) (volt : Nat) (hw : Q.mask &&& 0x601000000000000000000000000000000000000000000000000000000000000000002000000000000000000000000000000000000030000000232c7f800000000000000000000000000000000000000000000000000000000000000000000000000000000000000000000000000000000000000000000000002009a08000000000000000 = 0) : (s.conversion t v slot code ok done volt).Ok Q := by
  unfold State.conversion
  repeat' first
    | with_reducible assumption
    | with_reducible exact Kit.bit hw (by decide +kernel)
    | with_reducible exact Kit.sub hw (by decide +kernel)
    | with_reducible apply State.convCount_ok
    | with_reducible apply State.history_ok
    | with_reducible apply State.capture_ok
    | with_reducible apply State.sysConversion_ok
    | with_reducible apply State.rangeAfter_ok
    | with_reducible apply State.owtConversion_ok
    | with_reducible apply State.historyRound_ok
    | with_reducible apply State.roundStart_ok
    | with_reducible apply State.setLat_ok
    | with_reducible rfl
    | with_reducible refine ok_ite (fun _ => ?_) (fun _ => ?_)
    | (intro s1; refine (fun (h1 : State.Ok Q s1) => ?_) ?_; rotate_left; subst s1; rotate_right)
    | (intro (f : _ → _); subst f; dsimp -zeta only)
    | (intro s1; fail_if_success (have : State := s1))
    | lift_lets
    | split
    | intro _
    | with_reducible apply ok_samples

theorem State.deliver_ok (h : s.Ok Q) (m : Sample) (hw : Q.mask &&& 0x400000000000000000000000000000000000000000000000000000000000000000000000000000000000000000000000000000000000000000000000000000000000000000000000000000 = 0) : (s.deliver m).Ok Q := by
  unfold State.deliver
  repeat' first
    | with_reducible assumption
    | with_reducible exact Kit.bit hw (by decide +kernel)
    | with_reducible exact Kit.sub hw (by decide +kernel)
    | with_reducible apply State.setLat_ok
    | with_reducible rfl
    | with_reducible refine ok_ite (fun _ => ?_) (fun _ => ?_)
    | (intro s1; refine (fun (h1 : State.Ok Q s1) => ?_) ?_; rotate_left; subst s1; rotate_right)
    | (intro (f : _ → _); subst f; dsimp -zeta only)
    | (intro s1; fail_if_success (have : State := s1))
    | lift_lets
    | split
    | intro _

end Sys2Proof.Machine
end

