-- ==== Sys2Proof/Laws/KeepEngine.lean ====
section
/-! SUPPORT. The operations of Machine/Engine.lean keep soundness and the queue. -/
set_option Elab.async false
namespace Sys2Proof.Machine

variable {Q : Kit} {s : State}

theorem State.setHalf_ok (h : s.Ok Q) (t hh v : Nat) (hw : Q.mask &&& 0x80000800000000000000000000000000000000000000000000000000000000000000000000000000000000000000000000000 = 0) : (s.setHalf t hh v).Ok Q := by
  unfold State.setHalf
  repeat' first
    | with_reducible assumption
    | with_reducible exact Kit.bit hw (by decide +kernel)
    | with_reducible exact Kit.sub hw (by decide +kernel)
    | with_reducible apply State.setTfld_ok
    | with_reducible apply State.setMapBit_ok
    | with_reducible rfl
    | with_reducible refine ok_ite (fun _ => ?_) (fun _ => ?_)
    | (intro s1; refine (fun (h1 : State.Ok Q s1) => ?_) ?_; rotate_left; subst s1; rotate_right)
    | (intro (f : _ → _); subst f; dsimp -zeta only)
    | (intro s1; fail_if_success (have : State := s1))
    | lift_lets
    | split
    | intro _

theorem State.result_ok (h : s.Ok Q) (t hh g lat kind ix val : Nat) (hw : Q.mask &&& 0x800000000000000000000000000000000000000000000000000000000000000000000000000000000000000000000000000000000000000000000000000000000000000000000000000000000000000000000000000000000000000000000000000000000000000000000000000000000000000000000000000000000000000000000000 = 0) : (s.result t hh g lat kind ix val).Ok Q := by
  unfold State.result
  repeat' first
    | with_reducible assumption
    | with_reducible exact Kit.bit hw (by decide +kernel)
    | with_reducible exact Kit.sub hw (by decide +kernel)
    | with_reducible rfl
    | with_reducible refine ok_ite (fun _ => ?_) (fun _ => ?_)
    | (intro s1; refine (fun (h1 : State.Ok Q s1) => ?_) ?_; rotate_left; subst s1; rotate_right)
    | (intro (f : _ → _); subst f; dsimp -zeta only)
    | (intro s1; fail_if_success (have : State := s1))
    | lift_lets
    | split
    | intro _
    | with_reducible apply ok_pipe

theorem State.resultG_ok (h : s.Ok Q) (t hh g lat dst : Nat) (val : Int) (hw : Q.mask &&& 0x800000000000000000000000000000000000000000000000000000000000000000000000000000000000000000000000000000000000000000000000000000000000000000000000000000000000000000000000000000000000000000000000000000000000000000000000000000000000000000000000000000000000000000000000 = 0) : (s.resultG t hh g lat dst val).Ok Q := by
  unfold State.resultG
  repeat' first
    | with_reducible assumption
    | with_reducible exact Kit.bit hw (by decide +kernel)
    | with_reducible exact Kit.sub hw (by decide +kernel)
    | with_reducible apply State.result_ok
    | with_reducible rfl
    | with_reducible refine ok_ite (fun _ => ?_) (fun _ => ?_)
    | (intro s1; refine (fun (h1 : State.Ok Q s1) => ?_) ?_; rotate_left; subst s1; rotate_right)
    | (intro (f : _ → _); subst f; dsimp -zeta only)
    | (intro s1; fail_if_success (have : State := s1))
    | lift_lets
    | split
    | intro _

theorem State.resultPair_ok (h : s.Ok Q) (t hh g lat dst : Nat) (val : Int) (hw : Q.mask &&& 0x800000000000000000000000000000000000000000000000000000000000000000000000000000000000000000000000000000000000000000000000000000000000000000000000000000000000000000000000000000000000000000000000000000000000000000000000000000000000000000000000000000000000000000000000 = 0) : (s.resultPair t hh g lat dst val).Ok Q := by
  unfold State.resultPair
  repeat' first
    | with_reducible assumption
    | with_reducible exact Kit.bit hw (by decide +kernel)
    | with_reducible exact Kit.sub hw (by decide +kernel)
    | with_reducible apply State.result_ok
    | with_reducible rfl
    | with_reducible refine ok_ite (fun _ => ?_) (fun _ => ?_)
    | (intro s1; refine (fun (h1 : State.Ok Q s1) => ?_) ?_; rotate_left; subst s1; rotate_right)
    | (intro (f : _ → _); subst f; dsimp -zeta only)
    | (intro s1; fail_if_success (have : State := s1))
    | lift_lets
    | split
    | intro _

theorem State.land_ok (h : s.Ok Q) (p : PipeW) (hw : Q.mask &&& 0x38000000000000000000000000000000000000000000000000000000000000000000000000000000000000000000000000000000000000000000000000000000000000000000000000000000 = 0) : (s.land p).Ok Q := by
  unfold State.land
  repeat' first
    | with_reducible assumption
    | with_reducible exact Kit.bit hw (by decide +kernel)
    | with_reducible exact Kit.sub hw (by decide +kernel)
    | with_reducible apply State.setLat_ok
    | with_reducible rfl
    | with_reducible refine ok_ite (fun _ => ?_) (fun _ => ?_)
    | (intro s1; refine (fun (h1 : State.Ok Q s1) => ?_) ?_; rotate_left; subst s1; rotate_right)
    | (intro (f : _ → _); subst f; dsimp -zeta only)
    | (intro s1; fail_if_success (have : State := s1))
    | lift_lets
    | split
    | intro _

theorem State.landUpto_ok (h : s.Ok Q) (t hh g : Nat) (hw : Q.mask &&& 0x800000000000000000000000000000000000000000000000000000000000000000000000000000000000000000000000000000000000000038000000000000000000000000000000000000000000000000000000000000000000000000000000000000000000000000000000000000000000000000000000000000000000000000000000 = 0) : (s.landUpto t hh g).Ok Q := by
  unfold State.landUpto
  repeat' first
    | with_reducible assumption
    | with_reducible exact Kit.bit hw (by decide +kernel)
    | with_reducible exact Kit.sub hw (by decide +kernel)
    | with_reducible apply State.land_ok
    | with_reducible apply forIn'_ok
    | with_reducible rfl
    | (intro i1 s1 (h1 : State.Ok Q s1))
    | (intro s1 i1 (h1 : State.Ok Q s1))
    | with_reducible refine ok_ite (fun _ => ?_) (fun _ => ?_)
    | (intro s1; refine (fun (h1 : State.Ok Q s1) => ?_) ?_; rotate_left; subst s1; rotate_right)
    | (intro (f : _ → _); subst f; dsimp -zeta only)
    | (intro s1; fail_if_success (have : State := s1))
    | lift_lets
    | split
    | intro _
    | with_reducible apply ok_pipe

theorem State.dropPipe_ok (h : s.Ok Q) (t hh : Nat) (hw : Q.mask &&& 0x800000000000000000000000000000000000000000000000000000000000000000000000000000000000000000000000000000000000000000000000000000000000000000000000000000000000000000000000000000000000000000000000000000000000000000000000000000000000000000000000000000000000000000000000 = 0) : (s.dropPipe t hh).Ok Q := by
  unfold State.dropPipe
  repeat' first
    | with_reducible assumption
    | with_reducible exact Kit.bit hw (by decide +kernel)
    | with_reducible exact Kit.sub hw (by decide +kernel)
    | with_reducible rfl
    | with_reducible refine ok_ite (fun _ => ?_) (fun _ => ?_)
    | (intro s1; refine (fun (h1 : State.Ok Q s1) => ?_) ?_; rotate_left; subst s1; rotate_right)
    | (intro (f : _ → _); subst f; dsimp -zeta only)
    | (intro s1; fail_if_success (have : State := s1))
    | lift_lets
    | split
    | intro _
    | with_reducible apply ok_pipe

theorem State.endPipe_ok (h : s.Ok Q) (t hh : Nat) (hw : Q.mask &&& 0x800000000000000000000000000000000000000000000000000000000000000000000000000000000000000000000000000000000000000000000000000000000000000000000000000000000000000000000000000000000000000000000000000000000000000000000000000000000000000000000000000000000000000000000000 = 0) : (s.endPipe t hh).Ok Q := by
  unfold State.endPipe
  repeat' first
    | with_reducible assumption
    | with_reducible exact Kit.bit hw (by decide +kernel)
    | with_reducible exact Kit.sub hw (by decide +kernel)
    | with_reducible rfl
    | with_reducible refine ok_ite (fun _ => ?_) (fun _ => ?_)
    | (intro s1; refine (fun (h1 : State.Ok Q s1) => ?_) ?_; rotate_left; subst s1; rotate_right)
    | (intro (f : _ → _); subst f; dsimp -zeta only)
    | (intro s1; fail_if_success (have : State := s1))
    | lift_lets
    | split
    | intro _
    | with_reducible apply ok_pipe

theorem State.alu_ok (h : s.Ok Q) (t hh g word f : Nat) (hw : Q.mask &&& 0x800000000000000000000000000000000000000000000000000000000000000000000000000000000000000000000000000000000000000000000000000000000000000000000000000000000000000000000000000000000000000000000000000000000000000000000000000000000000000000000000000000000000000000000000 = 0) : (s.alu t hh g word f).Ok Q := by
  unfold State.alu
  repeat' first
    | with_reducible assumption
    | with_reducible exact Kit.bit hw (by decide +kernel)
    | with_reducible exact Kit.sub hw (by decide +kernel)
    | with_reducible apply State.resultG_ok
    | with_reducible apply State.result_ok
    | with_reducible apply State.resultPair_ok
    | with_reducible rfl
    | with_reducible refine ok_ite (fun _ => ?_) (fun _ => ?_)
    | (intro s1; refine (fun (h1 : State.Ok Q s1) => ?_) ?_; rotate_left; subst s1; rotate_right)
    | (intro (f : _ → _); subst f; dsimp -zeta only)
    | (intro s1; fail_if_success (have : State := s1))
    | lift_lets
    | split
    | intro _

theorem State.mul_ok (h : s.Ok Q) (t hh g word f : Nat) (hw : Q.mask &&& 0x800000000000000000000000000000000000000000000000000000000000000000000000000000000000000000000000000000000000000000000000000000000000000000000000000000000000000000000000000000000000000000000000000000000000000000000000000000000000000000000000000000000000000000000000 = 0) : (s.mul t hh g word f).Ok Q := by
  unfold State.mul
  repeat' first
    | with_reducible assumption
    | with_reducible exact Kit.bit hw (by decide +kernel)
    | with_reducible exact Kit.sub hw (by decide +kernel)
    | with_reducible apply State.resultG_ok
    | with_reducible apply State.resultPair_ok
    | with_reducible rfl
    | with_reducible refine ok_ite (fun _ => ?_) (fun _ => ?_)
    | (intro s1; refine (fun (h1 : State.Ok Q s1) => ?_) ?_; rotate_left; subst s1; rotate_right)
    | (intro (f : _ → _); subst f; dsimp -zeta only)
    | (intro s1; fail_if_success (have : State := s1))
    | lift_lets
    | split
    | intro _

theorem State.divide_ok (h : s.Ok Q) (t hh g word f : Nat) (hw : Q.mask &&& 0x800000000000000000000000000000000000000000000000000000000000000000000000000000000000000000000000000000000000000000000000000000000000000000000000000000000000000000000000000000000000000000000000000000000000000000000000000000000000000000000000000000000000000000000000 = 0) : (s.divide t hh g word f).Ok Q := by
  unfold State.divide
  repeat' first
    | with_reducible assumption
    | with_reducible exact Kit.bit hw (by decide +kernel)
    | with_reducible exact Kit.sub hw (by decide +kernel)
    | with_reducible apply State.resultG_ok
    | with_reducible apply State.resultPair_ok
    | with_reducible apply State.result_ok
    | with_reducible rfl
    | with_reducible refine ok_ite (fun _ => ?_) (fun _ => ?_)
    | (intro s1; refine (fun (h1 : State.Ok Q s1) => ?_) ?_; rotate_left; subst s1; rotate_right)
    | (intro (f : _ → _); subst f; dsimp -zeta only)
    | (intro s1; fail_if_success (have : State := s1))
    | lift_lets
    | split
    | intro _

theorem State.contract_ok (h : s.Ok Q) (t sub cls addr : Nat) (hw : Q.mask &&& 0x1000000000000000000000000000000000000000000000000000000000000000000000000000000000000000000000000000000000001000000000000000000000000000000000000000000000001000000000000000000000000000000000000000000000000000000000000000000000000000000000000000000000000000000000 = 0) : (s.contract t sub cls addr).Ok Q := by
  unfold State.contract
  repeat' first
    | with_reducible assumption
    | with_reducible exact Kit.bit hw (by decide +kernel)
    | with_reducible exact Kit.sub hw (by decide +kernel)
    | with_reducible apply State.setFlag_ok
    | with_reducible apply State.sendEngine_ok
    | with_reducible rfl
    | with_reducible refine ok_ite (fun _ => ?_) (fun _ => ?_)
    | (intro s1; refine (fun (h1 : State.Ok Q s1) => ?_) ?_; rotate_left; subst s1; rotate_right)
    | (intro (f : _ → _); subst f; dsimp -zeta only)
    | (intro s1; fail_if_success (have : State := s1))
    | lift_lets
    | split
    | intro _

theorem State.contractLate_ok (h : s.Ok Q) (t addr : Nat) (hw : Q.mask &&& 0x1000000000000000000000000000000000000000000000000000000000000000000000000000000000000000000000000000000000001000000000000000000000000000000000000000000000001000000000000000000000000000000000000000000000000000000000000000000000000000000000000000000000000000000000 = 0) : (s.contractLate t addr).Ok Q := by
  unfold State.contractLate
  repeat' first
    | with_reducible assumption
    | with_reducible exact Kit.bit hw (by decide +kernel)
    | with_reducible exact Kit.sub hw (by decide +kernel)
    | with_reducible apply State.sendEngine_ok
    | with_reducible apply State.setLat_ok
    | with_reducible rfl
    | with_reducible refine ok_ite (fun _ => ?_) (fun _ => ?_)
    | (intro s1; refine (fun (h1 : State.Ok Q s1) => ?_) ?_; rotate_left; subst s1; rotate_right)
    | (intro (f : _ → _); subst f; dsimp -zeta only)
    | (intro s1; fail_if_success (have : State := s1))
    | lift_lets
    | split
    | intro _
    | with_reducible apply ok_faults

theorem State.rangeFault_ok (h : s.Ok Q) (t hh g : Nat) (hw : Q.mask &&& 0x1000000000000000000000000000000000000000000000000000000000000000000000000000000000000000000000000000000000001000000000000000000000000000000000000000000000001000000000000000000000000000000000000000000000000000000000000000004000000000000000000000000000000000000000 = 0) : (s.rangeFault t hh g).Ok Q := by
  unfold State.rangeFault
  repeat' first
    | with_reducible assumption
    | with_reducible exact Kit.bit hw (by decide +kernel)
    | with_reducible exact Kit.sub hw (by decide +kernel)
    | with_reducible apply State.setTbit_ok
    | with_reducible apply State.contract_ok
    | with_reducible rfl
    | with_reducible refine ok_ite (fun _ => ?_) (fun _ => ?_)
    | (intro s1; refine (fun (h1 : State.Ok Q s1) => ?_) ?_; rotate_left; subst s1; rotate_right)
    | (intro (f : _ → _); subst f; dsimp -zeta only)
    | (intro s1; fail_if_success (have : State := s1))
    | lift_lets
    | split
    | intro _

theorem State.sigItem_ok (h : s.Ok Q) (t hh v a : Nat) (hw : Q.mask &&& 0x800000000000000000000000000000000000000000000000000000000000000000000000000000000000000000000000000000000000000000000000000000000000000000000000000000000 = 0) : (s.sigItem t hh v a).Ok Q := by
  unfold State.sigItem
  repeat' first
    | with_reducible assumption
    | with_reducible exact Kit.bit hw (by decide +kernel)
    | with_reducible exact Kit.sub hw (by decide +kernel)
    | with_reducible apply State.setLat_ok
    | with_reducible rfl
    | with_reducible refine ok_ite (fun _ => ?_) (fun _ => ?_)
    | (intro s1; refine (fun (h1 : State.Ok Q s1) => ?_) ?_; rotate_left; subst s1; rotate_right)
    | (intro (f : _ → _); subst f; dsimp -zeta only)
    | (intro s1; fail_if_success (have : State := s1))
    | lift_lets
    | split
    | intro _

theorem State.dmStore_ok (h : s.Ok Q) (t hh a v : Nat) (hw : Q.mask &&& 0x800000000000000000000000000000000000000000000000000000000000000000000000000000000000000000000000000000000800000000000000000000000000000000000000000000000000000000000000000000000000000000000000000000000000000000000000000000000000000000000000000000000000000000 = 0) : (s.dmStore t hh a v).Ok Q := by
  unfold State.dmStore
  repeat' first
    | with_reducible assumption
    | with_reducible exact Kit.bit hw (by decide +kernel)
    | with_reducible exact Kit.sub hw (by decide +kernel)
    | with_reducible apply State.setDm_ok
    | with_reducible apply State.sigItem_ok
    | with_reducible rfl
    | with_reducible refine ok_ite (fun _ => ?_) (fun _ => ?_)
    | (intro s1; refine (fun (h1 : State.Ok Q s1) => ?_) ?_; rotate_left; subst s1; rotate_right)
    | (intro (f : _ → _); subst f; dsimp -zeta only)
    | (intro s1; fail_if_success (have : State := s1))
    | lift_lets
    | split
    | intro _

theorem State.lsu_ok (h : s.Ok Q) (r : State) (t hh g f : Nat) (hw : Q.mask &&& 0x801000800000000000000000000000000000000000000000000000000000000000000000000000000000000000000000000000000000001800000000000000000000000000000000000000000000001000000000000000000000000000000000000000000000000000000000000000004000000000000000000000000000000000000000 = 0) : (s.lsu r t hh g f).Ok Q := by
  unfold State.lsu
  repeat' first
    | with_reducible assumption
    | with_reducible exact Kit.bit hw (by decide +kernel)
    | with_reducible exact Kit.sub hw (by decide +kernel)
    | with_reducible apply State.resultG_ok
    | with_reducible apply State.rangeFault_ok
    | with_reducible apply State.dmStore_ok
    | with_reducible apply State.resultPair_ok
    | with_reducible rfl
    | with_reducible refine ok_ite (fun _ => ?_) (fun _ => ?_)
    | (intro s1; refine (fun (h1 : State.Ok Q s1) => ?_) ?_; rotate_left; subst s1; rotate_right)
    | (intro (f : _ → _); subst f; dsimp -zeta only)
    | (intro s1; fail_if_success (have : State := s1))
    | lift_lets
    | split
    | intro _


theorem State.substitute_ok (h : s.Ok Q) (t c g : Nat) (hw : Q.mask &&& 0x1000000000000000000000000000000000000000000000000000000000000000000000000000000000000000000000000000000000001000400000000000000000000000000000000000000000001000000000000000000000000000000000000000000000000000000000000000104000000000000000010000000000000000000000 = 0) : (s.substitute t c g).Ok Q := by
  unfold State.substitute
  repeat' first
    | with_reducible assumption
    | with_reducible exact Kit.bit hw (by decide +kernel)
    | with_reducible exact Kit.sub hw (by decide +kernel)
    | with_reducible apply State.setLat_ok
    | with_reducible apply State.setTbit_ok
    | with_reducible apply State.satAdd_ok
    | with_reducible apply State.contractLate_ok
    | with_reducible rfl
    | with_reducible refine ok_ite (fun _ => ?_) (fun _ => ?_)
    | (intro s1; refine (fun (h1 : State.Ok Q s1) => ?_) ?_; rotate_left; subst s1; rotate_right)
    | (intro (f : _ → _); subst f; dsimp -zeta only)
    | (intro s1; fail_if_success (have : State := s1))
    | lift_lets
    | split
    | intro _

theorem State.recCheck_ok (h : s.Ok Q) (t c g : Nat) (hw : Q.mask &&& 0x1000000000000000000000000000000000000000000000000000000000000000000000000000000000000000000000000000000000001000400000000000000000000000000000000000000000001000000000000000000000000000000000000000000000000000000000000000104000000000000000010000000000000000000000 = 0) : (s.recCheck t c g).Ok Q := by
  unfold State.recCheck
  repeat' first
    | with_reducible assumption
    | with_reducible exact Kit.bit hw (by decide +kernel)
    | with_reducible exact Kit.sub hw (by decide +kernel)
    | with_reducible apply State.setLat_ok
    | with_reducible apply State.substitute_ok
    | with_reducible rfl
    | with_reducible refine ok_ite (fun _ => ?_) (fun _ => ?_)
    | (intro s1; refine (fun (h1 : State.Ok Q s1) => ?_) ?_; rotate_left; subst s1; rotate_right)
    | (intro (f : _ → _); subst f; dsimp -zeta only)
    | (intro s1; fail_if_success (have : State := s1))
    | lift_lets
    | split
    | intro _

theorem State.tblCheck_ok (h : s.Ok Q) (t c g : Nat) (hw : Q.mask &&& 0x400000000000000000000000000000000000000000000000000000000000000000000000000000000000000000000000000000000000000000000000000000000000000000000000000000 = 0) : (s.tblCheck t c g).Ok Q := by
  unfold State.tblCheck
  repeat' first
    | with_reducible assumption
    | with_reducible exact Kit.bit hw (by decide +kernel)
    | with_reducible exact Kit.sub hw (by decide +kernel)
    | with_reducible apply State.setLat_ok
    | with_reducible rfl
    | with_reducible refine ok_ite (fun _ => ?_) (fun _ => ?_)
    | (intro s1; refine (fun (h1 : State.Ok Q s1) => ?_) ?_; rotate_left; subst s1; rotate_right)
    | (intro (f : _ → _); subst f; dsimp -zeta only)
    | (intro s1; fail_if_success (have : State := s1))
    | lift_lets
    | split
    | intro _

theorem State.tableWrite_ok (h : s.Ok Q) (t c : Nat) (v : Int) (hw : Q.mask &&& 0x20000000000000000000000000000000000000000000000000000000000000000000000000000000000000000000000000000000000000000000000000000000000000000000000000000000000000000000000000000000000000000000000000000000000000000000000000000000000000000000000000000000000000000000000 = 0) : (s.tableWrite t c v).Ok Q := by
  unfold State.tableWrite
  repeat' first
    | with_reducible assumption
    | with_reducible exact Kit.bit hw (by decide +kernel)
    | with_reducible exact Kit.sub hw (by decide +kernel)
    | with_reducible rfl
    | with_reducible refine ok_ite (fun _ => ?_) (fun _ => ?_)
    | (intro s1; refine (fun (h1 : State.Ok Q s1) => ?_) ?_; rotate_left; subst s1; rotate_right)
    | (intro (f : _ → _); subst f; dsimp -zeta only)
    | (intro s1; fail_if_success (have : State := s1))
    | lift_lets
    | split
    | intro _
    | with_reducible apply ok_blocks

theorem State.iou_ok (h : s.Ok Q) (r : State) (t hh g f : Nat) (hw : Q.mask &&& 0x820000000000000000000000000000000000000000000000000000000000000000000040000000000000000000000000000000000000000841800000000000000000000000000000000000000000000000000000000000000000000000000000000000000000000000000000000000000000000000000000600000000000000000000000 = 0) : (s.iou r t hh g f).Ok Q := by
  unfold State.iou
  repeat' first
    | with_reducible assumption
    | with_reducible exact Kit.bit hw (by decide +kernel)
    | with_reducible exact Kit.sub hw (by decide +kernel)
    | with_reducible apply State.setLat_ok
    | with_reducible apply State.resultG_ok
    | with_reducible apply State.setFlag_ok
    | with_reducible apply State.sigItem_ok
    | with_reducible apply State.tableWrite_ok
    | with_reducible apply State.satAdd_ok
    | with_reducible apply State.setMapBit_ok
    | with_reducible rfl
    | with_reducible refine ok_ite (fun _ => ?_) (fun _ => ?_)
    | (intro s1; refine (fun (h1 : State.Ok Q s1) => ?_) ?_; rotate_left; subst s1; rotate_right)
    | (intro (f : _ → _); subst f; dsimp -zeta only)
    | (intro s1; fail_if_success (have : State := s1))
    | lift_lets
    | split
    | intro _


theorem State.machineCheck_ok (h : s.Ok Q) (t hh cause par ix : Nat) (hw : Q.mask &&& 0x801000000000000000000000000000000000000000000000000000000000000000000000000000000000000000000000000000000080000000000000000000000000000000000000000000000000001000080010800000000000000000000000000000000000000000000000000000206000000000000000000000000000000000000000 = 0) : (s.machineCheck t hh cause par ix).Ok Q := by
  unfold State.machineCheck
  repeat' first
    | with_reducible assumption
    | with_reducible exact Kit.bit hw (by decide +kernel)
    | with_reducible exact Kit.sub hw (by decide +kernel)
    | with_reducible apply State.setTbit_ok
    | with_reducible apply State.setTreg_ok
    | with_reducible apply State.dropPipe_ok
    | with_reducible apply State.sendEngine_ok
    | with_reducible apply State.setHalf_ok
    | with_reducible apply State.send_ok
    | with_reducible apply State.setFlag_ok
    | with_reducible rfl
    | with_reducible refine ok_ite (fun _ => ?_) (fun _ => ?_)
    | (intro s1; refine (fun (h1 : State.Ok Q s1) => ?_) ?_; rotate_left; subst s1; rotate_right)
    | (intro (f : _ → _); subst f; dsimp -zeta only)
    | (intro s1; fail_if_success (have : State := s1))
    | lift_lets
    | split
    | intro _

theorem State.executeWord_ok (h : s.Ok Q) (t hh g word : Nat) (hw : Q.mask &&& 0x821000800000000000000000000000000000000000000000000000000000000000000040000000000000000000000000000000000000001841800000000000000000000000000000000000000000001000000000000000000000000000000000000000000000000000000000000000004000000000000000600000000000000000000000 = 0) : (s.executeWord t hh g word).Ok Q := by
  have out : ∀ (r s n : State), s.Ok Q → State.Ok Q { s with pipe := s.pipe ++ n.pipe.drop r.pipe.length } :=
    fun _ _ _ h => ok_pipe h (Kit.bit hw (by decide +kernel))
  have run : ∀ (c : Bool) (s : State) (op : State → State), (∀ s, s.Ok Q → (op s).Ok Q) → s.Ok Q →
      State.Ok Q (if c then op s else s) := fun c _ _ ho h => by
    cases c
    · exact h
    · exact ho _ h
  unfold State.executeWord
  refine run _ _ _ (fun _ h => out _ _ _ h) ?_
  refine run _ _ _ (fun _ h => out _ _ _ h) ?_
  refine run _ _ _ (fun _ h => out _ _ _ h) ?_
  refine run _ _ _ (fun _ h => out _ _ _ h) ?_
  refine run _ _ _ (fun _ h => out _ _ _ h) ?_
  refine run _ _ _ (fun _ h => State.iou_ok h _ _ _ _ _ (Kit.sub hw (by decide +kernel))) ?_
  exact run _ _ _ (fun _ h => State.lsu_ok h _ _ _ _ _ (Kit.sub hw (by decide +kernel))) h

theorem State.fetch_ok (h : s.Ok Q) (t hh g ix perr : Nat) (hw : Q.mask &&& 0x801000000000000000000000000000000000000000000000000000000000000000000000000000000000000000000000000000000080000000000000000000000000000000000000000000000000001000080010800000000000000000000000000000000000000000000000000000206000000000000000000000000000000000000000 = 0) : (s.fetch t hh g ix perr).2.Ok Q := by
  unfold State.fetch
  repeat' first
    | with_reducible assumption
    | with_reducible exact Kit.bit hw (by decide +kernel)
    | with_reducible exact Kit.sub hw (by decide +kernel)
    | with_reducible apply State.machineCheck_ok
    | with_reducible rfl
    | with_reducible refine ok_ite (fun _ => ?_) (fun _ => ?_)
    | with_reducible refine ok_ite_snd (fun _ => ?_) (fun _ => ?_)
    | (intro s1; refine (fun (h1 : State.Ok Q s1) => ?_) ?_; rotate_left; subst s1; rotate_right)
    | (intro (f : _ → _); subst f; dsimp -zeta only)
    | (intro s1; fail_if_success (have : State := s1))
    | lift_lets
    | (split <;> first | (rename_i e; with_reducible refine (fun (h1 : State.Ok Q _) => ?_) (ok_snd e ?_)) | (rename_i e; with_reducible refine (fun (h1 : State.Ok Q _) => ?_) (ok_thd e ?_)) | (rename_i e; with_reducible refine (fun (h1 : State.Ok Q _) => ?_) (ok_mid e ?_)) | (rename_i e; with_reducible refine (fun (h1 : State.Ok Q _) => ?_) (ok_some e ?_)) | (rename_i e _; with_reducible refine (fun (h1 : State.Ok Q _) => ?_) (ok_snd e ?_)) | (rename_i e _; with_reducible refine (fun (h1 : State.Ok Q _) => ?_) (ok_thd e ?_)) | (rename_i e _; with_reducible refine (fun (h1 : State.Ok Q _) => ?_) (ok_mid e ?_)) | (rename_i e _; with_reducible refine (fun (h1 : State.Ok Q _) => ?_) (ok_some e ?_)) | skip)
    | intro _

theorem State.dmScratch_ok (h : s.Ok Q) (t hh : Nat) (hw : Q.mask &&& 0x800000000000000000000000000000000000000000000000000000000000000000000000000000000000004000000000000000000000000000000000000000000000000000000000000000000000000000000000000000000000000000000000000000000000000000000000000000000000000000000000000000000000000000000 = 0) : (s.dmScratch t hh).Ok Q := by
  unfold State.dmScratch
  repeat' first
    | with_reducible assumption
    | with_reducible exact Kit.bit hw (by decide +kernel)
    | with_reducible exact Kit.sub hw (by decide +kernel)
    | with_reducible apply State.setLat_ok
    | with_reducible rfl
    | with_reducible refine ok_ite (fun _ => ?_) (fun _ => ?_)
    | (intro s1; refine (fun (h1 : State.Ok Q s1) => ?_) ?_; rotate_left; subst s1; rotate_right)
    | (intro (f : _ → _); subst f; dsimp -zeta only)
    | (intro s1; fail_if_success (have : State := s1))
    | lift_lets
    | split
    | intro _
    | with_reducible apply ok_freeCtr

theorem State.entryGains_ok (h : s.Ok Q) (t hh : Nat) (hw : Q.mask &&& 0x1800000000000000000000800000000000000000000000000000000000000000000000000000000000000000000000000000000000000000000000000000000000000000000000000000000000000000000000000000000 = 0) : (s.entryGains t hh).Ok Q := by
  unfold State.entryGains
  repeat' first
    | with_reducible assumption
    | with_reducible exact Kit.bit hw (by decide +kernel)
    | with_reducible exact Kit.sub hw (by decide +kernel)
    | with_reducible apply State.setLat_ok
    | with_reducible apply State.sigItem_ok
    | with_reducible apply State.setFlag_ok
    | with_reducible apply forUpto_ok
    | with_reducible rfl
    | (intro i1 s1 (h1 : State.Ok Q s1))
    | (intro s1 i1 (h1 : State.Ok Q s1))
    | with_reducible refine ok_ite (fun _ => ?_) (fun _ => ?_)
    | (intro s1; refine (fun (h1 : State.Ok Q s1) => ?_) ?_; rotate_left; subst s1; rotate_right)
    | (intro (f : _ → _); subst f; dsimp -zeta only)
    | (intro s1; fail_if_success (have : State := s1))
    | lift_lets
    | split
    | intro _

theorem State.sequence_ok (h : s.Ok Q) (t hh g : Nat) (hw : Q.mask &&& 0x800000000000000000000000000000000000000000000000000000000000000000000000000000000000004000000000000000000002000000000000000000000000000000000000000000000000000000008000000000000000000000000000000000000000000000000000000000000000000000000000000000000000000000000 = 0) : (s.sequence t hh g).Ok Q := by
  unfold State.sequence
  repeat' first
    | with_reducible assumption
    | with_reducible exact Kit.bit hw (by decide +kernel)
    | with_reducible exact Kit.sub hw (by decide +kernel)
    | with_reducible apply State.dmScratch_ok
    | with_reducible apply State.setLat_ok
    | with_reducible apply State.setTreg_ok
    | with_reducible rfl
    | with_reducible refine ok_ite (fun _ => ?_) (fun _ => ?_)
    | (intro s1; refine (fun (h1 : State.Ok Q s1) => ?_) ?_; rotate_left; subst s1; rotate_right)
    | (intro (f : _ → _); subst f; dsimp -zeta only)
    | (intro s1; fail_if_success (have : State := s1))
    | lift_lets
    | split
    | intro _

theorem State.entryGrain_ok (h : s.Ok Q) (t hh g ix perr : Nat) (hw : Q.mask &&& 0x801800000000000000000000000000000000000000000000000000000000000000000000000000000000000005800000000000000080000800000000000000000000000000000000000000000000001000080010800000000000000000000000000000000000000000000000000000206000000000000000000000000000000000000000 = 0) : (s.entryGrain t hh g ix perr).Ok Q := by
  unfold State.entryGrain
  repeat' first
    | with_reducible assumption
    | with_reducible exact Kit.bit hw (by decide +kernel)
    | with_reducible exact Kit.sub hw (by decide +kernel)
    | with_reducible apply State.fetch_ok
    | with_reducible apply State.entryGains_ok
    | with_reducible apply State.dmScratch_ok
    | with_reducible rfl
    | with_reducible refine ok_ite (fun _ => ?_) (fun _ => ?_)
    | (intro s1; refine (fun (h1 : State.Ok Q s1) => ?_) ?_; rotate_left; subst s1; rotate_right)
    | (intro (f : _ → _); subst f; dsimp -zeta only)
    | (intro s1; fail_if_success (have : State := s1))
    | lift_lets
    | (split <;> first | (rename_i e; with_reducible refine (fun (h1 : State.Ok Q _) => ?_) (ok_snd e ?_)) | (rename_i e; with_reducible refine (fun (h1 : State.Ok Q _) => ?_) (ok_thd e ?_)) | (rename_i e; with_reducible refine (fun (h1 : State.Ok Q _) => ?_) (ok_mid e ?_)) | (rename_i e; with_reducible refine (fun (h1 : State.Ok Q _) => ?_) (ok_some e ?_)) | (rename_i e _; with_reducible refine (fun (h1 : State.Ok Q _) => ?_) (ok_snd e ?_)) | (rename_i e _; with_reducible refine (fun (h1 : State.Ok Q _) => ?_) (ok_thd e ?_)) | (rename_i e _; with_reducible refine (fun (h1 : State.Ok Q _) => ?_) (ok_mid e ?_)) | (rename_i e _; with_reducible refine (fun (h1 : State.Ok Q _) => ?_) (ok_some e ?_)) | skip)
    | intro _

theorem State.halfGrain_ok (h : s.Ok Q) (t hh g ix perr : Nat) (hw : Q.mask &&& 0x821800800000000000000000000000000000000000000000000000000000000000000040000000000000000005800000000000000080003879800000000000000000000000000000000000000000001000080018800000000000000000000000000000000000000000000000000000206000000000000000600000000000000000000000 = 0) : (s.halfGrain t hh g ix perr).Ok Q := by
  unfold State.halfGrain
  repeat' first
    | with_reducible assumption
    | with_reducible exact Kit.bit hw (by decide +kernel)
    | with_reducible exact Kit.sub hw (by decide +kernel)
    | with_reducible apply State.landUpto_ok
    | with_reducible apply State.setLat_ok
    | with_reducible apply State.entryGrain_ok
    | with_reducible apply State.fetch_ok
    | with_reducible apply State.executeWord_ok
    | with_reducible apply State.endPipe_ok
    | with_reducible apply State.sequence_ok
    | with_reducible rfl
    | with_reducible refine ok_ite (fun _ => ?_) (fun _ => ?_)
    | (intro s1; refine (fun (h1 : State.Ok Q s1) => ?_) ?_; rotate_left; subst s1; rotate_right)
    | (intro (f : _ → _); subst f; dsimp -zeta only)
    | (intro s1; fail_if_success (have : State := s1))
    | lift_lets
    | (split <;> first | (rename_i e; with_reducible refine (fun (h1 : State.Ok Q _) => ?_) (ok_snd e ?_)) | (rename_i e; with_reducible refine (fun (h1 : State.Ok Q _) => ?_) (ok_thd e ?_)) | (rename_i e; with_reducible refine (fun (h1 : State.Ok Q _) => ?_) (ok_mid e ?_)) | (rename_i e; with_reducible refine (fun (h1 : State.Ok Q _) => ?_) (ok_some e ?_)) | (rename_i e _; with_reducible refine (fun (h1 : State.Ok Q _) => ?_) (ok_snd e ?_)) | (rename_i e _; with_reducible refine (fun (h1 : State.Ok Q _) => ?_) (ok_thd e ?_)) | (rename_i e _; with_reducible refine (fun (h1 : State.Ok Q _) => ?_) (ok_mid e ?_)) | (rename_i e _; with_reducible refine (fun (h1 : State.Ok Q _) => ?_) (ok_some e ?_)) | skip)
    | intro _

end Sys2Proof.Machine
end

