-- ==== Sys2Proof/Laws/KeepRed.lean ====
section
/-! SUPPORT. The operations of Machine/Red.lean keep soundness and the queue. -/
set_option Elab.async false
namespace Sys2Proof.Machine

variable {Q : Kit} {s : State}

theorem State.setCalStage_ok (h : s.Ok Q) (t v : Nat) (hw : Q.mask &&& 0x20000000000000000000000000000000000000000000000000000000000000000000000000000000000000000 = 0) : (s.setCalStage t v).Ok Q := by
  unfold State.setCalStage
  repeat' first
    | with_reducible assumption
    | with_reducible exact Kit.bit hw (by decide +kernel)
    | with_reducible exact Kit.sub hw (by decide +kernel)
    | with_reducible apply State.setTfld_ok
    | with_reducible rfl
    | with_reducible refine ok_ite (fun _ => ?_) (fun _ => ?_)
    | (intro s1; refine (fun (h1 : State.Ok Q s1) => ?_) ?_; rotate_left; subst s1; rotate_right)
    | (intro (f : _ → _); subst f; dsimp -zeta only)
    | (intro s1; fail_if_success (have : State := s1))
    | lift_lets
    | split
    | intro _

theorem State.calDiscard_ok (h : s.Ok Q) (t : Nat) (hw : Q.mask &&& 0x80000000000000000000000000000000000000000000000000000000000000000000000000000000400000000 = 0) : (s.calDiscard t).Ok Q := by
  unfold State.calDiscard
  repeat' first
    | with_reducible assumption
    | with_reducible exact Kit.bit hw (by decide +kernel)
    | with_reducible exact Kit.sub hw (by decide +kernel)
    | with_reducible apply State.setTreg_ok
    | with_reducible apply forUpto_ok
    | with_reducible rfl
    | (intro i1 s1 (h1 : State.Ok Q s1))
    | (intro s1 i1 (h1 : State.Ok Q s1))
    | with_reducible refine ok_ite (fun _ => ?_) (fun _ => ?_)
    | (intro s1; refine (fun (h1 : State.Ok Q s1) => ?_) ?_; rotate_left; subst s1; rotate_right)
    | (intro (f : _ → _); subst f; dsimp -zeta only)
    | (intro s1; fail_if_success (have : State := s1))
    | lift_lets
    | split
    | intro _

theorem State.calEntryOff_ok (h : s.Ok Q) (t : Nat) (hw : Q.mask &&& 0x400000000000000000000000000000000000000000000000000000000000000000000000000000000000000000000000000000000000000000000000000000000000002000000000000000000000000000000000000000 = 0) : (s.calEntryOff t).Ok Q := by
  unfold State.calEntryOff
  repeat' first
    | with_reducible assumption
    | with_reducible exact Kit.bit hw (by decide +kernel)
    | with_reducible exact Kit.sub hw (by decide +kernel)
    | with_reducible apply State.setLat_ok
    | with_reducible apply State.setTbit_ok
    | with_reducible rfl
    | with_reducible refine ok_ite (fun _ => ?_) (fun _ => ?_)
    | (intro s1; refine (fun (h1 : State.Ok Q s1) => ?_) ?_; rotate_left; subst s1; rotate_right)
    | (intro (f : _ → _); subst f; dsimp -zeta only)
    | (intro s1; fail_if_success (have : State := s1))
    | lift_lets
    | split
    | intro _

theorem State.calSkip_ok (h : s.Ok Q) (t : Nat) (hw : Q.mask &&& 0x4000000000000000000000000000000000000000000000000000000000000000000000000000000000000b0000000000000000000000000000000000000000000000002000000000000000000000000000000400000000 = 0) : (s.calSkip t).Ok Q := by
  unfold State.calSkip
  repeat' first
    | with_reducible assumption
    | with_reducible exact Kit.bit hw (by decide +kernel)
    | with_reducible exact Kit.sub hw (by decide +kernel)
    | with_reducible apply State.setCalStage_ok
    | with_reducible apply State.calEntryOff_ok
    | with_reducible apply State.calDiscard_ok
    | with_reducible apply State.setMapBit_ok
    | with_reducible rfl
    | with_reducible refine ok_ite (fun _ => ?_) (fun _ => ?_)
    | (intro s1; refine (fun (h1 : State.Ok Q s1) => ?_) ?_; rotate_left; subst s1; rotate_right)
    | (intro (f : _ → _); subst f; dsimp -zeta only)
    | (intro s1; fail_if_success (have : State := s1))
    | lift_lets
    | split
    | intro _

theorem State.enterTileHold_ok (h : s.Ok Q) (t : Nat) (hw : Q.mask &&& 0x10400000000000000000000000000000000000000000000000000000000000000000000000000000000000000040000000000000000c0000000000000000000000700037000000000000000000000000000000000000000b0000000000000000000000000000000000000000000000002000003800000000000000000000880400000020 = 0) : (s.enterTileHold t).Ok Q := by
  unfold State.enterTileHold
  repeat' first
    | with_reducible assumption
    | with_reducible exact Kit.bit hw (by decide +kernel)
    | with_reducible exact Kit.sub hw (by decide +kernel)
    | with_reducible apply State.setMapBit_ok
    | with_reducible apply State.prfPauseTile_ok
    | with_reducible apply State.trimDiscard_ok
    | with_reducible apply State.trimPaused_ok
    | with_reducible apply State.calSkip_ok
    | with_reducible apply State.setLat_ok
    | with_reducible apply State.publish_ok
    | with_reducible rfl
    | with_reducible refine ok_ite (fun _ => ?_) (fun _ => ?_)
    | (intro s1; refine (fun (h1 : State.Ok Q s1) => ?_) ?_; rotate_left; subst s1; rotate_right)
    | (intro (f : _ → _); subst f; dsimp -zeta only)
    | (intro s1; fail_if_success (have : State := s1))
    | lift_lets
    | split
    | intro _

theorem State.setTileCause_ok (h : s.Ok Q) (t cause : Nat) (hw : Q.mask &&& 0x10400000000000000000000000000000000000000000000000000000000000000000000000000000000000000040000000000000000c0000000000000000000000700037000000000000000000000000000000040000000b0000000000000000000000000000000000000000000000002000003800000000000000000000880400000020 = 0) : (s.setTileCause t cause).Ok Q := by
  unfold State.setTileCause
  repeat' first
    | with_reducible assumption
    | with_reducible exact Kit.bit hw (by decide +kernel)
    | with_reducible exact Kit.sub hw (by decide +kernel)
    | with_reducible apply State.setTbit_ok
    | with_reducible apply State.enterTileHold_ok
    | with_reducible rfl
    | with_reducible refine ok_ite (fun _ => ?_) (fun _ => ?_)
    | (intro s1; refine (fun (h1 : State.Ok Q s1) => ?_) ?_; rotate_left; subst s1; rotate_right)
    | (intro (f : _ → _); subst f; dsimp -zeta only)
    | (intro s1; fail_if_success (have : State := s1))
    | lift_lets
    | split
    | intro _

theorem State.leaveTileHold_ok (h : s.Ok Q) (t : Nat) (hw : Q.mask &&& 0x40000000000000000000000000000000000000000000000000000000000000000000000000000000000000000000000000000000080000000000000000000000000c0000000000000000000000000000000000000000000000000000000000000000000000000000000000000000000000000000000000000000000000000000084020 = 0) : (s.leaveTileHold t).Ok Q := by
  unfold State.leaveTileHold
  repeat' first
    | with_reducible assumption
    | with_reducible exact Kit.bit hw (by decide +kernel)
    | with_reducible exact Kit.sub hw (by decide +kernel)
    | with_reducible apply State.setMapBit_ok
    | with_reducible apply State.setLat_ok
    | with_reducible apply State.composeLeft_ok
    | with_reducible apply State.publish_ok
    | with_reducible rfl
    | with_reducible refine ok_ite (fun _ => ?_) (fun _ => ?_)
    | (intro s1; refine (fun (h1 : State.Ok Q s1) => ?_) ?_; rotate_left; subst s1; rotate_right)
    | (intro (f : _ → _); subst f; dsimp -zeta only)
    | (intro s1; fail_if_success (have : State := s1))
    | lift_lets
    | split
    | intro _

theorem State.rejoinFail_ok (h : s.Ok Q) (t hh cause : Nat) (hw : Q.mask &&& 0x1000000000000000000000000000000000000000000000000000000000000000000000000000000000000000000000000000000000100000000000000000000000000000000000000000000000000000080010800000000000000000000000000000000000000000000000000000000000000000000000000000000000000000000000 = 0) : (s.rejoinFail t hh cause).Ok Q := by
  unfold State.rejoinFail
  repeat' first
    | with_reducible assumption
    | with_reducible exact Kit.bit hw (by decide +kernel)
    | with_reducible exact Kit.sub hw (by decide +kernel)
    | with_reducible apply State.setTreg_ok
    | with_reducible apply State.setHalf_ok
    | with_reducible apply State.setLat_ok
    | with_reducible apply State.send_ok
    | with_reducible rfl
    | with_reducible refine ok_ite (fun _ => ?_) (fun _ => ?_)
    | (intro s1; refine (fun (h1 : State.Ok Q s1) => ?_) ?_; rotate_left; subst s1; rotate_right)
    | (intro (f : _ → _); subst f; dsimp -zeta only)
    | (intro s1; fail_if_success (have : State := s1))
    | lift_lets
    | split
    | intro _

theorem State.moveToken_ok (h : s.Ok Q) (t hh : Nat) (hw : Q.mask &&& 0x80100800000000000000000000000000000000000000000000000000000000000000000000000000000000000000000000000 = 0) : (s.moveToken t hh).Ok Q := by
  unfold State.moveToken
  repeat' first
    | with_reducible assumption
    | with_reducible exact Kit.bit hw (by decide +kernel)
    | with_reducible exact Kit.sub hw (by decide +kernel)
    | with_reducible apply State.setTfld_ok
    | with_reducible apply State.setHalf_ok
    | with_reducible apply State.satAdd_ok
    | with_reducible rfl
    | with_reducible refine ok_ite (fun _ => ?_) (fun _ => ?_)
    | (intro s1; refine (fun (h1 : State.Ok Q s1) => ?_) ?_; rotate_left; subst s1; rotate_right)
    | (intro (f : _ → _); subst f; dsimp -zeta only)
    | (intro s1; fail_if_success (have : State := s1))
    | lift_lets
    | split
    | intro _

theorem State.copyDm_ok (h : s.Ok Q) (t hh : Nat) (hw : Q.mask &&& 0x800000000000000000000000000000000000000000000000000000000000000000000000000000000000000000000000000000000000000000000000000000000000000000000000000000000000000000000000000000000000000000000000000000000000000000000000000000000000000000000000000000000000000000 = 0) : (s.copyDm t hh).Ok Q := by
  unfold State.copyDm
  repeat' first
    | with_reducible assumption
    | with_reducible exact Kit.bit hw (by decide +kernel)
    | with_reducible exact Kit.sub hw (by decide +kernel)
    | with_reducible apply State.setDm_ok
    | with_reducible apply forUpto_ok
    | with_reducible rfl
    | (intro i1 s1 (h1 : State.Ok Q s1))
    | (intro s1 i1 (h1 : State.Ok Q s1))
    | with_reducible refine ok_ite (fun _ => ?_) (fun _ => ?_)
    | (intro s1; refine (fun (h1 : State.Ok Q s1) => ?_) ?_; rotate_left; subst s1; rotate_right)
    | (intro (f : _ → _); subst f; dsimp -zeta only)
    | (intro s1; fail_if_success (have : State := s1))
    | lift_lets
    | split
    | intro _

theorem State.copyRegs_ok (h : s.Ok Q) (t hh : Nat) (hw : Q.mask &&& 0x78000000000000000000000000000000000000000000000000000000000000000000000000000000000000000000000000000000000000000000000000000000000000000000000000000000 = 0) : (s.copyRegs t hh).Ok Q := by
  unfold State.copyRegs
  repeat' first
    | with_reducible assumption
    | with_reducible exact Kit.bit hw (by decide +kernel)
    | with_reducible exact Kit.sub hw (by decide +kernel)
    | with_reducible apply State.setLat_ok
    | with_reducible apply forUpto_ok
    | with_reducible rfl
    | (intro i1 s1 (h1 : State.Ok Q s1))
    | (intro s1 i1 (h1 : State.Ok Q s1))
    | with_reducible refine ok_ite (fun _ => ?_) (fun _ => ?_)
    | (intro s1; refine (fun (h1 : State.Ok Q s1) => ?_) ?_; rotate_left; subst s1; rotate_right)
    | (intro (f : _ → _); subst f; dsimp -zeta only)
    | (intro s1; fail_if_success (have : State := s1))
    | lift_lets
    | split
    | intro _

theorem State.zeroHalf_ok (h : s.Ok Q) (t hh : Nat) (hw : Q.mask &&& 0x800000800000000000000000000000000000000000000000000000000000000000000000000000000000000000000000000000000000000078000000000000000000000000000000000000000000000000000000000000000000000000000000000000000000000000000000000000000000000000000000000000000000000000000000 = 0) : (s.zeroHalf t hh).Ok Q := by
  unfold State.zeroHalf
  repeat' first
    | with_reducible assumption
    | with_reducible exact Kit.bit hw (by decide +kernel)
    | with_reducible exact Kit.sub hw (by decide +kernel)
    | with_reducible apply State.setDm_ok
    | with_reducible apply State.setLat_ok
    | with_reducible apply State.dropPipe_ok
    | with_reducible apply forUpto_ok
    | with_reducible rfl
    | (intro i1 s1 (h1 : State.Ok Q s1))
    | (intro s1 i1 (h1 : State.Ok Q s1))
    | with_reducible refine ok_ite (fun _ => ?_) (fun _ => ?_)
    | (intro s1; refine (fun (h1 : State.Ok Q s1) => ?_) ?_; rotate_left; subst s1; rotate_right)
    | (intro (f : _ → _); subst f; dsimp -zeta only)
    | (intro s1; fail_if_success (have : State := s1))
    | lift_lets
    | split
    | intro _

theorem State.setRejoin_ok (h : s.Ok Q) (t phase hh n : Nat) (hw : Q.mask &&& 0x10000000000000000000000000000000000000000000000000000000000000000000000000000000000000000000000000 = 0) : (s.setRejoin t phase hh n).Ok Q := by
  unfold State.setRejoin
  repeat' first
    | with_reducible assumption
    | with_reducible exact Kit.bit hw (by decide +kernel)
    | with_reducible exact Kit.sub hw (by decide +kernel)
    | with_reducible apply State.setTreg_ok
    | with_reducible rfl
    | with_reducible refine ok_ite (fun _ => ?_) (fun _ => ?_)
    | (intro s1; refine (fun (h1 : State.Ok Q s1) => ?_) ?_; rotate_left; subst s1; rotate_right)
    | (intro (f : _ → _); subst f; dsimp -zeta only)
    | (intro s1; fail_if_success (have : State := s1))
    | lift_lets
    | split
    | intro _

theorem State.beginCheck_ok (h : s.Ok Q) (t hh : Nat) (hw : Q.mask &&& 0x80010800000000000000000000000000000000000000000000000000000000000000000000000000000000000000000000000 = 0) : (s.beginCheck t hh).Ok Q := by
  unfold State.beginCheck
  repeat' first
    | with_reducible assumption
    | with_reducible exact Kit.bit hw (by decide +kernel)
    | with_reducible exact Kit.sub hw (by decide +kernel)
    | with_reducible apply State.setRejoin_ok
    | with_reducible apply State.setHalf_ok
    | with_reducible rfl
    | with_reducible refine ok_ite (fun _ => ?_) (fun _ => ?_)
    | (intro s1; refine (fun (h1 : State.Ok Q s1) => ?_) ?_; rotate_left; subst s1; rotate_right)
    | (intro (f : _ → _); subst f; dsimp -zeta only)
    | (intro s1; fail_if_success (have : State := s1))
    | lift_lets
    | split
    | intro _

theorem State.rejoinAdvance_ok (h : s.Ok Q) (t : Nat) (hw : Q.mask &&& 0x1000800000000000000000000000000000000000000000000000000000000000000000000000000000000000000000000000000000500078000000000000000000000000000000000000000000000000080010800000000000000000000000000000000000000000000000000000000000000000000000000000000000000000000000 = 0) : (s.rejoinAdvance t).Ok Q := by
  unfold State.rejoinAdvance
  repeat' first
    | with_reducible assumption
    | with_reducible exact Kit.bit hw (by decide +kernel)
    | with_reducible exact Kit.sub hw (by decide +kernel)
    | with_reducible apply State.setLat_ok
    | with_reducible apply State.beginCheck_ok
    | with_reducible apply State.setRejoin_ok
    | with_reducible apply State.setHalf_ok
    | with_reducible apply State.copyDm_ok
    | with_reducible apply State.rejoinFail_ok
    | with_reducible apply State.copyRegs_ok
    | with_reducible apply State.setTreg_ok
    | with_reducible rfl
    | with_reducible refine ok_ite (fun _ => ?_) (fun _ => ?_)
    | (intro s1; refine (fun (h1 : State.Ok Q s1) => ?_) ?_; rotate_left; subst s1; rotate_right)
    | (intro (f : _ → _); subst f; dsimp -zeta only)
    | (intro s1; fail_if_success (have : State := s1))
    | lift_lets
    | split
    | intro _

theorem State.autoRejoin_ok (h : s.Ok Q) (t hh : Nat) (hw : Q.mask &&& 0x300000000000000000000000000000000000000000000000000000080010800000000000000000000000000000000000000000000000000000000000000000000000000000000000000000000000 = 0) : (s.autoRejoin t hh).Ok Q := by
  unfold State.autoRejoin
  repeat' first
    | with_reducible assumption
    | with_reducible exact Kit.bit hw (by decide +kernel)
    | with_reducible exact Kit.sub hw (by decide +kernel)
    | with_reducible apply State.setLat_ok
    | with_reducible apply State.beginCheck_ok
    | with_reducible rfl
    | with_reducible refine ok_ite (fun _ => ?_) (fun _ => ?_)
    | (intro s1; refine (fun (h1 : State.Ok Q s1) => ?_) ?_; rotate_left; subst s1; rotate_right)
    | (intro (f : _ → _); subst f; dsimp -zeta only)
    | (intro s1; fail_if_success (have : State := s1))
    | lift_lets
    | split
    | intro _

theorem State.restartHalves_ok (h : s.Ok Q) (t sel : Nat) (hw : Q.mask &&& 0x800000800000000000000000000000000000000000000000000000000000000000000000000000000000000000000000000000000000400078000000000000000000000000000000000000000000000000080114800000000000000000000000000000000000000000000000000000000000000000000000000000000000000000000000 = 0) : (s.restartHalves t sel).Ok Q := by
  unfold State.restartHalves
  repeat' first
    | with_reducible assumption
    | with_reducible exact Kit.bit hw (by decide +kernel)
    | with_reducible exact Kit.sub hw (by decide +kernel)
    | with_reducible apply State.zeroHalf_ok
    | with_reducible apply State.setHalf_ok
    | with_reducible apply State.setTreg_ok
    | with_reducible apply State.setLat_ok
    | with_reducible apply State.satAdd_ok
    | with_reducible apply State.setTfld_ok
    | with_reducible apply State.setRejoin_ok
    | with_reducible apply State.setTbit_ok
    | with_reducible apply forUpto_ok
    | with_reducible rfl
    | (intro i1 s1 (h1 : State.Ok Q s1))
    | (intro s1 i1 (h1 : State.Ok Q s1))
    | with_reducible refine ok_ite (fun _ => ?_) (fun _ => ?_)
    | (intro s1; refine (fun (h1 : State.Ok Q s1) => ?_) ?_; rotate_left; subst s1; rotate_right)
    | (intro (f : _ → _); subst f; dsimp -zeta only)
    | (intro s1; fail_if_success (have : State := s1))
    | lift_lets
    | split
    | intro _

theorem State.disableHalf_ok (h : s.Ok Q) (t hh : Nat) (hw : Q.mask &&& 0x1000000000000000000000000000000000000000000000000000000000000000000000000000000000000000000000000000000001100000000000000000000000000000000000000000000000000000080110800000000000000000000000000000000000000000000000000000000000000000000000000000000000000000000000 = 0) : (s.disableHalf t hh).Ok Q := by
  unfold State.disableHalf
  repeat' first
    | with_reducible assumption
    | with_reducible exact Kit.bit hw (by decide +kernel)
    | with_reducible exact Kit.sub hw (by decide +kernel)
    | with_reducible apply State.setFlag_ok
    | with_reducible apply State.setLat_ok
    | with_reducible apply State.moveToken_ok
    | with_reducible apply State.setHalf_ok
    | with_reducible apply State.rejoinFail_ok
    | with_reducible rfl
    | with_reducible refine ok_ite (fun _ => ?_) (fun _ => ?_)
    | (intro s1; refine (fun (h1 : State.Ok Q s1) => ?_) ?_; rotate_left; subst s1; rotate_right)
    | (intro (f : _ → _); subst f; dsimp -zeta only)
    | (intro s1; fail_if_success (have : State := s1))
    | lift_lets
    | split
    | intro _

theorem State.applyDecision_ok (h : s.Ok Q) (t : Nat) (hw : Q.mask &&& 0x10400000000000000000000000000000000000000000000000000000000000000000000000000000000000000040000000000000000c1d00000000000000000000700037000000000000000000000000000801048000000b0000000000000000000000000000000000000000000000002000003800000000000000000000880400000020 = 0) : (s.applyDecision t).Ok Q := by
  unfold State.applyDecision
  repeat' first
    | with_reducible assumption
    | with_reducible exact Kit.bit hw (by decide +kernel)
    | with_reducible exact Kit.sub hw (by decide +kernel)
    | with_reducible apply State.setHalf_ok
    | with_reducible apply State.moveToken_ok
    | with_reducible apply State.setTileCause_ok
    | with_reducible apply State.setLat_ok
    | with_reducible apply forUpto_ok
    | with_reducible rfl
    | (intro i1 s1 (h1 : State.Ok Q s1))
    | (intro s1 i1 (h1 : State.Ok Q s1))
    | with_reducible refine ok_ite (fun _ => ?_) (fun _ => ?_)
    | (intro s1; refine (fun (h1 : State.Ok Q s1) => ?_) ?_; rotate_left; subst s1; rotate_right)
    | (intro (f : _ → _); subst f; dsimp -zeta only)
    | (intro s1; fail_if_success (have : State := s1))
    | lift_lets
    | split
    | intro _

theorem State.redBoundary_ok (h : s.Ok Q) (t : Nat) (hw : Q.mask &&& 0x90500080000000000000000000000000000000000000000000000000000000000000000000000000000000000040000000000000000f7d60780000000000000000700037000000000000000000000000000801148000000b0000000000000000000000000000000000000000000000002000003800000000000000000000880400000020 = 0) : (s.redBoundary t).Ok Q := by
  unfold State.redBoundary
  repeat' first
    | with_reducible assumption
    | with_reducible exact Kit.bit hw (by decide +kernel)
    | with_reducible exact Kit.sub hw (by decide +kernel)
    | with_reducible apply State.autoRejoin_ok
    | with_reducible apply State.applyDecision_ok
    | with_reducible apply State.disableHalf_ok
    | with_reducible apply State.rejoinAdvance_ok
    | with_reducible apply State.restartHalves_ok
    | with_reducible apply State.setLat_ok
    | with_reducible apply forUpto_ok
    | with_reducible rfl
    | (intro i1 s1 (h1 : State.Ok Q s1))
    | (intro s1 i1 (h1 : State.Ok Q s1))
    | with_reducible refine ok_ite (fun _ => ?_) (fun _ => ?_)
    | (intro s1; refine (fun (h1 : State.Ok Q s1) => ?_) ?_; rotate_left; subst s1; rotate_right)
    | (intro (f : _ → _); subst f; dsimp -zeta only)
    | (intro s1; fail_if_success (have : State := s1))
    | lift_lets
    | split
    | intro _

theorem State.judgePath_ok (h : s.Ok Q) (t hh path : Nat) (present : Bool) (hw : Q.mask &&& 0x1000000000000000000000000000000000000000000000000000000000000000000000000000000000000000000000000000000000008000000000000000000000000000000000000000000000000000100000800000000000000000000000000000000000000000000000000000000000000000000000000000000000000000000000 = 0) : (s.judgePath t hh path present).Ok Q := by
  unfold State.judgePath
  repeat' first
    | with_reducible assumption
    | with_reducible exact Kit.bit hw (by decide +kernel)
    | with_reducible exact Kit.sub hw (by decide +kernel)
    | with_reducible apply State.setTbit_ok
    | with_reducible apply State.setLat_ok
    | with_reducible apply State.send_ok
    | with_reducible apply State.setMapBit_ok
    | with_reducible rfl
    | with_reducible refine ok_ite (fun _ => ?_) (fun _ => ?_)
    | (intro s1; refine (fun (h1 : State.Ok Q s1) => ?_) ?_; rotate_left; subst s1; rotate_right)
    | (intro (f : _ → _); subst f; dsimp -zeta only)
    | (intro s1; fail_if_success (have : State := s1))
    | lift_lets
    | split
    | intro _

theorem State.pathRun_ok (h : s.Ok Q) (t hh path : Nat) (present : Bool) (hw : Q.mask &&& 0x1000000000000000000000000000000000000000000000000000000000000000000000000000000000000000000000000000000000008000000000000000000000000000000000000000000000000000100000800000000000000000000000000000000000000000000000000000000000000000000000000000000000000000000000 = 0) : (s.pathRun t hh path present).Ok Q := by
  unfold State.pathRun
  repeat' first
    | with_reducible assumption
    | with_reducible exact Kit.bit hw (by decide +kernel)
    | with_reducible exact Kit.sub hw (by decide +kernel)
    | with_reducible apply State.judgePath_ok
    | with_reducible apply State.setLat_ok
    | with_reducible rfl
    | with_reducible refine ok_ite (fun _ => ?_) (fun _ => ?_)
    | (intro s1; refine (fun (h1 : State.Ok Q s1) => ?_) ?_; rotate_left; subst s1; rotate_right)
    | (intro (f : _ → _); subst f; dsimp -zeta only)
    | (intro s1; fail_if_success (have : State := s1))
    | lift_lets
    | split
    | intro _

theorem State.judged_ok (h : s.Ok Q) (t hh : Nat) (j : Judged) (ilk mgt : Bool) (hw : Q.mask &&& 0x1000000000000000000000000000000000000000000000000000000000000000000000000000000000000000000000000000000000008000000000000000000000000000000000000000000000000000100000800000000000000000000000000000000000000000000000000000000000000000000000000000000000000000000000 = 0) : (s.judged t hh j ilk mgt).Ok Q := by
  unfold State.judged
  repeat' first
    | with_reducible assumption
    | with_reducible exact Kit.bit hw (by decide +kernel)
    | with_reducible exact Kit.sub hw (by decide +kernel)
    | with_reducible apply State.judgePath_ok
    | with_reducible apply State.pathRun_ok
    | with_reducible apply State.send_ok
    | with_reducible rfl
    | with_reducible refine ok_ite (fun _ => ?_) (fun _ => ?_)
    | (intro s1; refine (fun (h1 : State.Ok Q s1) => ?_) ?_; rotate_left; subst s1; rotate_right)
    | (intro (f : _ → _); subst f; dsimp -zeta only)
    | (intro s1; fail_if_success (have : State := s1))
    | lift_lets
    | split
    | intro _

theorem State.decideState_ok (h : s.Ok Q) (t hh v : Nat) (hw : Q.mask &&& 0x40000000000000000000000000000000000000000000000000000000000000000000000000000000000000000000000000000000000000000000000000000000000000000000000000000000000 = 0) : (s.decideState t hh v).Ok Q := by
  unfold State.decideState
  repeat' first
    | with_reducible assumption
    | with_reducible exact Kit.bit hw (by decide +kernel)
    | with_reducible exact Kit.sub hw (by decide +kernel)
    | with_reducible apply State.setLat_ok
    | with_reducible rfl
    | with_reducible refine ok_ite (fun _ => ?_) (fun _ => ?_)
    | (intro s1; refine (fun (h1 : State.Ok Q s1) => ?_) ?_; rotate_left; subst s1; rotate_right)
    | (intro (f : _ → _); subst f; dsimp -zeta only)
    | (intro s1; fail_if_success (have : State := s1))
    | lift_lets
    | split
    | intro _

theorem State.decideOut_ok (h : s.Ok Q) (t hh : Nat) (hw : Q.mask &&& 0x140000000000000000000000000000000000000000000000000000000000000000000000000000000000000000000000000000000000000000000000000000000000000000000000000000000000 = 0) : (s.decideOut t hh).Ok Q := by
  unfold State.decideOut
  repeat' first
    | with_reducible assumption
    | with_reducible exact Kit.bit hw (by decide +kernel)
    | with_reducible exact Kit.sub hw (by decide +kernel)
    | with_reducible apply State.decideState_ok
    | with_reducible apply State.setLat_ok
    | with_reducible rfl
    | with_reducible refine ok_ite (fun _ => ?_) (fun _ => ?_)
    | (intro s1; refine (fun (h1 : State.Ok Q s1) => ?_) ?_; rotate_left; subst s1; rotate_right)
    | (intro (f : _ → _); subst f; dsimp -zeta only)
    | (intro s1; fail_if_success (have : State := s1))
    | lift_lets
    | split
    | intro _

theorem State.holderGone_ok (h : s.Ok Q) (t hh : Nat) (j : Judged) (hw : Q.mask &&& 0x140000000000000000000000000000000000000000000000000000000000000000000000000000000000000000000000000000000000000000000000000000000000000000000000000000000000 = 0) : (s.holderGone t hh j).Ok Q := by
  unfold State.holderGone
  repeat' first
    | with_reducible assumption
    | with_reducible exact Kit.bit hw (by decide +kernel)
    | with_reducible exact Kit.sub hw (by decide +kernel)
    | with_reducible apply State.decideOut_ok
    | with_reducible rfl
    | with_reducible refine ok_ite (fun _ => ?_) (fun _ => ?_)
    | (intro s1; refine (fun (h1 : State.Ok Q s1) => ?_) ?_; rotate_left; subst s1; rotate_right)
    | (intro (f : _ → _); subst f; dsimp -zeta only)
    | (intro s1; fail_if_success (have : State := s1))
    | lift_lets
    | split
    | intro _

theorem State.decideCompare_ok (h : s.Ok Q) (t hold oth : Nat) (same : Option Bool) (hw : Q.mask &&& 0x1000000000000000000000000000000000000000000000000000000000000000000000000000000000000000000000000000000000170000000000000000000000000000000000000000000000000000000092000000000000000000000000000000000000000000000000000000000000000000000000000000000000000000000000 = 0) : (s.decideCompare t hold oth same).Ok Q := by
  unfold State.decideCompare
  repeat' first
    | with_reducible assumption
    | with_reducible exact Kit.bit hw (by decide +kernel)
    | with_reducible exact Kit.sub hw (by decide +kernel)
    | with_reducible apply State.setFlag_ok
    | with_reducible apply State.decideState_ok
    | with_reducible apply State.setTbit_ok
    | with_reducible apply State.satAdd_ok
    | with_reducible apply State.decideOut_ok
    | with_reducible apply State.send_ok
    | with_reducible apply State.setTreg_ok
    | with_reducible rfl
    | with_reducible refine ok_ite (fun _ => ?_) (fun _ => ?_)
    | (intro s1; refine (fun (h1 : State.Ok Q s1) => ?_) ?_; rotate_left; subst s1; rotate_right)
    | (intro (f : _ → _); subst f; dsimp -zeta only)
    | (intro s1; fail_if_success (have : State := s1))
    | lift_lets
    | split
    | intro _

theorem State.decideFailed_ok (h : s.Ok Q) (t hold oth os : Nat) (jh : Judged) (hw : Q.mask &&& 0x10000000000000000000000000000000000000000000000000000000000000000000000000000000000000000000000000000000001f0000000000000000000000000000000000000000000000000000000010000000000000000000000000000000000000000000000000000000000000000000000000000000000000000000000000 = 0) : (s.decideFailed t hold oth os jh).Ok Q := by
  unfold State.decideFailed
  repeat' first
    | with_reducible assumption
    | with_reducible exact Kit.bit hw (by decide +kernel)
    | with_reducible exact Kit.sub hw (by decide +kernel)
    | with_reducible apply State.holderGone_ok
    | with_reducible apply State.setTreg_ok
    | with_reducible apply State.setFlag_ok
    | with_reducible apply State.send_ok
    | with_reducible apply State.decideState_ok
    | with_reducible rfl
    | with_reducible refine ok_ite (fun _ => ?_) (fun _ => ?_)
    | (intro s1; refine (fun (h1 : State.Ok Q s1) => ?_) ?_; rotate_left; subst s1; rotate_right)
    | (intro (f : _ → _); subst f; dsimp -zeta only)
    | (intro s1; fail_if_success (have : State := s1))
    | lift_lets
    | split
    | intro _

theorem State.tokenDecision_ok (h : s.Ok Q) (t : Nat) (ilk0 ilk1 verdict : Bool) (hw : Q.mask &&& 0x10000000000000000000000000000000000000000000000000000000000000000000000000000000000000000000000000000000809f8000000000000000000000000000000000000000000000000000100092800000000000000000000000000000000000000000000000000000000000000000000000000000000000000000000000 = 0) : (s.tokenDecision t ilk0 ilk1 verdict).Ok Q := by
  unfold State.tokenDecision
  repeat' first
    | with_reducible assumption
    | with_reducible exact Kit.bit hw (by decide +kernel)
    | with_reducible exact Kit.sub hw (by decide +kernel)
    | with_reducible apply State.judged_ok
    | with_reducible apply State.setFlag_ok
    | with_reducible apply State.decideOut_ok
    | with_reducible apply State.setTreg_ok
    | with_reducible apply State.decideFailed_ok
    | with_reducible apply State.decideCompare_ok
    | with_reducible rfl
    | with_reducible refine ok_ite (fun _ => ?_) (fun _ => ?_)
    | (intro s1; refine (fun (h1 : State.Ok Q s1) => ?_) ?_; rotate_left; subst s1; rotate_right)
    | (intro (f : _ → _); subst f; dsimp -zeta only)
    | (intro s1; fail_if_success (have : State := s1))
    | lift_lets
    | split
    | intro _

theorem State.tileRelease_ok (h : s.Ok Q) (t : Nat) (hw : Q.mask &&& 0x1000000000000000000000000000000000000000000000000000000000000000000000000000000000000000000000000000000000000000000000000000000000000000000000000020002000020000400406000000800010001000040800400002000000000008000200000800000000810010000000010000008800080000800800 = 0) : (s.tileRelease t).Ok Q := by
  unfold State.tileRelease
  repeat' first
    | with_reducible assumption
    | with_reducible exact Kit.bit hw (by decide +kernel)
    | with_reducible exact Kit.sub hw (by decide +kernel)
    | with_reducible apply State.refuse_ok
    | with_reducible apply State.setTbit_ok
    | with_reducible rfl
    | with_reducible refine ok_ite (fun _ => ?_) (fun _ => ?_)
    | (intro s1; refine (fun (h1 : State.Ok Q s1) => ?_) ?_; rotate_left; subst s1; rotate_right)
    | (intro (f : _ → _); subst f; dsimp -zeta only)
    | (intro s1; fail_if_success (have : State := s1))
    | lift_lets
    | split
    | intro _

theorem State.tileCommand_ok (h : s.Ok Q) (t w : Nat) (hw : Q.mask &&& 0x10500000000000000000000000000000000000000000000000000000000000000000000000000000000000000040000000000000000fc000000000000000000000700037000000000000200020000200004004060000008b0010001000040800400002000000000008000200000800002000813810000000010000008800880400800820 = 0) : (s.tileCommand t w).Ok Q := by
  unfold State.tileCommand
  repeat' first
    | with_reducible assumption
    | with_reducible exact Kit.bit hw (by decide +kernel)
    | with_reducible exact Kit.sub hw (by decide +kernel)
    | with_reducible apply State.setTileCause_ok
    | with_reducible apply State.refuse_ok
    | with_reducible apply State.tileRelease_ok
    | with_reducible apply State.setLat_ok
    | with_reducible apply State.setFlag_ok
    | with_reducible rfl
    | with_reducible refine ok_ite (fun _ => ?_) (fun _ => ?_)
    | (intro s1; refine (fun (h1 : State.Ok Q s1) => ?_) ?_; rotate_left; subst s1; rotate_right)
    | (intro (f : _ → _); subst f; dsimp -zeta only)
    | (intro s1; fail_if_success (have : State := s1))
    | lift_lets
    | split
    | intro _

theorem State.tileCmdWrite_ok (h : s.Ok Q) (t w : Nat) (hw : Q.mask &&& 0x10502000000000000000000000000000000000000000000000000000000000000000000000000000000000000040000000000000000fc000000000000000000000700037000000000000200020000200004004060000008b0010001000040800400002000000000008000200000800002000813810000000010000008800880400800820 = 0) : (s.tileCmdWrite t w).Ok Q := by
  unfold State.tileCmdWrite
  repeat' first
    | with_reducible assumption
    | with_reducible exact Kit.bit hw (by decide +kernel)
    | with_reducible exact Kit.sub hw (by decide +kernel)
    | with_reducible apply State.tileCommand_ok
    | with_reducible apply State.addrFault_ok
    | with_reducible rfl
    | with_reducible refine ok_ite (fun _ => ?_) (fun _ => ?_)
    | (intro s1; refine (fun (h1 : State.Ok Q s1) => ?_) ?_; rotate_left; subst s1; rotate_right)
    | (intro (f : _ → _); subst f; dsimp -zeta only)
    | (intro s1; fail_if_success (have : State := s1))
    | lift_lets
    | split
    | intro _

theorem State.setSlotHalf_ok (h : s.Ok Q) (hh v : Nat) (hw : Q.mask &&& 0x4000000000000000000000000000000000000000000000000000000000000000000000000000000000000000000000000000 = 0) : (s.setSlotHalf hh v).Ok Q := by
  unfold State.setSlotHalf
  repeat' first
    | with_reducible assumption
    | with_reducible exact Kit.bit hw (by decide +kernel)
    | with_reducible exact Kit.sub hw (by decide +kernel)
    | with_reducible apply State.setFld_ok
    | with_reducible rfl
    | with_reducible refine ok_ite (fun _ => ?_) (fun _ => ?_)
    | (intro s1; refine (fun (h1 : State.Ok Q s1) => ?_) ?_; rotate_left; subst s1; rotate_right)
    | (intro (f : _ → _); subst f; dsimp -zeta only)
    | (intro s1; fail_if_success (have : State := s1))
    | lift_lets
    | split
    | intro _

theorem State.slotTokenMove_ok (h : s.Ok Q) (hw : Q.mask &&& 0x100000000000000000000000000000000000000000000000000000000004000000000000000000000000000000000000000000000000000000000000000000000000000000000000000000000000000 = 0) : (s.slotTokenMove).Ok Q := by
  unfold State.slotTokenMove
  repeat' first
    | with_reducible assumption
    | with_reducible exact Kit.bit hw (by decide +kernel)
    | with_reducible exact Kit.sub hw (by decide +kernel)
    | with_reducible apply State.setFlag_ok
    | with_reducible apply State.setFld_ok
    | with_reducible apply State.setSlotHalf_ok
    | with_reducible rfl
    | with_reducible refine ok_ite (fun _ => ?_) (fun _ => ?_)
    | (intro s1; refine (fun (h1 : State.Ok Q s1) => ?_) ?_; rotate_left; subst s1; rotate_right)
    | (intro (f : _ → _); subst f; dsimp -zeta only)
    | (intro s1; fail_if_success (have : State := s1))
    | lift_lets
    | split
    | intro _

theorem State.slotLost_ok (h : s.Ok Q) (hw : Q.mask &&& 0x1100000000000000000000000000000000000000000000000000000000000000000000000000000000000000000003800000000000000000000000000000000000000000000000000000000000000240000000000000000000000000000000000000000000000000000000000000000000000000000000000000000000000000000000 = 0) : (s.slotLost).Ok Q := by
  unfold State.slotLost
  repeat' first
    | with_reducible assumption
    | with_reducible exact Kit.bit hw (by decide +kernel)
    | with_reducible exact Kit.sub hw (by decide +kernel)
    | with_reducible apply State.send_ok
    | with_reducible apply State.driveSable_ok
    | with_reducible rfl
    | with_reducible refine ok_ite (fun _ => ?_) (fun _ => ?_)
    | (intro s1; refine (fun (h1 : State.Ok Q s1) => ?_) ?_; rotate_left; subst s1; rotate_right)
    | (intro (f : _ → _); subst f; dsimp -zeta only)
    | (intro s1; fail_if_success (have : State := s1))
    | lift_lets
    | split
    | intro _

theorem State.slotHalfDead_ok (h : s.Ok Q) (hh : Nat) (hw : Q.mask &&& 0x1100000000000000000000000000000000000000000000000000000000000000000000000000000000000000000003800000000300000000000000000000000000000000000000000000000000000240004000000000000000000000000000000000000000000000000000000000000000000000000000000000000000000000000000 = 0) : (s.slotHalfDead hh).Ok Q := by
  unfold State.slotHalfDead
  repeat' first
    | with_reducible assumption
    | with_reducible exact Kit.bit hw (by decide +kernel)
    | with_reducible exact Kit.sub hw (by decide +kernel)
    | with_reducible apply State.setSlotHalf_ok
    | with_reducible apply State.setLat_ok
    | with_reducible apply State.slotLost_ok
    | with_reducible apply State.setFlag_ok
    | with_reducible rfl
    | with_reducible refine ok_ite (fun _ => ?_) (fun _ => ?_)
    | (intro s1; refine (fun (h1 : State.Ok Q s1) => ?_) ?_; rotate_left; subst s1; rotate_right)
    | (intro (f : _ → _); subst f; dsimp -zeta only)
    | (intro s1; fail_if_success (have : State := s1))
    | lift_lets
    | split
    | intro _

theorem State.slotPath_ok (h : s.Ok Q) (hh path : Nat) (present : Bool) (hw : Q.mask &&& 0x1000000000000000000000000000000000000000000000000000000000000000000000000000000000000000000000000000000c00000000000000000000000000000000000000000000000000000000000000000000000000000000000000000000000000000000000000000000000000000000000000000000000000000000000000 = 0) : (s.slotPath hh path present).Ok Q := by
  unfold State.slotPath
  repeat' first
    | with_reducible assumption
    | with_reducible exact Kit.bit hw (by decide +kernel)
    | with_reducible exact Kit.sub hw (by decide +kernel)
    | with_reducible apply State.setFlag_ok
    | with_reducible apply State.setLat_ok
    | with_reducible apply State.send_ok
    | with_reducible rfl
    | with_reducible refine ok_ite (fun _ => ?_) (fun _ => ?_)
    | (intro s1; refine (fun (h1 : State.Ok Q s1) => ?_) ?_; rotate_left; subst s1; rotate_right)
    | (intro (f : _ → _); subst f; dsimp -zeta only)
    | (intro s1; fail_if_success (have : State := s1))
    | lift_lets
    | split
    | intro _

theorem State.slotJudge_ok (h : s.Ok Q) (hh hb : Nat) (hw : Q.mask &&& 0x1100000000000000000000000000000000000000000000000000000000000000000000000000000000000000000003800000000f00000000000000000000000000000000000000000000000000000240004000000000000000000000000000000000000000000000000000000000000000000000000000000000000000000000000000 = 0) : (s.slotJudge hh hb).Ok Q := by
  unfold State.slotJudge
  repeat' first
    | with_reducible assumption
    | with_reducible exact Kit.bit hw (by decide +kernel)
    | with_reducible exact Kit.sub hw (by decide +kernel)
    | with_reducible apply State.setLat_ok
    | with_reducible apply State.send_ok
    | with_reducible apply State.slotHalfDead_ok
    | with_reducible apply State.slotPath_ok
    | with_reducible rfl
    | with_reducible refine ok_ite (fun _ => ?_) (fun _ => ?_)
    | (intro s1; refine (fun (h1 : State.Ok Q s1) => ?_) ?_; rotate_left; subst s1; rotate_right)
    | (intro (f : _ → _); subst f; dsimp -zeta only)
    | (intro s1; fail_if_success (have : State := s1))
    | lift_lets
    | split
    | intro _

theorem State.slotPairBoundary_ok (h : s.Ok Q) (hbU hbO : Nat) (hw : Q.mask &&& 0x1100000000000000000000000000000000000000000000000000000000000000000000000000000000000000000003800000000f00000000000000000000000000000000000000000000000000000240004000000000000000000000000000000000000000000000000000000000000000000000000000000000000000000000000000 = 0) : (s.slotPairBoundary hbU hbO).Ok Q := by
  unfold State.slotPairBoundary
  repeat' first
    | with_reducible assumption
    | with_reducible exact Kit.bit hw (by decide +kernel)
    | with_reducible exact Kit.sub hw (by decide +kernel)
    | with_reducible apply State.slotJudge_ok
    | with_reducible apply State.setSlotHalf_ok
    | with_reducible apply State.setLat_ok
    | with_reducible apply forUpto_ok
    | with_reducible rfl
    | (intro i1 s1 (h1 : State.Ok Q s1))
    | (intro s1 i1 (h1 : State.Ok Q s1))
    | with_reducible refine ok_ite (fun _ => ?_) (fun _ => ?_)
    | (intro s1; refine (fun (h1 : State.Ok Q s1) => ?_) ?_; rotate_left; subst s1; rotate_right)
    | (intro (f : _ → _); subst f; dsimp -zeta only)
    | (intro s1; fail_if_success (have : State := s1))
    | lift_lets
    | split
    | intro _

theorem State.slotPairCommand_ok (h : s.Ok Q) (w : Nat) (hw : Q.mask &&& 0x1000000000000000000000000000000000000000000000000000000000000000000000000000000000000000000000000000000300000000000000000000000000000000000000000020002000020000404402000000800010001000040800400002000000000008000200000800000000810010000000010000008800080000800800 = 0) : (s.slotPairCommand w).Ok Q := by
  unfold State.slotPairCommand
  repeat' first
    | with_reducible assumption
    | with_reducible exact Kit.bit hw (by decide +kernel)
    | with_reducible exact Kit.sub hw (by decide +kernel)
    | with_reducible apply State.setSlotHalf_ok
    | with_reducible apply State.setLat_ok
    | with_reducible apply State.refuse_ok
    | with_reducible apply State.setFlag_ok
    | with_reducible rfl
    | with_reducible refine ok_ite (fun _ => ?_) (fun _ => ?_)
    | (intro s1; refine (fun (h1 : State.Ok Q s1) => ?_) ?_; rotate_left; subst s1; rotate_right)
    | (intro (f : _ → _); subst f; dsimp -zeta only)
    | (intro s1; fail_if_success (have : State := s1))
    | lift_lets
    | split
    | intro _

theorem State.warmRestart_ok (h : s.Ok Q) (hw : Q.mask &&& 0x100000000000000000000000000000000000000000000000000000000000000000000000000000000000000000000000000000e000000000000000000000000000000000000000000000000000000000040000000000000000000000000000000000000000000000000000000000000000000000000000000000000000000000000000 = 0) : (s.warmRestart).Ok Q := by
  unfold State.warmRestart
  repeat' first
    | with_reducible assumption
    | with_reducible exact Kit.bit hw (by decide +kernel)
    | with_reducible exact Kit.sub hw (by decide +kernel)
    | with_reducible apply State.satAdd_ok
    | with_reducible apply State.setLat_ok
    | with_reducible apply State.setFlag_ok
    | with_reducible apply State.send_ok
    | with_reducible rfl
    | with_reducible refine ok_ite (fun _ => ?_) (fun _ => ?_)
    | (intro s1; refine (fun (h1 : State.Ok Q s1) => ?_) ?_; rotate_left; subst s1; rotate_right)
    | (intro (f : _ → _); subst f; dsimp -zeta only)
    | (intro s1; fail_if_success (have : State := s1))
    | lift_lets
    | split
    | intro _

end Sys2Proof.Machine
end

