-- ==== Sys2Proof/Laws/KeepSlots.lean ====
section
/-! SUPPORT. The operations of Machine/Slots.lean keep soundness and the queue. -/
set_option Elab.async false
namespace Sys2Proof.Machine

variable {Q : Kit} {s : State}

theorem State.eccStrike_ok (h : s.Ok Q) (kind k : Nat) (hw : Q.mask &&& 0x200000000000000000000000000000000000000000000000000000000000000000000000000000000000000000000000000000000000000000000000000000000000000000000000000000000000000000000000000000000000000000000000000000000000000000000000000000000000000000000000000000000000000000 = 0) : (s.eccStrike kind k).Ok Q :=
  ok_bankEcc h (Kit.bit hw (by decide +kernel)) (spPut_wf _ _ h.2.bankEcc)

theorem State.eccMeet_ok (h : s.Ok Q) (k : Nat) (hw : Q.mask &&& 0x1000200000000000000000000000000000000000000000000000000000000000000000000000000000000000000000000000000000000000000000000000000000000000000000000000000000000000000000000000000000000000000000000000000000000000000200000000000000000000000000000000000000000000000000 = 0) : (s.eccMeet k).Ok Q := by
  have e : State.Ok Q { s with bankEcc := spPut 0 s.bankEcc k 0 } :=
    ok_bankEcc h (Kit.bit hw (by decide +kernel)) (spPut_wf _ _ h.2.bankEcc)
  unfold State.eccMeet
  split
  all_goals
    repeat' first
      | with_reducible assumption
      | with_reducible exact Kit.bit hw (by decide +kernel)
      | with_reducible exact Kit.sub hw (by decide +kernel)
      | with_reducible apply State.setRbit_ok
      | with_reducible apply State.send_ok
      | with_reducible rfl
      | with_reducible refine ok_ite (fun _ => ?_) (fun _ => ?_)
      | (intro s1; refine (fun (h1 : State.Ok Q s1) => ?_) ?_; rotate_left; subst s1; rotate_right)
      | (intro (f : _ → _); subst f; dsimp -zeta only)
      | (intro s1; fail_if_success (have : State := s1))
      | lift_lets
      | split
      | intro _
      | with_reducible apply ok_bankEcc
  

theorem State.eccMeetBank_ok (h : s.Ok Q) (b : Nat) (hw : Q.mask &&& 0x1000200000000000000000000000000000000000000000000000000000000000000000000000000000000000000000000000000000000000000000000000000000000000000000000000000000000000000000000000000000000000000000000000000000000000000200000000000000000000000000000000000000000000000000 = 0) : (s.eccMeetBank b).Ok Q := by
  unfold State.eccMeetBank
  repeat' first
    | with_reducible assumption
    | with_reducible exact Kit.bit hw (by decide +kernel)
    | with_reducible exact Kit.sub hw (by decide +kernel)
    | with_reducible apply State.eccMeet_ok
    | with_reducible apply foldl_ok
    | with_reducible rfl
    | (intro i1 s1 (h1 : State.Ok Q s1))
    | (intro s1 i1 (h1 : State.Ok Q s1))
    | with_reducible refine ok_ite (fun _ => ?_) (fun _ => ?_)
    | (intro s1; refine (fun (h1 : State.Ok Q s1) => ?_) ?_; rotate_left; subst s1; rotate_right)
    | (intro (f : _ → _); subst f; dsimp -zeta only)
    | (intro s1; fail_if_success (have : State := s1))
    | lift_lets
    | split
    | intro _

theorem State.checkBank_ok (h : s.Ok Q) (b : Nat) (hw : Q.mask &&& 0x1000200000000000000000000000000000000000000000000000000000000000000000000000000000000000000000000000000000000000000000000000000000000000000000000000000000000000000000000000000000000000000000000000000000000000000200000000000000000000000000000000000000000000000000 = 0) : (s.checkBank b).2.Ok Q := by
  unfold State.checkBank
  repeat' first
    | with_reducible assumption
    | with_reducible exact Kit.bit hw (by decide +kernel)
    | with_reducible exact Kit.sub hw (by decide +kernel)
    | with_reducible apply State.eccMeetBank_ok
    | with_reducible rfl
    | with_reducible refine ok_ite (fun _ => ?_) (fun _ => ?_)
    | with_reducible refine ok_ite_snd (fun _ => ?_) (fun _ => ?_)
    | (intro s1; refine (fun (h1 : State.Ok Q s1) => ?_) ?_; rotate_left; subst s1; rotate_right)
    | (intro (f : _ → _); subst f; dsimp -zeta only)
    | (intro s1; fail_if_success (have : State := s1))
    | lift_lets
    | (split <;> first | (rename_i e; with_reducible refine (fun (h1 : State.Ok Q _) => ?_) (ok_snd e ?_)) | (rename_i e; with_reducible refine (fun (h1 : State.Ok Q _) => ?_) (ok_thd e ?_)) | (rename_i e; with_reducible refine (fun (h1 : State.Ok Q _) => ?_) (ok_mid e ?_)) | (rename_i e; with_reducible refine (fun (h1 : State.Ok Q _) => ?_) (ok_some e ?_)) | (rename_i e _; with_reducible refine (fun (h1 : State.Ok Q _) => ?_) (ok_snd e ?_)) | (rename_i e _; with_reducible refine (fun (h1 : State.Ok Q _) => ?_) (ok_thd e ?_)) | (rename_i e _; with_reducible refine (fun (h1 : State.Ok Q _) => ?_) (ok_mid e ?_)) | (rename_i e _; with_reducible refine (fun (h1 : State.Ok Q _) => ?_) (ok_some e ?_)) | skip)
    | intro _

theorem State.checkDramCfg_ok (h : s.Ok Q) (d : Nat) (hw : Q.mask &&& 0x100600000000000000000000000000000000000000000000000000000000000000000000000000000000000000000000000000000000000000000000000000000000000000000000000e000000000000000000000000000000000000000000000000000000000000000000000000000000000000000000000000000000000000000000 = 0) : (s.checkDramCfg d).2.Ok Q := by
  unfold State.checkDramCfg
  repeat' first
    | with_reducible assumption
    | with_reducible exact Kit.bit hw (by decide +kernel)
    | with_reducible exact Kit.sub hw (by decide +kernel)
    | with_reducible apply State.dramError_ok
    | with_reducible apply State.dramMeet_ok
    | with_reducible rfl
    | with_reducible refine ok_ite (fun _ => ?_) (fun _ => ?_)
    | with_reducible refine ok_ite_snd (fun _ => ?_) (fun _ => ?_)
    | (intro s1; refine (fun (h1 : State.Ok Q s1) => ?_) ?_; rotate_left; subst s1; rotate_right)
    | (intro (f : _ → _); subst f; dsimp -zeta only)
    | (intro s1; fail_if_success (have : State := s1))
    | lift_lets
    | (split <;> first | (rename_i e; with_reducible refine (fun (h1 : State.Ok Q _) => ?_) (ok_snd e ?_)) | (rename_i e; with_reducible refine (fun (h1 : State.Ok Q _) => ?_) (ok_thd e ?_)) | (rename_i e; with_reducible refine (fun (h1 : State.Ok Q _) => ?_) (ok_mid e ?_)) | (rename_i e; with_reducible refine (fun (h1 : State.Ok Q _) => ?_) (ok_some e ?_)) | (rename_i e _; with_reducible refine (fun (h1 : State.Ok Q _) => ?_) (ok_snd e ?_)) | (rename_i e _; with_reducible refine (fun (h1 : State.Ok Q _) => ?_) (ok_thd e ?_)) | (rename_i e _; with_reducible refine (fun (h1 : State.Ok Q _) => ?_) (ok_mid e ?_)) | (rename_i e _; with_reducible refine (fun (h1 : State.Ok Q _) => ?_) (ok_some e ?_)) | skip)
    | intro _

theorem State.cfgCommit_ok (h : s.Ok Q) (bank : Nat) (guard : Bool) (hw : Q.mask &&& 0x100020000000000000000000000000000000000000000000000000000000000000000000000000000000000000000000001e000000000000000000000000000000000000000000000020002000020000400402000000800010001000040800400002000000000008000200000800000000810010000000010000008800080000800800 = 0) : (s.cfgCommit bank guard).Ok Q := by
  unfold State.cfgCommit
  repeat' first
    | with_reducible assumption
    | with_reducible exact Kit.bit hw (by decide +kernel)
    | with_reducible exact Kit.sub hw (by decide +kernel)
    | with_reducible apply State.checkBank_ok
    | with_reducible apply State.setRbit_ok
    | with_reducible apply State.refuse_ok
    | with_reducible apply State.setLat_ok
    | with_reducible apply State.setFlag_ok
    | with_reducible rfl
    | with_reducible refine ok_ite (fun _ => ?_) (fun _ => ?_)
    | (intro s1; refine (fun (h1 : State.Ok Q s1) => ?_) ?_; rotate_left; subst s1; rotate_right)
    | (intro (f : _ → _); subst f; dsimp -zeta only)
    | (intro s1; fail_if_success (have : State := s1))
    | lift_lets
    | (split <;> first | (rename_i e; with_reducible refine (fun (h1 : State.Ok Q _) => ?_) (ok_snd e ?_)) | (rename_i e; with_reducible refine (fun (h1 : State.Ok Q _) => ?_) (ok_thd e ?_)) | (rename_i e; with_reducible refine (fun (h1 : State.Ok Q _) => ?_) (ok_mid e ?_)) | (rename_i e; with_reducible refine (fun (h1 : State.Ok Q _) => ?_) (ok_some e ?_)) | (rename_i e _; with_reducible refine (fun (h1 : State.Ok Q _) => ?_) (ok_snd e ?_)) | (rename_i e _; with_reducible refine (fun (h1 : State.Ok Q _) => ?_) (ok_thd e ?_)) | (rename_i e _; with_reducible refine (fun (h1 : State.Ok Q _) => ?_) (ok_mid e ?_)) | (rename_i e _; with_reducible refine (fun (h1 : State.Ok Q _) => ?_) (ok_some e ?_)) | skip)
    | intro _

theorem State.ringRequest_ok (h : s.Ok Q) (m q : Nat) (hw : Q.mask &&& 0xc0000000000000000000000000000000000000000000000000000000000000000000000000000000000000000000000000000000000000000000000000000000000000000000000000000000000000000000 = 0) : (s.ringRequest m q).Ok Q := by
  unfold State.ringRequest
  repeat' first
    | with_reducible assumption
    | with_reducible exact Kit.bit hw (by decide +kernel)
    | with_reducible exact Kit.sub hw (by decide +kernel)
    | with_reducible apply State.setLat_ok
    | with_reducible rfl
    | with_reducible refine ok_ite (fun _ => ?_) (fun _ => ?_)
    | (intro s1; refine (fun (h1 : State.Ok Q s1) => ?_) ?_; rotate_left; subst s1; rotate_right)
    | (intro (f : _ → _); subst f; dsimp -zeta only)
    | (intro s1; fail_if_success (have : State := s1))
    | lift_lets
    | split
    | intro _

theorem State.ringStart_ok (h : s.Ok Q) (m : Nat) (hw : Q.mask &&& 0xe0000000000000000000000000000000000000000000000000000000000000000000000000000000000000000000000000000000000000000000000000000000000000000000000000000000000000000000 = 0) : (s.ringStart m).Ok Q := by
  unfold State.ringStart
  repeat' first
    | with_reducible assumption
    | with_reducible exact Kit.bit hw (by decide +kernel)
    | with_reducible exact Kit.sub hw (by decide +kernel)
    | with_reducible apply State.setLat_ok
    | with_reducible apply State.ringRequest_ok
    | with_reducible apply forUpto_ok
    | with_reducible rfl
    | (intro i1 s1 (h1 : State.Ok Q s1))
    | (intro s1 i1 (h1 : State.Ok Q s1))
    | with_reducible refine ok_ite (fun _ => ?_) (fun _ => ?_)
    | (intro s1; refine (fun (h1 : State.Ok Q s1) => ?_) ?_; rotate_left; subst s1; rotate_right)
    | (intro (f : _ → _); subst f; dsimp -zeta only)
    | (intro s1; fail_if_success (have : State := s1))
    | lift_lets
    | split
    | intro _

theorem State.ringEnd_ok (h : s.Ok Q) (m : Nat) (hw : Q.mask &&& 0xe0000000000000000000000000000000000000000000000000000000000000000000000000000000000000000000000000000000000000000000000000000000000000000000000000000000000000000000 = 0) : (s.ringEnd m).Ok Q := by
  unfold State.ringEnd
  repeat' first
    | with_reducible assumption
    | with_reducible exact Kit.bit hw (by decide +kernel)
    | with_reducible exact Kit.sub hw (by decide +kernel)
    | with_reducible apply State.setLat_ok
    | with_reducible apply forUpto_ok
    | with_reducible rfl
    | (intro i1 s1 (h1 : State.Ok Q s1))
    | (intro s1 i1 (h1 : State.Ok Q s1))
    | with_reducible refine ok_ite (fun _ => ?_) (fun _ => ?_)
    | (intro s1; refine (fun (h1 : State.Ok Q s1) => ?_) ?_; rotate_left; subst s1; rotate_right)
    | (intro (f : _ → _); subst f; dsimp -zeta only)
    | (intro s1; fail_if_success (have : State := s1))
    | lift_lets
    | split
    | intro _

theorem State.ringAdvance_ok (h : s.Ok Q) (m : Nat) (hw : Q.mask &&& 0xe0000000000000000000000000000000000000000000000000000000000000000000000000000000000000000000000000000000000000000000000000000000000000000000000000000000000000000000 = 0) : (s.ringAdvance m).Ok Q := by
  unfold State.ringAdvance
  repeat' first
    | with_reducible assumption
    | with_reducible exact Kit.bit hw (by decide +kernel)
    | with_reducible exact Kit.sub hw (by decide +kernel)
    | with_reducible apply State.setLat_ok
    | with_reducible apply State.ringRequest_ok
    | with_reducible rfl
    | with_reducible refine ok_ite (fun _ => ?_) (fun _ => ?_)
    | (intro s1; refine (fun (h1 : State.Ok Q s1) => ?_) ?_; rotate_left; subst s1; rotate_right)
    | (intro (f : _ → _); subst f; dsimp -zeta only)
    | (intro s1; fail_if_success (have : State := s1))
    | lift_lets
    | split
    | intro _

theorem State.stagingArrive_ok (h : s.Ok Q) (m k : Nat) (hw : Q.mask &&& 0x100630000000000000000000000000000000000000000000000000000000000000000000000000000000000000000000004000000000000000000000000000000000000000000000000e000000000000000000000000000000000000000000000000000000000000000000000000000000000000000000000000000000000000000000 = 0) : (s.stagingArrive m k).Ok Q := by
  unfold State.stagingArrive
  repeat' first
    | with_reducible assumption
    | with_reducible exact Kit.bit hw (by decide +kernel)
    | with_reducible exact Kit.sub hw (by decide +kernel)
    | with_reducible apply State.checkDramCfg_ok
    | with_reducible apply State.setBankWord_ok
    | with_reducible apply State.setLat_ok
    | with_reducible apply forUpto_ok
    | with_reducible rfl
    | (intro i1 s1 (h1 : State.Ok Q s1))
    | (intro s1 i1 (h1 : State.Ok Q s1))
    | with_reducible refine ok_ite (fun _ => ?_) (fun _ => ?_)
    | (intro s1; refine (fun (h1 : State.Ok Q s1) => ?_) ?_; rotate_left; subst s1; rotate_right)
    | (intro (f : _ → _); subst f; dsimp -zeta only)
    | (intro s1; fail_if_success (have : State := s1))
    | lift_lets
    | (split <;> first | (rename_i e; with_reducible refine (fun (h1 : State.Ok Q _) => ?_) (ok_snd e ?_)) | (rename_i e; with_reducible refine (fun (h1 : State.Ok Q _) => ?_) (ok_thd e ?_)) | (rename_i e; with_reducible refine (fun (h1 : State.Ok Q _) => ?_) (ok_mid e ?_)) | (rename_i e; with_reducible refine (fun (h1 : State.Ok Q _) => ?_) (ok_some e ?_)) | (rename_i e _; with_reducible refine (fun (h1 : State.Ok Q _) => ?_) (ok_snd e ?_)) | (rename_i e _; with_reducible refine (fun (h1 : State.Ok Q _) => ?_) (ok_thd e ?_)) | (rename_i e _; with_reducible refine (fun (h1 : State.Ok Q _) => ?_) (ok_mid e ?_)) | (rename_i e _; with_reducible refine (fun (h1 : State.Ok Q _) => ?_) (ok_some e ?_)) | skip)
    | intro _

theorem State.slotArm_ok (h : s.Ok Q) (hw : Q.mask &&& 0x1000000000000000000000000000000000000000000000000000000000000000000000000000000000000000000000000000200000000000000000000000000000000000000000000020002000020000400402000000800010001000040800400002000000000008000200000800000000810010000000010000008800080000800800 = 0) : (s.slotArm).Ok Q := by
  unfold State.slotArm
  repeat' first
    | with_reducible assumption
    | with_reducible exact Kit.bit hw (by decide +kernel)
    | with_reducible exact Kit.sub hw (by decide +kernel)
    | with_reducible apply State.setLat_ok
    | with_reducible apply State.refuse_ok
    | with_reducible rfl
    | with_reducible refine ok_ite (fun _ => ?_) (fun _ => ?_)
    | (intro s1; refine (fun (h1 : State.Ok Q s1) => ?_) ?_; rotate_left; subst s1; rotate_right)
    | (intro (f : _ → _); subst f; dsimp -zeta only)
    | (intro s1; fail_if_success (have : State := s1))
    | lift_lets
    | split
    | intro _

theorem State.entryCode_ok (h : s.Ok Q) (m e : Nat) (hw : Q.mask &&& 0x1000200000000000000000000000000000000000000000000000000000000000000000000000000000000000000000000000000000000000000000000000000000000000000000000000000000000000000000000000000000000000000000000000000000000000000200000000000000000000000000000000000000000000000000 = 0) : (s.entryCode m e).2.Ok Q := by
  unfold State.entryCode
  repeat' first
    | with_reducible assumption
    | with_reducible exact Kit.bit hw (by decide +kernel)
    | with_reducible exact Kit.sub hw (by decide +kernel)
    | with_reducible apply State.checkBank_ok
    | with_reducible rfl
    | with_reducible refine ok_ite (fun _ => ?_) (fun _ => ?_)
    | with_reducible refine ok_ite_snd (fun _ => ?_) (fun _ => ?_)
    | (intro s1; refine (fun (h1 : State.Ok Q s1) => ?_) ?_; rotate_left; subst s1; rotate_right)
    | (intro (f : _ → _); subst f; dsimp -zeta only)
    | (intro s1; fail_if_success (have : State := s1))
    | lift_lets
    | (split <;> first | (rename_i e; with_reducible refine (fun (h1 : State.Ok Q _) => ?_) (ok_snd e ?_)) | (rename_i e; with_reducible refine (fun (h1 : State.Ok Q _) => ?_) (ok_thd e ?_)) | (rename_i e; with_reducible refine (fun (h1 : State.Ok Q _) => ?_) (ok_mid e ?_)) | (rename_i e; with_reducible refine (fun (h1 : State.Ok Q _) => ?_) (ok_some e ?_)) | (rename_i e _; with_reducible refine (fun (h1 : State.Ok Q _) => ?_) (ok_snd e ?_)) | (rename_i e _; with_reducible refine (fun (h1 : State.Ok Q _) => ?_) (ok_thd e ?_)) | (rename_i e _; with_reducible refine (fun (h1 : State.Ok Q _) => ?_) (ok_mid e ?_)) | (rename_i e _; with_reducible refine (fun (h1 : State.Ok Q _) => ?_) (ok_some e ?_)) | skip)
    | intro _

theorem State.entriesCode_ok (h : s.Ok Q) (m : Nat) (a0 : Nat) (a1 : Nat) (hw : Q.mask &&& 0x1000200000000000000000000000000000000000000000000000000000000000000000000000000000000000000000000000000000000000000000000000000000000000000000000000000000000000000000000000000000000000000000000000000000000000000200000000000000000000000000000000000000000000000000 = 0) : (s.entriesCode m a0 a1).2.2.Ok Q := by
  induction a0 generalizing s m a1 with
  | zero =>
    unfold State.entriesCode
    repeat' first
      | with_reducible assumption
      | with_reducible exact Kit.bit hw (by decide +kernel)
      | with_reducible exact Kit.sub hw (by decide +kernel)
      | with_reducible apply State.entryCode_ok
      | with_reducible apply ih
      | with_reducible rfl
      | with_reducible refine ok_ite (fun _ => ?_) (fun _ => ?_)
      | with_reducible refine ok_ite_snd (fun _ => ?_) (fun _ => ?_)
      | with_reducible refine ok_ite_thd (fun _ => ?_) (fun _ => ?_)
      | (intro s1; refine (fun (h1 : State.Ok Q s1) => ?_) ?_; rotate_left; subst s1; rotate_right)
      | (intro (f : _ → _); subst f; dsimp -zeta only)
      | (intro s1; fail_if_success (have : State := s1))
      | lift_lets
      | (split <;> first | (rename_i e; with_reducible refine (fun (h1 : State.Ok Q _) => ?_) (ok_snd e ?_)) | (rename_i e; with_reducible refine (fun (h1 : State.Ok Q _) => ?_) (ok_thd e ?_)) | (rename_i e; with_reducible refine (fun (h1 : State.Ok Q _) => ?_) (ok_mid e ?_)) | (rename_i e; with_reducible refine (fun (h1 : State.Ok Q _) => ?_) (ok_some e ?_)) | (rename_i e _; with_reducible refine (fun (h1 : State.Ok Q _) => ?_) (ok_snd e ?_)) | (rename_i e _; with_reducible refine (fun (h1 : State.Ok Q _) => ?_) (ok_thd e ?_)) | (rename_i e _; with_reducible refine (fun (h1 : State.Ok Q _) => ?_) (ok_mid e ?_)) | (rename_i e _; with_reducible refine (fun (h1 : State.Ok Q _) => ?_) (ok_some e ?_)) | skip)
      | intro _
  | succ n ih =>
    unfold State.entriesCode
    repeat' first
      | with_reducible assumption
      | with_reducible exact Kit.bit hw (by decide +kernel)
      | with_reducible exact Kit.sub hw (by decide +kernel)
      | with_reducible apply State.entryCode_ok
      | with_reducible apply ih
      | with_reducible rfl
      | with_reducible refine ok_ite (fun _ => ?_) (fun _ => ?_)
      | with_reducible refine ok_ite_snd (fun _ => ?_) (fun _ => ?_)
      | with_reducible refine ok_ite_thd (fun _ => ?_) (fun _ => ?_)
      | (intro s1; refine (fun (h1 : State.Ok Q s1) => ?_) ?_; rotate_left; subst s1; rotate_right)
      | (intro (f : _ → _); subst f; dsimp -zeta only)
      | (intro s1; fail_if_success (have : State := s1))
      | lift_lets
      | (split <;> first | (rename_i e; with_reducible refine (fun (h1 : State.Ok Q _) => ?_) (ok_snd e ?_)) | (rename_i e; with_reducible refine (fun (h1 : State.Ok Q _) => ?_) (ok_thd e ?_)) | (rename_i e; with_reducible refine (fun (h1 : State.Ok Q _) => ?_) (ok_mid e ?_)) | (rename_i e; with_reducible refine (fun (h1 : State.Ok Q _) => ?_) (ok_some e ?_)) | (rename_i e _; with_reducible refine (fun (h1 : State.Ok Q _) => ?_) (ok_snd e ?_)) | (rename_i e _; with_reducible refine (fun (h1 : State.Ok Q _) => ?_) (ok_thd e ?_)) | (rename_i e _; with_reducible refine (fun (h1 : State.Ok Q _) => ?_) (ok_mid e ?_)) | (rename_i e _; with_reducible refine (fun (h1 : State.Ok Q _) => ?_) (ok_some e ?_)) | skip)
      | intro _

theorem State.listCheck_ok (h : s.Ok Q) (m n : Nat) (hw : Q.mask &&& 0x1000200000000000000000000000000000000000000000000000000000000000000000000000000000000000000000000000000000000000000000000000000000000000000000000000000000000000000000000000000000000000000000000000000000000000000200000000000000000000000000000000000000000000000000 = 0) : (s.listCheck m n).2.2.Ok Q := by
  unfold State.listCheck
  repeat' first
    | with_reducible assumption
    | with_reducible exact Kit.bit hw (by decide +kernel)
    | with_reducible exact Kit.sub hw (by decide +kernel)
    | with_reducible apply State.entriesCode_ok
    | with_reducible rfl
    | with_reducible refine ok_ite (fun _ => ?_) (fun _ => ?_)
    | with_reducible refine ok_ite_snd (fun _ => ?_) (fun _ => ?_)
    | with_reducible refine ok_ite_thd (fun _ => ?_) (fun _ => ?_)
    | (intro s1; refine (fun (h1 : State.Ok Q s1) => ?_) ?_; rotate_left; subst s1; rotate_right)
    | (intro (f : _ → _); subst f; dsimp -zeta only)
    | (intro s1; fail_if_success (have : State := s1))
    | lift_lets
    | (split <;> first | (rename_i e; with_reducible refine (fun (h1 : State.Ok Q _) => ?_) (ok_snd e ?_)) | (rename_i e; with_reducible refine (fun (h1 : State.Ok Q _) => ?_) (ok_thd e ?_)) | (rename_i e; with_reducible refine (fun (h1 : State.Ok Q _) => ?_) (ok_mid e ?_)) | (rename_i e; with_reducible refine (fun (h1 : State.Ok Q _) => ?_) (ok_some e ?_)) | (rename_i e _; with_reducible refine (fun (h1 : State.Ok Q _) => ?_) (ok_snd e ?_)) | (rename_i e _; with_reducible refine (fun (h1 : State.Ok Q _) => ?_) (ok_thd e ?_)) | (rename_i e _; with_reducible refine (fun (h1 : State.Ok Q _) => ?_) (ok_mid e ?_)) | (rename_i e _; with_reducible refine (fun (h1 : State.Ok Q _) => ?_) (ok_some e ?_)) | skip)
    | intro _

theorem State.listCode_ok (h : s.Ok Q) (m : Nat) (hw : Q.mask &&& 0x1000200000000000000000000000000000000000000000000000000000000000000000000000000000000000000000000000000000000000000000000000000000000000000000000000000000000000000000000000000000000000000000000000000000000000000200000000000000000000000000000000000000000000000000 = 0) : (s.listCode m).2.2.Ok Q := by
  unfold State.listCode
  repeat' first
    | with_reducible assumption
    | with_reducible exact Kit.bit hw (by decide +kernel)
    | with_reducible exact Kit.sub hw (by decide +kernel)
    | with_reducible apply State.listCheck_ok
    | with_reducible rfl
    | with_reducible refine ok_ite (fun _ => ?_) (fun _ => ?_)
    | with_reducible refine ok_ite_snd (fun _ => ?_) (fun _ => ?_)
    | with_reducible refine ok_ite_thd (fun _ => ?_) (fun _ => ?_)
    | (intro s1; refine (fun (h1 : State.Ok Q s1) => ?_) ?_; rotate_left; subst s1; rotate_right)
    | (intro (f : _ → _); subst f; dsimp -zeta only)
    | (intro s1; fail_if_success (have : State := s1))
    | lift_lets
    | (split <;> first | (rename_i e; with_reducible refine (fun (h1 : State.Ok Q _) => ?_) (ok_snd e ?_)) | (rename_i e; with_reducible refine (fun (h1 : State.Ok Q _) => ?_) (ok_thd e ?_)) | (rename_i e; with_reducible refine (fun (h1 : State.Ok Q _) => ?_) (ok_mid e ?_)) | (rename_i e; with_reducible refine (fun (h1 : State.Ok Q _) => ?_) (ok_some e ?_)) | (rename_i e _; with_reducible refine (fun (h1 : State.Ok Q _) => ?_) (ok_snd e ?_)) | (rename_i e _; with_reducible refine (fun (h1 : State.Ok Q _) => ?_) (ok_thd e ?_)) | (rename_i e _; with_reducible refine (fun (h1 : State.Ok Q _) => ?_) (ok_mid e ?_)) | (rename_i e _; with_reducible refine (fun (h1 : State.Ok Q _) => ?_) (ok_some e ?_)) | skip)
    | intro _

theorem State.setStart_ok (h : s.Ok Q) (ns : Nat) (hw : Q.mask &&& 0xe0000000000000000000000000000000000000000000000 = 0) : (s.setStart ns).Ok Q := by
  unfold State.setStart
  repeat' first
    | with_reducible assumption
    | with_reducible exact Kit.bit hw (by decide +kernel)
    | with_reducible exact Kit.sub hw (by decide +kernel)
    | with_reducible apply State.setReg_ok
    | with_reducible rfl
    | with_reducible refine ok_ite (fun _ => ?_) (fun _ => ?_)
    | (intro s1; refine (fun (h1 : State.Ok Q s1) => ?_) ?_; rotate_left; subst s1; rotate_right)
    | (intro (f : _ → _); subst f; dsimp -zeta only)
    | (intro s1; fail_if_success (have : State := s1))
    | lift_lets
    | split
    | intro _

theorem State.armDone_ok (h : s.Ok Q) (hw : Q.mask &&& 0x10002000000000000000000000000000000000000000000000000000000000000000000000000000000000000000000000e03800000000000000000000000000000000000000000000000000000000000000000000000000000000000000000000000000000000000002107e0800000000000000000000000000000000000000000000 = 0) : (s.armDone).Ok Q := by
  unfold State.armDone
  repeat' first
    | with_reducible assumption
    | with_reducible exact Kit.bit hw (by decide +kernel)
    | with_reducible exact Kit.sub hw (by decide +kernel)
    | with_reducible apply State.setLat_ok
    | with_reducible apply State.listCode_ok
    | with_reducible apply State.setReg_ok
    | with_reducible apply State.setRbit_ok
    | with_reducible apply State.setStart_ok
    | with_reducible apply State.ringStart_ok
    | with_reducible rfl
    | with_reducible refine ok_ite (fun _ => ?_) (fun _ => ?_)
    | (intro s1; refine (fun (h1 : State.Ok Q s1) => ?_) ?_; rotate_left; subst s1; rotate_right)
    | (intro (f : _ → _); subst f; dsimp -zeta only)
    | (intro s1; fail_if_success (have : State := s1))
    | lift_lets
    | (split <;> first | (rename_i e; with_reducible refine (fun (h1 : State.Ok Q _) => ?_) (ok_snd e ?_)) | (rename_i e; with_reducible refine (fun (h1 : State.Ok Q _) => ?_) (ok_thd e ?_)) | (rename_i e; with_reducible refine (fun (h1 : State.Ok Q _) => ?_) (ok_mid e ?_)) | (rename_i e; with_reducible refine (fun (h1 : State.Ok Q _) => ?_) (ok_some e ?_)) | (rename_i e _; with_reducible refine (fun (h1 : State.Ok Q _) => ?_) (ok_snd e ?_)) | (rename_i e _; with_reducible refine (fun (h1 : State.Ok Q _) => ?_) (ok_thd e ?_)) | (rename_i e _; with_reducible refine (fun (h1 : State.Ok Q _) => ?_) (ok_mid e ?_)) | (rename_i e _; with_reducible refine (fun (h1 : State.Ok Q _) => ?_) (ok_some e ?_)) | skip)
    | intro _

theorem State.dropOccs_ok (h : s.Ok Q) (p : Occ → Bool) (hw : Q.mask &&& 0xa0000000000000000000000000000000000000000000000000000000000000000000000000000000000000000000000000000000000000000000000000000000000000000000000000000000000000000000000000000000000000000000000000000000000000000000000000000000000000000000000000000000000000000000000 = 0) : (s.dropOccs p).Ok Q := by
  unfold State.dropOccs
  extract_lets gone bs
  exact ok_occs (ok_blocks (x := bs.filter (fun b => !b.occs.isEmpty)) h (Kit.bit hw (by decide +kernel)))
    (Kit.bit hw (by decide +kernel))

theorem State.freePending_ok (h : s.Ok Q) (hw : Q.mask &&& 0xa0000000000000000000000000000000000000000000000000000000000000000000000000000000000000000000000000000000000000000000000000000000000000000000000000000000000000000000000000000000000000000000000000000000000000000000000000000000000000000000000000000000000000000000000 = 0) : (s.freePending).Ok Q := by
  unfold State.freePending
  repeat' first
    | with_reducible assumption
    | with_reducible exact Kit.bit hw (by decide +kernel)
    | with_reducible exact Kit.sub hw (by decide +kernel)
    | with_reducible apply State.dropOccs_ok
    | with_reducible rfl
    | with_reducible refine ok_ite (fun _ => ?_) (fun _ => ?_)
    | (intro s1; refine (fun (h1 : State.Ok Q s1) => ?_) ?_; rotate_left; subst s1; rotate_right)
    | (intro (f : _ → _); subst f; dsimp -zeta only)
    | (intro s1; fail_if_success (have : State := s1))
    | lift_lets
    | split
    | intro _

theorem State.slotDisarm_ok (h : s.Ok Q) (hw : Q.mask &&& 0xa10000000000000000000000000000000000000000000000000000000000000000000000000000000000000000000000000e0000000000000000000000000000000000000000000000020002000020000400402000000800010001000040800400002000000000008000200000800000000810010000000010000008800080000800800 = 0) : (s.slotDisarm).Ok Q := by
  unfold State.slotDisarm
  repeat' first
    | with_reducible assumption
    | with_reducible exact Kit.bit hw (by decide +kernel)
    | with_reducible exact Kit.sub hw (by decide +kernel)
    | with_reducible apply State.setRbit_ok
    | with_reducible apply State.freePending_ok
    | with_reducible apply State.ringEnd_ok
    | with_reducible apply State.refuse_ok
    | with_reducible rfl
    | with_reducible refine ok_ite (fun _ => ?_) (fun _ => ?_)
    | (intro s1; refine (fun (h1 : State.Ok Q s1) => ?_) ?_; rotate_left; subst s1; rotate_right)
    | (intro (f : _ → _); subst f; dsimp -zeta only)
    | (intro s1; fail_if_success (have : State := s1))
    | lift_lets
    | split
    | intro _

theorem State.slotStop_ok (h : s.Ok Q) (bank : Nat) (guard atEnd : Bool) (hw : Q.mask &&& 0x1000200000000000000000000000000000000000000000000000000000000000000000000000000000000000000000000000c00000000000000000000000000000000000000000000020002000020000400402000000800010001000040800400002000000000008000200000800000000810010000000010000008800080000800800 = 0) : (s.slotStop bank guard atEnd).Ok Q := by
  unfold State.slotStop
  repeat' first
    | with_reducible assumption
    | with_reducible exact Kit.bit hw (by decide +kernel)
    | with_reducible exact Kit.sub hw (by decide +kernel)
    | with_reducible apply State.checkBank_ok
    | with_reducible apply State.setRbit_ok
    | with_reducible apply State.setLat_ok
    | with_reducible apply State.refuse_ok
    | with_reducible rfl
    | with_reducible refine ok_ite (fun _ => ?_) (fun _ => ?_)
    | (intro s1; refine (fun (h1 : State.Ok Q s1) => ?_) ?_; rotate_left; subst s1; rotate_right)
    | (intro (f : _ → _); subst f; dsimp -zeta only)
    | (intro s1; fail_if_success (have : State := s1))
    | lift_lets
    | (split <;> first | (rename_i e; with_reducible refine (fun (h1 : State.Ok Q _) => ?_) (ok_snd e ?_)) | (rename_i e; with_reducible refine (fun (h1 : State.Ok Q _) => ?_) (ok_thd e ?_)) | (rename_i e; with_reducible refine (fun (h1 : State.Ok Q _) => ?_) (ok_mid e ?_)) | (rename_i e; with_reducible refine (fun (h1 : State.Ok Q _) => ?_) (ok_some e ?_)) | (rename_i e _; with_reducible refine (fun (h1 : State.Ok Q _) => ?_) (ok_snd e ?_)) | (rename_i e _; with_reducible refine (fun (h1 : State.Ok Q _) => ?_) (ok_thd e ?_)) | (rename_i e _; with_reducible refine (fun (h1 : State.Ok Q _) => ?_) (ok_mid e ?_)) | (rename_i e _; with_reducible refine (fun (h1 : State.Ok Q _) => ?_) (ok_some e ?_)) | skip)
    | intro _

theorem State.slotCmdWrite_ok (h : s.Ok Q) (w : Nat) (hw : Q.mask &&& 0xa10002000000000000000000000000000000000000000000000000000000000000000000000000000000000000000000000e0e00000000000000000000000000000000000000000000020002000020000400402000000800010001000040800400002000000000008000200000800000000810010000000010000008800080000800800 = 0) : (s.slotCmdWrite w).Ok Q := by
  unfold State.slotCmdWrite
  repeat' first
    | with_reducible assumption
    | with_reducible exact Kit.bit hw (by decide +kernel)
    | with_reducible exact Kit.sub hw (by decide +kernel)
    | with_reducible apply State.slotArm_ok
    | with_reducible apply State.slotDisarm_ok
    | with_reducible apply State.slotStop_ok
    | with_reducible apply State.refuse_ok
    | with_reducible rfl
    | with_reducible refine ok_ite (fun _ => ?_) (fun _ => ?_)
    | (intro s1; refine (fun (h1 : State.Ok Q s1) => ?_) ?_; rotate_left; subst s1; rotate_right)
    | (intro (f : _ → _); subst f; dsimp -zeta only)
    | (intro s1; fail_if_success (have : State := s1))
    | lift_lets
    | split
    | intro _

theorem State.fixBoundary_ok (h : s.Ok Q) (hw : Q.mask &&& 0x1000000000000000000000000000000000000000000000000000000000000000000000000000000000000000000000000000000000000000000000000000000000000000000000000000000000000000000 = 0) : (s.fixBoundary).Ok Q := by
  unfold State.fixBoundary
  repeat' first
    | with_reducible assumption
    | with_reducible exact Kit.bit hw (by decide +kernel)
    | with_reducible exact Kit.sub hw (by decide +kernel)
    | with_reducible apply State.setLat_ok
    | with_reducible rfl
    | with_reducible refine ok_ite (fun _ => ?_) (fun _ => ?_)
    | (intro s1; refine (fun (h1 : State.Ok Q s1) => ?_) ?_; rotate_left; subst s1; rotate_right)
    | (intro (f : _ → _); subst f; dsimp -zeta only)
    | (intro s1; fail_if_success (have : State := s1))
    | lift_lets
    | split
    | intro _

theorem State.setNextOp_ok (h : s.Ok Q) (m p t : Nat) (hw : Q.mask &&& 0x60000000000000000000000000000000000000000000000000000000000000000000000000000000000000000000000000000000000000000000000000000000000000000000000000000000000000000 = 0) : (s.setNextOp m p t).Ok Q := by
  unfold State.setNextOp
  repeat' first
    | with_reducible assumption
    | with_reducible exact Kit.bit hw (by decide +kernel)
    | with_reducible exact Kit.sub hw (by decide +kernel)
    | with_reducible apply State.setLat_ok
    | with_reducible rfl
    | with_reducible refine ok_ite (fun _ => ?_) (fun _ => ?_)
    | (intro s1; refine (fun (h1 : State.Ok Q s1) => ?_) ?_; rotate_left; subst s1; rotate_right)
    | (intro (f : _ → _); subst f; dsimp -zeta only)
    | (intro s1; fail_if_success (have : State := s1))
    | lift_lets
    | split
    | intro _

end Sys2Proof.Machine
end

