-- ==== Sys2Proof/Laws/KeepRoute.lean ====
section
/-! SUPPORT. The operations of Machine/Route.lean keep soundness and the queue. -/
set_option Elab.async false
namespace Sys2Proof.Machine

variable {Q : Kit} {s : State}

theorem State.rteStart_ok (h : s.Ok Q) (op : Nat) (hw : Q.mask &&& 0x300000000000000000000000000000000000000000000000000000000000000000000000000000000000000000000000000000000000000080000000000000000000000000000000000000000000000000000 = 0) : (s.rteStart op).Ok Q := by
  unfold State.rteStart
  repeat' first
    | with_reducible assumption
    | with_reducible exact Kit.bit hw (by decide +kernel)
    | with_reducible exact Kit.sub hw (by decide +kernel)
    | with_reducible apply State.setFld_ok
    | with_reducible apply State.setLat_ok
    | with_reducible apply State.setReg_ok
    | with_reducible rfl
    | with_reducible refine ok_ite (fun _ => ?_) (fun _ => ?_)
    | (intro s1; refine (fun (h1 : State.Ok Q s1) => ?_) ?_; rotate_left; subst s1; rotate_right)
    | (intro (f : _ → _); subst f; dsimp -zeta only)
    | (intro s1; fail_if_success (have : State := s1))
    | lift_lets
    | split
    | intro _

theorem State.checkCfg_ok (h : s.Ok Q) (a : Bool × Nat) (hw : Q.mask &&& 0x100620000000000000000000000000000000000000000000000000000000000000000000000000000000000000000000000000000000000000000000000000000000000000000000000e000000000000000000000000000000000000000000000000000000000000000200000000000000000000000000000000000000000000000000 = 0) : (s.checkCfg a).2.Ok Q := by
  unfold State.checkCfg
  repeat' first
    | with_reducible assumption
    | with_reducible exact Kit.bit hw (by decide +kernel)
    | with_reducible exact Kit.sub hw (by decide +kernel)
    | with_reducible apply State.checkDramCfg_ok
    | with_reducible apply State.checkBank_ok
    | with_reducible rfl
    | with_reducible refine ok_ite (fun _ => ?_) (fun _ => ?_)
    | with_reducible refine ok_ite_snd (fun _ => ?_) (fun _ => ?_)
    | (intro s1; refine (fun (h1 : State.Ok Q s1) => ?_) ?_; rotate_left; subst s1; rotate_right)
    | (intro (f : _ → _); subst f; dsimp -zeta only)
    | (intro s1; fail_if_success (have : State := s1))
    | lift_lets
    | (split <;> first | (rename_i e; with_reducible refine (fun (h1 : State.Ok Q _) => ?_) (ok_snd e ?_)) | (rename_i e; with_reducible refine (fun (h1 : State.Ok Q _) => ?_) (ok_thd e ?_)) | (rename_i e; with_reducible refine (fun (h1 : State.Ok Q _) => ?_) (ok_mid e ?_)) | (rename_i e; with_reducible refine (fun (h1 : State.Ok Q _) => ?_) (ok_some e ?_)) | (rename_i e _; with_reducible refine (fun (h1 : State.Ok Q _) => ?_) (ok_snd e ?_)) | (rename_i e _; with_reducible refine (fun (h1 : State.Ok Q _) => ?_) (ok_thd e ?_)) | (rename_i e _; with_reducible refine (fun (h1 : State.Ok Q _) => ?_) (ok_mid e ?_)) | (rename_i e _; with_reducible refine (fun (h1 : State.Ok Q _) => ?_) (ok_some e ?_)) | skip)
    | intro _

theorem State.setCfgWord_ok (h : s.Ok Q) (a : Bool × Nat) (w v : Nat) (hw : Q.mask &&& 0x6300000000000000000000000000000000000000000000000000000000000000000000000000000000000000000000000000000000000000000000000000000000000000000000000000000000000000000000000000000000000000000000000000000000000000000000000000000000000000000000000000000000000000000 = 0) : (s.setCfgWord a w v).Ok Q := by
  unfold State.setCfgWord
  repeat' first
    | with_reducible assumption
    | with_reducible exact Kit.bit hw (by decide +kernel)
    | with_reducible exact Kit.sub hw (by decide +kernel)
    | with_reducible apply State.dramWrite_ok
    | with_reducible apply State.setBankWord_ok
    | with_reducible rfl
    | with_reducible refine ok_ite (fun _ => ?_) (fun _ => ?_)
    | (intro s1; refine (fun (h1 : State.Ok Q s1) => ?_) ?_; rotate_left; subst s1; rotate_right)
    | (intro (f : _ → _); subst f; dsimp -zeta only)
    | (intro s1; fail_if_success (have : State := s1))
    | lift_lets
    | split
    | intro _

theorem State.setCfgCrc_ok (h : s.Ok Q) (a : Bool × Nat) (hw : Q.mask &&& 0x6300000000000000000000000000000000000000000000000000000000000000000000000000000000000000000000000000000000000000000000000000000000000000000000000000000000000000000000000000000000000000000000000000000000000000000000000000000000000000000000000000000000000000000 = 0) : (s.setCfgCrc a).Ok Q := by
  unfold State.setCfgCrc
  repeat' first
    | with_reducible assumption
    | with_reducible exact Kit.bit hw (by decide +kernel)
    | with_reducible exact Kit.sub hw (by decide +kernel)
    | with_reducible apply State.setCfgWord_ok
    | with_reducible rfl
    | with_reducible refine ok_ite (fun _ => ?_) (fun _ => ?_)
    | (intro s1; refine (fun (h1 : State.Ok Q s1) => ?_) ?_; rotate_left; subst s1; rotate_right)
    | (intro (f : _ → _); subst f; dsimp -zeta only)
    | (intro s1; fail_if_success (have : State := s1))
    | lift_lets
    | split
    | intro _

theorem State.meetTag_ok (h : s.Ok Q) (a : Bool × Nat) (hw : Q.mask &&& 0x100620000000000000000000000000000000000000000000000000000000000000000000000000000000000000000000000000000000000000000000000000000000000000000000000e000000000000000000000000000000000000000000000000000000000000000200000000000000000000000000000000000000000000000000 = 0) : (s.meetTag a).Ok Q := by
  unfold State.meetTag
  repeat' first
    | with_reducible assumption
    | with_reducible exact Kit.bit hw (by decide +kernel)
    | with_reducible exact Kit.sub hw (by decide +kernel)
    | with_reducible apply State.dramError_ok
    | with_reducible apply State.dramMeet_ok
    | with_reducible apply State.eccMeet_ok
    | with_reducible rfl
    | with_reducible refine ok_ite (fun _ => ?_) (fun _ => ?_)
    | (intro s1; refine (fun (h1 : State.Ok Q s1) => ?_) ?_; rotate_left; subst s1; rotate_right)
    | (intro (f : _ → _); subst f; dsimp -zeta only)
    | (intro s1; fail_if_success (have : State := s1))
    | lift_lets
    | split
    | intro _

theorem State.writeTarget_ok (h : s.Ok Q) (a : Bool × Nat) (st : Nat → Bool) (hw : Q.mask &&& 0x100630000000000000000000000000000000000000000000000000000000000000000000000000000000000000000000000000000000000000000000000000000000000000000000000e000000000000000000000000000000000000000000000000000000000000000200000000000000000000000000000000000000000000000000 = 0) : (s.writeTarget a st).Ok Q := by
  unfold State.writeTarget
  repeat' first
    | with_reducible assumption
    | with_reducible exact Kit.bit hw (by decide +kernel)
    | with_reducible exact Kit.sub hw (by decide +kernel)
    | with_reducible apply State.meetTag_ok
    | with_reducible apply State.setCfgWord_ok
    | with_reducible apply State.setCfgCrc_ok
    | with_reducible apply forUpto_ok
    | with_reducible apply foldl_ok
    | with_reducible rfl
    | (intro i1 s1 (h1 : State.Ok Q s1))
    | (intro s1 i1 (h1 : State.Ok Q s1))
    | with_reducible refine ok_ite (fun _ => ?_) (fun _ => ?_)
    | (intro s1; refine (fun (h1 : State.Ok Q s1) => ?_) ?_; rotate_left; subst s1; rotate_right)
    | (intro (f : _ → _); subst f; dsimp -zeta only)
    | (intro s1; fail_if_success (have : State := s1))
    | lift_lets
    | split
    | intro _

theorem State.setRteList_ok (h : s.Ok Q) (l : List (Nat × Nat)) (hw : Q.mask &&& 0xc00000000000000000000000000000000000000000000000000000 = 0) : (s.setRteList l).Ok Q := by
  unfold State.setRteList
  repeat' first
    | with_reducible assumption
    | with_reducible exact Kit.bit hw (by decide +kernel)
    | with_reducible exact Kit.sub hw (by decide +kernel)
    | with_reducible apply State.setReg_ok
    | with_reducible apply forUpto_ok
    | with_reducible rfl
    | (intro i1 s1 (h1 : State.Ok Q s1))
    | (intro s1 i1 (h1 : State.Ok Q s1))
    | with_reducible refine ok_ite (fun _ => ?_) (fun _ => ?_)
    | (intro s1; refine (fun (h1 : State.Ok Q s1) => ?_) ?_; rotate_left; subst s1; rotate_right)
    | (intro (f : _ → _); subst f; dsimp -zeta only)
    | (intro s1; fail_if_success (have : State := s1))
    | lift_lets
    | split
    | intro _

theorem State.rteSolve_ok (h : s.Ok Q) (hw : Q.mask &&& 0x100630000000000000000000000000000000000000000000000000000000000000000000000000000000000000000000000000000000000000000000000000000000000000000000000e000000000000000000000000000000000000000000000000000000000000c00200000000000000000000000000000000000000000000000000 = 0) : (s.rteSolve).2.Ok Q := by
  unfold State.rteSolve
  repeat' first
    | with_reducible assumption
    | with_reducible exact Kit.bit hw (by decide +kernel)
    | with_reducible exact Kit.sub hw (by decide +kernel)
    | with_reducible apply State.writeTarget_ok
    | with_reducible apply State.setRteList_ok
    | with_reducible rfl
    | with_reducible refine ok_ite (fun _ => ?_) (fun _ => ?_)
    | with_reducible refine ok_ite_snd (fun _ => ?_) (fun _ => ?_)
    | (intro s1; refine (fun (h1 : State.Ok Q s1) => ?_) ?_; rotate_left; subst s1; rotate_right)
    | (intro (f : _ → _); subst f; dsimp -zeta only)
    | (intro s1; fail_if_success (have : State := s1))
    | lift_lets
    | (split <;> first | (rename_i e; with_reducible refine (fun (h1 : State.Ok Q _) => ?_) (ok_snd e ?_)) | (rename_i e; with_reducible refine (fun (h1 : State.Ok Q _) => ?_) (ok_thd e ?_)) | (rename_i e; with_reducible refine (fun (h1 : State.Ok Q _) => ?_) (ok_mid e ?_)) | (rename_i e; with_reducible refine (fun (h1 : State.Ok Q _) => ?_) (ok_some e ?_)) | (rename_i e _; with_reducible refine (fun (h1 : State.Ok Q _) => ?_) (ok_snd e ?_)) | (rename_i e _; with_reducible refine (fun (h1 : State.Ok Q _) => ?_) (ok_thd e ?_)) | (rename_i e _; with_reducible refine (fun (h1 : State.Ok Q _) => ?_) (ok_mid e ?_)) | (rename_i e _; with_reducible refine (fun (h1 : State.Ok Q _) => ?_) (ok_some e ?_)) | skip)
    | intro _

theorem State.rteFinish_ok (h : s.Ok Q) (src tgt : Bool × Nat) (ports : List Nat) (held : List (Nat × Bool)) (hw : Q.mask &&& 0x100630000000000000000000000000000000000000000000000000000000000000000000000000000000000000000000000000000000000000000000000000000000000000000000000e000000000000000000000000000000000000000000000000000000000000000200000000000000000000000000000000000000000000000000 = 0) : (s.rteFinish src tgt ports held).Ok Q := by
  unfold State.rteFinish
  repeat' first
    | with_reducible assumption
    | with_reducible exact Kit.bit hw (by decide +kernel)
    | with_reducible exact Kit.sub hw (by decide +kernel)
    | with_reducible apply State.writeTarget_ok
    | with_reducible rfl
    | with_reducible refine ok_ite (fun _ => ?_) (fun _ => ?_)
    | (intro s1; refine (fun (h1 : State.Ok Q s1) => ?_) ?_; rotate_left; subst s1; rotate_right)
    | (intro (f : _ → _); subst f; dsimp -zeta only)
    | (intro s1; fail_if_success (have : State := s1))
    | lift_lets
    | split
    | intro _

theorem State.rteAdd_ok (h : s.Ok Q) (hw : Q.mask &&& 0x100630000000000000000000000000000000000000000000000000000000000000000000000000000000000000000000000000000000000000000000000000000000000000000000000e000000000000000000000000000000000000000000000000000000000000c00200000000000000000000000000000000000000000000000000 = 0) : (s.rteAdd).2.Ok Q := by
  unfold State.rteAdd
  have done {s : State} (h : s.Ok Q) (l : List (Nat × Nat)) : (s.setRteList l).Ok Q :=
    State.setRteList_ok h l (Kit.sub hw (by decide +kernel))
  extract_lets a new src tgt live
  refine ok_ite_snd (fun _ => h) (fun _ => ?_)
  lift_lets
  rename_i tb at_ seed old forced free lost kept must ports direct _
  clear_value direct ports must kept lost free forced old seed at_ tb live tgt src new a
  split
  · exact done (State.rteFinish_ok h _ _ _ _ (Kit.sub hw (by decide +kernel))) _
  · split
    · extract_lets s1
      have e : s1.Ok Q := State.rteFinish_ok h _ _ _ _ (Kit.sub hw (by decide +kernel))
      exact ok_ite_snd (fun _ => done e _) (fun _ => done e _)
    · exact done h _

theorem State.rteDrop_ok (h : s.Ok Q) (hw : Q.mask &&& 0x100630000000000000000000000000000000000000000000000000000000000000000000000000000000000000000000000000000000000000000000000000000000000000000000000e000000000000000000000000000000000000000000000000000000000000000200000000000000000000000000000000000000000000000000 = 0) : (s.rteDrop).Ok Q := by
  unfold State.rteDrop
  repeat' first
    | with_reducible assumption
    | with_reducible exact Kit.bit hw (by decide +kernel)
    | with_reducible exact Kit.sub hw (by decide +kernel)
    | with_reducible apply State.rteFinish_ok
    | with_reducible rfl
    | with_reducible refine ok_ite (fun _ => ?_) (fun _ => ?_)
    | (intro s1; refine (fun (h1 : State.Ok Q s1) => ?_) ?_; rotate_left; subst s1; rotate_right)
    | (intro (f : _ → _); subst f; dsimp -zeta only)
    | (intro s1; fail_if_success (have : State := s1))
    | lift_lets
    | split
    | intro _

theorem State.readTarget_ok (h : s.Ok Q) (a : Bool × Nat) (hw : Q.mask &&& 0x100620000000000000000000000000000000000000000000000000000000000000000000000000000000000000000000000000000000000000000000000000000000000000000000000e000000000000000000000000000000000000000000000000000000000000000200000000000000000000000000000000000000000000000000 = 0) : (s.readTarget a).2.Ok Q := by
  unfold State.readTarget
  repeat' first
    | with_reducible assumption
    | with_reducible exact Kit.bit hw (by decide +kernel)
    | with_reducible exact Kit.sub hw (by decide +kernel)
    | with_reducible apply State.dramError_ok
    | with_reducible apply State.dramMeet_ok
    | with_reducible apply State.eccMeetBank_ok
    | with_reducible rfl
    | with_reducible refine ok_ite (fun _ => ?_) (fun _ => ?_)
    | with_reducible refine ok_ite_snd (fun _ => ?_) (fun _ => ?_)
    | (intro s1; refine (fun (h1 : State.Ok Q s1) => ?_) ?_; rotate_left; subst s1; rotate_right)
    | (intro (f : _ → _); subst f; dsimp -zeta only)
    | (intro s1; fail_if_success (have : State := s1))
    | lift_lets
    | (split <;> first | (rename_i e; with_reducible refine (fun (h1 : State.Ok Q _) => ?_) (ok_snd e ?_)) | (rename_i e; with_reducible refine (fun (h1 : State.Ok Q _) => ?_) (ok_thd e ?_)) | (rename_i e; with_reducible refine (fun (h1 : State.Ok Q _) => ?_) (ok_mid e ?_)) | (rename_i e; with_reducible refine (fun (h1 : State.Ok Q _) => ?_) (ok_some e ?_)) | (rename_i e _; with_reducible refine (fun (h1 : State.Ok Q _) => ?_) (ok_snd e ?_)) | (rename_i e _; with_reducible refine (fun (h1 : State.Ok Q _) => ?_) (ok_thd e ?_)) | (rename_i e _; with_reducible refine (fun (h1 : State.Ok Q _) => ?_) (ok_mid e ?_)) | (rename_i e _; with_reducible refine (fun (h1 : State.Ok Q _) => ?_) (ok_some e ?_)) | skip)
    | intro _

theorem State.rteShutmask_ok (h : s.Ok Q) (hw : Q.mask &&& 0x100630000000000000000000000000000000000000000000000000000000000000000000000000000000000000000000000000000000000000000000000000000000000000000000000e000000000000000000000000000000000000000000000000000000000000000200000000000000000000000000000000000000000000000000 = 0) : (s.rteShutmask).2.Ok Q := by
  unfold State.rteShutmask
  repeat' first
    | with_reducible assumption
    | with_reducible exact Kit.bit hw (by decide +kernel)
    | with_reducible exact Kit.sub hw (by decide +kernel)
    | with_reducible apply State.readTarget_ok
    | with_reducible apply State.writeTarget_ok
    | with_reducible apply State.setCfgWord_ok
    | with_reducible apply State.setCfgCrc_ok
    | with_reducible apply forUpto_ok
    | with_reducible apply foldl_ok
    | with_reducible rfl
    | (intro i1 s1 (h1 : State.Ok Q s1))
    | (intro s1 i1 (h1 : State.Ok Q s1))
    | with_reducible refine ok_ite (fun _ => ?_) (fun _ => ?_)
    | with_reducible refine ok_ite_snd (fun _ => ?_) (fun _ => ?_)
    | (intro s1; refine (fun (h1 : State.Ok Q s1) => ?_) ?_; rotate_left; subst s1; rotate_right)
    | (intro (f : _ → _); subst f; dsimp -zeta only)
    | (intro s1; fail_if_success (have : State := s1))
    | lift_lets
    | (split <;> first | (rename_i e; with_reducible refine (fun (h1 : State.Ok Q _) => ?_) (ok_snd e ?_)) | (rename_i e; with_reducible refine (fun (h1 : State.Ok Q _) => ?_) (ok_thd e ?_)) | (rename_i e; with_reducible refine (fun (h1 : State.Ok Q _) => ?_) (ok_mid e ?_)) | (rename_i e; with_reducible refine (fun (h1 : State.Ok Q _) => ?_) (ok_some e ?_)) | (rename_i e _; with_reducible refine (fun (h1 : State.Ok Q _) => ?_) (ok_snd e ?_)) | (rename_i e _; with_reducible refine (fun (h1 : State.Ok Q _) => ?_) (ok_thd e ?_)) | (rename_i e _; with_reducible refine (fun (h1 : State.Ok Q _) => ?_) (ok_mid e ?_)) | (rename_i e _; with_reducible refine (fun (h1 : State.Ok Q _) => ?_) (ok_some e ?_)) | skip)
    | intro _

theorem State.rteTrace_ok (h : s.Ok Q) (hw : Q.mask &&& 0x200000000000000000000000000000000000000000000000000000 = 0) : (s.rteTrace).Ok Q := by
  unfold State.rteTrace
  repeat' first
    | with_reducible assumption
    | with_reducible exact Kit.bit hw (by decide +kernel)
    | with_reducible exact Kit.sub hw (by decide +kernel)
    | with_reducible apply State.setReg_ok
    | with_reducible rfl
    | with_reducible refine ok_ite (fun _ => ?_) (fun _ => ?_)
    | (intro s1; refine (fun (h1 : State.Ok Q s1) => ?_) ?_; rotate_left; subst s1; rotate_right)
    | (intro (f : _ → _); subst f; dsimp -zeta only)
    | (intro s1; fail_if_success (have : State := s1))
    | lift_lets
    | split
    | intro _

theorem State.rteExtract_ok (h : s.Ok Q) (hw : Q.mask &&& 0x2000000000000000000000000000000000000000000000000000000 = 0) : (s.rteExtract).Ok Q := by
  unfold State.rteExtract
  repeat' first
    | with_reducible assumption
    | with_reducible exact Kit.bit hw (by decide +kernel)
    | with_reducible exact Kit.sub hw (by decide +kernel)
    | with_reducible apply State.setReg_ok
    | with_reducible apply forUpto_ok
    | with_reducible rfl
    | (intro i1 s1 (h1 : State.Ok Q s1))
    | (intro s1 i1 (h1 : State.Ok Q s1))
    | with_reducible refine ok_ite (fun _ => ?_) (fun _ => ?_)
    | (intro s1; refine (fun (h1 : State.Ok Q s1) => ?_) ?_; rotate_left; subst s1; rotate_right)
    | (intro (f : _ → _); subst f; dsimp -zeta only)
    | (intro s1; fail_if_success (have : State := s1))
    | lift_lets
    | split
    | intro _

theorem State.markCell_ok (h : s.Ok Q) (c : Nat) (hw : Q.mask &&& 0x1000000000000000000000000000000000000000000000000000000 = 0) : (s.markCell c).Ok Q := by
  unfold State.markCell
  repeat' first
    | with_reducible assumption
    | with_reducible exact Kit.bit hw (by decide +kernel)
    | with_reducible exact Kit.sub hw (by decide +kernel)
    | with_reducible apply State.setMapBit_ok
    | with_reducible rfl
    | with_reducible refine ok_ite (fun _ => ?_) (fun _ => ?_)
    | (intro s1; refine (fun (h1 : State.Ok Q s1) => ?_) ?_; rotate_left; subst s1; rotate_right)
    | (intro (f : _ → _); subst f; dsimp -zeta only)
    | (intro s1; fail_if_success (have : State := s1))
    | lift_lets
    | split
    | intro _

theorem State.rteRun_ok (h : s.Ok Q) (op : Nat) (hw : Q.mask &&& 0x100630000000000000000000000000000000000000000000000000000000000000000000000000000000000000000000000000000000000000000000000000000000000000000000000e000000000000000000000000000000000000000000000000000000000003e00200000000000000000000000000000000000000000000000000 = 0) : (s.rteRun op).2.Ok Q := by
  unfold State.rteRun
  repeat' first
    | with_reducible assumption
    | with_reducible exact Kit.bit hw (by decide +kernel)
    | with_reducible exact Kit.sub hw (by decide +kernel)
    | with_reducible apply State.rteSolve_ok
    | with_reducible apply State.rteAdd_ok
    | with_reducible apply State.rteDrop_ok
    | with_reducible apply State.rteShutmask_ok
    | with_reducible apply State.rteTrace_ok
    | with_reducible apply State.rteExtract_ok
    | with_reducible apply State.markCell_ok
    | with_reducible rfl
    | with_reducible refine ok_ite (fun _ => ?_) (fun _ => ?_)
    | with_reducible refine ok_ite_snd (fun _ => ?_) (fun _ => ?_)
    | (intro s1; refine (fun (h1 : State.Ok Q s1) => ?_) ?_; rotate_left; subst s1; rotate_right)
    | (intro (f : _ → _); subst f; dsimp -zeta only)
    | (intro s1; fail_if_success (have : State := s1))
    | lift_lets
    | (split <;> first | (rename_i e; with_reducible refine (fun (h1 : State.Ok Q _) => ?_) (ok_snd e ?_)) | (rename_i e; with_reducible refine (fun (h1 : State.Ok Q _) => ?_) (ok_thd e ?_)) | (rename_i e; with_reducible refine (fun (h1 : State.Ok Q _) => ?_) (ok_mid e ?_)) | (rename_i e; with_reducible refine (fun (h1 : State.Ok Q _) => ?_) (ok_some e ?_)) | (rename_i e _; with_reducible refine (fun (h1 : State.Ok Q _) => ?_) (ok_snd e ?_)) | (rename_i e _; with_reducible refine (fun (h1 : State.Ok Q _) => ?_) (ok_thd e ?_)) | (rename_i e _; with_reducible refine (fun (h1 : State.Ok Q _) => ?_) (ok_mid e ?_)) | (rename_i e _; with_reducible refine (fun (h1 : State.Ok Q _) => ?_) (ok_some e ?_)) | skip)
    | intro _

theorem State.rteDone_ok (h : s.Ok Q) (cycles : Nat) (hw : Q.mask &&& 0x100630000000000000000000000000000000000000000000000000000000000000000000000000000000000000000000030000000000000000000000000000000000000000000000000e000000000000000000000000000000000000000000000000000000000003f80200000000000000000000000000000000000000000000000000 = 0) : (s.rteDone cycles).Ok Q := by
  unfold State.rteDone
  repeat' first
    | with_reducible assumption
    | with_reducible exact Kit.bit hw (by decide +kernel)
    | with_reducible exact Kit.sub hw (by decide +kernel)
    | with_reducible apply State.checkCfg_ok
    | with_reducible apply State.rteRun_ok
    | with_reducible apply State.setLat_ok
    | with_reducible apply State.setReg_ok
    | with_reducible rfl
    | with_reducible refine ok_ite (fun _ => ?_) (fun _ => ?_)
    | (intro s1; refine (fun (h1 : State.Ok Q s1) => ?_) ?_; rotate_left; subst s1; rotate_right)
    | (intro (f : _ → _); subst f; dsimp -zeta only)
    | (intro s1; fail_if_success (have : State := s1))
    | lift_lets
    | (split <;> first | (rename_i e; with_reducible refine (fun (h1 : State.Ok Q _) => ?_) (ok_snd e ?_)) | (rename_i e; with_reducible refine (fun (h1 : State.Ok Q _) => ?_) (ok_thd e ?_)) | (rename_i e; with_reducible refine (fun (h1 : State.Ok Q _) => ?_) (ok_mid e ?_)) | (rename_i e; with_reducible refine (fun (h1 : State.Ok Q _) => ?_) (ok_some e ?_)) | (rename_i e _; with_reducible refine (fun (h1 : State.Ok Q _) => ?_) (ok_snd e ?_)) | (rename_i e _; with_reducible refine (fun (h1 : State.Ok Q _) => ?_) (ok_thd e ?_)) | (rename_i e _; with_reducible refine (fun (h1 : State.Ok Q _) => ?_) (ok_mid e ?_)) | (rename_i e _; with_reducible refine (fun (h1 : State.Ok Q _) => ?_) (ok_some e ?_)) | skip)
    | intro _

end Sys2Proof.Machine
end

