-- ==== Sys2Proof/Laws/KeepCal.lean ====
section
/-! SUPPORT. The operations of Machine/Cal.lean keep soundness and the queue. -/
set_option Elab.async false
namespace Sys2Proof.Machine

variable {Q : Kit} {s : State}

theorem State.setCalState_ok (h : s.Ok Q) (v : Nat) (hw : Q.mask &&& 0x10000000000000000000000000000000000000000000000000000000000000000000000000000000000000 = 0) : (s.setCalState v).Ok Q := by
  unfold State.setCalState
  repeat' first
    | with_reducible assumption
    | with_reducible exact Kit.bit hw (by decide +kernel)
    | with_reducible exact Kit.sub hw (by decide +kernel)
    | with_reducible apply State.setFld_ok
    | with_reducible rfl
    | with_reducible refine ok_ite (fun _ => ?_) (fun _ => ?_)
    | (intro s1; refine (fun (h1 : State.Ok Q s1) => ?_) ?_; rotate_left; subst s1; rotate_right)
    | (intro (f : _ → _); subst f; dsimp -zeta only)
    | (intro s1; fail_if_success (have : State := s1))
    | lift_lets
    | split
    | intro _

theorem State.calVisit_ok (h : s.Ok Q) (t : Nat) (hw : Q.mask &&& 0x100000000000000000000000000000000000000000000000000000000000000000000000000000000000000000407000000000000000000000000000000000080470000000000000000000000000000000000000000000020000000000000000000000000000000000000000000000002000000000000000000000000000080000000000 = 0) : (s.calVisit t).Ok Q := by
  unfold State.calVisit
  repeat' first
    | with_reducible assumption
    | with_reducible exact Kit.bit hw (by decide +kernel)
    | with_reducible exact Kit.sub hw (by decide +kernel)
    | with_reducible apply State.trimDiscard_ok
    | with_reducible apply State.setTreg_ok
    | with_reducible apply State.setLat_ok
    | with_reducible apply State.calEntryOff_ok
    | with_reducible apply forUpto_ok
    | with_reducible rfl
    | (intro i1 s1 (h1 : State.Ok Q s1))
    | (intro s1 i1 (h1 : State.Ok Q s1))
    | with_reducible refine ok_ite (fun _ => ?_) (fun _ => ?_)
    | (intro s1; refine (fun (h1 : State.Ok Q s1) => ?_) ?_; rotate_left; subst s1; rotate_right)
    | (intro (f : _ → _); subst f; dsimp -zeta only)
    | (intro s1; fail_if_success (have : State := s1))
    | lift_lets
    | split
    | intro _

theorem State.calGroup_ok (h : s.Ok Q) (n : Nat) (hw : Q.mask &&& 0x1000000000000000000000000000000000000000000000000000000000000000000000000000000000000000004079000000000000000000000000000000000804700000000000000000000000000000000000000000000b0010000000000000000000000000000000000000000000002000000000000000000000000000080400000000 = 0) : (State.calGroup n s).Ok Q := by
  induction n generalizing s with
  | zero => exact h
  | succ n ih =>
    unfold State.calGroup
    repeat' first
      | with_reducible assumption
      | with_reducible apply ih
      | with_reducible exact Kit.bit hw (by decide +kernel)
      | with_reducible exact Kit.sub hw (by decide +kernel)
      | with_reducible apply State.setCalState_ok
      | with_reducible apply State.setLat_ok
      | with_reducible apply State.calSkip_ok
      | with_reducible apply State.calVisit_ok
      | with_reducible apply State.calGroup_ok
      | with_reducible apply forIn'_ok
      | with_reducible rfl
      | (intro i1 s1 (h1 : State.Ok Q s1))
      | (intro s1 i1 (h1 : State.Ok Q s1))
      | with_reducible refine ok_ite (fun _ => ?_) (fun _ => ?_)
      | (intro s1; refine (fun (h1 : State.Ok Q s1) => ?_) ?_; rotate_left; subst s1; rotate_right)
      | (intro (f : _ → _); subst f; dsimp -zeta only)
      | (intro s1; fail_if_success (have : State := s1))
      | lift_lets
      | split
      | intro _
  

theorem State.calGroupDone_ok (h : s.Ok Q) (hw : Q.mask &&& 0x1000000000000000000000000000000000000000000000000000000000000000000000000000000000000000004079000000000000000000000000000000000804700000000000000000000000000000000000000000000b0010000000000000000000000000000000000000000000002000000000000000000000000000080400000000 = 0) : (s.calGroupDone).Ok Q := by
  unfold State.calGroupDone
  repeat' first
    | with_reducible assumption
    | with_reducible exact Kit.bit hw (by decide +kernel)
    | with_reducible exact Kit.sub hw (by decide +kernel)
    | with_reducible apply State.calGroup_ok
    | with_reducible rfl
    | with_reducible refine ok_ite (fun _ => ?_) (fun _ => ?_)
    | (intro s1; refine (fun (h1 : State.Ok Q s1) => ?_) ?_; rotate_left; subst s1; rotate_right)
    | (intro (f : _ → _); subst f; dsimp -zeta only)
    | (intro s1; fail_if_success (have : State := s1))
    | lift_lets
    | split
    | intro _

theorem State.calRun_ok (h : s.Ok Q) (cmd : Bool) (hop : Nat) (hw : Q.mask &&& 0x105000000000000000000000000000000000000000000000000000000000000000000000000000000000000000407b000000000000000000000000000000000804700000000000000000000000001200000000000000000b8410000000000000000000000000000000000000000000002000000000000000000000000000080400000000 = 0) : (s.calRun cmd hop).Ok Q := by
  unfold State.calRun
  repeat' first
    | with_reducible assumption
    | with_reducible exact Kit.bit hw (by decide +kernel)
    | with_reducible exact Kit.sub hw (by decide +kernel)
    | with_reducible apply State.setCalState_ok
    | with_reducible apply State.setRbit_ok
    | with_reducible apply State.setFld_ok
    | with_reducible apply State.setReg_ok
    | with_reducible apply State.setLat_ok
    | with_reducible apply State.publishFor_ok
    | with_reducible apply State.calGroup_ok
    | with_reducible apply forUpto_ok
    | with_reducible rfl
    | (intro i1 s1 (h1 : State.Ok Q s1))
    | (intro s1 i1 (h1 : State.Ok Q s1))
    | with_reducible refine ok_ite (fun _ => ?_) (fun _ => ?_)
    | (intro s1; refine (fun (h1 : State.Ok Q s1) => ?_) ?_; rotate_left; subst s1; rotate_right)
    | (intro (f : _ → _); subst f; dsimp -zeta only)
    | (intro s1; fail_if_success (have : State := s1))
    | lift_lets
    | split
    | intro _

theorem State.calEnd_ok (h : s.Ok Q) (hw : Q.mask &&& 0x5000000000000000000000000000000000000000000000000000000000000000000000000000000000000000000400000000000000000000000000000000000000000000000000000000000000120000000000000000000010000000000000000000000000000000000000000000000000000000000000000000000000000000000000 = 0) : (s.calEnd).Ok Q := by
  unfold State.calEnd
  repeat' first
    | with_reducible assumption
    | with_reducible exact Kit.bit hw (by decide +kernel)
    | with_reducible exact Kit.sub hw (by decide +kernel)
    | with_reducible apply State.setCalState_ok
    | with_reducible apply State.setLat_ok
    | with_reducible apply State.publishFor_ok
    | with_reducible rfl
    | with_reducible refine ok_ite (fun _ => ?_) (fun _ => ?_)
    | (intro s1; refine (fun (h1 : State.Ok Q s1) => ?_) ?_; rotate_left; subst s1; rotate_right)
    | (intro (f : _ → _); subst f; dsimp -zeta only)
    | (intro s1; fail_if_success (have : State := s1))
    | lift_lets
    | split
    | intro _

theorem State.calAbandon_ok (h : s.Ok Q) (hw : Q.mask &&& 0x50000000000000000000000000000000000000000000000000000000000000000000000000000000000000204004000000000000000000000000000000000000000000000000000000000000001200000000000000000a0010000000000000000000000000000000000000000000002000000000000000000000000000000400000000 = 0) : (s.calAbandon).Ok Q := by
  unfold State.calAbandon
  repeat' first
    | with_reducible assumption
    | with_reducible exact Kit.bit hw (by decide +kernel)
    | with_reducible exact Kit.sub hw (by decide +kernel)
    | with_reducible apply State.setCalStage_ok
    | with_reducible apply State.calEntryOff_ok
    | with_reducible apply State.calDiscard_ok
    | with_reducible apply State.setRbit_ok
    | with_reducible apply State.send_ok
    | with_reducible apply State.setLat_ok
    | with_reducible apply State.calEnd_ok
    | with_reducible apply forIn'_ok
    | with_reducible rfl
    | (intro i1 s1 (h1 : State.Ok Q s1))
    | (intro s1 i1 (h1 : State.Ok Q s1))
    | with_reducible refine ok_ite (fun _ => ?_) (fun _ => ?_)
    | (intro s1; refine (fun (h1 : State.Ok Q s1) => ?_) ?_; rotate_left; subst s1; rotate_right)
    | (intro (f : _ → _); subst f; dsimp -zeta only)
    | (intro s1; fail_if_success (have : State := s1))
    | lift_lets
    | split
    | intro _

theorem State.calClearPending_ok (h : s.Ok Q) (hw : Q.mask &&& 0x10000000000000000000000000000000000000000000000000000000000000000000000000000000000000 = 0) : (s.calClearPending).Ok Q := by
  unfold State.calClearPending
  repeat' first
    | with_reducible assumption
    | with_reducible exact Kit.bit hw (by decide +kernel)
    | with_reducible exact Kit.sub hw (by decide +kernel)
    | with_reducible apply State.setCalState_ok
    | with_reducible apply State.setRbit_ok
    | with_reducible rfl
    | with_reducible refine ok_ite (fun _ => ?_) (fun _ => ?_)
    | (intro s1; refine (fun (h1 : State.Ok Q s1) => ?_) ?_; rotate_left; subst s1; rotate_right)
    | (intro (f : _ → _); subst f; dsimp -zeta only)
    | (intro s1; fail_if_success (have : State := s1))
    | lift_lets
    | split
    | intro _

theorem State.calStart_ok (h : s.Ok Q) (hop : Nat) (hw : Q.mask &&& 0x105000000000000000000000000000000000000000000000000000000000000000000000000000000000000000407b000000000000000000000000000000000804700000000000000000200020001200004004020000008b8410001000040800400002000000000008000200000800002000810010000000010000008800080400800800 = 0) : (s.calStart hop).Ok Q := by
  unfold State.calStart
  repeat' first
    | with_reducible assumption
    | with_reducible exact Kit.bit hw (by decide +kernel)
    | with_reducible exact Kit.sub hw (by decide +kernel)
    | with_reducible apply State.calRun_ok
    | with_reducible apply State.refuse_ok
    | with_reducible rfl
    | with_reducible refine ok_ite (fun _ => ?_) (fun _ => ?_)
    | (intro s1; refine (fun (h1 : State.Ok Q s1) => ?_) ?_; rotate_left; subst s1; rotate_right)
    | (intro (f : _ → _); subst f; dsimp -zeta only)
    | (intro s1; fail_if_success (have : State := s1))
    | lift_lets
    | split
    | intro _

theorem State.calAbort_ok (h : s.Ok Q) (hw : Q.mask &&& 0x50000000000000000000000000000000000000000000000000000000000000000000000000000000000000204004000000000000000000000000000000000000000000000000000000000000001200000000000000000a0010000000000000000000000000000000000000000000002000000000000000000000000000000400000000 = 0) : (s.calAbort).Ok Q := by
  unfold State.calAbort
  repeat' first
    | with_reducible assumption
    | with_reducible exact Kit.bit hw (by decide +kernel)
    | with_reducible exact Kit.sub hw (by decide +kernel)
    | with_reducible apply State.calClearPending_ok
    | with_reducible apply State.calAbandon_ok
    | with_reducible rfl
    | with_reducible refine ok_ite (fun _ => ?_) (fun _ => ?_)
    | (intro s1; refine (fun (h1 : State.Ok Q s1) => ?_) ?_; rotate_left; subst s1; rotate_right)
    | (intro (f : _ → _); subst f; dsimp -zeta only)
    | (intro s1; fail_if_success (have : State := s1))
    | lift_lets
    | split
    | intro _

theorem State.calCmdWrite_ok (h : s.Ok Q) (w : Nat) (hw : Q.mask &&& 0x105000000000000000000000000000000000000000000000000000000000000000000000000000000000000020407f000000000000000000000000000000000804700000000000000000200020001200004004020000008b8410001000040800400002000000000008000200000800002000810010000000010000008800080400800800 = 0) : (s.calCmdWrite w).Ok Q := by
  unfold State.calCmdWrite
  repeat' first
    | with_reducible assumption
    | with_reducible exact Kit.bit hw (by decide +kernel)
    | with_reducible exact Kit.sub hw (by decide +kernel)
    | with_reducible apply State.calStart_ok
    | with_reducible apply State.calAbort_ok
    | with_reducible apply State.refuse_ok
    | with_reducible rfl
    | with_reducible refine ok_ite (fun _ => ?_) (fun _ => ?_)
    | (intro s1; refine (fun (h1 : State.Ok Q s1) => ?_) ?_; rotate_left; subst s1; rotate_right)
    | (intro (f : _ → _); subst f; dsimp -zeta only)
    | (intro s1; fail_if_success (have : State := s1))
    | lift_lets
    | split
    | intro _

theorem State.calMeasure_ok (h : s.Ok Q) (t : Nat) (hw : Q.mask &&& 0x3f90000000000000000000000000000000000000000000000000000000000000000000000000000000000a0000000000000000000000000000000000000000000000000000000000000000000000000000000400000000 = 0) : (s.calMeasure t).Ok Q := by
  unfold State.calMeasure
  repeat' first
    | with_reducible assumption
    | with_reducible exact Kit.bit hw (by decide +kernel)
    | with_reducible exact Kit.sub hw (by decide +kernel)
    | with_reducible apply State.setCalStage_ok
    | with_reducible apply State.setLat_ok
    | with_reducible apply State.calDiscard_ok
    | with_reducible apply State.setFlag_ok
    | with_reducible apply forUpto_ok
    | with_reducible rfl
    | (intro i1 s1 (h1 : State.Ok Q s1))
    | (intro s1 i1 (h1 : State.Ok Q s1))
    | with_reducible refine ok_ite (fun _ => ?_) (fun _ => ?_)
    | (intro s1; refine (fun (h1 : State.Ok Q s1) => ?_) ?_; rotate_left; subst s1; rotate_right)
    | (intro (f : _ → _); subst f; dsimp -zeta only)
    | (intro s1; fail_if_success (have : State := s1))
    | lift_lets
    | split
    | intro _

theorem State.calRecentre_ok (h : s.Ok Q) (t : Nat) (hw : Q.mask &&& 0x10060000000000000000000000000000000000000000000000000000000000000000000000000000000000003fd00000000000000000000000000000000000040000000000000000000e0000000000000000000000000a0000000000000000000000000000000000000000000000000000000000000000000000000004000400000000 = 0) : (s.calRecentre t).Ok Q := by
  unfold State.calRecentre
  repeat' first
    | with_reducible assumption
    | with_reducible exact Kit.bit hw (by decide +kernel)
    | with_reducible exact Kit.sub hw (by decide +kernel)
    | with_reducible apply State.setLat_ok
    | with_reducible apply State.calMeasure_ok
    | with_reducible apply State.ledgerCheck_ok
    | with_reducible apply forUpto_ok
    | with_reducible rfl
    | (intro i1 s1 (h1 : State.Ok Q s1))
    | (intro s1 i1 (h1 : State.Ok Q s1))
    | with_reducible refine ok_ite (fun _ => ?_) (fun _ => ?_)
    | (intro s1; refine (fun (h1 : State.Ok Q s1) => ?_) ?_; rotate_left; subst s1; rotate_right)
    | (intro (f : _ → _); subst f; dsimp -zeta only)
    | (intro s1; fail_if_success (have : State := s1))
    | lift_lets
    | split
    | intro _

theorem State.calCheckDone_ok (h : s.Ok Q) (t : Nat) (hw : Q.mask &&& 0x400000000000000000000000000000000000000000000000000000000000000000000000000000000000000000000000000000000000000000000000000000000000000000000000000000000000000000000000000000 = 0) : (s.calCheckDone t).Ok Q := by
  unfold State.calCheckDone
  repeat' first
    | with_reducible assumption
    | with_reducible exact Kit.bit hw (by decide +kernel)
    | with_reducible exact Kit.sub hw (by decide +kernel)
    | with_reducible apply State.setLat_ok
    | with_reducible rfl
    | with_reducible refine ok_ite (fun _ => ?_) (fun _ => ?_)
    | (intro s1; refine (fun (h1 : State.Ok Q s1) => ?_) ?_; rotate_left; subst s1; rotate_right)
    | (intro (f : _ → _); subst f; dsimp -zeta only)
    | (intro s1; fail_if_success (have : State := s1))
    | lift_lets
    | split
    | intro _

theorem State.calCompare_ok (h : s.Ok Q) (t k n1 : Nat) (hw : Q.mask &&& 0x10000000000000000000000000000000000000000000000000000000000000000000000000000000000000004180000000000000000000000000000000000000000000000000000000000000000000000000000000000a0000000000000000000000000000000000000000000000000000000000000000000000000000000000000000 = 0) : (s.calCompare t k n1).Ok Q := by
  unfold State.calCompare
  repeat' first
    | with_reducible assumption
    | with_reducible exact Kit.bit hw (by decide +kernel)
    | with_reducible exact Kit.sub hw (by decide +kernel)
    | with_reducible apply State.setLat_ok
    | with_reducible apply State.setFlag_ok
    | with_reducible apply State.calCheckDone_ok
    | with_reducible apply State.setTreg_ok
    | with_reducible apply State.setTbit_ok
    | with_reducible apply State.send_ok
    | with_reducible rfl
    | with_reducible refine ok_ite (fun _ => ?_) (fun _ => ?_)
    | (intro s1; refine (fun (h1 : State.Ok Q s1) => ?_) ?_; rotate_left; subst s1; rotate_right)
    | (intro (f : _ → _); subst f; dsimp -zeta only)
    | (intro s1; fail_if_success (have : State := s1))
    | lift_lets
    | split
    | intro _

theorem State.skewFail_ok (h : s.Ok Q) (t k : Nat) (hw : Q.mask &&& 0x1000000000000000000000000000000000000000000000000000000000000000000000000000000000000000200000000000000000000000000000000000000000000000000000000000000000000000000000000000020000000000000000000000000000000000000000000000000000000000000000000000000000000400000000 = 0) : (s.skewFail t k).Ok Q := by
  unfold State.skewFail
  repeat' first
    | with_reducible assumption
    | with_reducible exact Kit.bit hw (by decide +kernel)
    | with_reducible exact Kit.sub hw (by decide +kernel)
    | with_reducible apply State.setTreg_ok
    | with_reducible apply State.setTbit_ok
    | with_reducible apply State.send_ok
    | with_reducible apply State.setFlag_ok
    | with_reducible rfl
    | with_reducible refine ok_ite (fun _ => ?_) (fun _ => ?_)
    | (intro s1; refine (fun (h1 : State.Ok Q s1) => ?_) ?_; rotate_left; subst s1; rotate_right)
    | (intro (f : _ → _); subst f; dsimp -zeta only)
    | (intro s1; fail_if_success (have : State := s1))
    | lift_lets
    | split
    | intro _

theorem State.skewMove_ok (h : s.Ok Q) (t k : Nat) (up : Bool) (hw : Q.mask &&& 0x1000000000000000000000000000000000000000000000000000000000000000000000000000000000000000240000000000000000000000000000000000000000000000000000000000000000000000000000000000020000000000000000000000000000000000000000000000000000000000000000000000000000000400000000 = 0) : (s.skewMove t k up).Ok Q := by
  unfold State.skewMove
  repeat' first
    | with_reducible assumption
    | with_reducible exact Kit.bit hw (by decide +kernel)
    | with_reducible exact Kit.sub hw (by decide +kernel)
    | with_reducible apply State.skewFail_ok
    | with_reducible apply State.setLat_ok
    | with_reducible apply State.setTreg_ok
    | with_reducible rfl
    | with_reducible refine ok_ite (fun _ => ?_) (fun _ => ?_)
    | (intro s1; refine (fun (h1 : State.Ok Q s1) => ?_) ?_; rotate_left; subst s1; rotate_right)
    | (intro (f : _ → _); subst f; dsimp -zeta only)
    | (intro s1; fail_if_success (have : State := s1))
    | lift_lets
    | split
    | intro _

theorem State.skewVote_ok (h : s.Ok Q) (t k : Nat) (late : Bool) (hw : Q.mask &&& 0x1000000000000000000000000000000000000000000000000000000000000000000000000000000000000000260000000000000000000000000000000000000000000000000000000000000000000000000000000000020000000000000000000000000000000000000000000000000000000000000000000000000000000400000000 = 0) : (s.skewVote t k late).Ok Q := by
  unfold State.skewVote
  repeat' first
    | with_reducible assumption
    | with_reducible exact Kit.bit hw (by decide +kernel)
    | with_reducible exact Kit.sub hw (by decide +kernel)
    | with_reducible apply State.setLat_ok
    | with_reducible apply State.skewMove_ok
    | with_reducible apply State.skewFail_ok
    | with_reducible apply State.setTreg_ok
    | with_reducible apply State.setFlag_ok
    | with_reducible rfl
    | with_reducible refine ok_ite (fun _ => ?_) (fun _ => ?_)
    | (intro s1; refine (fun (h1 : State.Ok Q s1) => ?_) ?_; rotate_left; subst s1; rotate_right)
    | (intro (f : _ → _); subst f; dsimp -zeta only)
    | (intro s1; fail_if_success (have : State := s1))
    | lift_lets
    | split
    | intro _

theorem State.skewProbe_ok (h : s.Ok Q) (t k : Nat) (late : Bool) (hw : Q.mask &&& 0x10000000000000000000000000000000000000000000000000000000000000000000000000000000000000007e0000000000000000000000000000000000000000000000000000000000000000000000000000000000020000000000000000000000000000000000000000000000000000000000000000000000000000000400000000 = 0) : (s.skewProbe t k late).Ok Q := by
  unfold State.skewProbe
  repeat' first
    | with_reducible assumption
    | with_reducible exact Kit.bit hw (by decide +kernel)
    | with_reducible exact Kit.sub hw (by decide +kernel)
    | with_reducible apply State.setLat_ok
    | with_reducible apply State.skewVote_ok
    | with_reducible apply State.calCheckDone_ok
    | with_reducible rfl
    | with_reducible refine ok_ite (fun _ => ?_) (fun _ => ?_)
    | (intro s1; refine (fun (h1 : State.Ok Q s1) => ?_) ?_; rotate_left; subst s1; rotate_right)
    | (intro (f : _ → _); subst f; dsimp -zeta only)
    | (intro s1; fail_if_success (have : State := s1))
    | lift_lets
    | split
    | intro _

theorem State.calFinish_ok (h : s.Ok Q) (t : Nat) (hw : Q.mask &&& 0xc00000000000000000000000000000000000000000000000000000000000000000000000000000000000028000000000000000000000000000000000000000000000002000000000000000000000000000000000000000 = 0) : (s.calFinish t).Ok Q := by
  unfold State.calFinish
  repeat' first
    | with_reducible assumption
    | with_reducible exact Kit.bit hw (by decide +kernel)
    | with_reducible exact Kit.sub hw (by decide +kernel)
    | with_reducible apply State.setLat_ok
    | with_reducible apply State.setCalStage_ok
    | with_reducible apply State.calEntryOff_ok
    | with_reducible apply State.setMapBit_ok
    | with_reducible apply forUpto_ok
    | with_reducible rfl
    | (intro i1 s1 (h1 : State.Ok Q s1))
    | (intro s1 i1 (h1 : State.Ok Q s1))
    | with_reducible refine ok_ite (fun _ => ?_) (fun _ => ?_)
    | (intro s1; refine (fun (h1 : State.Ok Q s1) => ?_) ?_; rotate_left; subst s1; rotate_right)
    | (intro (f : _ → _); subst f; dsimp -zeta only)
    | (intro s1; fail_if_success (have : State := s1))
    | lift_lets
    | split
    | intro _

theorem State.calEntryRun_ok (h : s.Ok Q) (t : Nat) (hw : Q.mask &&& 0x11400000000000000000000000000000000000000000000000000000000000000000000000000000000000000000000000000000000000000000000000000000000000002000000000000000000000000000000000000000 = 0) : (s.calEntryRun t).Ok Q := by
  unfold State.calEntryRun
  repeat' first
    | with_reducible assumption
    | with_reducible exact Kit.bit hw (by decide +kernel)
    | with_reducible exact Kit.sub hw (by decide +kernel)
    | with_reducible apply State.setLat_ok
    | with_reducible apply State.setTbit_ok
    | with_reducible apply State.setFlag_ok
    | with_reducible rfl
    | with_reducible refine ok_ite (fun _ => ?_) (fun _ => ?_)
    | (intro s1; refine (fun (h1 : State.Ok Q s1) => ?_) ?_; rotate_left; subst s1; rotate_right)
    | (intro (f : _ → _); subst f; dsimp -zeta only)
    | (intro s1; fail_if_success (have : State := s1))
    | lift_lets
    | split
    | intro _

theorem State.calBoundaryEnd_ok (h : s.Ok Q) (t : Nat) (hw : Q.mask &&& 0x100000000000000000000000000000000000000000000000000000000000000000000000000000000000000000c079000000000000000000000000000000000804700000000000000000000000000000000000000000000b8010000000000000000000000000000000000000000000002000000000000000000000000000080400000000 = 0) : (s.calBoundaryEnd t).Ok Q := by
  unfold State.calBoundaryEnd
  repeat' first
    | with_reducible assumption
    | with_reducible exact Kit.bit hw (by decide +kernel)
    | with_reducible exact Kit.sub hw (by decide +kernel)
    | with_reducible apply State.calFinish_ok
    | with_reducible apply State.calEntryOff_ok
    | with_reducible apply State.setLat_ok
    | with_reducible apply State.calGroupDone_ok
    | with_reducible rfl
    | with_reducible refine ok_ite (fun _ => ?_) (fun _ => ?_)
    | (intro s1; refine (fun (h1 : State.Ok Q s1) => ?_) ?_; rotate_left; subst s1; rotate_right)
    | (intro (f : _ → _); subst f; dsimp -zeta only)
    | (intro s1; fail_if_success (have : State := s1))
    | lift_lets
    | split
    | intro _

theorem State.calBoundaryBegin_ok (h : s.Ok Q) (t : Nat) (hw : Q.mask &&& 0x10060000000000000000000000000000000000000000000000000000000000000000000000000000000000117fd00000000000000000000000000000000000040000000000000000000e0000000000000000000000000a0000000000000000000000000000000000000000000000002000000000000000000000000004000400000000 = 0) : (s.calBoundaryBegin t).Ok Q := by
  unfold State.calBoundaryBegin
  repeat' first
    | with_reducible assumption
    | with_reducible exact Kit.bit hw (by decide +kernel)
    | with_reducible exact Kit.sub hw (by decide +kernel)
    | with_reducible apply State.calRecentre_ok
    | with_reducible apply State.setLat_ok
    | with_reducible apply State.setFlag_ok
    | with_reducible apply State.calCheckDone_ok
    | with_reducible apply State.calEntryRun_ok
    | with_reducible apply forUpto_ok
    | with_reducible rfl
    | (intro i1 s1 (h1 : State.Ok Q s1))
    | (intro s1 i1 (h1 : State.Ok Q s1))
    | with_reducible refine ok_ite (fun _ => ?_) (fun _ => ?_)
    | (intro s1; refine (fun (h1 : State.Ok Q s1) => ?_) ?_; rotate_left; subst s1; rotate_right)
    | (intro (f : _ → _); subst f; dsimp -zeta only)
    | (intro s1; fail_if_success (have : State := s1))
    | lift_lets
    | split
    | intro _

theorem State.calApplyTile_ok (h : s.Ok Q) (t : Nat) (hw : Q.mask &&& 0xc0000000000000000000000000000000000000000000000000000000000000000000000000000000000000340000000000000000000000000000000000000000000000000000000000000000000040000000000000000000 = 0) : (s.calApplyTile t).Ok Q := by
  unfold State.calApplyTile
  repeat' first
    | with_reducible assumption
    | with_reducible exact Kit.bit hw (by decide +kernel)
    | with_reducible exact Kit.sub hw (by decide +kernel)
    | with_reducible apply State.setTreg_ok
    | with_reducible apply State.setLat_ok
    | with_reducible apply forUpto_ok
    | with_reducible rfl
    | (intro i1 s1 (h1 : State.Ok Q s1))
    | (intro s1 i1 (h1 : State.Ok Q s1))
    | with_reducible refine ok_ite (fun _ => ?_) (fun _ => ?_)
    | (intro s1; refine (fun (h1 : State.Ok Q s1) => ?_) ?_; rotate_left; subst s1; rotate_right)
    | (intro (f : _ → _); subst f; dsimp -zeta only)
    | (intro s1; fail_if_success (have : State := s1))
    | lift_lets
    | split
    | intro _

theorem State.calApply_ok (h : s.Ok Q) (hw : Q.mask &&& 0x50000000000000000000000000000000000000000000000000000000000000000000000000000000000000e0000400000000000000000000000000000000000000000000000000000000000000120000000000000000347810000000000000000000000000000000000000000000000000000000000000000040000000000000000000 = 0) : (s.calApply).Ok Q := by
  unfold State.calApply
  repeat' first
    | with_reducible assumption
    | with_reducible exact Kit.bit hw (by decide +kernel)
    | with_reducible exact Kit.sub hw (by decide +kernel)
    | with_reducible apply State.calApplyTile_ok
    | with_reducible apply State.setLat_ok
    | with_reducible apply State.wrapInc_ok
    | with_reducible apply State.setReg_ok
    | with_reducible apply State.calEnd_ok
    | with_reducible apply forIn'_ok
    | with_reducible rfl
    | (intro i1 s1 (h1 : State.Ok Q s1))
    | (intro s1 i1 (h1 : State.Ok Q s1))
    | with_reducible refine ok_ite (fun _ => ?_) (fun _ => ?_)
    | (intro s1; refine (fun (h1 : State.Ok Q s1) => ?_) ?_; rotate_left; subst s1; rotate_right)
    | (intro (f : _ → _); subst f; dsimp -zeta only)
    | (intro s1; fail_if_success (have : State := s1))
    | lift_lets
    | split
    | intro _

end Sys2Proof.Machine
end

