-- ==== Sys2Proof/Laws/KeepModes.lean ====
section
/-! SUPPORT. The operations of Machine/Modes.lean keep soundness and the queue. -/
set_option Elab.async false
namespace Sys2Proof.Machine

variable {Q : Kit} {s : State}

theorem State.enterHold_ok (h : s.Ok Q) (hm : Q.anyMode) (hs : s.mode ≠ .sable) (hw : Q.mask &&& 0x1050c000000000000000000000000000000000000000000000000000000000000000240000000000000000042040040000000000000c000000000d400000000000700037000000000800200020001200004004020000008a001000100004080040000200000000000800020000080000200081381000000001000800880088040080081c = 0) : s.enterHold.Ok Q := by
  unfold State.enterHold
  have e : State.Ok Q ({ s with prior := if s.modeSame then s.mode0 else s.mode }.enterMode .hold) :=
    State.enterMode_ok (ok_prior h (Kit.bit hw (by decide +kernel))) hm _ (fun a => absurd a hs) (Kit.sub hw (by decide +kernel))
  repeat' first
    | with_reducible assumption
    | with_reducible exact Kit.bit hw (by decide +kernel)
    | with_reducible exact Kit.sub hw (by decide +kernel)
    | with_reducible apply State.enterMode_ok
    | with_reducible apply State.setFld_ok
    | with_reducible apply State.refuse_ok
    | with_reducible apply State.swpPause_ok
    | with_reducible apply State.calAbandon_ok
    | with_reducible apply State.sysAbandonAll_ok
    | with_reducible apply State.trimDiscardAll_ok
    | with_reducible apply State.prfPauseAll_ok
    | with_reducible apply State.trimPaused_ok
    | with_reducible apply State.setLat_ok
    | with_reducible apply forIn'_ok
    | with_reducible rfl
    | (intro i1 s1 (h1 : State.Ok Q s1))
    | (intro s1 i1 (h1 : State.Ok Q s1))
    | with_reducible refine ok_ite (fun _ => ?_) (fun _ => ?_)
    | (intro s1; refine (fun (h1 : State.Ok Q s1) => ?_) ?_; rotate_left; subst s1; rotate_right)
    | (intro (f : _ → _); subst f; dsimp -zeta only)
    | (intro s1; fail_if_success (have : State := s1))
    | lift_lets
    | split
    | intro _
    | with_reducible apply ok_prior


theorem State.setHoldCause_ok (h : s.Ok Q) (hm : Q.anyMode) (cause : Nat) (hw : Q.mask &&& 0x1050c000000000000000000000000000000000000000000000000000000000000000240000000000000000042040040000000000000c000000000d400000000000700037000000000800200020001200004004020000008a001000100004080040000200000000000800020000080000200081381000000001000800880088040080081e = 0) : (s.setHoldCause cause).Ok Q := by
  unfold State.setHoldCause
  have e : (s.setRbit .MGT_HOLD_CAUSE cause true).Ok Q := State.setRbit_ok h _ _ _ _ _ (Kit.bit hw (by decide +kernel))
  refine ok_ite (fun c => State.enterHold_ok e hm ?_ (Kit.sub hw (by decide +kernel))) (fun _ => e)
  intro a
  simp [State.inRun, a] at c

theorem State.clearHoldCause_ok (h : s.Ok Q) (cause : Nat) (hw : Q.mask &&& 0x8000000000000000000000000000000000000000000000000000000000000000000000000000000000000000000000000000000000000000000000000000000000000000000000000000000000000000000000000000000002 = 0) : (s.clearHoldCause cause).Ok Q := by
  unfold State.clearHoldCause
  repeat' first
    | with_reducible assumption
    | with_reducible exact Kit.bit hw (by decide +kernel)
    | with_reducible exact Kit.sub hw (by decide +kernel)
    | with_reducible apply State.setRbit_ok
    | with_reducible apply State.setLat_ok
    | with_reducible rfl
    | with_reducible refine ok_ite (fun _ => ?_) (fun _ => ?_)
    | (intro s1; refine (fun (h1 : State.Ok Q s1) => ?_) ?_; rotate_left; subst s1; rotate_right)
    | (intro (f : _ → _); subst f; dsimp -zeta only)
    | (intro s1; fail_if_success (have : State := s1))
    | lift_lets
    | split
    | intro _

theorem State.releaseBoundary_ok (h : s.Ok Q) (hm : Q.anyMode) (hw : Q.mask &&& 0x40400000000000000000000000000000000000000000000000000000000000000004000000000000000100000000000000180000080000000000400000000000000c000000000000000000000000000000000000000000000000000000000000000000000000000000000000000000000000000000000000000800000000000008403c = 0) : s.releaseBoundary.Ok Q := by
  unfold State.releaseBoundary
  refine ok_ite (fun c => ?_) (fun _ => h)
  have e : (s.enterMode s.prior).Ok Q :=
    State.enterMode_ok h hm _ (fun a => nomatch c.1.symm.trans a) (Kit.sub hw (by decide +kernel))
  repeat' first
    | with_reducible assumption
    | with_reducible exact Kit.bit hw (by decide +kernel)
    | with_reducible exact Kit.sub hw (by decide +kernel)
    | with_reducible apply State.enterMode_ok
    | with_reducible apply State.setLat_ok
    | with_reducible apply State.setMapBit_ok
    | with_reducible apply State.publish_ok
    | with_reducible apply State.composeLeft_ok
    | with_reducible apply State.rangeFollowAll_ok
    | with_reducible apply forIn'_ok
    | with_reducible rfl
    | (intro i1 s1 (h1 : State.Ok Q s1))
    | (intro s1 i1 (h1 : State.Ok Q s1))
    | with_reducible refine ok_ite (fun _ => ?_) (fun _ => ?_)
    | (intro s1; refine (fun (h1 : State.Ok Q s1) => ?_) ?_; rotate_left; subst s1; rotate_right)
    | (intro (f : _ → _); subst f; dsimp -zeta only)
    | (intro s1; fail_if_success (have : State := s1))
    | lift_lets
    | split
    | intro _


theorem State.loadHstart_ok (h : s.Ok Q) (hw : Q.mask &&& 0x80000000000000000000020000000000000000000000000000000000000000000000000000000000000000000000000000000000000000000000000000000000000000000000000000000000000000000000000000000000000000000000e0800000 = 0) : (s.loadHstart).Ok Q := by
  unfold State.loadHstart
  repeat' first
    | with_reducible assumption
    | with_reducible exact Kit.bit hw (by decide +kernel)
    | with_reducible exact Kit.sub hw (by decide +kernel)
    | with_reducible apply State.setTreg_ok
    | with_reducible apply State.loadMan_ok
    | with_reducible apply forUpto_ok
    | with_reducible apply forIn'_ok
    | with_reducible rfl
    | (intro i1 s1 (h1 : State.Ok Q s1))
    | (intro s1 i1 (h1 : State.Ok Q s1))
    | with_reducible refine ok_ite (fun _ => ?_) (fun _ => ?_)
    | (intro s1; refine (fun (h1 : State.Ok Q s1) => ?_) ?_; rotate_left; subst s1; rotate_right)
    | (intro (f : _ → _); subst f; dsimp -zeta only)
    | (intro s1; fail_if_success (have : State := s1))
    | lift_lets
    | split
    | intro _

theorem State.trefStart_ok (h : s.Ok Q) (hw : Q.mask &&& 0x100000000000000000000000000000000000000000000000000000000000000000000000000000000000000000 = 0) : (s.trefStart).Ok Q := by
  unfold State.trefStart
  repeat' first
    | with_reducible assumption
    | with_reducible exact Kit.bit hw (by decide +kernel)
    | with_reducible exact Kit.sub hw (by decide +kernel)
    | with_reducible apply State.setTreg_ok
    | with_reducible apply forIn'_ok
    | with_reducible rfl
    | (intro i1 s1 (h1 : State.Ok Q s1))
    | (intro s1 i1 (h1 : State.Ok Q s1))
    | with_reducible refine ok_ite (fun _ => ?_) (fun _ => ?_)
    | (intro s1; refine (fun (h1 : State.Ok Q s1) => ?_) ?_; rotate_left; subst s1; rotate_right)
    | (intro (f : _ → _); subst f; dsimp -zeta only)
    | (intro s1; fail_if_success (have : State := s1))
    | lift_lets
    | split
    | intro _

theorem State.moveFill_ok (h : s.Ok Q) (hw : Q.mask &&& 0x1000000000000000000000000000000000000000000000000000000000000000000000000000000000000000000000000006000000000000000000000000000000000000000000000000000000000000000000000000000000000000 = 0) : (s.moveFill).Ok Q := by
  unfold State.moveFill
  repeat' first
    | with_reducible assumption
    | with_reducible exact Kit.bit hw (by decide +kernel)
    | with_reducible exact Kit.sub hw (by decide +kernel)
    | with_reducible apply State.setLat_ok
    | with_reducible apply State.setReg_ok
    | with_reducible apply forUpto_ok
    | with_reducible rfl
    | (intro i1 s1 (h1 : State.Ok Q s1))
    | (intro s1 i1 (h1 : State.Ok Q s1))
    | with_reducible refine ok_ite (fun _ => ?_) (fun _ => ?_)
    | (intro s1; refine (fun (h1 : State.Ok Q s1) => ?_) ?_; rotate_left; subst s1; rotate_right)
    | (intro (f : _ → _); subst f; dsimp -zeta only)
    | (intro s1; fail_if_success (have : State := s1))
    | lift_lets
    | split
    | intro _

theorem State.bootFinish_ok (h : s.Ok Q) (hn : Q.m = none) (hw : Q.mask &&& 0x40c00000000000000000000000000000000000000000000000000000000000000084000000000010000000020000000000000000000000000000000000000000000000000000000000000000000000000000000000001000060000000000000000000000000000000000000000000000000000000000000000000000000000e080001d = 0) : (s.bootFinish).Ok Q := by
  unfold State.bootFinish
  have c (b : Bool) : (s.setRbit .MGT_MODE 10 b).Ok Q := State.setRbit_ok h _ _ _ _ _ (Kit.bit hw (by decide +kernel))
  refine ok_ite (fun _ => c _) (fun _ => ?_)
  extract_lets s1 char s2 m
  have e1 : s1.Ok Q := State.moveFill_ok (State.trefStart_ok (c _) (Kit.sub hw (by decide +kernel))) (Kit.sub hw (by decide +kernel))
  have e2 : s2.Ok Q := ok_ite (fun _ => e1) (fun _ => State.loadHstart_ok e1 (Kit.sub hw (by decide +kernel)))
  exact ok_ite
    (fun _ => State.enterMode_none (ok_prior e2 (Kit.bit hw (by decide +kernel))) hn _ (Kit.sub hw (by decide +kernel)))
    (fun _ => State.enterMode_none e2 hn _ (Kit.sub hw (by decide +kernel)))

theorem State.modeCharacterise_ok (h : s.Ok Q) (hm : Q.anyMode) (hw : Q.mask &&& 0x50400000000000000000000000000000000000000000000000000000000000000004000000000000000000204004000000000000000000000000000000000000000000000000000000000000001200000000000000000a001000000000000000000000000000000000000000000000200000000000000000000000000000040000001c = 0) : s.modeCharacterise.2.Ok Q := by
  unfold State.modeCharacterise
  refine ok_ite_snd (fun c => ?_) (fun _ => h)
  have e : (s.enterMode .characterise).Ok Q :=
    State.enterMode_ok h hm _ (fun a => nomatch c.1.symm.trans a) (Kit.sub hw (by decide +kernel))
  repeat' first
    | with_reducible assumption
    | with_reducible exact Kit.bit hw (by decide +kernel)
    | with_reducible exact Kit.sub hw (by decide +kernel)
    | with_reducible apply State.enterMode_ok
    | with_reducible apply State.calClearPending_ok
    | with_reducible apply State.calAbandon_ok
    | with_reducible rfl
    | with_reducible refine ok_ite (fun _ => ?_) (fun _ => ?_)
    | with_reducible refine ok_ite_snd (fun _ => ?_) (fun _ => ?_)
    | (intro s1; refine (fun (h1 : State.Ok Q s1) => ?_) ?_; rotate_left; subst s1; rotate_right)
    | (intro (f : _ → _); subst f; dsimp -zeta only)
    | (intro s1; fail_if_success (have : State := s1))
    | lift_lets
    | (split <;> first | (rename_i e; with_reducible refine (fun (h1 : State.Ok Q _) => ?_) (ok_snd e ?_)) | (rename_i e; with_reducible refine (fun (h1 : State.Ok Q _) => ?_) (ok_thd e ?_)) | (rename_i e; with_reducible refine (fun (h1 : State.Ok Q _) => ?_) (ok_mid e ?_)) | (rename_i e; with_reducible refine (fun (h1 : State.Ok Q _) => ?_) (ok_some e ?_)) | (rename_i e _; with_reducible refine (fun (h1 : State.Ok Q _) => ?_) (ok_snd e ?_)) | (rename_i e _; with_reducible refine (fun (h1 : State.Ok Q _) => ?_) (ok_thd e ?_)) | (rename_i e _; with_reducible refine (fun (h1 : State.Ok Q _) => ?_) (ok_mid e ?_)) | (rename_i e _; with_reducible refine (fun (h1 : State.Ok Q _) => ?_) (ok_some e ?_)) | skip)
    | intro _


theorem State.modeStatic_ok (h : s.Ok Q) (hm : Q.anyMode) (hw : Q.mask &&& 0x4040000000000000000000000000000000000000000000000000000000000000002400000000000000000000000000000000000000000000000d4000000000000000000000000000000000000000000000000000000000000000000000000000000000000000000000000000000000000000000000000000000800800000000000001c = 0) : s.modeStatic.2.Ok Q := by
  unfold State.modeStatic
  refine ok_ite_snd (fun c => ?_) (fun _ => h)
  have e : (s.enterMode .static).Ok Q :=
    State.enterMode_ok h hm _ (fun a => nomatch c.1.symm.trans a) (Kit.sub hw (by decide +kernel))
  repeat' first
    | with_reducible assumption
    | with_reducible exact Kit.bit hw (by decide +kernel)
    | with_reducible exact Kit.sub hw (by decide +kernel)
    | with_reducible apply State.enterMode_ok
    | with_reducible apply State.sysAbandonAll_ok
    | with_reducible rfl
    | with_reducible refine ok_ite (fun _ => ?_) (fun _ => ?_)
    | with_reducible refine ok_ite_snd (fun _ => ?_) (fun _ => ?_)
    | (intro s1; refine (fun (h1 : State.Ok Q s1) => ?_) ?_; rotate_left; subst s1; rotate_right)
    | (intro (f : _ → _); subst f; dsimp -zeta only)
    | (intro s1; fail_if_success (have : State := s1))
    | lift_lets
    | (split <;> first | (rename_i e; with_reducible refine (fun (h1 : State.Ok Q _) => ?_) (ok_snd e ?_)) | (rename_i e; with_reducible refine (fun (h1 : State.Ok Q _) => ?_) (ok_thd e ?_)) | (rename_i e; with_reducible refine (fun (h1 : State.Ok Q _) => ?_) (ok_mid e ?_)) | (rename_i e; with_reducible refine (fun (h1 : State.Ok Q _) => ?_) (ok_some e ?_)) | (rename_i e _; with_reducible refine (fun (h1 : State.Ok Q _) => ?_) (ok_snd e ?_)) | (rename_i e _; with_reducible refine (fun (h1 : State.Ok Q _) => ?_) (ok_thd e ?_)) | (rename_i e _; with_reducible refine (fun (h1 : State.Ok Q _) => ?_) (ok_mid e ?_)) | (rename_i e _; with_reducible refine (fun (h1 : State.Ok Q _) => ?_) (ok_some e ?_)) | skip)
    | intro _


theorem State.deviceHold_ok (h : s.Ok Q) (hm : Q.anyMode) (hw : Q.mask &&& 0x1050c000000000000000000000000000000000000000000000000000000000000000240000000000000000042040040000000000000c000000000d400000000000700037000000000800200020001200004004020000008a001000100004080040000200000000000800020000080000200081381000000001000800880088040080081e = 0) : (s.deviceHold).2.Ok Q := by
  unfold State.deviceHold
  repeat' first
    | with_reducible assumption
    | with_reducible exact Kit.bit hw (by decide +kernel)
    | with_reducible exact Kit.sub hw (by decide +kernel)
    | with_reducible apply State.setHoldCause_ok
    | with_reducible rfl
    | with_reducible refine ok_ite (fun _ => ?_) (fun _ => ?_)
    | with_reducible refine ok_ite_snd (fun _ => ?_) (fun _ => ?_)
    | (intro s1; refine (fun (h1 : State.Ok Q s1) => ?_) ?_; rotate_left; subst s1; rotate_right)
    | (intro (f : _ → _); subst f; dsimp -zeta only)
    | (intro s1; fail_if_success (have : State := s1))
    | lift_lets
    | (split <;> first | (rename_i e; with_reducible refine (fun (h1 : State.Ok Q _) => ?_) (ok_snd e ?_)) | (rename_i e; with_reducible refine (fun (h1 : State.Ok Q _) => ?_) (ok_thd e ?_)) | (rename_i e; with_reducible refine (fun (h1 : State.Ok Q _) => ?_) (ok_mid e ?_)) | (rename_i e; with_reducible refine (fun (h1 : State.Ok Q _) => ?_) (ok_some e ?_)) | (rename_i e _; with_reducible refine (fun (h1 : State.Ok Q _) => ?_) (ok_snd e ?_)) | (rename_i e _; with_reducible refine (fun (h1 : State.Ok Q _) => ?_) (ok_thd e ?_)) | (rename_i e _; with_reducible refine (fun (h1 : State.Ok Q _) => ?_) (ok_mid e ?_)) | (rename_i e _; with_reducible refine (fun (h1 : State.Ok Q _) => ?_) (ok_some e ?_)) | skip)
    | intro _

theorem State.deviceRelease_ok (h : s.Ok Q) (hw : Q.mask &&& 0x8000000000000000000000000000000000000000000000000000000000000000000000000000000000000000000000000000000000000000000000000000000000000000000000000000000000000000000000000000000002 = 0) : (s.deviceRelease).2.Ok Q := by
  unfold State.deviceRelease
  repeat' first
    | with_reducible assumption
    | with_reducible exact Kit.bit hw (by decide +kernel)
    | with_reducible exact Kit.sub hw (by decide +kernel)
    | with_reducible apply State.clearHoldCause_ok
    | with_reducible rfl
    | with_reducible refine ok_ite (fun _ => ?_) (fun _ => ?_)
    | with_reducible refine ok_ite_snd (fun _ => ?_) (fun _ => ?_)
    | (intro s1; refine (fun (h1 : State.Ok Q s1) => ?_) ?_; rotate_left; subst s1; rotate_right)
    | (intro (f : _ → _); subst f; dsimp -zeta only)
    | (intro s1; fail_if_success (have : State := s1))
    | lift_lets
    | (split <;> first | (rename_i e; with_reducible refine (fun (h1 : State.Ok Q _) => ?_) (ok_snd e ?_)) | (rename_i e; with_reducible refine (fun (h1 : State.Ok Q _) => ?_) (ok_thd e ?_)) | (rename_i e; with_reducible refine (fun (h1 : State.Ok Q _) => ?_) (ok_mid e ?_)) | (rename_i e; with_reducible refine (fun (h1 : State.Ok Q _) => ?_) (ok_some e ?_)) | (rename_i e _; with_reducible refine (fun (h1 : State.Ok Q _) => ?_) (ok_snd e ?_)) | (rename_i e _; with_reducible refine (fun (h1 : State.Ok Q _) => ?_) (ok_thd e ?_)) | (rename_i e _; with_reducible refine (fun (h1 : State.Ok Q _) => ?_) (ok_mid e ?_)) | (rename_i e _; with_reducible refine (fun (h1 : State.Ok Q _) => ?_) (ok_some e ?_)) | skip)
    | intro _

end Sys2Proof.Machine
end

