-- ==== Sys2Proof/Laws/KeepFaults.lean ====
section
/-! SUPPORT. The operations of Machine/Faults.lean keep soundness and the queue. -/
set_option Elab.async false
namespace Sys2Proof.Machine

variable {Q : Kit} {s : State}

theorem State.mergeEntry_ok (h : s.Ok Q) (hw : Q.mask &&& 0x8000000000000000000000000000000000000000000000000000000000000000000000000000000000000000000000000000000000 = 0) : (s.mergeEntry).Ok Q := by
  unfold State.mergeEntry
  repeat' first
    | with_reducible assumption
    | with_reducible exact Kit.bit hw (by decide +kernel)
    | with_reducible exact Kit.sub hw (by decide +kernel)
    | with_reducible apply State.setFld_ok
    | with_reducible rfl
    | with_reducible refine ok_ite (fun _ => ?_) (fun _ => ?_)
    | (intro s1; refine (fun (h1 : State.Ok Q s1) => ?_) ?_; rotate_left; subst s1; rotate_right)
    | (intro (f : _ → _); subst f; dsimp -zeta only)
    | (intro s1; fail_if_success (have : State := s1))
    | lift_lets
    | split
    | intro _

theorem State.newEntry_ok (h : s.Ok Q) (m : FaultMsg) (react : Nat) (unack : Bool) (hw : Q.mask &&& 0x8401400000000000000000000000000000000000000000000000000000000000000000000000000000000000000000000000000000 = 0) : (s.newEntry m react unack).Ok Q := by
  unfold State.newEntry
  repeat' first
    | with_reducible assumption
    | with_reducible exact Kit.bit hw (by decide +kernel)
    | with_reducible exact Kit.sub hw (by decide +kernel)
    | with_reducible apply State.setReg_ok
    | with_reducible apply State.setRbit_ok
    | with_reducible apply forUpto_ok
    | with_reducible rfl
    | (intro i1 s1 (h1 : State.Ok Q s1))
    | (intro s1 i1 (h1 : State.Ok Q s1))
    | with_reducible refine ok_ite (fun _ => ?_) (fun _ => ?_)
    | (intro s1; refine (fun (h1 : State.Ok Q s1) => ?_) ?_; rotate_left; subst s1; rotate_right)
    | (intro (f : _ → _); subst f; dsimp -zeta only)
    | (intro s1; fail_if_success (have : State := s1))
    | lift_lets
    | split
    | intro _

theorem State.joinUnacks_ok (h : s.Ok Q) (tile : Option Nat) (hw : Q.mask &&& 0x2000000000000000000000000000000000000000000000000000000000000000000000000000000000000000000000000000010000000000000000000000000000000000000000000000000000000000400000000000000000000000000000000000000000000000000000000000000000000000000000000000000000000000000000 = 0) : (s.joinUnacks tile).Ok Q := by
  unfold State.joinUnacks
  refine ok_ite (fun hn => ok_unacks h (Kit.bit hw (by decide +kernel)) ?_) (fun _ => ?_)
  · rw [List.length_append]
    exact hn
  repeat' first
    | with_reducible assumption
    | with_reducible exact Kit.bit hw (by decide +kernel)
    | with_reducible exact Kit.sub hw (by decide +kernel)
    | with_reducible apply State.setRbit_ok
    | with_reducible apply State.setFlag_ok
    | with_reducible rfl
    | with_reducible refine ok_ite (fun _ => ?_) (fun _ => ?_)
    | (intro s1; refine (fun (h1 : State.Ok Q s1) => ?_) ?_; rotate_left; subst s1; rotate_right)
    | (intro (f : _ → _); subst f; dsimp -zeta only)
    | (intro s1; fail_if_success (have : State := s1))
    | lift_lets
    | split
    | intro _
    | with_reducible apply ok_unacks


theorem State.applyReact_ok (h : s.Ok Q) (hm : Q.anyMode) (m : FaultMsg) (r : Nat) (hw : Q.mask &&& 0x1051c0000000000000000000000000000000000000000000000000000000000000002400000000000000000420400403c0000000000c000000000d400000000000700037000000000800200020001202404004060000008b001000100004080040000200000000000800020000080000200081381000000001000800880088040080083e = 0) : (s.applyReact m r).Ok Q := by
  unfold State.applyReact
  repeat' first
    | with_reducible assumption
    | with_reducible exact Kit.bit hw (by decide +kernel)
    | with_reducible exact Kit.sub hw (by decide +kernel)
    | with_reducible apply State.setTileCause_ok
    | with_reducible apply State.setHoldCause_ok
    | with_reducible apply State.assertSable_ok
    | with_reducible apply State.setFlag_ok
    | with_reducible apply State.driveSable_ok
    | with_reducible rfl
    | with_reducible refine ok_ite (fun _ => ?_) (fun _ => ?_)
    | (intro s1; refine (fun (h1 : State.Ok Q s1) => ?_) ?_; rotate_left; subst s1; rotate_right)
    | (intro (f : _ → _); subst f; dsimp -zeta only)
    | (intro s1; fail_if_success (have : State := s1))
    | lift_lets
    | split
    | intro _

theorem State.markFault_ok (h : s.Ok Q) (m : FaultMsg) (hw : Q.mask &&& 0x1000000000000000000000000000000000000000000000000000000 = 0) : (s.markFault m).Ok Q := by
  unfold State.markFault
  repeat' first
    | with_reducible assumption
    | with_reducible exact Kit.bit hw (by decide +kernel)
    | with_reducible exact Kit.sub hw (by decide +kernel)
    | with_reducible apply State.markCell_ok
    | with_reducible rfl
    | with_reducible refine ok_ite (fun _ => ?_) (fun _ => ?_)
    | (intro s1; refine (fun (h1 : State.Ok Q s1) => ?_) ?_; rotate_left; subst s1; rotate_right)
    | (intro (f : _ → _); subst f; dsimp -zeta only)
    | (intro s1; fail_if_success (have : State := s1))
    | lift_lets
    | split
    | intro _

theorem State.acceptMsg_ok (h : s.Ok Q) (hm : Q.anyMode) (m : FaultMsg) (hw : Q.mask &&& 0x1071c0000000000000000000000000000000000000000000000000000000000000002400000000000000000420400403c0000001000c000000000d400000000000700037000000000800200020001286454004060000008b001000100004080040000200000000000900020000080000200081381000000001000800880088040080083e = 0) : (s.acceptMsg m).Ok Q := by
  unfold State.acceptMsg
  repeat' first
    | with_reducible assumption
    | with_reducible exact Kit.bit hw (by decide +kernel)
    | with_reducible exact Kit.sub hw (by decide +kernel)
    | with_reducible apply State.satAdd_ok
    | with_reducible apply State.markFault_ok
    | with_reducible apply State.mergeEntry_ok
    | with_reducible apply State.applyReact_ok
    | with_reducible apply State.newEntry_ok
    | with_reducible apply State.joinUnacks_ok
    | with_reducible apply State.setRbit_ok
    | with_reducible apply State.publish_ok
    | with_reducible rfl
    | with_reducible refine ok_ite (fun _ => ?_) (fun _ => ?_)
    | (intro s1; refine (fun (h1 : State.Ok Q s1) => ?_) ?_; rotate_left; subst s1; rotate_right)
    | (intro (f : _ → _); subst f; dsimp -zeta only)
    | (intro s1; fail_if_success (have : State := s1))
    | lift_lets
    | split
    | intro _

theorem State.accept_ok (h : s.Ok Q) (hm : Q.anyMode) (hw : Q.mask &&& 0x1071c0000000000000000000000000000000000000000000000000000000000000002400000000000000400420400403c0000001000c000000000d400000000000700037000000000800200020001286454004060000008b001000100004080040000200000000000900020000080000200081381000000001000800880088040080083e = 0) : (s.accept).Ok Q := by
  unfold State.accept
  repeat' first
    | with_reducible assumption
    | with_reducible exact Kit.bit hw (by decide +kernel)
    | with_reducible exact Kit.sub hw (by decide +kernel)
    | with_reducible apply State.setLat_ok
    | with_reducible apply State.acceptMsg_ok
    | with_reducible rfl
    | with_reducible refine ok_ite (fun _ => ?_) (fun _ => ?_)
    | (intro s1; refine (fun (h1 : State.Ok Q s1) => ?_) ?_; rotate_left; subst s1; rotate_right)
    | (intro (f : _ → _); subst f; dsimp -zeta only)
    | (intro s1; fail_if_success (have : State := s1))
    | lift_lets
    | split
    | intro _
    | with_reducible apply ok_faults

theorem State.clearUnack_ok (h : s.Ok Q) (seq : Nat) (hw : Q.mask &&& 0x8000000000000000000000000000000000000000000000000000000000000000000000000000000000000000000000000000000000 = 0) : (s.clearUnack seq).Ok Q := by
  unfold State.clearUnack
  repeat' first
    | with_reducible assumption
    | with_reducible exact Kit.bit hw (by decide +kernel)
    | with_reducible exact Kit.sub hw (by decide +kernel)
    | with_reducible apply State.setFld_ok
    | with_reducible rfl
    | with_reducible refine ok_ite (fun _ => ?_) (fun _ => ?_)
    | (intro s1; refine (fun (h1 : State.Ok Q s1) => ?_) ?_; rotate_left; subst s1; rotate_right)
    | (intro (f : _ → _); subst f; dsimp -zeta only)
    | (intro s1; fail_if_success (have : State := s1))
    | lift_lets
    | split
    | intro _

theorem State.ackOne_ok (h : s.Ok Q) (seq : Nat) (hw : Q.mask &&& 0x2000000000000000000000000000000000000000000000000000000000000000000000000000000000000000000000000000000000000000000000000000000000000000000000000000000000008000000000000000000000000000000000000000000000000000000000000000000000000000000000000000000000000000000000 = 0) : (s.ackOne seq).Ok Q := by
  have e (p : Unack → Bool) : State.Ok Q { s with unacks := s.unacks.filter p } :=
    ok_unacks h (Kit.bit hw (by decide +kernel)) (Nat.le_trans (List.length_filter_le p s.unacks) h.2.unacks)
  unfold State.ackOne
  split
  · exact h
  · exact State.clearUnack_ok (e _) _ (Kit.sub hw (by decide +kernel))

theorem State.ackAll_ok (h : s.Ok Q) (hw : Q.mask &&& 0x2000000000000000000000000000000000000000000000000000000000000000000000000000000000000000000000000000010000000000000000000000000000000000000000000000000000008000000000000000000000000000000000000000000000000000000000000000000000000000000000000000000000000000000000 = 0) : s.ackAll.Ok Q := by
  unfold State.ackAll
  have e := forIn'_ok (l := s.unacks) (f := fun u s => s.clearUnack u.seq) h
    (fun _ _ h => State.clearUnack_ok h _ (Kit.sub hw (by decide +kernel)))
  have e' (t : State) (h : t.Ok Q) : State.Ok Q { t with unacks := [] } :=
    ok_unacks h (Kit.bit hw (by decide +kernel)) (Nat.zero_le _)
  exact State.setFlag_ok (e' _ e) _ _ _ _ _ (Kit.bit hw (by decide +kernel))

theorem State.unfreeze_ok (h : s.Ok Q) (hw : Q.mask &&& 0x2000000000000000000000000000000000000000000000000000000000000000040000000000000000000000000000000000000000000000000000000000000000000000000000000000000000000000000000000 = 0) : (s.unfreeze).Ok Q := by
  unfold State.unfreeze
  repeat' first
    | with_reducible assumption
    | with_reducible exact Kit.bit hw (by decide +kernel)
    | with_reducible exact Kit.sub hw (by decide +kernel)
    | with_reducible apply State.setRbit_ok
    | with_reducible apply State.setFlag_ok
    | with_reducible rfl
    | with_reducible refine ok_ite (fun _ => ?_) (fun _ => ?_)
    | (intro s1; refine (fun (h1 : State.Ok Q s1) => ?_) ?_; rotate_left; subst s1; rotate_right)
    | (intro (f : _ → _); subst f; dsimp -zeta only)
    | (intro s1; fail_if_success (have : State := s1))
    | lift_lets
    | split
    | intro _

theorem State.recCmdWrite_ok (h : s.Ok Q) (w : Nat) (hw : Q.mask &&& 0x1000000000000000000000000000000000000000000000000000000000000000000000000000000000000000000002000000000000000000000000000000000000000000000000000020002000020040400402000000800010001000040800400002000000000008000200000800000000810010000000010000008800080000800800 = 0) : (s.recCmdWrite w).Ok Q := by
  unfold State.recCmdWrite
  repeat' first
    | with_reducible assumption
    | with_reducible exact Kit.bit hw (by decide +kernel)
    | with_reducible exact Kit.sub hw (by decide +kernel)
    | with_reducible apply State.setRbit_ok
    | with_reducible apply State.setFlag_ok
    | with_reducible apply State.unfreeze_ok
    | with_reducible apply State.refuse_ok
    | with_reducible rfl
    | with_reducible refine ok_ite (fun _ => ?_) (fun _ => ?_)
    | (intro s1; refine (fun (h1 : State.Ok Q s1) => ?_) ?_; rotate_left; subst s1; rotate_right)
    | (intro (f : _ → _); subst f; dsimp -zeta only)
    | (intro s1; fail_if_success (have : State := s1))
    | lift_lets
    | split
    | intro _

end Sys2Proof.Machine
end

