-- ==== Sys2Proof/Laws/KeepCommit.lean ====
section
/-! SUPPORT. The operations of Machine/Commit.lean keep soundness and the queue. -/
set_option Elab.async false
namespace Sys2Proof.Machine

variable {Q : Kit} {s : State}

theorem State.staticDropped_ok (h : s.Ok Q) (hw : Q.mask &&& 0x2000000000000000000000000000000000000000000000000000000000000000000000000000000000000000000000000000000002000000000000000000000000000000000000000000000000000000000000000000000000000000000000000000000000000000000000000200000000000000000000000000000000000000000000000000 = 0) : (s.staticDropped).Ok Q := by
  unfold State.staticDropped
  repeat' first
    | with_reducible assumption
    | with_reducible exact Kit.bit hw (by decide +kernel)
    | with_reducible exact Kit.sub hw (by decide +kernel)
    | with_reducible apply State.engSuppressed_ok
    | with_reducible apply State.setLat_ok
    | with_reducible apply State.setRbit_ok
    | with_reducible rfl
    | with_reducible refine ok_ite (fun _ => ?_) (fun _ => ?_)
    | (intro s1; refine (fun (h1 : State.Ok Q s1) => ?_) ?_; rotate_left; subst s1; rotate_right)
    | (intro (f : _ → _); subst f; dsimp -zeta only)
    | (intro s1; fail_if_success (have : State := s1))
    | lift_lets
    | split
    | intro _

theorem State.commitLate_ok (h : s.Ok Q) (c : Commit) (hw : Q.mask &&& 0x1000000000000000000000000000000000000000000000000000000000000000000000000000000000000000000000000000000000000000000000000000000000000000000000000000000000000000000000000000000000000000000000000000000000000000000020000800000000000000000000000000000000000000000000 = 0) : (s.commitLate c).Ok Q := by
  unfold State.commitLate
  repeat' first
    | with_reducible assumption
    | with_reducible exact Kit.bit hw (by decide +kernel)
    | with_reducible exact Kit.sub hw (by decide +kernel)
    | with_reducible apply State.satAdd_ok
    | with_reducible apply State.setRbit_ok
    | with_reducible apply State.send_ok
    | with_reducible rfl
    | with_reducible refine ok_ite (fun _ => ?_) (fun _ => ?_)
    | (intro s1; refine (fun (h1 : State.Ok Q s1) => ?_) ?_; rotate_left; subst s1; rotate_right)
    | (intro (f : _ → _); subst f; dsimp -zeta only)
    | (intro s1; fail_if_success (have : State := s1))
    | lift_lets
    | split
    | intro _

theorem State.broadcast_ok (h : s.Ok Q) (c : Commit) (hw : Q.mask &&& 0x90002000000000000000000000000000000000000000000000000000000000000000000010000000000000000000000004000000000000000000000000000000002c0000000000000000000000000000000000000000000000000000000000000000000000000000000240000800000000000000000000000000000000000000084000 = 0) : (s.broadcast c).Ok Q := by
  unfold State.broadcast
  repeat' first
    | with_reducible assumption
    | with_reducible exact Kit.bit hw (by decide +kernel)
    | with_reducible exact Kit.sub hw (by decide +kernel)
    | with_reducible apply State.satAdd_ok
    | with_reducible apply State.setRbit_ok
    | with_reducible apply State.setLat_ok
    | with_reducible apply State.setFlag_ok
    | with_reducible apply State.eccMeetBank_ok
    | with_reducible apply State.setTbit_ok
    | with_reducible apply State.composeTile_ok
    | with_reducible apply forUpto_ok
    | with_reducible apply forIn'_ok
    | with_reducible rfl
    | (intro i1 s1 (h1 : State.Ok Q s1))
    | (intro s1 i1 (h1 : State.Ok Q s1))
    | with_reducible refine ok_ite (fun _ => ?_) (fun _ => ?_)
    | (intro s1; refine (fun (h1 : State.Ok Q s1) => ?_) ?_; rotate_left; subst s1; rotate_right)
    | (intro (f : _ → _); subst f; dsimp -zeta only)
    | (intro s1; fail_if_success (have : State := s1))
    | lift_lets
    | split
    | intro _
    | with_reducible apply ok_commit

theorem State.startCommit_ok (h : s.Ok Q) (hw : Q.mask &&& 0x20000090002000000000000000000000000000000000000000000000000000000000000000000010000000000000000000000004020000000000000000000000000000002c0000000000000000000000000000000000000000000000000000000000000000000000000000000260000800000000000000000000000000000000000000084000 = 0) : (s.startCommit).Ok Q := by
  unfold State.startCommit
  repeat' first
    | with_reducible assumption
    | with_reducible exact Kit.bit hw (by decide +kernel)
    | with_reducible exact Kit.sub hw (by decide +kernel)
    | with_reducible apply State.staticDropped_ok
    | with_reducible apply State.commitLate_ok
    | with_reducible apply State.broadcast_ok
    | with_reducible rfl
    | with_reducible refine ok_ite (fun _ => ?_) (fun _ => ?_)
    | (intro s1; refine (fun (h1 : State.Ok Q s1) => ?_) ?_; rotate_left; subst s1; rotate_right)
    | (intro (f : _ → _); subst f; dsimp -zeta only)
    | (intro s1; fail_if_success (have : State := s1))
    | lift_lets
    | split
    | intro _
    | with_reducible apply ok_commit

theorem State.shadowDeadline_ok (h : s.Ok Q) (bad : List Nat) (hw : Q.mask &&& 0x10000000000000000000000004e0000000000000000000000000000000000000000000000000000000000000000000000000000000000000000000000000000000000000000000000000000000000000000000000000000000000000080000 = 0) : (s.shadowDeadline bad).Ok Q := by
  unfold State.shadowDeadline
  repeat' first
    | with_reducible assumption
    | with_reducible exact Kit.bit hw (by decide +kernel)
    | with_reducible exact Kit.sub hw (by decide +kernel)
    | with_reducible apply State.setTbit_ok
    | with_reducible apply State.setFlag_ok
    | with_reducible apply State.ringAdvance_ok
    | with_reducible apply forUpto_ok
    | with_reducible apply forIn'_ok
    | with_reducible rfl
    | (intro i1 s1 (h1 : State.Ok Q s1))
    | (intro s1 i1 (h1 : State.Ok Q s1))
    | with_reducible refine ok_ite (fun _ => ?_) (fun _ => ?_)
    | (intro s1; refine (fun (h1 : State.Ok Q s1) => ?_) ?_; rotate_left; subst s1; rotate_right)
    | (intro (f : _ → _); subst f; dsimp -zeta only)
    | (intro s1; fail_if_success (have : State := s1))
    | lift_lets
    | split
    | intro _

theorem State.skewCopy_ok (h : s.Ok Q) (hw : Q.mask &&& 0x200000000 = 0) : (s.skewCopy).Ok Q := by
  unfold State.skewCopy
  repeat' first
    | with_reducible assumption
    | with_reducible exact Kit.bit hw (by decide +kernel)
    | with_reducible exact Kit.sub hw (by decide +kernel)
    | with_reducible apply State.setTreg_ok
    | with_reducible apply forUpto_ok
    | with_reducible apply forIn'_ok
    | with_reducible rfl
    | (intro i1 s1 (h1 : State.Ok Q s1))
    | (intro s1 i1 (h1 : State.Ok Q s1))
    | with_reducible refine ok_ite (fun _ => ?_) (fun _ => ?_)
    | (intro s1; refine (fun (h1 : State.Ok Q s1) => ?_) ?_; rotate_left; subst s1; rotate_right)
    | (intro (f : _ → _); subst f; dsimp -zeta only)
    | (intro s1; fail_if_success (have : State := s1))
    | lift_lets
    | split
    | intro _

theorem State.skewLatch_ok (h : s.Ok Q) (hw : Q.mask &&& 0x4000000000000000000000000000000000000000000000000000000000000000000000000000000000000000000000000000000000000000000000000000200000000 = 0) : (s.skewLatch).Ok Q := by
  unfold State.skewLatch
  repeat' first
    | with_reducible assumption
    | with_reducible exact Kit.bit hw (by decide +kernel)
    | with_reducible exact Kit.sub hw (by decide +kernel)
    | with_reducible apply State.setFlag_ok
    | with_reducible apply State.skewCopy_ok
    | with_reducible rfl
    | with_reducible refine ok_ite (fun _ => ?_) (fun _ => ?_)
    | (intro s1; refine (fun (h1 : State.Ok Q s1) => ?_) ?_; rotate_left; subst s1; rotate_right)
    | (intro (f : _ → _); subst f; dsimp -zeta only)
    | (intro s1; fail_if_success (have : State := s1))
    | lift_lets
    | split
    | intro _

theorem State.slotCompare_ok (h : s.Ok Q) (agree : Bool) (hw : Q.mask &&& 0x1000000000000000000000000000000000000000000000000000000000000000000000000000000000000000000000000000001200000000000000000000000000000000000000000000000000000000004000000000000000000000000000000000000000000000000000000000000000000000000000000000000000000000000000 = 0) : (s.slotCompare agree).Ok Q := by
  unfold State.slotCompare
  repeat' first
    | with_reducible assumption
    | with_reducible exact Kit.bit hw (by decide +kernel)
    | with_reducible exact Kit.sub hw (by decide +kernel)
    | with_reducible apply State.setLat_ok
    | with_reducible apply State.send_ok
    | with_reducible apply State.setSlotHalf_ok
    | with_reducible rfl
    | with_reducible refine ok_ite (fun _ => ?_) (fun _ => ?_)
    | (intro s1; refine (fun (h1 : State.Ok Q s1) => ?_) ?_; rotate_left; subst s1; rotate_right)
    | (intro (f : _ → _); subst f; dsimp -zeta only)
    | (intro s1; fail_if_success (have : State := s1))
    | lift_lets
    | split
    | intro _

theorem State.commitUnready_ok (h : s.Ok Q) (ts : List Nat) (hw : Q.mask &&& 0x1000000000000000000000000000000000000000000000000000000000000000000000000000000000000000000000000000000000000000000000000000000000000000000000000000000000000000000000000000000000000000000000000000000000000000000000000000000000000000000000000000000000030000000800 = 0) : (s.commitUnready ts).Ok Q := by
  unfold State.commitUnready
  repeat' first
    | with_reducible assumption
    | with_reducible exact Kit.bit hw (by decide +kernel)
    | with_reducible exact Kit.sub hw (by decide +kernel)
    | with_reducible apply State.satAdd_ok
    | with_reducible apply State.setReg_ok
    | with_reducible apply State.setMapBit_ok
    | with_reducible apply State.setTbit_ok
    | with_reducible apply State.send_ok
    | with_reducible apply forUpto_ok
    | with_reducible apply forIn'_ok
    | with_reducible rfl
    | (intro i1 s1 (h1 : State.Ok Q s1))
    | (intro s1 i1 (h1 : State.Ok Q s1))
    | with_reducible refine ok_ite (fun _ => ?_) (fun _ => ?_)
    | (intro s1; refine (fun (h1 : State.Ok Q s1) => ?_) ?_; rotate_left; subst s1; rotate_right)
    | (intro (f : _ → _); subst f; dsimp -zeta only)
    | (intro s1; fail_if_success (have : State := s1))
    | lift_lets
    | split
    | intro _

theorem State.calArmAt_ok (h : s.Ok Q) (at_ : Nat) (hw : Q.mask &&& 0x20000000000000000000000000000000000000000000000000000000000000000000000000000000000000000000000000000000000000000000000000000000000000000000000000000000000000000000000200000000 = 0) : (s.calArmAt at_).Ok Q := by
  unfold State.calArmAt
  repeat' first
    | with_reducible assumption
    | with_reducible exact Kit.bit hw (by decide +kernel)
    | with_reducible exact Kit.sub hw (by decide +kernel)
    | with_reducible apply State.setLat_ok
    | with_reducible apply State.skewCopy_ok
    | with_reducible rfl
    | with_reducible refine ok_ite (fun _ => ?_) (fun _ => ?_)
    | (intro s1; refine (fun (h1 : State.Ok Q s1) => ?_) ?_; rotate_left; subst s1; rotate_right)
    | (intro (f : _ → _); subst f; dsimp -zeta only)
    | (intro s1; fail_if_success (have : State := s1))
    | lift_lets
    | split
    | intro _

theorem State.launch_ok (h : s.Ok Q) (c : Commit) (hw : Q.mask &&& 0x2080000000000000000000000000000000000000000000000000000000000000000000000000000000000000000020000000000000000000000000000000000000000000100000000000000000000000000000000000000000000000000800000000000008000000000000000800000000000000000000000000000000000000008200000000 = 0) : (s.launch c).Ok Q := by
  unfold State.launch
  repeat' first
    | with_reducible assumption
    | with_reducible exact Kit.bit hw (by decide +kernel)
    | with_reducible exact Kit.sub hw (by decide +kernel)
    | with_reducible apply State.wrapInc_ok
    | with_reducible apply State.setReg_ok
    | with_reducible apply State.setLat_ok
    | with_reducible apply State.engLaunched_ok
    | with_reducible apply State.calArmAt_ok
    | with_reducible apply forUpto_ok
    | with_reducible rfl
    | (intro i1 s1 (h1 : State.Ok Q s1))
    | (intro s1 i1 (h1 : State.Ok Q s1))
    | with_reducible refine ok_ite (fun _ => ?_) (fun _ => ?_)
    | (intro s1; refine (fun (h1 : State.Ok Q s1) => ?_) ?_; rotate_left; subst s1; rotate_right)
    | (intro (f : _ → _); subst f; dsimp -zeta only)
    | (intro s1; fail_if_success (have : State := s1))
    | lift_lets
    | split
    | intro _

theorem State.slotRecord_ok (h : s.Ok Q) (c : Commit) (launched : Bool) (hw : Q.mask &&& 0x10000000000000000000000000000000000000000000000000000000000000000000000000000000000000000000000000000000000000000000000000000000000000000000000000000000000000000000000000000000000000000000000000000000000000000000000000000000000000000000000000000000000000000000000 = 0) : (s.slotRecord c launched).Ok Q := by
  unfold State.slotRecord
  refine ok_ite (fun _ => h) (fun _ => ok_slotHist h (Kit.bit hw (by decide +kernel)) ?_)
  rw [List.length_drop]
  omega

theorem State.decideCommit_ok (h : s.Ok Q) (c : Commit) (agree : Bool) (hw : Q.mask &&& 0x2080019000000000000000000000000000000000000000000000000000000000000000000000000800000000000020000000000000000000000000000000000000000000100000000000000000000000000000000000000000000000000800000000000008000000000000000800000000000000000000000000000000000000038200000800 = 0) : (s.decideCommit c agree).Ok Q := by
  unfold State.decideCommit
  repeat' first
    | with_reducible assumption
    | with_reducible exact Kit.bit hw (by decide +kernel)
    | with_reducible exact Kit.sub hw (by decide +kernel)
    | with_reducible apply State.commitUnready_ok
    | with_reducible apply State.launch_ok
    | with_reducible apply State.engSuppressed_ok
    | with_reducible apply State.slotRecord_ok
    | with_reducible apply State.setLat_ok
    | with_reducible rfl
    | with_reducible refine ok_ite (fun _ => ?_) (fun _ => ?_)
    | (intro s1; refine (fun (h1 : State.Ok Q s1) => ?_) ?_; rotate_left; subst s1; rotate_right)
    | (intro (f : _ → _); subst f; dsimp -zeta only)
    | (intro s1; fail_if_success (have : State := s1))
    | lift_lets
    | split
    | intro _
    | with_reducible apply ok_commit

theorem State.decision_ok (h : s.Ok Q) (same : Bool) (hw : Q.mask &&& 0x2080019000000000000000000000000000000000000000000000000000000000000000000000000800000000000020000000000000001300000000000000000000000004100000000000000000000000000000004000000000000000000800000000000008000000000000000800000000000000000000000000000000000000038200000800 = 0) : (s.decision same).Ok Q := by
  unfold State.decision
  repeat' first
    | with_reducible assumption
    | with_reducible exact Kit.bit hw (by decide +kernel)
    | with_reducible exact Kit.sub hw (by decide +kernel)
    | with_reducible apply State.skewLatch_ok
    | with_reducible apply State.slotCompare_ok
    | with_reducible apply State.slotTokenMove_ok
    | with_reducible apply State.decideCommit_ok
    | with_reducible apply State.calArmAt_ok
    | with_reducible rfl
    | with_reducible refine ok_ite (fun _ => ?_) (fun _ => ?_)
    | (intro s1; refine (fun (h1 : State.Ok Q s1) => ?_) ?_; rotate_left; subst s1; rotate_right)
    | (intro (f : _ → _); subst f; dsimp -zeta only)
    | (intro s1; fail_if_success (have : State := s1))
    | lift_lets
    | split
    | intro _

theorem State.strobeTile_ok (h : s.Ok Q) (t : Nat) (missU missO : List Nat) (hw : Q.mask &&& 0x1000000000000000000000000000000000000000000000000000000000000000000000000000000000000000000000000000000100000000000000000000000000000000000000000000000000000000004000000000000000000000000000000000000000000000000000000000000000000000000000000000000000000000000000 = 0) : (s.strobeTile t missU missO).2.Ok Q := by
  unfold State.strobeTile
  repeat' first
    | with_reducible assumption
    | with_reducible exact Kit.bit hw (by decide +kernel)
    | with_reducible exact Kit.sub hw (by decide +kernel)
    | with_reducible apply State.send_ok
    | with_reducible apply State.setRbit_ok
    | with_reducible apply State.setFlag_ok
    | with_reducible rfl
    | with_reducible refine ok_ite (fun _ => ?_) (fun _ => ?_)
    | with_reducible refine ok_ite_snd (fun _ => ?_) (fun _ => ?_)
    | (intro s1; refine (fun (h1 : State.Ok Q s1) => ?_) ?_; rotate_left; subst s1; rotate_right)
    | (intro (f : _ → _); subst f; dsimp -zeta only)
    | (intro s1; fail_if_success (have : State := s1))
    | lift_lets
    | (split <;> first | (rename_i e; with_reducible refine (fun (h1 : State.Ok Q _) => ?_) (ok_snd e ?_)) | (rename_i e; with_reducible refine (fun (h1 : State.Ok Q _) => ?_) (ok_thd e ?_)) | (rename_i e; with_reducible refine (fun (h1 : State.Ok Q _) => ?_) (ok_mid e ?_)) | (rename_i e; with_reducible refine (fun (h1 : State.Ok Q _) => ?_) (ok_some e ?_)) | (rename_i e _; with_reducible refine (fun (h1 : State.Ok Q _) => ?_) (ok_snd e ?_)) | (rename_i e _; with_reducible refine (fun (h1 : State.Ok Q _) => ?_) (ok_thd e ?_)) | (rename_i e _; with_reducible refine (fun (h1 : State.Ok Q _) => ?_) (ok_mid e ?_)) | (rename_i e _; with_reducible refine (fun (h1 : State.Ok Q _) => ?_) (ok_some e ?_)) | skip)
    | intro _

theorem State.edgeTile_ok (h : s.Ok Q) (c : Commit) (t : Nat) (missU missO : List Nat) (hw : Q.mask &&& 0x1000000000000000000000000000000000000000000000000000000000000000008000002000000000000000000000000000000100000000000000400000000000003f000000000000000000000000000040000000000000000000000000000000000000000000000000000000000000000078300000000000000000000008c0900000 = 0) : (s.edgeTile c t missU missO).Ok Q := by
  unfold State.edgeTile
  repeat' first
    | with_reducible assumption
    | with_reducible exact Kit.bit hw (by decide +kernel)
    | with_reducible exact Kit.sub hw (by decide +kernel)
    | with_reducible apply State.strobeTile_ok
    | with_reducible apply State.setFlag_ok
    | with_reducible apply State.wrapInc_ok
    | with_reducible apply State.edgeCh_ok
    | with_reducible apply forUpto_ok
    | with_reducible rfl
    | (intro i1 s1 (h1 : State.Ok Q s1))
    | (intro s1 i1 (h1 : State.Ok Q s1))
    | with_reducible refine ok_ite (fun _ => ?_) (fun _ => ?_)
    | (intro s1; refine (fun (h1 : State.Ok Q s1) => ?_) ?_; rotate_left; subst s1; rotate_right)
    | (intro (f : _ → _); subst f; dsimp -zeta only)
    | (intro s1; fail_if_success (have : State := s1))
    | lift_lets
    | (split <;> first | (rename_i e; with_reducible refine (fun (h1 : State.Ok Q _) => ?_) (ok_snd e ?_)) | (rename_i e; with_reducible refine (fun (h1 : State.Ok Q _) => ?_) (ok_thd e ?_)) | (rename_i e; with_reducible refine (fun (h1 : State.Ok Q _) => ?_) (ok_mid e ?_)) | (rename_i e; with_reducible refine (fun (h1 : State.Ok Q _) => ?_) (ok_some e ?_)) | (rename_i e _; with_reducible refine (fun (h1 : State.Ok Q _) => ?_) (ok_snd e ?_)) | (rename_i e _; with_reducible refine (fun (h1 : State.Ok Q _) => ?_) (ok_thd e ?_)) | (rename_i e _; with_reducible refine (fun (h1 : State.Ok Q _) => ?_) (ok_mid e ?_)) | (rename_i e _; with_reducible refine (fun (h1 : State.Ok Q _) => ?_) (ok_some e ?_)) | skip)
    | intro _

theorem State.strobeEdge_ok (h : s.Ok Q) (missU missO : List Nat) (hw : Q.mask &&& 0x9000000000000000000000000000000000000000000000000000000000000000008000002000000000000000000000000012000100000000000000700000000000003f000000000000000000000000000040000000000000000000000000000000000000000000000002000000000000000078300000000000000000000008c0900000 = 0) : (s.strobeEdge missU missO).Ok Q := by
  unfold State.strobeEdge
  repeat' first
    | with_reducible assumption
    | with_reducible exact Kit.bit hw (by decide +kernel)
    | with_reducible exact Kit.sub hw (by decide +kernel)
    | with_reducible apply State.edgeTile_ok
    | with_reducible apply State.setLat_ok
    | with_reducible apply State.setRbit_ok
    | with_reducible apply forIn'_ok
    | with_reducible rfl
    | (intro i1 s1 (h1 : State.Ok Q s1))
    | (intro s1 i1 (h1 : State.Ok Q s1))
    | with_reducible refine ok_ite (fun _ => ?_) (fun _ => ?_)
    | (intro s1; refine (fun (h1 : State.Ok Q s1) => ?_) ?_; rotate_left; subst s1; rotate_right)
    | (intro (f : _ → _); subst f; dsimp -zeta only)
    | (intro s1; fail_if_success (have : State := s1))
    | lift_lets
    | split
    | intro _
    | with_reducible apply ok_commit

theorem State.groupLoad_ok (h : s.Ok Q) (g : Nat) (hw : Q.mask &&& 0x80000000000000000000000000000000000000000000000000000000000000000080000000000000000000000000000000000000000000000000004000000000000800000000000000000000000000000000000000000000000000000000000000000000000000000000000000000000000000000000000000000000000000c0900000 = 0) : (s.groupLoad g).Ok Q := by
  unfold State.groupLoad
  repeat' first
    | with_reducible assumption
    | with_reducible exact Kit.bit hw (by decide +kernel)
    | with_reducible exact Kit.sub hw (by decide +kernel)
    | with_reducible apply State.groupCh_ok
    | with_reducible apply forUpto_ok
    | with_reducible apply forIn'_ok
    | with_reducible rfl
    | (intro i1 s1 (h1 : State.Ok Q s1))
    | (intro s1 i1 (h1 : State.Ok Q s1))
    | with_reducible refine ok_ite (fun _ => ?_) (fun _ => ?_)
    | (intro s1; refine (fun (h1 : State.Ok Q s1) => ?_) ?_; rotate_left; subst s1; rotate_right)
    | (intro (f : _ → _); subst f; dsimp -zeta only)
    | (intro s1; fail_if_success (have : State := s1))
    | lift_lets
    | split
    | intro _
    | with_reducible apply ok_commit

theorem State.boundaryPast_ok (h : s.Ok Q) (hw : Q.mask &&& 0x4000000000000000000000000010000000000000000000f8000000000000000000000000000000000000000000000000000000000000000000000000000000000000000000000000000000000000000000000000000000000000000000000 = 0) : (s.boundaryPast).Ok Q := by
  unfold State.boundaryPast
  repeat' first
    | with_reducible assumption
    | with_reducible exact Kit.bit hw (by decide +kernel)
    | with_reducible exact Kit.sub hw (by decide +kernel)
    | with_reducible apply State.setLat_ok
    | with_reducible apply State.setFlag_ok
    | with_reducible rfl
    | with_reducible refine ok_ite (fun _ => ?_) (fun _ => ?_)
    | (intro s1; refine (fun (h1 : State.Ok Q s1) => ?_) ?_; rotate_left; subst s1; rotate_right)
    | (intro (f : _ → _); subst f; dsimp -zeta only)
    | (intro s1; fail_if_success (have : State := s1))
    | lift_lets
    | split
    | intro _

theorem State.posBegin_ok (h : s.Ok Q) (m p t c : Nat) (hw : Q.mask &&& 0x8400000000000000000000000000000000000000000000000000000000000000000000000020000000000000000000000000006000000000000000000400000000000000000000000000000000000000000000000000000000000000000000000000000000000000000000c000000000000000000000000000000000000000000000000 = 0) : (s.posBegin m p t c).Ok Q := by
  unfold State.posBegin
  repeat' first
    | with_reducible assumption
    | with_reducible exact Kit.bit hw (by decide +kernel)
    | with_reducible exact Kit.sub hw (by decide +kernel)
    | with_reducible apply State.setLat_ok
    | with_reducible apply State.setReg_ok
    | with_reducible apply State.setNextOp_ok
    | with_reducible apply State.occBegin_ok
    | with_reducible apply State.publish_ok
    | with_reducible rfl
    | with_reducible refine ok_ite (fun _ => ?_) (fun _ => ?_)
    | (intro s1; refine (fun (h1 : State.Ok Q s1) => ?_) ?_; rotate_left; subst s1; rotate_right)
    | (intro (f : _ → _); subst f; dsimp -zeta only)
    | (intro s1; fail_if_success (have : State := s1))
    | lift_lets
    | split
    | intro _

theorem State.toSlotted_ok (h : s.Ok Q) (hm : Q.anyMode) (hw : Q.mask &&& 0x1040c000000000000000000000000000000000000000000000000000000000000000040000000000000000000000000000000000000000000000004000000000007000300000000000000000000000000000000000000000000000000000000000000000000000000000000000000000000000002000000000000800000008000000001c = 0) : s.toSlotted.Ok Q := by
  unfold State.toSlotted
  split
  · rename_i c
    have e : (s.enterMode .slotted).Ok Q :=
      State.enterMode_ok h hm _ (fun a => nomatch c.symm.trans a) (Kit.sub hw (by decide +kernel))
    repeat' first
      | with_reducible assumption
      | with_reducible exact Kit.bit hw (by decide +kernel)
      | with_reducible exact Kit.sub hw (by decide +kernel)
      | with_reducible apply State.enterMode_ok
      | with_reducible apply State.trimDiscardAll_ok
      | with_reducible apply State.prfEndAll_ok
      | with_reducible apply State.rangeFollowAll_ok
      | with_reducible rfl
      | with_reducible refine ok_ite (fun _ => ?_) (fun _ => ?_)
      | (intro s1; refine (fun (h1 : State.Ok Q s1) => ?_) ?_; rotate_left; subst s1; rotate_right)
      | (intro (f : _ → _); subst f; dsimp -zeta only)
      | (intro s1; fail_if_success (have : State := s1))
      | lift_lets
      | split
      | intro _
      | with_reducible apply ok_prior
  
  · repeat' first
      | with_reducible assumption
      | with_reducible exact Kit.bit hw (by decide +kernel)
      | with_reducible exact Kit.sub hw (by decide +kernel)
      | with_reducible apply State.enterMode_ok
      | with_reducible apply State.trimDiscardAll_ok
      | with_reducible apply State.prfEndAll_ok
      | with_reducible apply State.rangeFollowAll_ok
      | with_reducible rfl
      | with_reducible refine ok_ite (fun _ => ?_) (fun _ => ?_)
      | (intro s1; refine (fun (h1 : State.Ok Q s1) => ?_) ?_; rotate_left; subst s1; rotate_right)
      | (intro (f : _ → _); subst f; dsimp -zeta only)
      | (intro s1; fail_if_success (have : State := s1))
      | lift_lets
      | split
      | intro _
      | with_reducible apply ok_prior
  
  · exact h

theorem State.switchover_ok (h : s.Ok Q) (hm : Q.anyMode) (t : Nat) (hw : Q.mask &&& 0x1a40c00000000000000000000000000000000000000000000000000000000000000004000002000000000000000000000000e006000000000000004000400000007000300000000000000000000000000000000000000000000000000000000000000000000000000000000f80080000000000002040000000000800000008000000001c = 0) : (s.switchover t).Ok Q := by
  unfold State.switchover
  repeat' first
    | with_reducible assumption
    | with_reducible exact Kit.bit hw (by decide +kernel)
    | with_reducible exact Kit.sub hw (by decide +kernel)
    | with_reducible apply State.ringEnd_ok
    | with_reducible apply State.occDrop_ok
    | with_reducible apply State.occSwitch_ok
    | with_reducible apply State.setFld_ok
    | with_reducible apply State.setReg_ok
    | with_reducible apply State.posBegin_ok
    | with_reducible apply State.toSlotted_ok
    | with_reducible rfl
    | with_reducible refine ok_ite (fun _ => ?_) (fun _ => ?_)
    | (intro s1; refine (fun (h1 : State.Ok Q s1) => ?_) ?_; rotate_left; subst s1; rotate_right)
    | (intro (f : _ → _); subst f; dsimp -zeta only)
    | (intro s1; fail_if_success (have : State := s1))
    | lift_lets
    | split
    | intro _

theorem State.stopBoundary_ok (h : s.Ok Q) (hm : Q.anyMode) (hw : Q.mask &&& 0xa40c00000000000000000000000000000000000000000000000000000000000000004000002000000000000000000000000f600000000000000004000000000000000000000000000000000000000000000000000000000000000000000000000000000000000000000020380080000000000000000000000000800000000000000001c = 0) : s.stopBoundary.Ok Q := by
  unfold State.stopBoundary
  have leave : ∀ {s : State}, s.Ok Q → s.mode = .slotted → (s.enterMode .static).Ok Q := fun h c =>
    State.enterMode_ok h hm _ (fun a => nomatch c.symm.trans a) (Kit.sub hw (by decide +kernel))
  repeat' first
    | with_reducible assumption
    | with_reducible apply leave
    | with_reducible exact Kit.bit hw (by decide +kernel)
    | with_reducible exact Kit.sub hw (by decide +kernel)
    | with_reducible apply State.ringEnd_ok
    | with_reducible apply State.occDrop_ok
    | with_reducible apply State.setLat_ok
    | with_reducible apply State.setFld_ok
    | with_reducible apply State.setReg_ok
    | with_reducible apply State.enterMode_ok
    | with_reducible apply State.rangeFollowAll_ok
    | with_reducible apply State.setRbit_ok
    | with_reducible apply State.setFlag_ok
    | with_reducible rfl
    | with_reducible refine ok_ite (fun _ => ?_) (fun _ => ?_)
    | (intro s1; refine (fun (h1 : State.Ok Q s1) => ?_) ?_; rotate_left; subst s1; rotate_right)
    | (intro (f : _ → _); subst f; dsimp -zeta only)
    | (intro s1; fail_if_success (have : State := s1))
    | lift_lets
    | split
    | intro _
    | with_reducible apply ok_prior


theorem State.slotBoundary_ok (h : s.Ok Q) (hm : Q.anyMode) (hw : Q.mask &&& 0x1ad0c0000000000000000000000000000000000000000000000000000000000000000400000e000000000000e00004000000f70600000000000000400fc00000007000300000000000000000000012000000000000000034781000000000000000000000000000000000020f80080000000000002040000000004800000008000000001c = 0) : (s.slotBoundary).Ok Q := by
  unfold State.slotBoundary
  repeat' first
    | with_reducible assumption
    | with_reducible exact Kit.bit hw (by decide +kernel)
    | with_reducible exact Kit.sub hw (by decide +kernel)
    | with_reducible apply State.boundaryPast_ok
    | with_reducible apply State.switchover_ok
    | with_reducible apply State.stopBoundary_ok
    | with_reducible apply State.occEnd_ok
    | with_reducible apply State.posBegin_ok
    | with_reducible apply State.calApply_ok
    | with_reducible apply State.setLat_ok
    | with_reducible rfl
    | with_reducible refine ok_ite (fun _ => ?_) (fun _ => ?_)
    | (intro s1; refine (fun (h1 : State.Ok Q s1) => ?_) ?_; rotate_left; subst s1; rotate_right)
    | (intro (f : _ → _); subst f; dsimp -zeta only)
    | (intro s1; fail_if_success (have : State := s1))
    | lift_lets
    | split
    | intro _
    | with_reducible apply ok_commit

end Sys2Proof.Machine
end

