-- ==== Sys2Proof/Laws/KeepSpan.lean ====
section
/-! SUPPORT. The operations of Machine/Span.lean keep soundness and the queue. -/
set_option Elab.async false
namespace Sys2Proof.Machine

variable {Q : Kit} {s : State}

theorem State.nextSpan_ok (h : s.Ok Q) (hw : Q.mask &&& 0x3e0000000000000000000000000000000000000000000000000000000000000000000000000000000000000000000000000000000000000000000000000000000000000000000 = 0) : (s.nextSpan).Ok Q := by
  unfold State.nextSpan
  repeat' first
    | with_reducible assumption
    | with_reducible exact Kit.bit hw (by decide +kernel)
    | with_reducible exact Kit.sub hw (by decide +kernel)
    | with_reducible apply State.setLat_ok
    | with_reducible apply State.setFlag_ok
    | with_reducible rfl
    | with_reducible refine ok_ite (fun _ => ?_) (fun _ => ?_)
    | (intro s1; refine (fun (h1 : State.Ok Q s1) => ?_) ?_; rotate_left; subst s1; rotate_right)
    | (intro (f : _ → _); subst f; dsimp -zeta only)
    | (intro s1; fail_if_success (have : State := s1))
    | lift_lets
    | split
    | intro _

theorem State.spanStamp_ok (h : s.Ok Q) (hw : Q.mask &&& 0xf00000000000000000000000000000000000000000000000000000000000000 = 0) : (s.spanStamp).Ok Q := by
  unfold State.spanStamp
  repeat' first
    | with_reducible assumption
    | with_reducible exact Kit.bit hw (by decide +kernel)
    | with_reducible exact Kit.sub hw (by decide +kernel)
    | with_reducible apply State.setReg_ok
    | with_reducible rfl
    | with_reducible refine ok_ite (fun _ => ?_) (fun _ => ?_)
    | (intro s1; refine (fun (h1 : State.Ok Q s1) => ?_) ?_; rotate_left; subst s1; rotate_right)
    | (intro (f : _ → _); subst f; dsimp -zeta only)
    | (intro s1; fail_if_success (have : State := s1))
    | lift_lets
    | split
    | intro _

theorem State.staticEnd_ok (h : s.Ok Q) (hw : Q.mask &&& 0x2000008000000000000000000000000000000000000000000000000000000000000000000000000000000000000000000000000012000000000000000000000000000000000000000000000000000000000000000000000000000000000000000000000000000000000000000200000000000000000000000000000000000000000000000000 = 0) : (s.staticEnd).Ok Q := by
  unfold State.staticEnd
  repeat' first
    | with_reducible assumption
    | with_reducible exact Kit.bit hw (by decide +kernel)
    | with_reducible exact Kit.sub hw (by decide +kernel)
    | with_reducible apply State.engSuppressed_ok
    | with_reducible apply State.setLat_ok
    | with_reducible apply State.setRbit_ok
    | with_reducible rfl
    | with_reducible refine ok_ite (fun _ => ?_) (fun _ => ?_)
    | (intro s1; refine (fun (h1 : State.Ok Q s1) => ?_) ?_; rotate_left; subst s1; rotate_right)
    | (intro (f : _ → _); subst f; dsimp -zeta only)
    | (intro s1; fail_if_success (have : State := s1))
    | lift_lets
    | split
    | intro _
    | with_reducible apply ok_commit

theorem State.setOpen_ok (h : s.Ok Q) (t : Nat) (hw : Q.mask &&& 0x80000000000000000000000 = 0) : (s.setOpen t).Ok Q := by
  unfold State.setOpen
  repeat' first
    | with_reducible assumption
    | with_reducible exact Kit.bit hw (by decide +kernel)
    | with_reducible exact Kit.sub hw (by decide +kernel)
    | with_reducible apply State.setMapBit_ok
    | with_reducible apply forUpto_ok
    | with_reducible rfl
    | (intro i1 s1 (h1 : State.Ok Q s1))
    | (intro s1 i1 (h1 : State.Ok Q s1))
    | with_reducible refine ok_ite (fun _ => ?_) (fun _ => ?_)
    | (intro s1; refine (fun (h1 : State.Ok Q s1) => ?_) ?_; rotate_left; subst s1; rotate_right)
    | (intro (f : _ → _); subst f; dsimp -zeta only)
    | (intro s1; fail_if_success (have : State := s1))
    | lift_lets
    | split
    | intro _

theorem State.latchInputs_ok (h : s.Ok Q) (t : Nat) (hw : Q.mask &&& 0x380000000000000000000000000000000000000000000000000000000000000000000000000000000000000000000000000000000000000000000000000000000000000000000000000000000 = 0) : (s.latchInputs t).Ok Q := by
  unfold State.latchInputs
  repeat' first
    | with_reducible assumption
    | with_reducible exact Kit.bit hw (by decide +kernel)
    | with_reducible exact Kit.sub hw (by decide +kernel)
    | with_reducible apply State.setLat_ok
    | with_reducible apply forUpto_ok
    | with_reducible rfl
    | (intro i1 s1 (h1 : State.Ok Q s1))
    | (intro s1 i1 (h1 : State.Ok Q s1))
    | with_reducible refine ok_ite (fun _ => ?_) (fun _ => ?_)
    | (intro s1; refine (fun (h1 : State.Ok Q s1) => ?_) ?_; rotate_left; subst s1; rotate_right)
    | (intro (f : _ → _); subst f; dsimp -zeta only)
    | (intro s1; fail_if_success (have : State := s1))
    | lift_lets
    | split
    | intro _

theorem State.loadBanks_ok (h : s.Ok Q) (t c : Nat) (hw : Q.mask &&& 0x80000000000000000000020000000000000000000000000000000000000000000000000000000000000000000000000000000000000000000000000000000000000000000000000000000000000000000000000000001000000000000000c0800000 = 0) : (s.loadBanks t c).Ok Q := by
  unfold State.loadBanks
  repeat' first
    | with_reducible assumption
    | with_reducible exact Kit.bit hw (by decide +kernel)
    | with_reducible exact Kit.sub hw (by decide +kernel)
    | with_reducible apply State.setLoopAct_ok
    | with_reducible apply State.loadLoop_ok
    | with_reducible apply State.setMapBit_ok
    | with_reducible rfl
    | with_reducible refine ok_ite (fun _ => ?_) (fun _ => ?_)
    | (intro s1; refine (fun (h1 : State.Ok Q s1) => ?_) ?_; rotate_left; subst s1; rotate_right)
    | (intro (f : _ → _); subst f; dsimp -zeta only)
    | (intro s1; fail_if_success (have : State := s1))
    | lift_lets
    | split
    | intro _

theorem State.heaterBoundary_ok (h : s.Ok Q) (t c : Nat) (load : Bool) (hw : Q.mask &&& 0x80000000000000000000020000000000000000000000000000000000000000000180000000000000000000000000000000000000000000000000000000000000000000000000000000000000000000000000000000001000000000000000c0800000 = 0) : (s.heaterBoundary t c load).Ok Q := by
  unfold State.heaterBoundary
  repeat' first
    | with_reducible assumption
    | with_reducible exact Kit.bit hw (by decide +kernel)
    | with_reducible exact Kit.sub hw (by decide +kernel)
    | with_reducible apply State.htrModeBoundary_ok
    | with_reducible apply State.loadMan_ok
    | with_reducible apply State.loadBanks_ok
    | with_reducible apply State.selectLoop_ok
    | with_reducible rfl
    | with_reducible refine ok_ite (fun _ => ?_) (fun _ => ?_)
    | (intro s1; refine (fun (h1 : State.Ok Q s1) => ?_) ?_; rotate_left; subst s1; rotate_right)
    | (intro (f : _ → _); subst f; dsimp -zeta only)
    | (intro s1; fail_if_success (have : State := s1))
    | lift_lets
    | split
    | intro _

theorem State.snapshot_ok (h : s.Ok Q) (t : Nat) (hw : Q.mask &&& 0x3f8000000000000000000000000000 = 0) : (s.snapshot t).Ok Q := by
  have a : ∀ w, (0x3f8000000000000000000000000000).testBit (snapRegs.getD w .LOOP_I).ctorIdx = true
    | 0 => by decide +kernel
    | 1 => by decide +kernel
    | 2 => by decide +kernel
    | 3 => by decide +kernel
    | 4 => by decide +kernel
    | 5 => by decide +kernel
    | 6 => by decide +kernel
    | _ + 7 => by
      show (0x3f8000000000000000000000000000).testBit (Reg.LOOP_I).ctorIdx = true
      decide +kernel
  unfold State.snapshot
  exact forUpto_ok h (fun c s h => forUpto_ok h (fun w s h => State.setTreg_ok h _ _ _ _ _ (Kit.bit hw (a w))))

theorem State.movesBoundary_ok (h : s.Ok Q) (t : Nat) (hw : Q.mask &&& 0x400000000000003f00000000000000000000000000000000000000000000000000000000000000000000000000000000000000000000003860000000000000000000000000100000 = 0) : (s.movesBoundary t).Ok Q := by
  unfold State.movesBoundary
  repeat' first
    | with_reducible assumption
    | with_reducible exact Kit.bit hw (by decide +kernel)
    | with_reducible exact Kit.sub hw (by decide +kernel)
    | with_reducible apply State.prfEnd_ok
    | with_reducible apply State.prfPause_ok
    | with_reducible apply State.setFlag_ok
    | with_reducible apply State.prfBoundary_ok
    | with_reducible apply State.loadDrv_ok
    | with_reducible apply forUpto_ok
    | with_reducible rfl
    | (intro i1 s1 (h1 : State.Ok Q s1))
    | (intro s1 i1 (h1 : State.Ok Q s1))
    | with_reducible refine ok_ite (fun _ => ?_) (fun _ => ?_)
    | (intro s1; refine (fun (h1 : State.Ok Q s1) => ?_) ?_; rotate_left; subst s1; rotate_right)
    | (intro (f : _ → _); subst f; dsimp -zeta only)
    | (intro s1; fail_if_success (have : State := s1))
    | lift_lets
    | split
    | intro _

theorem State.freeRecords_ok (h : s.Ok Q) (t : Nat) (hw : Q.mask &&& 0x400000000000000000000000000000000000000000000000000000000000000000000000000000000000000000000000000000000000000000000000000000000000000000000000000000 = 0) : (s.freeRecords t).Ok Q := by
  unfold State.freeRecords
  repeat' first
    | with_reducible assumption
    | with_reducible exact Kit.bit hw (by decide +kernel)
    | with_reducible exact Kit.sub hw (by decide +kernel)
    | with_reducible apply State.setLat_ok
    | with_reducible apply forUpto_ok
    | with_reducible rfl
    | (intro i1 s1 (h1 : State.Ok Q s1))
    | (intro s1 i1 (h1 : State.Ok Q s1))
    | with_reducible refine ok_ite (fun _ => ?_) (fun _ => ?_)
    | (intro s1; refine (fun (h1 : State.Ok Q s1) => ?_) ?_; rotate_left; subst s1; rotate_right)
    | (intro (f : _ → _); subst f; dsimp -zeta only)
    | (intro s1; fail_if_success (have : State := s1))
    | lift_lets
    | split
    | intro _

theorem State.takeEvents_ok (h : s.Ok Q) (t : Nat) (hw : Q.mask &&& 0x400000000000000000000000000000000000000000002000000000000000000000000000000000000000000000000000000000000000000000000000000000000000000000000000000000000 = 0) : (s.takeEvents t).Ok Q := by
  unfold State.takeEvents
  repeat' first
    | with_reducible assumption
    | with_reducible exact Kit.bit hw (by decide +kernel)
    | with_reducible exact Kit.sub hw (by decide +kernel)
    | with_reducible apply State.setFlag_ok
    | with_reducible apply State.evtTake_ok
    | with_reducible rfl
    | with_reducible refine ok_ite (fun _ => ?_) (fun _ => ?_)
    | (intro s1; refine (fun (h1 : State.Ok Q s1) => ?_) ?_; rotate_left; subst s1; rotate_right)
    | (intro (f : _ → _); subst f; dsimp -zeta only)
    | (intro s1; fail_if_success (have : State := s1))
    | lift_lets
    | split
    | intro _

theorem State.tileBoundary_ok (h : s.Ok Q) (t : Nat) (hw : Q.mask &&& 0x9a50068000000000000000000000000000000000000000000000000000000000000090c0000000000000000013fff90000000000000f7f77f84be000403800080ff00dbf0000000000000e0000020000000801148000000b80100000000000000000000000000000000000000000000020000138603f80001800000080048804c0984020 = 0) : (s.tileBoundary t).Ok Q := by
  unfold State.tileBoundary
  repeat' first
    | with_reducible assumption
    | with_reducible exact Kit.bit hw (by decide +kernel)
    | with_reducible exact Kit.sub hw (by decide +kernel)
    | with_reducible apply State.leaveTileHold_ok
    | with_reducible apply State.redBoundary_ok
    | with_reducible apply State.setFlag_ok
    | with_reducible apply State.snapshot_ok
    | with_reducible apply State.freeRecords_ok
    | with_reducible apply State.setLat_ok
    | with_reducible apply State.heaterBoundary_ok
    | with_reducible apply State.calBoundaryEnd_ok
    | with_reducible apply State.movesBoundary_ok
    | with_reducible apply State.setOpen_ok
    | with_reducible apply State.latchInputs_ok
    | with_reducible apply State.takeEvents_ok
    | with_reducible apply State.streamBoundary_ok
    | with_reducible apply State.owtBoundary_ok
    | with_reducible apply State.ddsBoundary_ok
    | with_reducible apply State.calBoundaryBegin_ok
    | with_reducible apply State.trimBoundary_ok
    | with_reducible apply forUpto_ok
    | with_reducible rfl
    | (intro i1 s1 (h1 : State.Ok Q s1))
    | (intro s1 i1 (h1 : State.Ok Q s1))
    | with_reducible refine ok_ite (fun _ => ?_) (fun _ => ?_)
    | (intro s1; refine (fun (h1 : State.Ok Q s1) => ?_) ?_; rotate_left; subst s1; rotate_right)
    | (intro (f : _ → _); subst f; dsimp -zeta only)
    | (intro s1; fail_if_success (have : State := s1))
    | lift_lets
    | split
    | intro _

theorem State.tileAtBoundary_ok (h : s.Ok Q) (t : Nat) (hw : Q.mask &&& 0x9a50068000000000000000000000000000000000000000000000000000000000000090c0000000000000000013fff90000000000000f7f77f84be000403800080ff00dbf0000000000000e0000020000000801148000000b80100000000000000000000000000000000000000000000020000138603f80001800000080048804c0984020 = 0) : (s.tileAtBoundary t).Ok Q := by
  unfold State.tileAtBoundary
  repeat' first
    | with_reducible assumption
    | with_reducible exact Kit.bit hw (by decide +kernel)
    | with_reducible exact Kit.sub hw (by decide +kernel)
    | with_reducible apply State.setTbit_ok
    | with_reducible apply State.tileBoundary_ok
    | with_reducible rfl
    | with_reducible refine ok_ite (fun _ => ?_) (fun _ => ?_)
    | (intro s1; refine (fun (h1 : State.Ok Q s1) => ?_) ?_; rotate_left; subst s1; rotate_right)
    | (intro (f : _ → _); subst f; dsimp -zeta only)
    | (intro s1; fail_if_success (have : State := s1))
    | lift_lets
    | split
    | intro _

theorem State.spanBoundary_ok (h : s.Ok Q) (hbU hbO : Nat) (hw : Q.mask &&& 0x20809ad1068000000000000000000000000000000000000000000000000000000000000090c00000000000000000f3fffd03800012000f0f7f77f84be000403be0080ff00dbf0000000000000e0000021202400841148000003ff810000800000000000008000f000000000002000000000020000138603f80001800400080048804c0984020 = 0) : (s.spanBoundary hbU hbO).Ok Q := by
  unfold State.spanBoundary
  repeat' first
    | with_reducible assumption
    | with_reducible exact Kit.bit hw (by decide +kernel)
    | with_reducible exact Kit.sub hw (by decide +kernel)
    | with_reducible apply State.nextSpan_ok
    | with_reducible apply State.spanStamp_ok
    | with_reducible apply State.slotPairBoundary_ok
    | with_reducible apply State.staticEnd_ok
    | with_reducible apply State.calApply_ok
    | with_reducible apply State.tileAtBoundary_ok
    | with_reducible apply State.engSpan_ok
    | with_reducible apply forIn'_ok
    | with_reducible rfl
    | (intro i1 s1 (h1 : State.Ok Q s1))
    | (intro s1 i1 (h1 : State.Ok Q s1))
    | with_reducible refine ok_ite (fun _ => ?_) (fun _ => ?_)
    | (intro s1; refine (fun (h1 : State.Ok Q s1) => ?_) ?_; rotate_left; subst s1; rotate_right)
    | (intro (f : _ → _); subst f; dsimp -zeta only)
    | (intro s1; fail_if_success (have : State := s1))
    | lift_lets
    | split
    | intro _

end Sys2Proof.Machine
end

