-- ==== Sys2Proof/Laws/KeepSable.lean ====
section
/-! SUPPORT. The operations of Machine/Sable.lean keep soundness and the queue. -/
set_option Elab.async false
namespace Sys2Proof.Machine

variable {Q : Kit} {s : State}

theorem State.forceAll_ok (h : s.Ok Q) (hw : Q.mask &&& 0x40100000 = 0) : (s.forceAll).Ok Q := by
  unfold State.forceAll
  repeat' first
    | with_reducible assumption
    | with_reducible exact Kit.bit hw (by decide +kernel)
    | with_reducible exact Kit.sub hw (by decide +kernel)
    | with_reducible apply State.forceSable_ok
    | with_reducible apply forUpto_ok
    | with_reducible apply forIn'_ok
    | with_reducible rfl
    | (intro i1 s1 (h1 : State.Ok Q s1))
    | (intro s1 i1 (h1 : State.Ok Q s1))
    | with_reducible refine ok_ite (fun _ => ?_) (fun _ => ?_)
    | (intro s1; refine (fun (h1 : State.Ok Q s1) => ?_) ?_; rotate_left; subst s1; rotate_right)
    | (intro (f : _ → _); subst f; dsimp -zeta only)
    | (intro s1; fail_if_success (have : State := s1))
    | lift_lets
    | split
    | intro _

theorem State.sableEntry_ok (h : s.Ok Q) (hm : Q.anyMode) (hw : Q.mask &&& 0x93105847300000000000000000000000000000000000000000000000000000000000002600008000800020000000000000000000000000000000000d4000000000507800300000000000022e02242002000040040200000080001000180004080042000201600000000800020000080000000081003000000001000800a80488004090081c = 0) : s.sableEntry.Ok Q := by
  unfold State.sableEntry
  have go : ∀ {s : State}, s.Ok Q → (s.enterMode .sable).Ok Q := fun h =>
    State.enterMode_ok h hm _ (fun _ => rfl) (Kit.sub hw (by decide +kernel))
  repeat' first
    | with_reducible assumption
    | with_reducible apply go
    | with_reducible exact Kit.bit hw (by decide +kernel)
    | with_reducible exact Kit.sub hw (by decide +kernel)
    | with_reducible apply State.forceAll_ok
    | with_reducible apply State.setRbit_ok
    | with_reducible apply State.cutPulses_ok
    | with_reducible apply State.trimDiscardAll_ok
    | with_reducible apply State.sysAbandonAll_ok
    | with_reducible apply State.prfEndAll_ok
    | with_reducible apply State.portsDown_ok
    | with_reducible apply State.setLat_ok
    | with_reducible apply State.dmaAbort_ok
    | with_reducible apply State.plvDown_ok
    | with_reducible apply State.setFlag_ok
    | with_reducible apply State.enterMode_ok
    | with_reducible rfl
    | with_reducible refine ok_ite (fun _ => ?_) (fun _ => ?_)
    | (intro s1; refine (fun (h1 : State.Ok Q s1) => ?_) ?_; rotate_left; subst s1; rotate_right)
    | (intro (f : _ → _); subst f; dsimp -zeta only)
    | (intro s1; fail_if_success (have : State := s1))
    | lift_lets
    | split
    | intro _


end Sys2Proof.Machine
end

