-- ==== Sys2Proof/Laws/KeepReset.lean ====
section
/-! SUPPORT. The operations of Machine/Reset.lean keep soundness and the queue. -/
set_option Elab.async false
namespace Sys2Proof.Machine

variable {Q : Kit} {s : State}

theorem State.resetTo_ok (h : s.Ok Q) (hr : Q.bare) (k : ResetKind) (hk : k = .power → Q.g = none) (hz : Q.mask = 0) : (s.resetTo k).Ok Q := by
  unfold State.resetTo
  extract_lets frozen rs s0 ls kept src r0 r1 r2
  have h0 : s0.Ok Q := ok_ite (fun _ => h) (fun _ => State.cutPulses_ok h (Kit.subz hz))
  have e : kept.Ok Q := State.keepOnly_ok h0 rs ls hz
  replace h := h0
  have no {i : Nat} {P : Prop} : Q.mask.testBit i = true → P := Kit.no (Kit.bitz hz)
  have e0 : r0.Ok Q := by
    refine ⟨?_, ?_⟩
    · constructor
      · exact h.1.q
      · intro g e
        show (if _ then _ else _) = g
        split
        · exact (nomatch (hk ‹_›).symm.trans e)
        · exact h.1.g g e
      · exact fun _ e => (nomatch hr.1.symm.trans e)
      · exact fun _ e => (nomatch hr.2.1.symm.trans e)
      · exact fun e => (nomatch hr.2.2.symm.trans e)
      all_goals first
        | exact no
        | exact fun _ => no
    · constructor
      · exact e.2.regs
      · exact e.2.lats
      · rfl
      · rfl
      · rfl
      · rfl
      · rfl
      · rfl
      · rfl
      · exact h.2.flash
      · show spRising (if _ then _ else _) = true
        split
        · exact filter_rising _ h.2.dram
        · rfl
      · rfl
      · exact (show 0 < 1000000000 by decide)
      · exact Nat.two_pow_pos 48
      · exact Nat.two_pow_pos 32
      · exact Nat.zero_le _
      · exact Nat.zero_le _
      · show List.length (if _ then _ else _) ≤ 256
        split
        · exact h.2.slotHist
        · exact Nat.zero_le _
  have e1 : r1.Ok Q := State.setLat_ok (State.setLat_ok (State.setLat_ok e0 _ _ _ _ _ (Kit.bitz hz)) _ _ _ _ _ (Kit.bitz hz)) _ _ _ _ _ (Kit.bitz hz)
  have e2 : r2.Ok Q := State.setRbit_ok (ok_freeCtr e1 (Kit.bitz hz)) _ _ _ _ _ (Kit.bitz hz)
  exact ok_ite (fun _ => e2) (fun _ => State.setRbit_ok e2 _ _ _ _ _ (Kit.bitz hz))

theorem State.latchStraps_ok (h : s.Ok Q) (straps : Nat) (hw : Q.mask &&& 0x2000000000000000000000000000000000000000000000000000000000000000000000000000000000000000000000000000000000000000000000 = 0) : (s.latchStraps straps).Ok Q := by
  unfold State.latchStraps
  repeat' first
    | with_reducible assumption
    | with_reducible exact Kit.bit hw (by decide +kernel)
    | with_reducible exact Kit.sub hw (by decide +kernel)
    | with_reducible apply State.setReg_ok
    | with_reducible rfl
    | with_reducible refine ok_ite (fun _ => ?_) (fun _ => ?_)
    | (intro s1; refine (fun (h1 : State.Ok Q s1) => ?_) ?_; rotate_left; subst s1; rotate_right)
    | (intro (f : _ → _); subst f; dsimp -zeta only)
    | (intro s1; fail_if_success (have : State := s1))
    | lift_lets
    | split
    | intro _

theorem State.clearTime_ok (h : s.Ok Q) (ht : Q.anyTime) (hw : Q.mask &&& 0x400080000000000000000000000000000000000000000000000000000000000000000000000000000000000000000000000000000000000000000000000000000000000000000000000000000000000000000000000000000000000000000000000000000000000000000000000000000000000000000000000000000000000000000 = 0) : s.clearTime.Ok Q := by
  have e : State.Ok Q { s with time := ⟨0, 0, 0⟩ } :=
    ok_time h ht (Kit.bit hw (by decide +kernel)) (by decide) (Nat.two_pow_pos 48) (Nat.two_pow_pos 32)
  exact ok_time0 e (Kit.bit hw (by decide +kernel))

theorem State.discard_ok (h : s.Ok Q) (hz : Q.mask = 0) : s.discard.Ok Q := by
  unfold State.discard
  have e := State.setRbit_ok (State.keepOnly_ok h partRegs partLats hz) .PTP_STATUS 1 (s.rbit .PTP_STATUS 1) 0 0 (Kit.bitz hz)
  have e1 := ok_tlb (x := []) (ok_wearQ (x := []) (ok_sram (x := []) (ok_bankEcc (x := []) (ok_banks (x := []) e (Kit.bitz hz) rfl)
    (Kit.bitz hz) rfl) (Kit.bitz hz) rfl) (Kit.bitz hz)) (Kit.bitz hz)
  exact State.setRbit_ok e1 _ _ _ _ _ (Kit.bitz hz)

end Sys2Proof.Machine
end

