-- ==== Sys2Proof/Laws/KeepBus.lean ====
section
/-! SUPPORT. The operations of Machine/Bus.lean keep soundness and the queue. -/
set_option Elab.async false
namespace Sys2Proof.Machine

variable {Q : Kit} {s : State}

theorem State.putWord_ok (h : s.Ok Q) (r : Reg) (t i j v : Nat) (hb : Q.mask.testBit r.ctorIdx = false) (hw : Q.mask &&& 0x10000000000000000000000000000000000000000000000000000000000000000000000000000000000000000000000000000000000000000000000000000000000000000000000000000000000000000000000000000000000000000000000000000000000000000000000000000000000000000000000000000000000000000 = 0) : (s.putWord r t i j v).Ok Q := by
  unfold State.putWord
  repeat' first
    | with_reducible assumption
    | with_reducible exact Kit.bit hw (by decide +kernel)
    | with_reducible exact Kit.sub hw (by decide +kernel)
    | with_reducible apply State.setTreg_ok
    | with_reducible apply State.setBefore_ok
    | with_reducible rfl
    | with_reducible refine ok_ite (fun _ => ?_) (fun _ => ?_)
    | (intro s1; refine (fun (h1 : State.Ok Q s1) => ?_) ?_; rotate_left; subst s1; rotate_right)
    | (intro (f : _ → _); subst f; dsimp -zeta only)
    | (intro s1; fail_if_success (have : State := s1))
    | lift_lets
    | split
    | intro _

theorem State.plainWrite_ok (h : s.Ok Q) (r : Reg) (t i j v : Nat) (img : Bool) (hb : Q.mask.testBit r.ctorIdx = false) (hw : Q.mask &&& 0x1000010000000000000000000000000000000000000000000000000000000000000000000000000000000000000000000000000000000000000000000000000000000000000000000020002000020000400402000000800010001000040800400002000000000008000200000800000000810010000000010000008800080000800800 = 0) : (s.plainWrite r t i j v img).Ok Q := by
  unfold State.plainWrite
  repeat' first
    | with_reducible assumption
    | with_reducible exact Kit.bit hw (by decide +kernel)
    | with_reducible exact Kit.sub hw (by decide +kernel)
    | with_reducible apply State.refuse_ok
    | with_reducible apply State.putWord_ok
    | with_reducible rfl
    | with_reducible refine ok_ite (fun _ => ?_) (fun _ => ?_)
    | (intro s1; refine (fun (h1 : State.Ok Q s1) => ?_) ?_; rotate_left; subst s1; rotate_right)
    | (intro (f : _ → _); subst f; dsimp -zeta only)
    | (intro s1; fail_if_success (have : State := s1))
    | lift_lets
    | split
    | intro _

theorem State.htrModeWrite_ok (h : s.Ok Q) (t i v : Nat) (img : Bool) (hw : Q.mask &&& 0x1000010000000000000000000000000000000000000000000000000000000000000000000000000000000000000000000000000000000000000000000000000000018000000000000020002000020000400402000000800010001000040800400002000000000008000200000800000000810010000000010000008800080001800800 = 0) : (s.htrModeWrite t i v img).Ok Q := by
  unfold State.htrModeWrite
  repeat' first
    | with_reducible assumption
    | with_reducible exact Kit.bit hw (by decide +kernel)
    | with_reducible exact Kit.sub hw (by decide +kernel)
    | with_reducible apply State.plainWrite_ok
    | with_reducible apply State.setFlag_ok
    | with_reducible apply forUpto_ok
    | with_reducible rfl
    | (intro i1 s1 (h1 : State.Ok Q s1))
    | (intro s1 i1 (h1 : State.Ok Q s1))
    | with_reducible refine ok_ite (fun _ => ?_) (fun _ => ?_)
    | (intro s1; refine (fun (h1 : State.Ok Q s1) => ?_) ?_; rotate_left; subst s1; rotate_right)
    | (intro (f : _ → _); subst f; dsimp -zeta only)
    | (intro s1; fail_if_success (have : State := s1))
    | lift_lets
    | split
    | intro _

theorem State.rangeWrite_ok (h : s.Ok Q) (r : Reg) (t i v : Nat) (img : Bool) (hb : Q.mask.testBit r.ctorIdx = false) (hw : Q.mask &&& 0x1000010000000000000000000000000000000000000000000000000000000000000000000000000000000000000000000000000000000000000040000000000000000000000000000020002000020000400402000000800010001000040800400002000000000008000200000800000000810010000000010008008800080000800800 = 0) : (s.rangeWrite r t i v img).Ok Q := by
  unfold State.rangeWrite
  repeat' first
    | with_reducible assumption
    | with_reducible exact Kit.bit hw (by decide +kernel)
    | with_reducible exact Kit.sub hw (by decide +kernel)
    | with_reducible apply State.plainWrite_ok
    | with_reducible apply State.rangeFollow_ok
    | with_reducible rfl
    | with_reducible refine ok_ite (fun _ => ?_) (fun _ => ?_)
    | (intro s1; refine (fun (h1 : State.Ok Q s1) => ?_) ?_; rotate_left; subst s1; rotate_right)
    | (intro (f : _ → _); subst f; dsimp -zeta only)
    | (intro s1; fail_if_success (have : State := s1))
    | lift_lets
    | split
    | intro _

theorem State.blockWrite_ok (h : s.Ok Q) (r : Reg) (t i v : Nat) (img : Bool) (hb : Q.mask.testBit r.ctorIdx = false) (hw : Q.mask &&& 0x1000010000000000000000000000000000000000000000000000000000000000000000000000000000000000000000000000000000000000000000000000000000000000000000000020002000020000400402000000800010001000040800400002000000000008000200000800000000810010000000010000008800080040900800 = 0) : (s.blockWrite r t i v img).Ok Q := by
  unfold State.blockWrite
  repeat' first
    | with_reducible assumption
    | with_reducible exact Kit.bit hw (by decide +kernel)
    | with_reducible exact Kit.sub hw (by decide +kernel)
    | with_reducible apply State.plainWrite_ok
    | with_reducible apply State.forceSable_ok
    | with_reducible rfl
    | with_reducible refine ok_ite (fun _ => ?_) (fun _ => ?_)
    | (intro s1; refine (fun (h1 : State.Ok Q s1) => ?_) ?_; rotate_left; subst s1; rotate_right)
    | (intro (f : _ → _); subst f; dsimp -zeta only)
    | (intro s1; fail_if_success (have : State := s1))
    | lift_lets
    | split
    | intro _

theorem State.capCtrlWrite_ok (h : s.Ok Q) (r v : Nat) (hw : Q.mask &&& 0x1000010000000000000000000000000000000000000000000000000000000000000000000000000000000000000000000000000000000000200000000000000000000000000000000020002000020000400402000000800010001000040800400002000000000008000200000800000000810010000000015880008800080000800800 = 0) : (s.capCtrlWrite r v).Ok Q := by
  unfold State.capCtrlWrite
  repeat' first
    | with_reducible assumption
    | with_reducible exact Kit.bit hw (by decide +kernel)
    | with_reducible exact Kit.sub hw (by decide +kernel)
    | with_reducible apply State.plainWrite_ok
    | with_reducible apply State.capEnable_ok
    | with_reducible rfl
    | with_reducible refine ok_ite (fun _ => ?_) (fun _ => ?_)
    | (intro s1; refine (fun (h1 : State.Ok Q s1) => ?_) ?_; rotate_left; subst s1; rotate_right)
    | (intro (f : _ → _); subst f; dsimp -zeta only)
    | (intro s1; fail_if_success (have : State := s1))
    | lift_lets
    | split
    | intro _

theorem State.lctrlWrite_ok (h : s.Ok Q) (l v : Nat) (hw : Q.mask &&& 0x1300180730000000000000000000000000000000000000000000000000000000000000000000000080000000000000000000000000000000000000000000000000000000000000000000032e022420020000400402000000800010001000040800400002000000000008000200000800000000810010000000010000008800080000800800 = 0) : (s.lctrlWrite l v).Ok Q := by
  unfold State.lctrlWrite
  repeat' first
    | with_reducible assumption
    | with_reducible exact Kit.bit hw (by decide +kernel)
    | with_reducible exact Kit.sub hw (by decide +kernel)
    | with_reducible apply State.setReg_ok
    | with_reducible apply State.plvDown_ok
    | with_reducible rfl
    | with_reducible refine ok_ite (fun _ => ?_) (fun _ => ?_)
    | (intro s1; refine (fun (h1 : State.Ok Q s1) => ?_) ?_; rotate_left; subst s1; rotate_right)
    | (intro (f : _ → _); subst f; dsimp -zeta only)
    | (intro s1; fail_if_success (have : State := s1))
    | lift_lets
    | split
    | intro _

theorem State.evtInstWrite_ok (h : s.Ok Q) (i v : Nat) (hw : Q.mask &&& 0x1000010000000000000000000000000000000000000000000000000000000000000000000000000000000000000000000000000000000000000000000000000000000000000000000020002002020000400402000000800010001000040800400002000000000008000200000800000000810010000000010000008800080000800800 = 0) : (s.evtInstWrite i v).Ok Q := by
  unfold State.evtInstWrite
  repeat' first
    | with_reducible assumption
    | with_reducible exact Kit.bit hw (by decide +kernel)
    | with_reducible exact Kit.sub hw (by decide +kernel)
    | with_reducible apply State.refuse_ok
    | with_reducible apply State.putWord_ok
    | with_reducible apply State.irqTake_ok
    | with_reducible rfl
    | with_reducible refine ok_ite (fun _ => ?_) (fun _ => ?_)
    | (intro s1; refine (fun (h1 : State.Ok Q s1) => ?_) ?_; rotate_left; subst s1; rotate_right)
    | (intro (f : _ → _); subst f; dsimp -zeta only)
    | (intro s1; fail_if_success (have : State := s1))
    | lift_lets
    | split
    | intro _

theorem State.dmDataWrite_ok (h : s.Ok Q) (t v : Nat) (hw : Q.mask &&& 0x1000800000000000000000000000000000000000000000000000000000000000000000000000000000000008000000000000000000000000000000000000000000000000000000000020002000020000400402000000800010001000040800400002000000000008000200000800000000810010000000010000008800080000800800 = 0) : (s.dmDataWrite t v).Ok Q := by
  unfold State.dmDataWrite
  repeat' first
    | with_reducible assumption
    | with_reducible exact Kit.bit hw (by decide +kernel)
    | with_reducible exact Kit.sub hw (by decide +kernel)
    | with_reducible apply State.setDm_ok
    | with_reducible apply State.setLat_ok
    | with_reducible apply State.refuse_ok
    | with_reducible rfl
    | with_reducible refine ok_ite (fun _ => ?_) (fun _ => ?_)
    | (intro s1; refine (fun (h1 : State.Ok Q s1) => ?_) ?_; rotate_left; subst s1; rotate_right)
    | (intro (f : _ → _); subst f; dsimp -zeta only)
    | (intro s1; fail_if_success (have : State := s1))
    | lift_lets
    | split
    | intro _

theorem State.regWrite_ok (h : s.Ok Q) (hr : Q.bare) (ini : Initiator) (r : Reg) (t i j v : Nat) (img : Bool) (hz : Q.mask = 0) : (s.regWrite ini r t i j v img).Ok Q := by
  have hm := hr.mode
  have ht := hr.time
  have hn := hr.1
  unfold State.regWrite
  repeat' first
    | with_reducible assumption
    | with_reducible exact Kit.subz hz
    | with_reducible exact Kit.bitz hz
    | with_reducible apply State.refuse_ok
    | with_reducible apply State.skewApply_ok
    | with_reducible apply State.setRbit_ok
    | with_reducible apply State.plainWrite_ok
    | with_reducible apply State.htrModeWrite_ok
    | with_reducible apply State.blockWrite_ok
    | with_reducible apply State.rangeWrite_ok
    | with_reducible apply State.htrSwap_ok
    | with_reducible apply State.trimCommand_ok
    | with_reducible apply State.writeTset_ok
    | with_reducible apply State.wearQuery_ok
    | with_reducible apply State.sysCommand_ok
    | with_reducible apply State.owtCommand_ok
    | with_reducible apply State.refEnable_ok
    | with_reducible apply State.capCtrlWrite_ok
    | with_reducible apply State.ddsSwap_ok
    | with_reducible apply State.swpCmdWrite_ok
    | with_reducible apply State.swpJumpWrite_ok
    | with_reducible apply State.mcLoadStart_ok
    | with_reducible apply State.dmDataWrite_ok
    | with_reducible apply State.slotCmdWrite_ok
    | with_reducible apply State.thmCtrlWrite_ok
    | with_reducible apply State.cfgCommit_ok
    | with_reducible apply State.rteStart_ok
    | with_reducible apply State.ptpCtrlWrite_ok
    | with_reducible apply State.ptpCmdWrite_ok
    | with_reducible apply State.incrFracWrite_ok
    | with_reducible apply State.incrNsWrite_ok
    | with_reducible apply State.offerOffset_ok
    | with_reducible apply State.ppsInWrite_ok
    | with_reducible apply State.ppsOutWrite_ok
    | with_reducible apply State.ringCtrlWrite_ok
    | with_reducible apply State.txWpWrite_ok
    | with_reducible apply State.portCfgWrite_ok
    | with_reducible apply State.fwdStart_ok
    | with_reducible apply State.lpmStart_ok
    | with_reducible apply State.lpmGroupWrite_ok
    | with_reducible apply State.setReg_ok
    | with_reducible apply State.polCfgWrite_ok
    | with_reducible apply State.moveCmdWrite_ok
    | with_reducible apply State.movePortWrite_ok
    | with_reducible apply State.calCmdWrite_ok
    | with_reducible apply State.tileCommand_ok
    | with_reducible apply State.slotPairCommand_ok
    | with_reducible apply State.setLat_ok
    | with_reducible apply State.ackAll_ok
    | with_reducible apply State.ackOne_ok
    | with_reducible apply State.recCmdWrite_ok
    | with_reducible apply State.swPublish_ok
    | with_reducible apply State.evtEntryWrite_ok
    | with_reducible apply State.evtInstWrite_ok
    | with_reducible apply State.dmaCmdWrite_ok
    | with_reducible apply State.mmuInvWrite_ok
    | with_reducible apply State.lctrlWrite_ok
    | with_reducible apply State.mgtCmdWrite_ok
    | with_reducible apply State.argWrite_ok
    | with_reducible rfl
    | with_reducible refine ok_ite (fun _ => ?_) (fun _ => ?_)
    | (intro s1; refine (fun (h1 : State.Ok Q s1) => ?_) ?_; rotate_left; subst s1; rotate_right)
    | (intro (f : _ → _); subst f; dsimp -zeta only)
    | (intro s1; fail_if_success (have : State := s1))
    | lift_lets
    | split
    | intro _

theorem State.snapDrop_ok (h : s.Ok Q) (r : Reg) (t i j : Nat) (hw : Q.mask &&& 0x10000000000000000000000000000000000000000000000000000000000000000000000000000000000000000000000000000000000000000000000000000000000000000000000000000000000000000000000000000000000000000000000000000000000000000000000000000000000000000000000000000000000000000000 = 0) : (s.snapDrop r t i j).Ok Q :=
  ok_snap h (Kit.bit hw (by decide +kernel)) (filter_rising _ h.2.snap)

theorem State.clearRead_ok (h : s.Ok Q) (r : Reg) (t i j : Nat) (hb : Q.mask.testBit r.ctorIdx = false) (hw : Q.mask &&& 0x30000000000000000000000000000000000000000000000000000000000000000000000000000000000000000008000000000000000000000000000000000000000000000000000000000000000000000000000000000000000000000000000000000000000000000000000000000000000000000000000000000000000000000 = 0) : (s.clearRead r t i j).Ok Q := by
  unfold State.clearRead
  have e : ∀ {s : State}, s.Ok Q → State.Ok Q { s with lats0 := (s.before.setFlag .tempMaxUp false t).lats } := fun h =>
    ok_lats0 h (Kit.bit hw (by decide +kernel)) (spPut_wf _ _ h.2.lats0)
  repeat' first
    | with_reducible assumption
    | with_reducible apply e
    | with_reducible exact Kit.bit hw (by decide +kernel)
    | with_reducible exact Kit.sub hw (by decide +kernel)
    | with_reducible apply State.setTreg_ok
    | with_reducible apply State.setFlag_ok
    | with_reducible apply State.setBefore_ok
    | with_reducible rfl
    | with_reducible refine ok_ite (fun _ => ?_) (fun _ => ?_)
    | (intro s1; refine (fun (h1 : State.Ok Q s1) => ?_) ?_; rotate_left; subst s1; rotate_right)
    | (intro (f : _ → _); subst f; dsimp -zeta only)
    | (intro s1; fail_if_success (have : State := s1))
    | lift_lets
    | split
    | intro _
    | with_reducible apply ok_lats0


theorem State.regRead_ok (h : s.Ok Q) (ini : Initiator) (r : Reg) (t i j : Nat) (hb : Q.mask.testBit r.ctorIdx = false) (hw : Q.mask &&& 0x600000300300000000000000000000000000000000000000000000000000000000000000000000000000000000000000000080000000000000000000000000000000000000000000000000a00000000000000000000000000000000000000000000000003c0000000000000000000001800000000000000000000000000000000000000000 = 0) : (s.regRead ini r t i j).Ok Q := by
  unfold State.regRead
  repeat' first
    | with_reducible assumption
    | with_reducible exact Kit.bit hw (by decide +kernel)
    | with_reducible exact Kit.sub hw (by decide +kernel)
    | with_reducible apply State.respond_ok
    | with_reducible apply State.csRead_ok
    | with_reducible apply State.txtsRead_ok
    | with_reducible apply State.mboxRead_ok
    | with_reducible apply State.snapWords_ok
    | with_reducible apply State.clearRead_ok
    | with_reducible rfl
    | with_reducible refine ok_ite (fun _ => ?_) (fun _ => ?_)
    | (intro s1; refine (fun (h1 : State.Ok Q s1) => ?_) ?_; rotate_left; subst s1; rotate_right)
    | (intro (f : _ → _); subst f; dsimp -zeta only)
    | (intro s1; fail_if_success (have : State := s1))
    | lift_lets
    | split
    | intro _

theorem State.busWrite_ok (h : s.Ok Q) (hr : Q.bare) (ini : Initiator) (a v : Nat) (hz : Q.mask = 0) : (s.busWrite ini a v).Ok Q := by
  have hm := hr.mode
  have ht := hr.time
  have hn := hr.1
  unfold State.busWrite
  repeat' first
    | with_reducible assumption
    | with_reducible exact Kit.subz hz
    | with_reducible exact Kit.bitz hz
    | with_reducible apply State.addrFault_ok
    | with_reducible apply State.sramWrite_ok
    | with_reducible apply State.respond_ok
    | with_reducible apply State.dramWrite_ok
    | with_reducible apply State.bankWrite_ok
    | with_reducible apply State.regWrite_ok
    | with_reducible apply State.snapDrop_ok
    | with_reducible rfl
    | with_reducible refine ok_ite (fun _ => ?_) (fun _ => ?_)
    | (intro s1; refine (fun (h1 : State.Ok Q s1) => ?_) ?_; rotate_left; subst s1; rotate_right)
    | (intro (f : _ → _); subst f; dsimp -zeta only)
    | (intro s1; fail_if_success (have : State := s1))
    | lift_lets
    | split
    | intro _

theorem State.busRead_ok (h : s.Ok Q) (ini : Initiator) (a : Nat) (hz : Q.mask = 0) : (s.busRead ini a).Ok Q := by
  unfold State.busRead
  repeat' first
    | with_reducible assumption
    | with_reducible exact Kit.subz hz
    | with_reducible exact Kit.bitz hz
    | with_reducible apply State.addrFault_ok
    | with_reducible apply State.respond_ok
    | with_reducible apply State.dramError_ok
    | with_reducible apply State.dramMeet_ok
    | with_reducible apply State.bankRead_ok
    | with_reducible apply State.regRead_ok
    | with_reducible rfl
    | with_reducible refine ok_ite (fun _ => ?_) (fun _ => ?_)
    | (intro s1; refine (fun (h1 : State.Ok Q s1) => ?_) ?_; rotate_left; subst s1; rotate_right)
    | (intro (f : _ → _); subst f; dsimp -zeta only)
    | (intro s1; fail_if_success (have : State := s1))
    | lift_lets
    | (split <;> first | (rename_i e; with_reducible refine (fun (h1 : State.Ok Q _) => ?_) (ok_snd e ?_)) | (rename_i e; with_reducible refine (fun (h1 : State.Ok Q _) => ?_) (ok_thd e ?_)) | (rename_i e; with_reducible refine (fun (h1 : State.Ok Q _) => ?_) (ok_mid e ?_)) | (rename_i e; with_reducible refine (fun (h1 : State.Ok Q _) => ?_) (ok_some e ?_)) | (rename_i e _; with_reducible refine (fun (h1 : State.Ok Q _) => ?_) (ok_snd e ?_)) | (rename_i e _; with_reducible refine (fun (h1 : State.Ok Q _) => ?_) (ok_thd e ?_)) | (rename_i e _; with_reducible refine (fun (h1 : State.Ok Q _) => ?_) (ok_mid e ?_)) | (rename_i e _; with_reducible refine (fun (h1 : State.Ok Q _) => ?_) (ok_some e ?_)) | skip)
    | intro _
    | with_reducible apply ok_freeCtr

theorem State.busAccess_ok (h : s.Ok Q) (hr : Q.bare) (ini : Initiator) (write : Bool) (a v : Nat) (hz : Q.mask = 0) : (s.busAccess ini write a v).Ok Q := by
  have hm := hr.mode
  have ht := hr.time
  have hn := hr.1
  unfold State.busAccess
  repeat' first
    | with_reducible assumption
    | with_reducible exact Kit.subz hz
    | with_reducible exact Kit.bitz hz
    | with_reducible apply State.busWrite_ok
    | with_reducible apply State.busRead_ok
    | with_reducible rfl
    | with_reducible refine ok_ite (fun _ => ?_) (fun _ => ?_)
    | (intro s1; refine (fun (h1 : State.Ok Q s1) => ?_) ?_; rotate_left; subst s1; rotate_right)
    | (intro (f : _ → _); subst f; dsimp -zeta only)
    | (intro s1; fail_if_success (have : State := s1))
    | lift_lets
    | split
    | intro _

theorem State.oddAccess_ok (h : s.Ok Q) (ini : Initiator) (write : Bool) (a n v : Nat) (hw : Q.mask &&& 0x182730000000000000000000000000000000000000000000000000000000000000000000000000000000000000000000000000000000000000000000000000000000000000000000002e002000020000400402000000800010001000040800400002000000000008000200000800000000810010000000010000008800080000800800 = 0) : (s.oddAccess ini write a n v).Ok Q := by
  unfold State.oddAccess
  repeat' first
    | with_reducible assumption
    | with_reducible exact Kit.bit hw (by decide +kernel)
    | with_reducible exact Kit.sub hw (by decide +kernel)
    | with_reducible apply State.addrFault_ok
    | with_reducible apply State.memPut_ok
    | with_reducible apply State.respond_ok
    | with_reducible apply State.memGet_ok
    | with_reducible rfl
    | with_reducible refine ok_ite (fun _ => ?_) (fun _ => ?_)
    | (intro s1; refine (fun (h1 : State.Ok Q s1) => ?_) ?_; rotate_left; subst s1; rotate_right)
    | (intro (f : _ → _); subst f; dsimp -zeta only)
    | (intro s1; fail_if_success (have : State := s1))
    | lift_lets
    | (split <;> first | (rename_i e; with_reducible refine (fun (h1 : State.Ok Q _) => ?_) (ok_snd e ?_)) | (rename_i e; with_reducible refine (fun (h1 : State.Ok Q _) => ?_) (ok_thd e ?_)) | (rename_i e; with_reducible refine (fun (h1 : State.Ok Q _) => ?_) (ok_mid e ?_)) | (rename_i e; with_reducible refine (fun (h1 : State.Ok Q _) => ?_) (ok_some e ?_)) | (rename_i e _; with_reducible refine (fun (h1 : State.Ok Q _) => ?_) (ok_snd e ?_)) | (rename_i e _; with_reducible refine (fun (h1 : State.Ok Q _) => ?_) (ok_thd e ?_)) | (rename_i e _; with_reducible refine (fun (h1 : State.Ok Q _) => ?_) (ok_mid e ?_)) | (rename_i e _; with_reducible refine (fun (h1 : State.Ok Q _) => ?_) (ok_some e ?_)) | skip)
    | intro _

end Sys2Proof.Machine
end

