-- ==== Sys2Proof/Laws/KeepExec.lean ====
section
/-! SUPPORT. What every command keeps: soundness, the queue, and all that its law does not name. -/
set_option Elab.async false
namespace Sys2Proof.Machine

variable {Q : Kit} {s : State}

/-- An outcome that goes on is sound and as the kit says. -/
def OutOk (Q : Kit) (o : Host.Outcome State Fault Refusal) : Prop := ∀ t, o = .next t → t.Ok Q

theorem okIf_ok {c : Bool} {t : State} (h : t.Ok Q) : OutOk Q (okIf c t) := by
  intro u e
  unfold okIf at e
  split at e <;> cases e
  exact h

theorem execLegDeparture_ok (h : s.Ok Q) (tile ch : Nat) (legB : Bool) (hw : Q.mask &&& 0x1000000000000000000000000000000000000000000000000000000000000000000000000000000000000000000000000000000000000000000000000000000000020000000000000000000000000000000000000000000000000000000000000000000000000000000000000000000000000000000000000000000000000000103000 = 0) : OutOk Q (execLegDeparture tile ch legB s) := by
  unfold execLegDeparture
  refine okIf_ok ?_
  repeat' first
    | with_reducible assumption
    | with_reducible exact Kit.bit hw (by decide +kernel)
    | with_reducible exact Kit.sub hw (by decide +kernel)
    | with_reducible apply State.legLost_ok
    | with_reducible rfl
    | with_reducible refine ok_ite (fun _ => ?_) (fun _ => ?_)
    | (intro s1; refine (fun (h1 : State.Ok Q s1) => ?_) ?_; rotate_left; subst s1; rotate_right)
    | (intro (f : _ → _); subst f; dsimp -zeta only)
    | (intro s1; fail_if_success (have : State := s1))
    | lift_lets
    | split
    | intro _


theorem execHeaterSliceFail_ok (h : s.Ok Q) (tile ch : Nat) (hw : Q.mask &&& 0x1000000000000000000000000000000000000000000000000000000000000000000100000000000000000000000000000000000000000000000000000000000000404000000000000000000000000000000000000000000000000000000000000000000000000000000000000000000000000000000000000000000000000046000000 = 0) : OutOk Q (execHeaterSliceFail tile ch s) := by
  unfold execHeaterSliceFail
  refine okIf_ok ?_
  repeat' first
    | with_reducible assumption
    | with_reducible exact Kit.bit hw (by decide +kernel)
    | with_reducible exact Kit.sub hw (by decide +kernel)
    | with_reducible apply State.setTreg_ok
    | with_reducible apply State.htrKill_ok
    | with_reducible apply State.send_ok
    | with_reducible apply State.sliceFailed_ok
    | with_reducible rfl
    | with_reducible refine ok_ite (fun _ => ?_) (fun _ => ?_)
    | (intro s1; refine (fun (h1 : State.Ok Q s1) => ?_) ?_; rotate_left; subst s1; rotate_right)
    | (intro (f : _ → _); subst f; dsimp -zeta only)
    | (intro s1; fail_if_success (have : State := s1))
    | lift_lets
    | split
    | intro _


theorem execHtrSwap_ok (h : s.Ok Q) (tile spare ch : Nat) (hw : Q.mask &&& 0x1020000000000000000000000000000000000000000000000000000000000000000100000000000000000000000000000000000000000000000000000000000000404000000000000020002000020000400402000000800010001000040800400002000000000008000200000800000000810010000000010000008800080046900800 = 0) : OutOk Q (execHtrSwap tile spare ch s) := by
  unfold execHtrSwap
  refine okIf_ok ?_
  repeat' first
    | with_reducible assumption
    | with_reducible exact Kit.bit hw (by decide +kernel)
    | with_reducible exact Kit.sub hw (by decide +kernel)
    | with_reducible apply State.htrSwap_ok
    | with_reducible apply State.addrFault_ok
    | with_reducible rfl
    | with_reducible refine ok_ite (fun _ => ?_) (fun _ => ?_)
    | (intro s1; refine (fun (h1 : State.Ok Q s1) => ?_) ?_; rotate_left; subst s1; rotate_right)
    | (intro (f : _ → _); subst f; dsimp -zeta only)
    | (intro s1; fail_if_success (have : State := s1))
    | lift_lets
    | split
    | intro _


theorem execCurrentMeasurement_ok (h : s.Ok Q) (tile k current volt : Nat) (hw : Q.mask &&& 0x1800000000000000000000000000000000000000000000000000000000000000000000000000000000000000000000000000000000000000000000000000100200000 = 0) : OutOk Q (execCurrentMeasurement tile k current volt s) := by
  unfold execCurrentMeasurement
  refine okIf_ok ?_
  repeat' first
    | with_reducible assumption
    | with_reducible exact Kit.bit hw (by decide +kernel)
    | with_reducible exact Kit.sub hw (by decide +kernel)
    | with_reducible apply State.measureLeg_ok
    | with_reducible apply State.setTreg_ok
    | with_reducible rfl
    | with_reducible refine ok_ite (fun _ => ?_) (fun _ => ?_)
    | (intro s1; refine (fun (h1 : State.Ok Q s1) => ?_) ?_; rotate_left; subst s1; rotate_right)
    | (intro (f : _ → _); subst f; dsimp -zeta only)
    | (intro s1; fail_if_success (have : State := s1))
    | lift_lets
    | split
    | intro _


theorem execMonitorScanEnd_ok (h : s.Ok Q) (tile : Nat) (hw : Q.mask &&& 0x1800000000000000000000000000000000000000000000000000000000000000000000000000000000000000000000000000000000000000000000000000000003800000000000000000000000000000000000000000000000000000000000000000000000000000000000000000000000000000000000000000000000003000000000 = 0) : OutOk Q (execMonitorScanEnd tile s) := by
  unfold execMonitorScanEnd
  refine okIf_ok ?_
  repeat' first
    | with_reducible assumption
    | with_reducible exact Kit.bit hw (by decide +kernel)
    | with_reducible exact Kit.sub hw (by decide +kernel)
    | with_reducible apply State.nearQuot_ok
    | with_reducible apply State.setTreg_ok
    | with_reducible apply State.setLat_ok
    | with_reducible apply State.driftCh_ok
    | with_reducible apply forUpto_ok
    | with_reducible rfl
    | (intro i1 s1 (h1 : State.Ok Q s1))
    | (intro s1 i1 (h1 : State.Ok Q s1))
    | with_reducible refine ok_ite (fun _ => ?_) (fun _ => ?_)
    | (intro s1; refine (fun (h1 : State.Ok Q s1) => ?_) ?_; rotate_left; subst s1; rotate_right)
    | (intro (f : _ → _); subst f; dsimp -zeta only)
    | (intro s1; fail_if_success (have : State := s1))
    | lift_lets
    | (split <;> first | (rename_i e; with_reducible refine (fun (h1 : State.Ok Q _) => ?_) (ok_snd e ?_)) | (rename_i e; with_reducible refine (fun (h1 : State.Ok Q _) => ?_) (ok_thd e ?_)) | (rename_i e; with_reducible refine (fun (h1 : State.Ok Q _) => ?_) (ok_mid e ?_)) | (rename_i e; with_reducible refine (fun (h1 : State.Ok Q _) => ?_) (ok_some e ?_)) | (rename_i e _; with_reducible refine (fun (h1 : State.Ok Q _) => ?_) (ok_snd e ?_)) | (rename_i e _; with_reducible refine (fun (h1 : State.Ok Q _) => ?_) (ok_thd e ?_)) | (rename_i e _; with_reducible refine (fun (h1 : State.Ok Q _) => ?_) (ok_mid e ?_)) | (rename_i e _; with_reducible refine (fun (h1 : State.Ok Q _) => ?_) (ok_some e ?_)) | skip)
    | intro _


theorem execSlotSkewApplyWrite_ok (h : s.Ok Q) (value : Nat) (hw : Q.mask &&& 0x4000000000000000000000000000000000000000000000010000000000000000000000000000000000000000000000000000000000000000000000000000000000000 = 0) : OutOk Q (execSlotSkewApplyWrite value s) := by
  unfold execSlotSkewApplyWrite
  refine okIf_ok ?_
  repeat' first
    | with_reducible assumption
    | with_reducible exact Kit.bit hw (by decide +kernel)
    | with_reducible exact Kit.sub hw (by decide +kernel)
    | with_reducible apply State.skewApply_ok
    | with_reducible rfl
    | with_reducible refine ok_ite (fun _ => ?_) (fun _ => ?_)
    | (intro s1; refine (fun (h1 : State.Ok Q s1) => ?_) ?_; rotate_left; subst s1; rotate_right)
    | (intro (f : _ → _); subst f; dsimp -zeta only)
    | (intro s1; fail_if_success (have : State := s1))
    | lift_lets
    | split
    | intro _


theorem execTrimPulseStart_ok (h : s.Ok Q) (tile : Nat) (hw : Q.mask &&& 0x100600000000000000000000000000000000000000000000000000000000000000000000000000000000000000000000000000000000000000000000000007a1f8000000000000000000000000000000000000000000000000000000000000000000000000000000000000000000000000000000000000000000000004880000000000 = 0) : OutOk Q (execTrimPulseStart tile s) := by
  unfold execTrimPulseStart
  refine okIf_ok ?_
  repeat' first
    | with_reducible assumption
    | with_reducible exact Kit.bit hw (by decide +kernel)
    | with_reducible exact Kit.sub hw (by decide +kernel)
    | with_reducible apply State.setLat_ok
    | with_reducible apply State.startPulse_ok
    | with_reducible apply State.openTrain_ok
    | with_reducible rfl
    | with_reducible refine ok_ite (fun _ => ?_) (fun _ => ?_)
    | (intro s1; refine (fun (h1 : State.Ok Q s1) => ?_) ?_; rotate_left; subst s1; rotate_right)
    | (intro (f : _ → _); subst f; dsimp -zeta only)
    | (intro s1; fail_if_success (have : State := s1))
    | lift_lets
    | split
    | intro _


theorem execTrimPulseEnd_ok (h : s.Ok Q) (tile : Nat) (hw : Q.mask &&& 0x10100600000000000000000000000000000000000000000000000000000000000000000000000000000000000000200000000000000000000000000000000008580800000000000000000e000000000000000000000000000000000000000000000000000000000000000000000000000000000000000000000000002004880000000000 = 0) : OutOk Q (execTrimPulseEnd tile s) := by
  unfold execTrimPulseEnd
  refine okIf_ok ?_
  repeat' first
    | with_reducible assumption
    | with_reducible exact Kit.bit hw (by decide +kernel)
    | with_reducible exact Kit.sub hw (by decide +kernel)
    | with_reducible apply State.pulseOff_ok
    | with_reducible apply State.countPulse_ok
    | with_reducible apply State.wearThresholds_ok
    | with_reducible apply State.trainPulse_ok
    | with_reducible apply State.ledgerTap_ok
    | with_reducible rfl
    | with_reducible refine ok_ite (fun _ => ?_) (fun _ => ?_)
    | (intro s1; refine (fun (h1 : State.Ok Q s1) => ?_) ?_; rotate_left; subst s1; rotate_right)
    | (intro (f : _ → _); subst f; dsimp -zeta only)
    | (intro s1; fail_if_success (have : State := s1))
    | lift_lets
    | split
    | intro _


theorem execTrimCmdPulse_ok (h : s.Ok Q) (tile ch : Nat) (up : Bool) (set : Nat) (hw : Q.mask &&& 0x101026000000000000000000000000000000000000000000000000000000000000000200000000000000000000000000000000000000000000000000000000000020000000000000000020002000020000400402000000800010001000040800400002000000000008000200000800000000810010000000010000008804080000800800 = 0) : OutOk Q (execTrimCmdPulse tile ch up set s) := by
  unfold execTrimCmdPulse
  refine okIf_ok ?_
  repeat' first
    | with_reducible assumption
    | with_reducible exact Kit.bit hw (by decide +kernel)
    | with_reducible exact Kit.sub hw (by decide +kernel)
    | with_reducible apply State.trimCommand_ok
    | with_reducible apply State.addrFault_ok
    | with_reducible rfl
    | with_reducible refine ok_ite (fun _ => ?_) (fun _ => ?_)
    | (intro s1; refine (fun (h1 : State.Ok Q s1) => ?_) ?_; rotate_left; subst s1; rotate_right)
    | (intro (f : _ → _); subst f; dsimp -zeta only)
    | (intro s1; fail_if_success (have : State := s1))
    | lift_lets
    | split
    | intro _


theorem execTrimCmdTrain_ok (h : s.Ok Q) (tile ch : Nat) (up : Bool) (hw : Q.mask &&& 0x101026000000000000000000000000000000000000000000000000000000000000000200000000000000000000000000000000000000000000000000000000000020000000000000000020002000020000400402000000800010001000040800400002000000000008000200000800000000810010000000010000008804080000800800 = 0) : OutOk Q (execTrimCmdTrain tile ch up s) := by
  unfold execTrimCmdTrain
  refine okIf_ok ?_
  repeat' first
    | with_reducible assumption
    | with_reducible exact Kit.bit hw (by decide +kernel)
    | with_reducible exact Kit.sub hw (by decide +kernel)
    | with_reducible apply State.trimCommand_ok
    | with_reducible apply State.addrFault_ok
    | with_reducible rfl
    | with_reducible refine ok_ite (fun _ => ?_) (fun _ => ?_)
    | (intro s1; refine (fun (h1 : State.Ok Q s1) => ?_) ?_; rotate_left; subst s1; rotate_right)
    | (intro (f : _ → _); subst f; dsimp -zeta only)
    | (intro s1; fail_if_success (have : State := s1))
    | lift_lets
    | split
    | intro _


theorem execTrimCmdAssign_ok (h : s.Ok Q) (tile ch tap : Nat) (hw : Q.mask &&& 0x101026000000000000000000000000000000000000000000000000000000000000000200000000000000000000000000000000000000000000000000000000000020000000000000000020002000020000400402000000800010001000040800400002000000000008000200000800000000810010000000010000008804080000800800 = 0) : OutOk Q (execTrimCmdAssign tile ch tap s) := by
  unfold execTrimCmdAssign
  refine okIf_ok ?_
  repeat' first
    | with_reducible assumption
    | with_reducible exact Kit.bit hw (by decide +kernel)
    | with_reducible exact Kit.sub hw (by decide +kernel)
    | with_reducible apply State.trimCommand_ok
    | with_reducible apply State.addrFault_ok
    | with_reducible rfl
    | with_reducible refine ok_ite (fun _ => ?_) (fun _ => ?_)
    | (intro s1; refine (fun (h1 : State.Ok Q s1) => ?_) ?_; rotate_left; subst s1; rotate_right)
    | (intro (f : _ → _); subst f; dsimp -zeta only)
    | (intro s1; fail_if_success (have : State := s1))
    | lift_lets
    | split
    | intro _


theorem execTrimTsetWrite_ok (h : s.Ok Q) (tile set edge value : Nat) (hw : Q.mask &&& 0x1020000000000000000000000000000000000000000000000000000000000000000000000000000000000000000000000000000000000000000000000000000000000000000000000000000000000000000000000000000000000000000000000000000000000000000000000000000000000000000000000000000006000000000000 = 0) : OutOk Q (execTrimTsetWrite tile set edge value s) := by
  unfold execTrimTsetWrite
  refine okIf_ok ?_
  repeat' first
    | with_reducible assumption
    | with_reducible exact Kit.bit hw (by decide +kernel)
    | with_reducible exact Kit.sub hw (by decide +kernel)
    | with_reducible apply State.writeTset_ok
    | with_reducible apply State.addrFault_ok
    | with_reducible rfl
    | with_reducible refine ok_ite (fun _ => ?_) (fun _ => ?_)
    | (intro s1; refine (fun (h1 : State.Ok Q s1) => ?_) ?_; rotate_left; subst s1; rotate_right)
    | (intro (f : _ → _); subst f; dsimp -zeta only)
    | (intro s1; fail_if_success (have : State := s1))
    | lift_lets
    | split
    | intro _


theorem execWearRecordDurable_ok (h : s.Ok Q) (ok : Bool) (hw : Q.mask &&& 0x101008000000000000000000000000000000000000000000000000000000000000000000000000000000000000000000000000000000000000000000000014300000000000000000000000000000000000000000000000000000000000000000000000000000000000000000000000000000000000000000000000001800000000000000 = 0) : OutOk Q (execWearRecordDurable ok s) := by
  unfold execWearRecordDurable
  refine okIf_ok ?_
  repeat' first
    | with_reducible assumption
    | with_reducible exact Kit.bit hw (by decide +kernel)
    | with_reducible exact Kit.sub hw (by decide +kernel)
    | with_reducible apply State.logPut_ok
    | with_reducible apply State.setRbit_ok
    | with_reducible apply State.setFlag_ok
    | with_reducible apply State.send_ok
    | with_reducible rfl
    | with_reducible refine ok_ite (fun _ => ?_) (fun _ => ?_)
    | (intro s1; refine (fun (h1 : State.Ok Q s1) => ?_) ?_; rotate_left; subst s1; rotate_right)
    | (intro (f : _ → _); subst f; dsimp -zeta only)
    | (intro s1; fail_if_success (have : State := s1))
    | lift_lets
    | split
    | intro _
    | with_reducible apply ok_wearQ


theorem execLogCompactionDone_ok (h : s.Ok Q)  (hw : Q.mask &&& 0x8000000000000000000000000000000000000000000000000000000000000000000000000000000000000000000000000000000000000000000000008000000000000000000000000000000000000000000000000000000000000000000000000000000000000000000000000000000000000000000000000000800000000000000 = 0) : OutOk Q (execLogCompactionDone s) := by
  unfold execLogCompactionDone
  refine okIf_ok ?_
  repeat' first
    | with_reducible assumption
    | with_reducible exact Kit.bit hw (by decide +kernel)
    | with_reducible exact Kit.sub hw (by decide +kernel)
    | with_reducible apply State.flashPut_ok
    | with_reducible apply State.flashErase_ok
    | with_reducible apply State.setLat_ok
    | with_reducible apply State.setRbit_ok
    | with_reducible rfl
    | with_reducible refine ok_ite (fun _ => ?_) (fun _ => ?_)
    | (intro s1; refine (fun (h1 : State.Ok Q s1) => ?_) ?_; rotate_left; subst s1; rotate_right)
    | (intro (f : _ → _); subst f; dsimp -zeta only)
    | (intro s1; fail_if_success (have : State := s1))
    | lift_lets
    | split
    | intro _


theorem execAgeTick_ok (h : s.Ok Q)  (hw : Q.mask &&& 0x100006000000000000000000000000000000000000000000000000000000000000000000000000000000000000000000000000000000000000000000000000000000000000000000000000000000000000000000000000000000000000000000000000000000000000000000000000000000000000000000000000000020000000000000 = 0) : OutOk Q (execAgeTick s) := by
  unfold execAgeTick
  refine okIf_ok ?_
  repeat' first
    | with_reducible assumption
    | with_reducible exact Kit.bit hw (by decide +kernel)
    | with_reducible exact Kit.sub hw (by decide +kernel)
    | with_reducible apply State.setReg_ok
    | with_reducible apply State.dramWrite_ok
    | with_reducible apply State.appendRec_ok
    | with_reducible rfl
    | with_reducible refine ok_ite (fun _ => ?_) (fun _ => ?_)
    | (intro s1; refine (fun (h1 : State.Ok Q s1) => ?_) ?_; rotate_left; subst s1; rotate_right)
    | (intro (f : _ → _); subst f; dsimp -zeta only)
    | (intro s1; fail_if_success (have : State := s1))
    | lift_lets
    | split
    | intro _


theorem execWearQuery_ok (h : s.Ok Q) (cell : Nat) (hw : Q.mask &&& 0x1000000000000000000000000000000000000000000000000000000000000000000000000000000000000000000000000000000000000000000000000000800000000000000000000020002000020000400402000000800010001000040800400002000000000008000200000800000000810010000000010000008800080000800800 = 0) : OutOk Q (execWearQuery cell s) := by
  unfold execWearQuery
  refine okIf_ok ?_
  repeat' first
    | with_reducible assumption
    | with_reducible exact Kit.bit hw (by decide +kernel)
    | with_reducible exact Kit.sub hw (by decide +kernel)
    | with_reducible apply State.wearQuery_ok
    | with_reducible rfl
    | with_reducible refine ok_ite (fun _ => ?_) (fun _ => ?_)
    | (intro s1; refine (fun (h1 : State.Ok Q s1) => ?_) ?_; rotate_left; subst s1; rotate_right)
    | (intro (f : _ → _); subst f; dsimp -zeta only)
    | (intro s1; fail_if_success (have : State := s1))
    | lift_lets
    | split
    | intro _


theorem execWearQueryDone_ok (h : s.Ok Q)  (hw : Q.mask &&& 0x100600000000000000000000000000000000000000000000000000000000000000000000000000000000000000000000000000000000000000000000000080000000000000000000000e000000000000000000000000000000000000000000000000000000000000000000000000000000000000000000000000000c04000000000000 = 0) : OutOk Q (execWearQueryDone s) := by
  unfold execWearQueryDone
  refine okIf_ok ?_
  repeat' first
    | with_reducible assumption
    | with_reducible exact Kit.bit hw (by decide +kernel)
    | with_reducible exact Kit.sub hw (by decide +kernel)
    | with_reducible apply State.ledgerCheck_ok
    | with_reducible apply State.setReg_ok
    | with_reducible apply State.setRbit_ok
    | with_reducible apply State.setLat_ok
    | with_reducible rfl
    | with_reducible refine ok_ite (fun _ => ?_) (fun _ => ?_)
    | (intro s1; refine (fun (h1 : State.Ok Q s1) => ?_) ?_; rotate_left; subst s1; rotate_right)
    | (intro (f : _ → _); subst f; dsimp -zeta only)
    | (intro s1; fail_if_success (have : State := s1))
    | lift_lets
    | split
    | intro _


theorem execOwtAutoStart_ok (h : s.Ok Q) (tile : Nat) (hw : Q.mask &&& 0x400000000000000000000000000000000000000000000007e000000000000000000000000000000000000000000000000000000000000000000000000000000000000000000000000000000000000000000000000000000000008000000000000000 = 0) : OutOk Q (execOwtAutoStart tile s) := by
  unfold execOwtAutoStart
  refine okIf_ok ?_
  repeat' first
    | with_reducible assumption
    | with_reducible exact Kit.bit hw (by decide +kernel)
    | with_reducible exact Kit.sub hw (by decide +kernel)
    | with_reducible apply State.owtStart_ok
    | with_reducible apply State.setLat_ok
    | with_reducible rfl
    | with_reducible refine ok_ite (fun _ => ?_) (fun _ => ?_)
    | (intro s1; refine (fun (h1 : State.Ok Q s1) => ?_) ?_; rotate_left; subst s1; rotate_right)
    | (intro (f : _ → _); subst f; dsimp -zeta only)
    | (intro s1; fail_if_success (have : State := s1))
    | lift_lets
    | split
    | intro _


theorem execAdcOwtCmd_ok (h : s.Ok Q) (tile input : Nat) (down : Bool) (hw : Q.mask &&& 0x1020000000000000000000000000000000000000000000000000000000000000000000000000000000000000000000000000000000000000080000000000000000000000000000000020002000020000400402000000800010001000040800400002000000000008000200000800000000810010000000010000008800080000800800 = 0) : OutOk Q (execAdcOwtCmd tile input down s) := by
  unfold execAdcOwtCmd
  refine okIf_ok ?_
  repeat' first
    | with_reducible assumption
    | with_reducible exact Kit.bit hw (by decide +kernel)
    | with_reducible exact Kit.sub hw (by decide +kernel)
    | with_reducible apply State.owtCommand_ok
    | with_reducible apply State.addrFault_ok
    | with_reducible rfl
    | with_reducible refine ok_ite (fun _ => ?_) (fun _ => ?_)
    | (intro s1; refine (fun (h1 : State.Ok Q s1) => ?_) ?_; rotate_left; subst s1; rotate_right)
    | (intro (f : _ → _); subst f; dsimp -zeta only)
    | (intro s1; fail_if_success (have : State := s1))
    | lift_lets
    | split
    | intro _


theorem execRefReady_ok (h : s.Ok Q) (tile : Nat) (hw : Q.mask &&& 0x800000000000000000000000000000000000000000000000000000000000000000000000000000000000000000000000000000000000000000000000000000000000000000000000000000000000000000000000000000000010000000000000000 = 0) : OutOk Q (execRefReady tile s) := by
  unfold execRefReady
  refine okIf_ok ?_
  repeat' first
    | with_reducible assumption
    | with_reducible exact Kit.bit hw (by decide +kernel)
    | with_reducible exact Kit.sub hw (by decide +kernel)
    | with_reducible apply State.setTbit_ok
    | with_reducible apply State.setLat_ok
    | with_reducible rfl
    | with_reducible refine ok_ite (fun _ => ?_) (fun _ => ?_)
    | (intro s1; refine (fun (h1 : State.Ok Q s1) => ?_) ?_; rotate_left; subst s1; rotate_right)
    | (intro (f : _ → _); subst f; dsimp -zeta only)
    | (intro s1; fail_if_success (have : State := s1))
    | lift_lets
    | split
    | intro _


theorem execSyscalDark_ok (h : s.Ok Q) (tile avg : Nat) (hw : Q.mask &&& 0x1020000000000000000000000000000000000000000000000000000000000000000000000000000000000000000000000000000000000000001700000000000000000000000000000020002000020000400402000000800010001000040800400002000000000008000200000800000000810010000000010002008800080000800800 = 0) : OutOk Q (execSyscalDark tile avg s) := by
  unfold execSyscalDark
  refine okIf_ok ?_
  repeat' first
    | with_reducible assumption
    | with_reducible exact Kit.bit hw (by decide +kernel)
    | with_reducible exact Kit.sub hw (by decide +kernel)
    | with_reducible apply State.sysWrite_ok
    | with_reducible rfl
    | with_reducible refine ok_ite (fun _ => ?_) (fun _ => ?_)
    | (intro s1; refine (fun (h1 : State.Ok Q s1) => ?_) ?_; rotate_left; subst s1; rotate_right)
    | (intro (f : _ → _); subst f; dsimp -zeta only)
    | (intro s1; fail_if_success (have : State := s1))
    | lift_lets
    | split
    | intro _


theorem execSyscalGainInject_ok (h : s.Ok Q) (tile avg : Nat) (hw : Q.mask &&& 0x1020000000000000000000000000000000000000000000000000000000000000000000000000000000000000000000000000000000000000001700000000000000000000000000000020002000020000400402000000800010001000040800400002000000000008000200000800000000810010000000010002008800080000800800 = 0) : OutOk Q (execSyscalGainInject tile avg s) := by
  unfold execSyscalGainInject
  refine okIf_ok ?_
  repeat' first
    | with_reducible assumption
    | with_reducible exact Kit.bit hw (by decide +kernel)
    | with_reducible exact Kit.sub hw (by decide +kernel)
    | with_reducible apply State.sysWrite_ok
    | with_reducible rfl
    | with_reducible refine ok_ite (fun _ => ?_) (fun _ => ?_)
    | (intro s1; refine (fun (h1 : State.Ok Q s1) => ?_) ?_; rotate_left; subst s1; rotate_right)
    | (intro (f : _ → _); subst f; dsimp -zeta only)
    | (intro s1; fail_if_success (have : State := s1))
    | lift_lets
    | split
    | intro _


theorem execSyscalGainIllum_ok (h : s.Ok Q) (tile avg : Nat) (hw : Q.mask &&& 0x1020000000000000000000000000000000000000000000000000000000000000000000000000000000000000000000000000000000000000001700000000000000000000000000000020002000020000400402000000800010001000040800400002000000000008000200000800000000810010000000010002008800080000800800 = 0) : OutOk Q (execSyscalGainIllum tile avg s) := by
  unfold execSyscalGainIllum
  refine okIf_ok ?_
  repeat' first
    | with_reducible assumption
    | with_reducible exact Kit.bit hw (by decide +kernel)
    | with_reducible exact Kit.sub hw (by decide +kernel)
    | with_reducible apply State.sysWrite_ok
    | with_reducible rfl
    | with_reducible refine ok_ite (fun _ => ?_) (fun _ => ?_)
    | (intro s1; refine (fun (h1 : State.Ok Q s1) => ?_) ?_; rotate_left; subst s1; rotate_right)
    | (intro (f : _ → _); subst f; dsimp -zeta only)
    | (intro s1; fail_if_success (have : State := s1))
    | lift_lets
    | split
    | intro _


theorem execSyscalAccept_ok (h : s.Ok Q) (tile avg : Nat) (hw : Q.mask &&& 0x1020000000000000000000000000000000000000000000000000000000000000000000000000000000000000000000000000000000000000001700000000000000000000000000000020002000020000400402000000800010001000040800400002000000000008000200000800000000810010000000010002008800080000800800 = 0) : OutOk Q (execSyscalAccept tile avg s) := by
  unfold execSyscalAccept
  refine okIf_ok ?_
  repeat' first
    | with_reducible assumption
    | with_reducible exact Kit.bit hw (by decide +kernel)
    | with_reducible exact Kit.sub hw (by decide +kernel)
    | with_reducible apply State.sysWrite_ok
    | with_reducible rfl
    | with_reducible refine ok_ite (fun _ => ?_) (fun _ => ?_)
    | (intro s1; refine (fun (h1 : State.Ok Q s1) => ?_) ?_; rotate_left; subst s1; rotate_right)
    | (intro (f : _ → _); subst f; dsimp -zeta only)
    | (intro s1; fail_if_success (have : State := s1))
    | lift_lets
    | split
    | intro _


theorem execSyscalDone_ok (h : s.Ok Q) (tile : Nat) (hw : Q.mask &&& 0x2000000000000000000000000000000000000000000000000d4000000000000000000000000000000000000000000000000000000020000000000000000000000000000000000000000000000000000000000000000000006a008000000000000000 = 0) : OutOk Q (execSyscalDone tile s) := by
  unfold execSyscalDone
  refine okIf_ok ?_
  repeat' first
    | with_reducible assumption
    | with_reducible exact Kit.bit hw (by decide +kernel)
    | with_reducible exact Kit.sub hw (by decide +kernel)
    | with_reducible apply State.sysDarkInput_ok
    | with_reducible apply State.sysInjectInput_ok
    | with_reducible apply State.sysIllumInput_ok
    | with_reducible apply State.setTbit_ok
    | with_reducible apply State.setTreg_ok
    | with_reducible apply State.sysEnd_ok
    | with_reducible apply forUpto_ok
    | with_reducible rfl
    | (intro i1 s1 (h1 : State.Ok Q s1))
    | (intro s1 i1 (h1 : State.Ok Q s1))
    | with_reducible refine ok_ite (fun _ => ?_) (fun _ => ?_)
    | (intro s1; refine (fun (h1 : State.Ok Q s1) => ?_) ?_; rotate_left; subst s1; rotate_right)
    | (intro (f : _ → _); subst f; dsimp -zeta only)
    | (intro s1; fail_if_success (have : State := s1))
    | lift_lets
    | split
    | intro _


theorem execConversionComplete_ok (h : s.Ok Q) (tile conv slot code : Nat) (ok done : Bool) (volt : Nat) (hw : Q.mask &&& 0x601000000000000000000000000000000000000000000000000000000000000000002000000000000000000000000000000000000030000000232c7f800000000000000000000000000000000000000000000000000000000000000000000000000000000000000000000000000000000000000000000000002009a08000000000000000 = 0) : OutOk Q (execConversionComplete tile conv slot code ok done volt s) := by
  unfold execConversionComplete
  refine okIf_ok ?_
  repeat' first
    | with_reducible assumption
    | with_reducible exact Kit.bit hw (by decide +kernel)
    | with_reducible exact Kit.sub hw (by decide +kernel)
    | with_reducible apply State.conversion_ok
    | with_reducible rfl
    | with_reducible refine ok_ite (fun _ => ?_) (fun _ => ?_)
    | (intro s1; refine (fun (h1 : State.Ok Q s1) => ?_) ?_; rotate_left; subst s1; rotate_right)
    | (intro (f : _ → _); subst f; dsimp -zeta only)
    | (intro s1; fail_if_success (have : State := s1))
    | lift_lets
    | split
    | intro _


theorem execSampleDelivered_ok (h : s.Ok Q) (tile conv : Nat) (hw : Q.mask &&& 0x200000000000000000000000000000000000000000000000000000000000000000000000000000000000000000000000000000000000000000400000000000000000000000000000000000000000000000000000000000000000000000000000000000000000000000000000000000000000000000000000000000000000000000000000 = 0) : OutOk Q (execSampleDelivered tile conv s) := by
  unfold execSampleDelivered
  refine okIf_ok ?_
  repeat' first
    | with_reducible assumption
    | with_reducible exact Kit.bit hw (by decide +kernel)
    | with_reducible exact Kit.sub hw (by decide +kernel)
    | with_reducible apply State.deliver_ok
    | with_reducible rfl
    | with_reducible refine ok_ite (fun _ => ?_) (fun _ => ?_)
    | (intro s1; refine (fun (h1 : State.Ok Q s1) => ?_) ?_; rotate_left; subst s1; rotate_right)
    | (intro (f : _ → _); subst f; dsimp -zeta only)
    | (intro s1; fail_if_success (have : State := s1))
    | lift_lets
    | split
    | intro _
    | with_reducible apply ok_samples


theorem execProgramGrain_ok (h : s.Ok Q) (tile half g ix perr : Nat) (hw : Q.mask &&& 0x821800800000000000000000000000000000000000000000000000000000000000000040000000000000000005800000000000000080003879c00000000000000000000000000000000000000000001000080018800000000000000000000000000000000000000000000000000000306000000000000000610000000000000000000000 = 0) : OutOk Q (execProgramGrain tile half g ix perr s) := by
  unfold execProgramGrain
  refine okIf_ok ?_
  repeat' first
    | with_reducible assumption
    | with_reducible exact Kit.bit hw (by decide +kernel)
    | with_reducible exact Kit.sub hw (by decide +kernel)
    | with_reducible apply State.recCheck_ok
    | with_reducible apply State.tblCheck_ok
    | with_reducible apply State.halfGrain_ok
    | with_reducible apply State.entryGrain_ok
    | with_reducible apply forUpto_ok
    | with_reducible rfl
    | (intro i1 s1 (h1 : State.Ok Q s1))
    | (intro s1 i1 (h1 : State.Ok Q s1))
    | with_reducible refine ok_ite (fun _ => ?_) (fun _ => ?_)
    | (intro s1; refine (fun (h1 : State.Ok Q s1) => ?_) ?_; rotate_left; subst s1; rotate_right)
    | (intro (f : _ → _); subst f; dsimp -zeta only)
    | (intro s1; fail_if_success (have : State := s1))
    | lift_lets
    | split
    | intro _


theorem execMcLoadStart_ok (h : s.Ok Q)  (hw : Q.mask &&& 0x1000000000000000000000000000000000000000000000000000000000000000000000000000000000000000000000000000000040000000000000000000000000000000000000000020002000020000400402000000800010001000040800400002000000000008000200000d00000000810010000000010000008800080000800800 = 0) : OutOk Q (execMcLoadStart s) := by
  unfold execMcLoadStart
  refine okIf_ok ?_
  repeat' first
    | with_reducible assumption
    | with_reducible exact Kit.bit hw (by decide +kernel)
    | with_reducible exact Kit.sub hw (by decide +kernel)
    | with_reducible apply State.mcLoadStart_ok
    | with_reducible rfl
    | with_reducible refine ok_ite (fun _ => ?_) (fun _ => ?_)
    | (intro s1; refine (fun (h1 : State.Ok Q s1) => ?_) ?_; rotate_left; subst s1; rotate_right)
    | (intro (f : _ → _); subst f; dsimp -zeta only)
    | (intro s1; fail_if_success (have : State := s1))
    | lift_lets
    | split
    | intro _


theorem execMcLoadDone_ok (h : s.Ok Q) (bad : List Nat) (hw : Q.mask &&& 0x100640000000000000000000000000000000000000000000000000000000000000000000000000000000000000000000000000000000000000000000000000000000000000000000000e0000000000000800008000000000000000000000000000000000000000000000000005080fa000000000000000000000000000000000000000 = 0) : OutOk Q (execMcLoadDone bad s) := by
  unfold execMcLoadDone
  refine okIf_ok ?_
  repeat' first
    | with_reducible assumption
    | with_reducible exact Kit.bit hw (by decide +kernel)
    | with_reducible exact Kit.sub hw (by decide +kernel)
    | with_reducible apply State.mcLoadDone_ok
    | with_reducible rfl
    | with_reducible refine ok_ite (fun _ => ?_) (fun _ => ?_)
    | (intro s1; refine (fun (h1 : State.Ok Q s1) => ?_) ?_; rotate_left; subst s1; rotate_right)
    | (intro (f : _ → _); subst f; dsimp -zeta only)
    | (intro s1; fail_if_success (have : State := s1))
    | lift_lets
    | split
    | intro _


theorem execControlStoreRead_ok (h : s.Ok Q) (tile : Nat) (hw : Q.mask &&& 0x1020000000000000000000000000000000000000000000000000000000000000000000000000000000000000000000000000000000000000000000000000000000000000000000000000000000000000000000000000000000000000000000000000000000000000000000000001800000000000000000000000000000000000000000 = 0) : OutOk Q (execControlStoreRead tile s) := by
  unfold execControlStoreRead
  refine okIf_ok ?_
  repeat' first
    | with_reducible assumption
    | with_reducible exact Kit.bit hw (by decide +kernel)
    | with_reducible exact Kit.sub hw (by decide +kernel)
    | with_reducible apply State.csRead_ok
    | with_reducible apply State.addrFault_ok
    | with_reducible rfl
    | with_reducible refine ok_ite (fun _ => ?_) (fun _ => ?_)
    | (intro s1; refine (fun (h1 : State.Ok Q s1) => ?_) ?_; rotate_left; subst s1; rotate_right)
    | (intro (f : _ → _); subst f; dsimp -zeta only)
    | (intro s1; fail_if_success (have : State := s1))
    | lift_lets
    | split
    | intro _


theorem execHeartbeatReceived_ok (h : s.Ok Q) (tile half : Nat) (second : Bool) (hw : Q.mask &&& 0x4000000000000000000000000000000000000000000000000000000000000000000000000000000000000000000000000000000000000000000000000000000000000000000000000000000000 = 0) : OutOk Q (execHeartbeatReceived tile half second s) := by
  unfold execHeartbeatReceived
  refine okIf_ok ?_
  repeat' first
    | with_reducible assumption
    | with_reducible exact Kit.bit hw (by decide +kernel)
    | with_reducible exact Kit.sub hw (by decide +kernel)
    | with_reducible apply State.setLat_ok
    | with_reducible rfl
    | with_reducible refine ok_ite (fun _ => ?_) (fun _ => ?_)
    | (intro s1; refine (fun (h1 : State.Ok Q s1) => ?_) ?_; rotate_left; subst s1; rotate_right)
    | (intro (f : _ → _); subst f; dsimp -zeta only)
    | (intro s1; fail_if_success (have : State := s1))
    | lift_lets
    | split
    | intro _


theorem execTokenDecision_ok (h : s.Ok Q) (tile : Nat) (ilkU ilkO verdict : Bool) (hw : Q.mask &&& 0x10000000000000000000000000000000000000000000000000000000000000000000000000000000000000000000000000000000809f8000000000000000000000000000000000000000000000000000100092800000000000000000000000000000000000000000000000000000000000000000000000000000000000000000000000 = 0) : OutOk Q (execTokenDecision tile ilkU ilkO verdict s) := by
  unfold execTokenDecision
  refine okIf_ok ?_
  repeat' first
    | with_reducible assumption
    | with_reducible exact Kit.bit hw (by decide +kernel)
    | with_reducible exact Kit.sub hw (by decide +kernel)
    | with_reducible apply State.tokenDecision_ok
    | with_reducible rfl
    | with_reducible refine ok_ite (fun _ => ?_) (fun _ => ?_)
    | (intro s1; refine (fun (h1 : State.Ok Q s1) => ?_) ?_; rotate_left; subst s1; rotate_right)
    | (intro (f : _ → _); subst f; dsimp -zeta only)
    | (intro s1; fail_if_success (have : State := s1))
    | lift_lets
    | split
    | intro _


theorem execTileHoldCmd_ok (h : s.Ok Q) (tile : Nat) (hw : Q.mask &&& 0x10502000000000000000000000000000000000000000000000000000000000000000000000000000000000000040000000000000000fc000000000000000000000700037000000000000200020000200004004060000008b0010001000040800400002000000000008000200000800002000813810000000010000008800880400800820 = 0) : OutOk Q (execTileHoldCmd tile s) := by
  unfold execTileHoldCmd
  refine okIf_ok ?_
  repeat' first
    | with_reducible assumption
    | with_reducible exact Kit.bit hw (by decide +kernel)
    | with_reducible exact Kit.sub hw (by decide +kernel)
    | with_reducible apply State.tileCmdWrite_ok
    | with_reducible rfl
    | with_reducible refine ok_ite (fun _ => ?_) (fun _ => ?_)
    | (intro s1; refine (fun (h1 : State.Ok Q s1) => ?_) ?_; rotate_left; subst s1; rotate_right)
    | (intro (f : _ → _); subst f; dsimp -zeta only)
    | (intro s1; fail_if_success (have : State := s1))
    | lift_lets
    | split
    | intro _


theorem execTileReleaseCmd_ok (h : s.Ok Q) (tile : Nat) (hw : Q.mask &&& 0x10502000000000000000000000000000000000000000000000000000000000000000000000000000000000000040000000000000000fc000000000000000000000700037000000000000200020000200004004060000008b0010001000040800400002000000000008000200000800002000813810000000010000008800880400800820 = 0) : OutOk Q (execTileReleaseCmd tile s) := by
  unfold execTileReleaseCmd
  refine okIf_ok ?_
  repeat' first
    | with_reducible assumption
    | with_reducible exact Kit.bit hw (by decide +kernel)
    | with_reducible exact Kit.sub hw (by decide +kernel)
    | with_reducible apply State.tileCmdWrite_ok
    | with_reducible rfl
    | with_reducible refine ok_ite (fun _ => ?_) (fun _ => ?_)
    | (intro s1; refine (fun (h1 : State.Ok Q s1) => ?_) ?_; rotate_left; subst s1; rotate_right)
    | (intro (f : _ → _); subst f; dsimp -zeta only)
    | (intro s1; fail_if_success (have : State := s1))
    | lift_lets
    | split
    | intro _


theorem execTileRejoin_ok (h : s.Ok Q) (tile halves : Nat) (hw : Q.mask &&& 0x10502000000000000000000000000000000000000000000000000000000000000000000000000000000000000040000000000000000fc000000000000000000000700037000000000000200020000200004004060000008b0010001000040800400002000000000008000200000800002000813810000000010000008800880400800820 = 0) : OutOk Q (execTileRejoin tile halves s) := by
  unfold execTileRejoin
  refine okIf_ok ?_
  repeat' first
    | with_reducible assumption
    | with_reducible exact Kit.bit hw (by decide +kernel)
    | with_reducible exact Kit.sub hw (by decide +kernel)
    | with_reducible apply State.tileCmdWrite_ok
    | with_reducible rfl
    | with_reducible refine ok_ite (fun _ => ?_) (fun _ => ?_)
    | (intro s1; refine (fun (h1 : State.Ok Q s1) => ?_) ?_; rotate_left; subst s1; rotate_right)
    | (intro (f : _ → _); subst f; dsimp -zeta only)
    | (intro s1; fail_if_success (have : State := s1))
    | lift_lets
    | split
    | intro _


theorem execTileRestart_ok (h : s.Ok Q) (tile halves : Nat) (hw : Q.mask &&& 0x10502000000000000000000000000000000000000000000000000000000000000000000000000000000000000040000000000000000fc000000000000000000000700037000000000000200020000200004004060000008b0010001000040800400002000000000008000200000800002000813810000000010000008800880400800820 = 0) : OutOk Q (execTileRestart tile halves s) := by
  unfold execTileRestart
  refine okIf_ok ?_
  repeat' first
    | with_reducible assumption
    | with_reducible exact Kit.bit hw (by decide +kernel)
    | with_reducible exact Kit.sub hw (by decide +kernel)
    | with_reducible apply State.tileCmdWrite_ok
    | with_reducible rfl
    | with_reducible refine ok_ite (fun _ => ?_) (fun _ => ?_)
    | (intro s1; refine (fun (h1 : State.Ok Q s1) => ?_) ?_; rotate_left; subst s1; rotate_right)
    | (intro (f : _ → _); subst f; dsimp -zeta only)
    | (intro s1; fail_if_success (have : State := s1))
    | lift_lets
    | split
    | intro _


theorem execTileDisable_ok (h : s.Ok Q) (tile halves : Nat) (hw : Q.mask &&& 0x10502000000000000000000000000000000000000000000000000000000000000000000000000000000000000040000000000000000fc000000000000000000000700037000000000000200020000200004004060000008b0010001000040800400002000000000008000200000800002000813810000000010000008800880400800820 = 0) : OutOk Q (execTileDisable tile halves s) := by
  unfold execTileDisable
  refine okIf_ok ?_
  repeat' first
    | with_reducible assumption
    | with_reducible exact Kit.bit hw (by decide +kernel)
    | with_reducible exact Kit.sub hw (by decide +kernel)
    | with_reducible apply State.tileCmdWrite_ok
    | with_reducible rfl
    | with_reducible refine ok_ite (fun _ => ?_) (fun _ => ?_)
    | (intro s1; refine (fun (h1 : State.Ok Q s1) => ?_) ?_; rotate_left; subst s1; rotate_right)
    | (intro (f : _ → _); subst f; dsimp -zeta only)
    | (intro s1; fail_if_success (have : State := s1))
    | lift_lets
    | split
    | intro _


theorem execTileSwap_ok (h : s.Ok Q) (tile : Nat) (hw : Q.mask &&& 0x10502000000000000000000000000000000000000000000000000000000000000000000000000000000000000040000000000000000fc000000000000000000000700037000000000000200020000200004004060000008b0010001000040800400002000000000008000200000800002000813810000000010000008800880400800820 = 0) : OutOk Q (execTileSwap tile s) := by
  unfold execTileSwap
  refine okIf_ok ?_
  repeat' first
    | with_reducible assumption
    | with_reducible exact Kit.bit hw (by decide +kernel)
    | with_reducible exact Kit.sub hw (by decide +kernel)
    | with_reducible apply State.tileCmdWrite_ok
    | with_reducible rfl
    | with_reducible refine ok_ite (fun _ => ?_) (fun _ => ?_)
    | (intro s1; refine (fun (h1 : State.Ok Q s1) => ?_) ?_; rotate_left; subst s1; rotate_right)
    | (intro (f : _ → _); subst f; dsimp -zeta only)
    | (intro s1; fail_if_success (have : State := s1))
    | lift_lets
    | split
    | intro _


theorem execSlotTimerRejoin_ok (h : s.Ok Q) (halves : Nat) (hw : Q.mask &&& 0x1000000000000000000000000000000000000000000000000000000000000000000000000000000000000000000000000000000300000000000000000000000000000000000000000020002000020000404402000000800010001000040800400002000000000008000200000800000000810010000000010000008800080000800800 = 0) : OutOk Q (execSlotTimerRejoin halves s) := by
  unfold execSlotTimerRejoin
  refine okIf_ok ?_
  repeat' first
    | with_reducible assumption
    | with_reducible exact Kit.bit hw (by decide +kernel)
    | with_reducible exact Kit.sub hw (by decide +kernel)
    | with_reducible apply State.slotPairCommand_ok
    | with_reducible rfl
    | with_reducible refine ok_ite (fun _ => ?_) (fun _ => ?_)
    | (intro s1; refine (fun (h1 : State.Ok Q s1) => ?_) ?_; rotate_left; subst s1; rotate_right)
    | (intro (f : _ → _); subst f; dsimp -zeta only)
    | (intro s1; fail_if_success (have : State := s1))
    | lift_lets
    | split
    | intro _


theorem execSlotTimerSwap_ok (h : s.Ok Q)  (hw : Q.mask &&& 0x1000000000000000000000000000000000000000000000000000000000000000000000000000000000000000000000000000000300000000000000000000000000000000000000000020002000020000404402000000800010001000040800400002000000000008000200000800000000810010000000010000008800080000800800 = 0) : OutOk Q (execSlotTimerSwap s) := by
  unfold execSlotTimerSwap
  refine okIf_ok ?_
  repeat' first
    | with_reducible assumption
    | with_reducible exact Kit.bit hw (by decide +kernel)
    | with_reducible exact Kit.sub hw (by decide +kernel)
    | with_reducible apply State.slotPairCommand_ok
    | with_reducible rfl
    | with_reducible refine ok_ite (fun _ => ?_) (fun _ => ?_)
    | (intro s1; refine (fun (h1 : State.Ok Q s1) => ?_) ?_; rotate_left; subst s1; rotate_right)
    | (intro (f : _ → _); subst f; dsimp -zeta only)
    | (intro s1; fail_if_success (have : State := s1))
    | lift_lets
    | split
    | intro _


theorem execLockstepMismatch_ok (h : s.Ok Q)  (hw : Q.mask &&& 0x100000000000000000000000000000000000000000000000000000000000000000000000000000000000000000000000000000e000000000000000000000000000000000000000000000000000000000040000000000000000000000000000000000000000000000000000000000000000000000000000000000000000000000000000 = 0) : OutOk Q (execLockstepMismatch s) := by
  unfold execLockstepMismatch
  refine okIf_ok ?_
  repeat' first
    | with_reducible assumption
    | with_reducible exact Kit.bit hw (by decide +kernel)
    | with_reducible exact Kit.sub hw (by decide +kernel)
    | with_reducible apply State.send_ok
    | with_reducible apply State.warmRestart_ok
    | with_reducible rfl
    | with_reducible refine ok_ite (fun _ => ?_) (fun _ => ?_)
    | (intro s1; refine (fun (h1 : State.Ok Q s1) => ?_) ?_; rotate_left; subst s1; rotate_right)
    | (intro (f : _ → _); subst f; dsimp -zeta only)
    | (intro s1; fail_if_success (have : State := s1))
    | lift_lets
    | split
    | intro _


theorem execWatchdogExpiry_ok (h : s.Ok Q)  (hw : Q.mask &&& 0x100000000000000000000000000000000000000000000000000000000000000000000000000000000000000000000000000000e000000000000000000000000000000000000000000000000000000000040000000000000000000000000000000000000000000000000000000000000000000000000000000000000000000000000000 = 0) : OutOk Q (execWatchdogExpiry s) := by
  unfold execWatchdogExpiry
  refine okIf_ok ?_
  repeat' first
    | with_reducible assumption
    | with_reducible exact Kit.bit hw (by decide +kernel)
    | with_reducible exact Kit.sub hw (by decide +kernel)
    | with_reducible apply State.send_ok
    | with_reducible apply State.warmRestart_ok
    | with_reducible rfl
    | with_reducible refine ok_ite (fun _ => ?_) (fun _ => ?_)
    | (intro s1; refine (fun (h1 : State.Ok Q s1) => ?_) ?_; rotate_left; subst s1; rotate_right)
    | (intro (f : _ → _); subst f; dsimp -zeta only)
    | (intro s1; fail_if_success (have : State := s1))
    | lift_lets
    | split
    | intro _


theorem execMgtHeartbeatWrite_ok (h : s.Ok Q)  (hw : Q.mask &&& 0x8000000000000000000000000000000000000000000000000000000000000000000000000000000000000000000000000000000000000000000000000000000000000000000000000000000000000000 = 0) : OutOk Q (execMgtHeartbeatWrite s) := by
  unfold execMgtHeartbeatWrite
  refine okIf_ok ?_
  repeat' first
    | with_reducible assumption
    | with_reducible exact Kit.bit hw (by decide +kernel)
    | with_reducible exact Kit.sub hw (by decide +kernel)
    | with_reducible apply State.setLat_ok
    | with_reducible rfl
    | with_reducible refine ok_ite (fun _ => ?_) (fun _ => ?_)
    | (intro s1; refine (fun (h1 : State.Ok Q s1) => ?_) ?_; rotate_left; subst s1; rotate_right)
    | (intro (f : _ → _); subst f; dsimp -zeta only)
    | (intro s1; fail_if_success (have : State := s1))
    | lift_lets
    | split
    | intro _


theorem execCfgCommit_ok (h : s.Ok Q) (bank : Nat) (guard : Bool) (hw : Q.mask &&& 0x100020000000000000000000000000000000000000000000000000000000000000000000000000000000000000000000001e000000000000000000000000000000000000000000000020002000020000400402000000800010001000040800400002000000000008000200000800000000810010000000010000008800080000800800 = 0) : OutOk Q (execCfgCommit bank guard s) := by
  unfold execCfgCommit
  refine okIf_ok ?_
  repeat' first
    | with_reducible assumption
    | with_reducible exact Kit.bit hw (by decide +kernel)
    | with_reducible exact Kit.sub hw (by decide +kernel)
    | with_reducible apply State.cfgCommit_ok
    | with_reducible rfl
    | with_reducible refine ok_ite (fun _ => ?_) (fun _ => ?_)
    | (intro s1; refine (fun (h1 : State.Ok Q s1) => ?_) ?_; rotate_left; subst s1; rotate_right)
    | (intro (f : _ → _); subst f; dsimp -zeta only)
    | (intro s1; fail_if_success (have : State := s1))
    | lift_lets
    | split
    | intro _


theorem execStagingCopyArrival_ok (h : s.Ok Q) (mem place : Nat) (hw : Q.mask &&& 0x100630000000000000000000000000000000000000000000000000000000000000000000000000000000000000000000004000000000000000000000000000000000000000000000000e000000000000000000000000000000000000000000000000000000000000000000000000000000000000000000000000000000000000000000 = 0) : OutOk Q (execStagingCopyArrival mem place s) := by
  unfold execStagingCopyArrival
  refine okIf_ok ?_
  repeat' first
    | with_reducible assumption
    | with_reducible exact Kit.bit hw (by decide +kernel)
    | with_reducible exact Kit.sub hw (by decide +kernel)
    | with_reducible apply State.stagingArrive_ok
    | with_reducible rfl
    | with_reducible refine ok_ite (fun _ => ?_) (fun _ => ?_)
    | (intro s1; refine (fun (h1 : State.Ok Q s1) => ?_) ?_; rotate_left; subst s1; rotate_right)
    | (intro (f : _ → _); subst f; dsimp -zeta only)
    | (intro s1; fail_if_success (have : State := s1))
    | lift_lets
    | split
    | intro _


theorem execSlotArm_ok (h : s.Ok Q)  (hw : Q.mask &&& 0x1000000000000000000000000000000000000000000000000000000000000000000000000000000000000000000000000000200000000000000000000000000000000000000000000020002000020000400402000000800010001000040800400002000000000008000200000800000000810010000000010000008800080000800800 = 0) : OutOk Q (execSlotArm s) := by
  unfold execSlotArm
  refine okIf_ok ?_
  repeat' first
    | with_reducible assumption
    | with_reducible exact Kit.bit hw (by decide +kernel)
    | with_reducible exact Kit.sub hw (by decide +kernel)
    | with_reducible apply State.slotArm_ok
    | with_reducible rfl
    | with_reducible refine ok_ite (fun _ => ?_) (fun _ => ?_)
    | (intro s1; refine (fun (h1 : State.Ok Q s1) => ?_) ?_; rotate_left; subst s1; rotate_right)
    | (intro (f : _ → _); subst f; dsimp -zeta only)
    | (intro s1; fail_if_success (have : State := s1))
    | lift_lets
    | split
    | intro _


theorem execArmValidationDone_ok (h : s.Ok Q)  (hw : Q.mask &&& 0x10002000000000000000000000000000000000000000000000000000000000000000000000000000000000000000000000e03800000000000000000000000000000000000000000000000000000000000000000000000000000000000000000000000000000000000002107e0800000000000000000000000000000000000000000000 = 0) : OutOk Q (execArmValidationDone s) := by
  unfold execArmValidationDone
  refine okIf_ok ?_
  repeat' first
    | with_reducible assumption
    | with_reducible exact Kit.bit hw (by decide +kernel)
    | with_reducible exact Kit.sub hw (by decide +kernel)
    | with_reducible apply State.armDone_ok
    | with_reducible rfl
    | with_reducible refine ok_ite (fun _ => ?_) (fun _ => ?_)
    | (intro s1; refine (fun (h1 : State.Ok Q s1) => ?_) ?_; rotate_left; subst s1; rotate_right)
    | (intro (f : _ → _); subst f; dsimp -zeta only)
    | (intro s1; fail_if_success (have : State := s1))
    | lift_lets
    | split
    | intro _


theorem execSlotDisarm_ok (h : s.Ok Q)  (hw : Q.mask &&& 0xa10000000000000000000000000000000000000000000000000000000000000000000000000000000000000000000000000e0000000000000000000000000000000000000000000000020002000020000400402000000800010001000040800400002000000000008000200000800000000810010000000010000008800080000800800 = 0) : OutOk Q (execSlotDisarm s) := by
  unfold execSlotDisarm
  refine okIf_ok ?_
  repeat' first
    | with_reducible assumption
    | with_reducible exact Kit.bit hw (by decide +kernel)
    | with_reducible exact Kit.sub hw (by decide +kernel)
    | with_reducible apply State.slotDisarm_ok
    | with_reducible rfl
    | with_reducible refine ok_ite (fun _ => ?_) (fun _ => ?_)
    | (intro s1; refine (fun (h1 : State.Ok Q s1) => ?_) ?_; rotate_left; subst s1; rotate_right)
    | (intro (f : _ → _); subst f; dsimp -zeta only)
    | (intro s1; fail_if_success (have : State := s1))
    | lift_lets
    | split
    | intro _


theorem execSlotStop_ok (h : s.Ok Q) (bank : Nat) (guard atEnd : Bool) (hw : Q.mask &&& 0x1000200000000000000000000000000000000000000000000000000000000000000000000000000000000000000000000000c00000000000000000000000000000000000000000000020002000020000400402000000800010001000040800400002000000000008000200000800000000810010000000010000008800080000800800 = 0) : OutOk Q (execSlotStop bank guard atEnd s) := by
  unfold execSlotStop
  refine okIf_ok ?_
  repeat' first
    | with_reducible assumption
    | with_reducible exact Kit.bit hw (by decide +kernel)
    | with_reducible exact Kit.sub hw (by decide +kernel)
    | with_reducible apply State.slotStop_ok
    | with_reducible rfl
    | with_reducible refine ok_ite (fun _ => ?_) (fun _ => ?_)
    | (intro s1; refine (fun (h1 : State.Ok Q s1) => ?_) ?_; rotate_left; subst s1; rotate_right)
    | (intro (f : _ → _); subst f; dsimp -zeta only)
    | (intro s1; fail_if_success (have : State := s1))
    | lift_lets
    | split
    | intro _


theorem execBoundaryFixGrain_ok (h : s.Ok Q)  (hw : Q.mask &&& 0x1000000000000000000000000000000000000000000000000000000000000000000000000000000000000000000000000000000000000000000000000000000000000000000000000000000000000000000 = 0) : OutOk Q (execBoundaryFixGrain s) := by
  unfold execBoundaryFixGrain
  refine okIf_ok ?_
  repeat' first
    | with_reducible assumption
    | with_reducible exact Kit.bit hw (by decide +kernel)
    | with_reducible exact Kit.sub hw (by decide +kernel)
    | with_reducible apply State.fixBoundary_ok
    | with_reducible rfl
    | with_reducible refine ok_ite (fun _ => ?_) (fun _ => ?_)
    | (intro s1; refine (fun (h1 : State.Ok Q s1) => ?_) ?_; rotate_left; subst s1; rotate_right)
    | (intro (f : _ → _); subst f; dsimp -zeta only)
    | (intro s1; fail_if_success (have : State := s1))
    | lift_lets
    | split
    | intro _


theorem execRteSolve_ok (h : s.Ok Q)  (hw : Q.mask &&& 0x300000000000000000000000000000000000000000000000000000000000000000000000000000000000000000000000000000000000000080000000000000000000000000000000000000000000000000000 = 0) : OutOk Q (execRteSolve s) := by
  unfold execRteSolve
  refine okIf_ok ?_
  repeat' first
    | with_reducible assumption
    | with_reducible exact Kit.bit hw (by decide +kernel)
    | with_reducible exact Kit.sub hw (by decide +kernel)
    | with_reducible apply State.rteStart_ok
    | with_reducible rfl
    | with_reducible refine ok_ite (fun _ => ?_) (fun _ => ?_)
    | (intro s1; refine (fun (h1 : State.Ok Q s1) => ?_) ?_; rotate_left; subst s1; rotate_right)
    | (intro (f : _ → _); subst f; dsimp -zeta only)
    | (intro s1; fail_if_success (have : State := s1))
    | lift_lets
    | split
    | intro _


theorem execRteAdd_ok (h : s.Ok Q)  (hw : Q.mask &&& 0x300000000000000000000000000000000000000000000000000000000000000000000000000000000000000000000000000000000000000080000000000000000000000000000000000000000000000000000 = 0) : OutOk Q (execRteAdd s) := by
  unfold execRteAdd
  refine okIf_ok ?_
  repeat' first
    | with_reducible assumption
    | with_reducible exact Kit.bit hw (by decide +kernel)
    | with_reducible exact Kit.sub hw (by decide +kernel)
    | with_reducible apply State.rteStart_ok
    | with_reducible rfl
    | with_reducible refine ok_ite (fun _ => ?_) (fun _ => ?_)
    | (intro s1; refine (fun (h1 : State.Ok Q s1) => ?_) ?_; rotate_left; subst s1; rotate_right)
    | (intro (f : _ → _); subst f; dsimp -zeta only)
    | (intro s1; fail_if_success (have : State := s1))
    | lift_lets
    | split
    | intro _


theorem execRteDrop_ok (h : s.Ok Q)  (hw : Q.mask &&& 0x300000000000000000000000000000000000000000000000000000000000000000000000000000000000000000000000000000000000000080000000000000000000000000000000000000000000000000000 = 0) : OutOk Q (execRteDrop s) := by
  unfold execRteDrop
  refine okIf_ok ?_
  repeat' first
    | with_reducible assumption
    | with_reducible exact Kit.bit hw (by decide +kernel)
    | with_reducible exact Kit.sub hw (by decide +kernel)
    | with_reducible apply State.rteStart_ok
    | with_reducible rfl
    | with_reducible refine ok_ite (fun _ => ?_) (fun _ => ?_)
    | (intro s1; refine (fun (h1 : State.Ok Q s1) => ?_) ?_; rotate_left; subst s1; rotate_right)
    | (intro (f : _ → _); subst f; dsimp -zeta only)
    | (intro s1; fail_if_success (have : State := s1))
    | lift_lets
    | split
    | intro _


theorem execRteShutmask_ok (h : s.Ok Q)  (hw : Q.mask &&& 0x300000000000000000000000000000000000000000000000000000000000000000000000000000000000000000000000000000000000000080000000000000000000000000000000000000000000000000000 = 0) : OutOk Q (execRteShutmask s) := by
  unfold execRteShutmask
  refine okIf_ok ?_
  repeat' first
    | with_reducible assumption
    | with_reducible exact Kit.bit hw (by decide +kernel)
    | with_reducible exact Kit.sub hw (by decide +kernel)
    | with_reducible apply State.rteStart_ok
    | with_reducible rfl
    | with_reducible refine ok_ite (fun _ => ?_) (fun _ => ?_)
    | (intro s1; refine (fun (h1 : State.Ok Q s1) => ?_) ?_; rotate_left; subst s1; rotate_right)
    | (intro (f : _ → _); subst f; dsimp -zeta only)
    | (intro s1; fail_if_success (have : State := s1))
    | lift_lets
    | split
    | intro _


theorem execRteTrace_ok (h : s.Ok Q)  (hw : Q.mask &&& 0x300000000000000000000000000000000000000000000000000000000000000000000000000000000000000000000000000000000000000080000000000000000000000000000000000000000000000000000 = 0) : OutOk Q (execRteTrace s) := by
  unfold execRteTrace
  refine okIf_ok ?_
  repeat' first
    | with_reducible assumption
    | with_reducible exact Kit.bit hw (by decide +kernel)
    | with_reducible exact Kit.sub hw (by decide +kernel)
    | with_reducible apply State.rteStart_ok
    | with_reducible rfl
    | with_reducible refine ok_ite (fun _ => ?_) (fun _ => ?_)
    | (intro s1; refine (fun (h1 : State.Ok Q s1) => ?_) ?_; rotate_left; subst s1; rotate_right)
    | (intro (f : _ → _); subst f; dsimp -zeta only)
    | (intro s1; fail_if_success (have : State := s1))
    | lift_lets
    | split
    | intro _


theorem execRteExtract_ok (h : s.Ok Q)  (hw : Q.mask &&& 0x300000000000000000000000000000000000000000000000000000000000000000000000000000000000000000000000000000000000000080000000000000000000000000000000000000000000000000000 = 0) : OutOk Q (execRteExtract s) := by
  unfold execRteExtract
  refine okIf_ok ?_
  repeat' first
    | with_reducible assumption
    | with_reducible exact Kit.bit hw (by decide +kernel)
    | with_reducible exact Kit.sub hw (by decide +kernel)
    | with_reducible apply State.rteStart_ok
    | with_reducible rfl
    | with_reducible refine ok_ite (fun _ => ?_) (fun _ => ?_)
    | (intro s1; refine (fun (h1 : State.Ok Q s1) => ?_) ?_; rotate_left; subst s1; rotate_right)
    | (intro (f : _ → _); subst f; dsimp -zeta only)
    | (intro s1; fail_if_success (have : State := s1))
    | lift_lets
    | split
    | intro _


theorem execRteMark_ok (h : s.Ok Q)  (hw : Q.mask &&& 0x300000000000000000000000000000000000000000000000000000000000000000000000000000000000000000000000000000000000000080000000000000000000000000000000000000000000000000000 = 0) : OutOk Q (execRteMark s) := by
  unfold execRteMark
  refine okIf_ok ?_
  repeat' first
    | with_reducible assumption
    | with_reducible exact Kit.bit hw (by decide +kernel)
    | with_reducible exact Kit.sub hw (by decide +kernel)
    | with_reducible apply State.rteStart_ok
    | with_reducible rfl
    | with_reducible refine ok_ite (fun _ => ?_) (fun _ => ?_)
    | (intro s1; refine (fun (h1 : State.Ok Q s1) => ?_) ?_; rotate_left; subst s1; rotate_right)
    | (intro (f : _ → _); subst f; dsimp -zeta only)
    | (intro s1; fail_if_success (have : State := s1))
    | lift_lets
    | split
    | intro _


theorem execRouteSolverDone_ok (h : s.Ok Q) (cycles : Nat) (hw : Q.mask &&& 0x100630000000000000000000000000000000000000000000000000000000000000000000000000000000000000000000030000000000000000000000000000000000000000000000000e000000000000000000000000000000000000000000000000000000000003f80200000000000000000000000000000000000000000000000000 = 0) : OutOk Q (execRouteSolverDone cycles s) := by
  unfold execRouteSolverDone
  refine okIf_ok ?_
  repeat' first
    | with_reducible assumption
    | with_reducible exact Kit.bit hw (by decide +kernel)
    | with_reducible exact Kit.sub hw (by decide +kernel)
    | with_reducible apply State.rteDone_ok
    | with_reducible rfl
    | with_reducible refine ok_ite (fun _ => ?_) (fun _ => ?_)
    | (intro s1; refine (fun (h1 : State.Ok Q s1) => ?_) ?_; rotate_left; subst s1; rotate_right)
    | (intro (f : _ → _); subst f; dsimp -zeta only)
    | (intro s1; fail_if_success (have : State := s1))
    | lift_lets
    | split
    | intro _


theorem execTempReading_ok (h : s.Ok Q) (tile : Nat) (raw : Int) (hw : Q.mask &&& 0x11000000000000000000000000000000000000000000000000000000000000000000000000000000000000000000035ff000000000000000000000000000000000000000000000000000000000000240000000580800000000000000000000000000000000000000000000000000000000000000000000000000000000000000000000 = 0) : OutOk Q (execTempReading tile raw s) := by
  unfold execTempReading
  refine okIf_ok ?_
  repeat' first
    | with_reducible assumption
    | with_reducible exact Kit.bit hw (by decide +kernel)
    | with_reducible exact Kit.sub hw (by decide +kernel)
    | with_reducible apply State.tempReading_ok
    | with_reducible rfl
    | with_reducible refine ok_ite (fun _ => ?_) (fun _ => ?_)
    | (intro s1; refine (fun (h1 : State.Ok Q s1) => ?_) ?_; rotate_left; subst s1; rotate_right)
    | (intro (f : _ → _); subst f; dsimp -zeta only)
    | (intro s1; fail_if_success (have : State := s1))
    | lift_lets
    | split
    | intro _


theorem execModelStep_ok (h : s.Ok Q)  (hw : Q.mask &&& 0x5100000000000000000000000000000000000000000000000000000000000000000000000000000000000000000003e0000000000c000000000000000400000000000000000000000000000000000240000060002a00800000000000000000000000000000000000000000000000000000000000000000000000000000000000000000 = 0) : OutOk Q (execModelStep s) := by
  unfold execModelStep
  refine okIf_ok ?_
  repeat' first
    | with_reducible assumption
    | with_reducible exact Kit.bit hw (by decide +kernel)
    | with_reducible exact Kit.sub hw (by decide +kernel)
    | with_reducible apply State.modelStep_ok
    | with_reducible rfl
    | with_reducible refine ok_ite (fun _ => ?_) (fun _ => ?_)
    | (intro s1; refine (fun (h1 : State.Ok Q s1) => ?_) ?_; rotate_left; subst s1; rotate_right)
    | (intro (f : _ → _); subst f; dsimp -zeta only)
    | (intro s1; fail_if_success (have : State := s1))
    | lift_lets
    | split
    | intro _


theorem execRailSample_ok (h : s.Ok Q) (rail mv : Nat) (hw : Q.mask &&& 0x100000000000000000000000000000000000000000000000000000000000000000000000000000000000000000003c000000000000000000000000000000000000000000000000000000000000000000000000024000000000000000000000000000000000000000000000000000000000000000000000000000000000000000000000 = 0) : OutOk Q (execRailSample rail mv s) := by
  unfold execRailSample
  refine okIf_ok ?_
  repeat' first
    | with_reducible assumption
    | with_reducible exact Kit.bit hw (by decide +kernel)
    | with_reducible exact Kit.sub hw (by decide +kernel)
    | with_reducible apply State.railSample_ok
    | with_reducible rfl
    | with_reducible refine ok_ite (fun _ => ?_) (fun _ => ?_)
    | (intro s1; refine (fun (h1 : State.Ok Q s1) => ?_) ?_; rotate_left; subst s1; rotate_right)
    | (intro (f : _ → _); subst f; dsimp -zeta only)
    | (intro s1; fail_if_success (have : State := s1))
    | lift_lets
    | split
    | intro _


theorem execRingOscCount_ok (h : s.Ok Q) (tile count : Nat) (hw : Q.mask &&& 0x10000000000000000000000000000000000000000000000000000000000000000000000000000000000000000000c0000000000000000000000000000000000000000000000000000000000000000000000000600000000000000000000000000000000000000000000000000000000000000000000000000000000000000000000000 = 0) : OutOk Q (execRingOscCount tile count s) := by
  unfold execRingOscCount
  refine okIf_ok ?_
  repeat' first
    | with_reducible assumption
    | with_reducible exact Kit.bit hw (by decide +kernel)
    | with_reducible exact Kit.sub hw (by decide +kernel)
    | with_reducible apply State.ringOsc_ok
    | with_reducible rfl
    | with_reducible refine ok_ite (fun _ => ?_) (fun _ => ?_)
    | (intro s1; refine (fun (h1 : State.Ok Q s1) => ?_) ?_; rotate_left; subst s1; rotate_right)
    | (intro (f : _ → _); subst f; dsimp -zeta only)
    | (intro s1; fail_if_success (have : State := s1))
    | lift_lets
    | split
    | intro _


theorem execCalStart_ok (h : s.Ok Q)  (hw : Q.mask &&& 0x105000000000000000000000000000000000000000000000000000000000000000000000000000000000000000407b000000000000000000000000000000000804700000000000000000200020001200004004020000008b8410001000040800400002000000000008000200000800002000810010000000010000008800080400800800 = 0) : OutOk Q (execCalStart s) := by
  unfold execCalStart
  refine okIf_ok ?_
  repeat' first
    | with_reducible assumption
    | with_reducible exact Kit.bit hw (by decide +kernel)
    | with_reducible exact Kit.sub hw (by decide +kernel)
    | with_reducible apply State.calStart_ok
    | with_reducible rfl
    | with_reducible refine ok_ite (fun _ => ?_) (fun _ => ?_)
    | (intro s1; refine (fun (h1 : State.Ok Q s1) => ?_) ?_; rotate_left; subst s1; rotate_right)
    | (intro (f : _ → _); subst f; dsimp -zeta only)
    | (intro s1; fail_if_success (have : State := s1))
    | lift_lets
    | split
    | intro _


theorem execCalAbort_ok (h : s.Ok Q)  (hw : Q.mask &&& 0x50000000000000000000000000000000000000000000000000000000000000000000000000000000000000204004000000000000000000000000000000000000000000000000000000000000001200000000000000000a0010000000000000000000000000000000000000000000002000000000000000000000000000000400000000 = 0) : OutOk Q (execCalAbort s) := by
  unfold execCalAbort
  refine okIf_ok ?_
  repeat' first
    | with_reducible assumption
    | with_reducible exact Kit.bit hw (by decide +kernel)
    | with_reducible exact Kit.sub hw (by decide +kernel)
    | with_reducible apply State.calAbort_ok
    | with_reducible rfl
    | with_reducible refine ok_ite (fun _ => ?_) (fun _ => ?_)
    | (intro s1; refine (fun (h1 : State.Ok Q s1) => ?_) ?_; rotate_left; subst s1; rotate_right)
    | (intro (f : _ → _); subst f; dsimp -zeta only)
    | (intro s1; fail_if_success (have : State := s1))
    | lift_lets
    | split
    | intro _


theorem execCalTriggerCheck_ok (h : s.Ok Q)  (hw : Q.mask &&& 0x410000000000000000000000000000000000000000000000000000000000000000000000000000000000000 = 0) : OutOk Q (execCalTriggerCheck s) := by
  unfold execCalTriggerCheck
  refine okIf_ok ?_
  repeat' first
    | with_reducible assumption
    | with_reducible exact Kit.bit hw (by decide +kernel)
    | with_reducible exact Kit.sub hw (by decide +kernel)
    | with_reducible apply State.setFld_ok
    | with_reducible apply State.setCalState_ok
    | with_reducible apply State.setRbit_ok
    | with_reducible rfl
    | with_reducible refine ok_ite (fun _ => ?_) (fun _ => ?_)
    | (intro s1; refine (fun (h1 : State.Ok Q s1) => ?_) ?_; rotate_left; subst s1; rotate_right)
    | (intro (f : _ → _); subst f; dsimp -zeta only)
    | (intro s1; fail_if_success (have : State := s1))
    | lift_lets
    | split
    | intro _


theorem execCampaignPendingStart_ok (h : s.Ok Q)  (hw : Q.mask &&& 0x105000000000000000000000000000000000000000000000000000000000000000000000000000000000000000407b000000000000000000000000000000000804700000000000000000000000001200000000000000000b8410000000000000000000000000000000000000000000002000000000000000000000000000080400000000 = 0) : OutOk Q (execCampaignPendingStart s) := by
  unfold execCampaignPendingStart
  refine okIf_ok ?_
  repeat' first
    | with_reducible assumption
    | with_reducible exact Kit.bit hw (by decide +kernel)
    | with_reducible exact Kit.sub hw (by decide +kernel)
    | with_reducible apply State.calRun_ok
    | with_reducible rfl
    | with_reducible refine ok_ite (fun _ => ?_) (fun _ => ?_)
    | (intro s1; refine (fun (h1 : State.Ok Q s1) => ?_) ?_; rotate_left; subst s1; rotate_right)
    | (intro (f : _ → _); subst f; dsimp -zeta only)
    | (intro s1; fail_if_success (have : State := s1))
    | lift_lets
    | split
    | intro _


theorem execComparatorBlockDone_ok (h : s.Ok Q) (tile conv ones : Nat) (hw : Q.mask &&& 0x10000000000000000000000000000000000000000000000000000000000000000000000000000000000000004180000000000000000000000000000000000000000000000000000000000000000000000000000000000a0000000000000000000000000000000000000000000000000000000000000000000000000000000000000000 = 0) : OutOk Q (execComparatorBlockDone tile conv ones s) := by
  unfold execComparatorBlockDone
  refine okIf_ok ?_
  repeat' first
    | with_reducible assumption
    | with_reducible exact Kit.bit hw (by decide +kernel)
    | with_reducible exact Kit.sub hw (by decide +kernel)
    | with_reducible apply State.calCompare_ok
    | with_reducible rfl
    | with_reducible refine ok_ite (fun _ => ?_) (fun _ => ?_)
    | (intro s1; refine (fun (h1 : State.Ok Q s1) => ?_) ?_; rotate_left; subst s1; rotate_right)
    | (intro (f : _ → _); subst f; dsimp -zeta only)
    | (intro s1; fail_if_success (have : State := s1))
    | lift_lets
    | split
    | intro _


theorem execProbeMarker_ok (h : s.Ok Q) (tile tree : Nat) (late : Bool) (hw : Q.mask &&& 0x10000000000000000000000000000000000000000000000000000000000000000000000000000000000000007e0000000000000000000000000000000000000000000000000000000000000000000000000000000000020000000000000000000000000000000000000000000000000000000000000000000000000000000400000000 = 0) : OutOk Q (execProbeMarker tile tree late s) := by
  unfold execProbeMarker
  refine okIf_ok ?_
  repeat' first
    | with_reducible assumption
    | with_reducible exact Kit.bit hw (by decide +kernel)
    | with_reducible exact Kit.sub hw (by decide +kernel)
    | with_reducible apply State.skewProbe_ok
    | with_reducible rfl
    | with_reducible refine ok_ite (fun _ => ?_) (fun _ => ?_)
    | (intro s1; refine (fun (h1 : State.Ok Q s1) => ?_) ?_; rotate_left; subst s1; rotate_right)
    | (intro (f : _ → _); subst f; dsimp -zeta only)
    | (intro s1; fail_if_success (have : State := s1))
    | lift_lets
    | split
    | intro _


theorem execMeasureTimeout_ok (h : s.Ok Q) (tile : Nat) (hw : Q.mask &&& 0x1010000000000000000000000000000000000000000000000000000000000000000000000000000000000000004079000000000000000000000000000000000804700000000000000000000000000000000000000000000b0010000000000000000000000000000000000000000000002000000000000000000000000000080400000000 = 0) : OutOk Q (execMeasureTimeout tile s) := by
  unfold execMeasureTimeout
  refine okIf_ok ?_
  repeat' first
    | with_reducible assumption
    | with_reducible exact Kit.bit hw (by decide +kernel)
    | with_reducible exact Kit.sub hw (by decide +kernel)
    | with_reducible apply State.send_ok
    | with_reducible apply State.calSkip_ok
    | with_reducible apply State.calGroupDone_ok
    | with_reducible rfl
    | with_reducible refine ok_ite (fun _ => ?_) (fun _ => ?_)
    | (intro s1; refine (fun (h1 : State.Ok Q s1) => ?_) ?_; rotate_left; subst s1; rotate_right)
    | (intro (f : _ → _); subst f; dsimp -zeta only)
    | (intro s1; fail_if_success (have : State := s1))
    | lift_lets
    | split
    | intro _


theorem execMmuInvAll_ok (h : s.Ok Q)  (hw : Q.mask &&& 0x1000000000000000000000000000000000000000000000000000000000000000000000000000000000000000000000000000000000000000000000000000000000000000000000000000000000000000000000000000000000000000000000000000000000000000000000000000000000000000000000000000000000000000000000000 = 0) : OutOk Q (execMmuInvAll s) := by
  unfold execMmuInvAll
  refine okIf_ok ?_
  repeat' first
    | with_reducible assumption
    | with_reducible exact Kit.bit hw (by decide +kernel)
    | with_reducible exact Kit.sub hw (by decide +kernel)
    | with_reducible rfl
    | with_reducible refine ok_ite (fun _ => ?_) (fun _ => ?_)
    | (intro s1; refine (fun (h1 : State.Ok Q s1) => ?_) ?_; rotate_left; subst s1; rotate_right)
    | (intro (f : _ → _); subst f; dsimp -zeta only)
    | (intro s1; fail_if_success (have : State := s1))
    | lift_lets
    | split
    | intro _
    | with_reducible apply ok_tlb


theorem execMmuInvStream_ok (h : s.Ok Q) (stream : Nat) (hw : Q.mask &&& 0x1000000000000000000000000000000000000000000000000000000000000000000000000000000000000000000000000000000000000000000000000000000000000000000000000000000000000000000000000000000000000000000000000000000000000000000000000000000000000000000000000000000000000000000000000 = 0) : OutOk Q (execMmuInvStream stream s) := by
  unfold execMmuInvStream
  refine okIf_ok ?_
  repeat' first
    | with_reducible assumption
    | with_reducible exact Kit.bit hw (by decide +kernel)
    | with_reducible exact Kit.sub hw (by decide +kernel)
    | with_reducible apply State.invStream_ok
    | with_reducible rfl
    | with_reducible refine ok_ite (fun _ => ?_) (fun _ => ?_)
    | (intro s1; refine (fun (h1 : State.Ok Q s1) => ?_) ?_; rotate_left; subst s1; rotate_right)
    | (intro (f : _ → _); subst f; dsimp -zeta only)
    | (intro s1; fail_if_success (have : State := s1))
    | lift_lets
    | split
    | intro _


theorem execMmuInvPage_ok (h : s.Ok Q) (stream : Nat) (hw : Q.mask &&& 0x1000000000000000000000000000000000000000000000000000000000000000000000000000000000000000000000000000000000000000000000000000000000000000000000000000000000000000000000000000000000000000000000000000000000000000000000000000000000000000000000000000000000000000000000000 = 0) : OutOk Q (execMmuInvPage stream s) := by
  unfold execMmuInvPage
  refine okIf_ok ?_
  repeat' first
    | with_reducible assumption
    | with_reducible exact Kit.bit hw (by decide +kernel)
    | with_reducible exact Kit.sub hw (by decide +kernel)
    | with_reducible apply State.invPage_ok
    | with_reducible rfl
    | with_reducible refine ok_ite (fun _ => ?_) (fun _ => ?_)
    | (intro s1; refine (fun (h1 : State.Ok Q s1) => ?_) ?_; rotate_left; subst s1; rotate_right)
    | (intro (f : _ → _); subst f; dsimp -zeta only)
    | (intro s1; fail_if_success (have : State := s1))
    | lift_lets
    | split
    | intro _


theorem execCaptureRecordWritten_ok (h : s.Ok Q) (ring : Nat) (hw : Q.mask &&& 0x140580730000000000000000000000000000000000000000000000000000000000000000000000000000000000000000000000000000000000020000000000000000000000000000000002e022000020000400402000000800010001000040800400002000000000008000200000800000000810010000000016880008800080000800800 = 0) : OutOk Q (execCaptureRecordWritten ring s) := by
  unfold execCaptureRecordWritten
  refine okIf_ok ?_
  repeat' first
    | with_reducible assumption
    | with_reducible exact Kit.bit hw (by decide +kernel)
    | with_reducible exact Kit.sub hw (by decide +kernel)
    | with_reducible apply State.capWrite_ok
    | with_reducible rfl
    | with_reducible refine ok_ite (fun _ => ?_) (fun _ => ?_)
    | (intro s1; refine (fun (h1 : State.Ok Q s1) => ?_) ?_; rotate_left; subst s1; rotate_right)
    | (intro (f : _ → _); subst f; dsimp -zeta only)
    | (intro s1; fail_if_success (have : State := s1))
    | lift_lets
    | split
    | intro _


theorem execCaptureRingEnable_ok (h : s.Ok Q) (ring : Nat) (hw : Q.mask &&& 0x200000000000000000000000000000000000000000000000000000000000000000000000000000000000000000000000000000000000000000000000000000005880000000000000000000 = 0) : OutOk Q (execCaptureRingEnable ring s) := by
  unfold execCaptureRingEnable
  refine okIf_ok ?_
  repeat' first
    | with_reducible assumption
    | with_reducible exact Kit.bit hw (by decide +kernel)
    | with_reducible exact Kit.sub hw (by decide +kernel)
    | with_reducible apply State.capEnable_ok
    | with_reducible rfl
    | with_reducible refine ok_ite (fun _ => ?_) (fun _ => ?_)
    | (intro s1; refine (fun (h1 : State.Ok Q s1) => ?_) ?_; rotate_left; subst s1; rotate_right)
    | (intro (f : _ → _); subst f; dsimp -zeta only)
    | (intro s1; fail_if_success (have : State := s1))
    | lift_lets
    | split
    | intro _


theorem execDdsSwap_ok (h : s.Ok Q) (tile : Nat) (hw : Q.mask &&& 0x1020000000000000000000000000000000000000000000000000000000000000000000000000000000000000000000000000000000000000000000000000000000000000000000000020002000020000400402000000800010001000040800400002000000000008000200000800000000810010000000010000008800080000800800 = 0) : OutOk Q (execDdsSwap tile s) := by
  unfold execDdsSwap
  refine okIf_ok ?_
  repeat' first
    | with_reducible assumption
    | with_reducible exact Kit.bit hw (by decide +kernel)
    | with_reducible exact Kit.sub hw (by decide +kernel)
    | with_reducible apply State.ddsSwap_ok
    | with_reducible apply State.addrFault_ok
    | with_reducible rfl
    | with_reducible refine ok_ite (fun _ => ?_) (fun _ => ?_)
    | (intro s1; refine (fun (h1 : State.Ok Q s1) => ?_) ?_; rotate_left; subst s1; rotate_right)
    | (intro (f : _ → _); subst f; dsimp -zeta only)
    | (intro s1; fail_if_success (have : State := s1))
    | lift_lets
    | split
    | intro _


theorem execSwpCmdStart_ok (h : s.Ok Q) (seg : Nat) (hw : Q.mask &&& 0xc001000000000000000000000000000000000000000000000000000000000000000000000000000000000007700000000000000000000000000000000000000000000000000000000000020002000020000400402000000800010001000040800400002000000000008000200000800000018810010000000010000008800080000800800 = 0) : OutOk Q (execSwpCmdStart seg s) := by
  unfold execSwpCmdStart
  refine okIf_ok ?_
  repeat' first
    | with_reducible assumption
    | with_reducible exact Kit.bit hw (by decide +kernel)
    | with_reducible exact Kit.sub hw (by decide +kernel)
    | with_reducible apply State.setLat_ok
    | with_reducible apply State.swpStart_ok
    | with_reducible rfl
    | with_reducible refine ok_ite (fun _ => ?_) (fun _ => ?_)
    | (intro s1; refine (fun (h1 : State.Ok Q s1) => ?_) ?_; rotate_left; subst s1; rotate_right)
    | (intro (f : _ → _); subst f; dsimp -zeta only)
    | (intro s1; fail_if_success (have : State := s1))
    | lift_lets
    | split
    | intro _


theorem execSwpCmdStop_ok (h : s.Ok Q) (seg : Nat) (hw : Q.mask &&& 0xc001000000000000000000000000000000000000000000000000000000000000000000000000000000000002000000000000000000000000000000000000000000000000000000000000020002000020000400402000000800010001000040800400002000000000008000200000800000004810010000000010000008800080020800800 = 0) : OutOk Q (execSwpCmdStop seg s) := by
  unfold execSwpCmdStop
  refine okIf_ok ?_
  repeat' first
    | with_reducible assumption
    | with_reducible exact Kit.bit hw (by decide +kernel)
    | with_reducible exact Kit.sub hw (by decide +kernel)
    | with_reducible apply State.setLat_ok
    | with_reducible apply State.swpStop_ok
    | with_reducible rfl
    | with_reducible refine ok_ite (fun _ => ?_) (fun _ => ?_)
    | (intro s1; refine (fun (h1 : State.Ok Q s1) => ?_) ?_; rotate_left; subst s1; rotate_right)
    | (intro (f : _ → _); subst f; dsimp -zeta only)
    | (intro s1; fail_if_success (have : State := s1))
    | lift_lets
    | split
    | intro _


theorem execSwpCmdResume_ok (h : s.Ok Q) (seg : Nat) (hw : Q.mask &&& 0x1000000000000000000000000000000000000000000000000000000000000000000000000000000000002000000000000000000000000000000000000000000000000000000000000020002000020000400402000000800010001000040800400002000000000008000200000800000000810010000000010000008800080000800800 = 0) : OutOk Q (execSwpCmdResume seg s) := by
  unfold execSwpCmdResume
  refine okIf_ok ?_
  repeat' first
    | with_reducible assumption
    | with_reducible exact Kit.bit hw (by decide +kernel)
    | with_reducible exact Kit.sub hw (by decide +kernel)
    | with_reducible apply State.setLat_ok
    | with_reducible apply State.swpResume_ok
    | with_reducible rfl
    | with_reducible refine ok_ite (fun _ => ?_) (fun _ => ?_)
    | (intro s1; refine (fun (h1 : State.Ok Q s1) => ?_) ?_; rotate_left; subst s1; rotate_right)
    | (intro (f : _ → _); subst f; dsimp -zeta only)
    | (intro s1; fail_if_success (have : State := s1))
    | lift_lets
    | split
    | intro _


theorem execSwpJumpWrite_ok (h : s.Ok Q) (seg : Nat) (hw : Q.mask &&& 0x4000000000000000000000000000000000000 = 0) : OutOk Q (execSwpJumpWrite seg s) := by
  unfold execSwpJumpWrite
  refine okIf_ok ?_
  repeat' first
    | with_reducible assumption
    | with_reducible exact Kit.bit hw (by decide +kernel)
    | with_reducible exact Kit.sub hw (by decide +kernel)
    | with_reducible apply State.swpJumpWrite_ok
    | with_reducible rfl
    | with_reducible refine ok_ite (fun _ => ?_) (fun _ => ?_)
    | (intro s1; refine (fun (h1 : State.Ok Q s1) => ?_) ?_; rotate_left; subst s1; rotate_right)
    | (intro (f : _ → _); subst f; dsimp -zeta only)
    | (intro s1; fail_if_success (have : State := s1))
    | lift_lets
    | split
    | intro _


theorem execSweepFrameArrival_ok (h : s.Ok Q) (seg first n : Nat) (hw : Q.mask &&& 0x500180620000000000000000000000000000000000000000000000000000000000000000000000000000000000000000000000000000000000000000000000000000000000000000000000e020000000000000000000000000000000000000000000000000000000000000200000000000000800000000000000000000000000000000000 = 0) : OutOk Q (execSweepFrameArrival seg first n s) := by
  unfold execSweepFrameArrival
  refine okIf_ok ?_
  repeat' first
    | with_reducible assumption
    | with_reducible exact Kit.bit hw (by decide +kernel)
    | with_reducible exact Kit.sub hw (by decide +kernel)
    | with_reducible apply State.swpFetch_ok
    | with_reducible apply forUpto_ok
    | with_reducible rfl
    | (intro i1 s1 (h1 : State.Ok Q s1))
    | (intro s1 i1 (h1 : State.Ok Q s1))
    | with_reducible refine ok_ite (fun _ => ?_) (fun _ => ?_)
    | (intro s1; refine (fun (h1 : State.Ok Q s1) => ?_) ?_; rotate_left; subst s1; rotate_right)
    | (intro (f : _ → _); subst f; dsimp -zeta only)
    | (intro s1; fail_if_success (have : State := s1))
    | lift_lets
    | split
    | intro _


theorem execOutputInstant_ok (h : s.Ok Q)  (hw : Q.mask &&& 0xc405000000000000000000000000000000000000000000000000000000000000000008000000000000000001f0200000000000000000000000020000000000000000000000000000000000000000012000000000000000000000000000000000000000000000000000000000000000000007c8000000000000020000000000000e0800000 = 0) : OutOk Q (execOutputInstant s) := by
  unfold execOutputInstant
  refine okIf_ok ?_
  repeat' first
    | with_reducible assumption
    | with_reducible exact Kit.bit hw (by decide +kernel)
    | with_reducible exact Kit.sub hw (by decide +kernel)
    | with_reducible apply State.swpInstant_ok
    | with_reducible rfl
    | with_reducible refine ok_ite (fun _ => ?_) (fun _ => ?_)
    | (intro s1; refine (fun (h1 : State.Ok Q s1) => ?_) ?_; rotate_left; subst s1; rotate_right)
    | (intro (f : _ → _); subst f; dsimp -zeta only)
    | (intro s1; fail_if_success (have : State := s1))
    | lift_lets
    | split
    | intro _


theorem execHoldReleaseBoundary_ok (h : s.Ok Q) (hm : Q.anyMode)  (hw : Q.mask &&& 0x40400000000000000000000000000000000000000000000000000000000000000004000000000000000100000000000000180000080000000000400000000000000c000000000000000000000000000000000000000000000000000000000000000000000000000000000000000000000000000000000000000800000000000008403c = 0) : OutOk Q (execHoldReleaseBoundary s) := by
  unfold execHoldReleaseBoundary
  refine okIf_ok ?_
  repeat' first
    | with_reducible assumption
    | with_reducible exact Kit.bit hw (by decide +kernel)
    | with_reducible exact Kit.sub hw (by decide +kernel)
    | with_reducible apply State.releaseBoundary_ok
    | with_reducible rfl
    | with_reducible refine ok_ite (fun _ => ?_) (fun _ => ?_)
    | (intro s1; refine (fun (h1 : State.Ok Q s1) => ?_) ?_; rotate_left; subst s1; rotate_right)
    | (intro (f : _ → _); subst f; dsimp -zeta only)
    | (intro s1; fail_if_success (have : State := s1))
    | lift_lets
    | split
    | intro _


theorem execHoldReqNAsserted_ok (h : s.Ok Q) (hm : Q.anyMode)  (hw : Q.mask &&& 0x1050c000000000000000000000000000000000000000000000000000000000000000240000000000000000042040040000000000000c000000000d400000000000700037000000000800200020001200004004020000008a001000100004080040000200000000000800020000080000200081381000000001000800880088040080081e = 0) : OutOk Q (execHoldReqNAsserted s) := by
  unfold execHoldReqNAsserted
  refine okIf_ok ?_
  repeat' first
    | with_reducible assumption
    | with_reducible exact Kit.bit hw (by decide +kernel)
    | with_reducible exact Kit.sub hw (by decide +kernel)
    | with_reducible apply State.setHoldCause_ok
    | with_reducible rfl
    | with_reducible refine ok_ite (fun _ => ?_) (fun _ => ?_)
    | (intro s1; refine (fun (h1 : State.Ok Q s1) => ?_) ?_; rotate_left; subst s1; rotate_right)
    | (intro (f : _ → _); subst f; dsimp -zeta only)
    | (intro s1; fail_if_success (have : State := s1))
    | lift_lets
    | split
    | intro _


theorem execHoldReqNDeasserted_ok (h : s.Ok Q) (hm : Q.anyMode) (hw : Q.mask &&& 0x40c00000000000000000000000000000000000000000000000000000000000000084000000000010000080020000000000000000000000000000000000000000000000000000000000000000000000000000000000001000060000000000000000000000000000000000000000000000000000000000000000000000000000e080001f = 0) : OutOk Q (execHoldReqNDeasserted s) := by
  have e : (s.clearHoldCause 0).Ok Q := State.clearHoldCause_ok h _ (Kit.sub hw (by decide +kernel))
  refine okIf_ok (ok_ite (fun c => ?_) (fun _ => e))
  rcases hm with hn | hn
  · exact State.bootFinish_ok e hn (Kit.sub hw (by decide +kernel))
  · exact nomatch c.1.symm.trans (e.1.m _ hn)

theorem execFaultMessageAccept_ok (h : s.Ok Q) (hm : Q.anyMode)  (hw : Q.mask &&& 0x1071c0000000000000000000000000000000000000000000000000000000000000002400000000000000400420400403c0000001000c000000000d400000000000700037000000000800200020001286454004060000008b001000100004080040000200000000000900020000080000200081381000000001000800880088040080083e = 0) : OutOk Q (execFaultMessageAccept s) := by
  unfold execFaultMessageAccept
  refine okIf_ok ?_
  repeat' first
    | with_reducible assumption
    | with_reducible exact Kit.bit hw (by decide +kernel)
    | with_reducible exact Kit.sub hw (by decide +kernel)
    | with_reducible apply State.accept_ok
    | with_reducible rfl
    | with_reducible refine ok_ite (fun _ => ?_) (fun _ => ?_)
    | (intro s1; refine (fun (h1 : State.Ok Q s1) => ?_) ?_; rotate_left; subst s1; rotate_right)
    | (intro (f : _ → _); subst f; dsimp -zeta only)
    | (intro s1; fail_if_success (have : State := s1))
    | lift_lets
    | split
    | intro _


theorem execFltAckOne_ok (h : s.Ok Q) (seq : Nat) (hw : Q.mask &&& 0x2000000000000000000000000000000000000000000000000000000000000000000000000000000000000000000000000000000000000000000000000000000000000000000000000000000000008000000000000000000000000000000000000000000000000000000000000000000000000000000000000000000000000000000000 = 0) : OutOk Q (execFltAckOne seq s) := by
  unfold execFltAckOne
  refine okIf_ok ?_
  repeat' first
    | with_reducible assumption
    | with_reducible exact Kit.bit hw (by decide +kernel)
    | with_reducible exact Kit.sub hw (by decide +kernel)
    | with_reducible apply State.ackOne_ok
    | with_reducible rfl
    | with_reducible refine ok_ite (fun _ => ?_) (fun _ => ?_)
    | (intro s1; refine (fun (h1 : State.Ok Q s1) => ?_) ?_; rotate_left; subst s1; rotate_right)
    | (intro (f : _ → _); subst f; dsimp -zeta only)
    | (intro s1; fail_if_success (have : State := s1))
    | lift_lets
    | split
    | intro _


theorem execFltAckAll_ok (h : s.Ok Q)  (hw : Q.mask &&& 0x2000000000000000000000000000000000000000000000000000000000000000000000000000000000000000000000000000010000000000000000000000000000000000000000000000000000008000000000000000000000000000000000000000000000000000000000000000000000000000000000000000000000000000000000 = 0) : OutOk Q (execFltAckAll s) := by
  unfold execFltAckAll
  refine okIf_ok ?_
  repeat' first
    | with_reducible assumption
    | with_reducible exact Kit.bit hw (by decide +kernel)
    | with_reducible exact Kit.sub hw (by decide +kernel)
    | with_reducible apply State.ackAll_ok
    | with_reducible rfl
    | with_reducible refine ok_ite (fun _ => ?_) (fun _ => ?_)
    | (intro s1; refine (fun (h1 : State.Ok Q s1) => ?_) ?_; rotate_left; subst s1; rotate_right)
    | (intro (f : _ → _); subst f; dsimp -zeta only)
    | (intro s1; fail_if_success (have : State := s1))
    | lift_lets
    | split
    | intro _


theorem execFltRecUnfreeze_ok (h : s.Ok Q)  (hw : Q.mask &&& 0x2000000000000000000000000000000000000000000000000000000000000000040000000000000000000000000000000000000000000000000000000000000000000000000000000000000000000000000000000 = 0) : OutOk Q (execFltRecUnfreeze s) := by
  unfold execFltRecUnfreeze
  refine okIf_ok ?_
  repeat' first
    | with_reducible assumption
    | with_reducible exact Kit.bit hw (by decide +kernel)
    | with_reducible exact Kit.sub hw (by decide +kernel)
    | with_reducible apply State.unfreeze_ok
    | with_reducible rfl
    | with_reducible refine ok_ite (fun _ => ?_) (fun _ => ?_)
    | (intro s1; refine (fun (h1 : State.Ok Q s1) => ?_) ?_; rotate_left; subst s1; rotate_right)
    | (intro (f : _ → _); subst f; dsimp -zeta only)
    | (intro s1; fail_if_success (have : State := s1))
    | lift_lets
    | split
    | intro _


theorem execEventRouting_ok (h : s.Ok Q)  (hw : Q.mask &&& 0x40000000000000000000000000000000000000000000000000000000000000000000000000000000008000000000000000000000000004000000000000000000000000000000000000000000062a0000000000000000000000000000000000000000000000000000000000000000000000000000000000000000000000000000000000 = 0) : OutOk Q (execEventRouting s) := by
  unfold execEventRouting
  refine okIf_ok ?_
  repeat' first
    | with_reducible assumption
    | with_reducible exact Kit.bit hw (by decide +kernel)
    | with_reducible exact Kit.sub hw (by decide +kernel)
    | with_reducible apply State.evtCycle_ok
    | with_reducible rfl
    | with_reducible refine ok_ite (fun _ => ?_) (fun _ => ?_)
    | (intro s1; refine (fun (h1 : State.Ok Q s1) => ?_) ?_; rotate_left; subst s1; rotate_right)
    | (intro (f : _ → _); subst f; dsimp -zeta only)
    | (intro s1; fail_if_success (have : State := s1))
    | lift_lets
    | split
    | intro _


theorem execRelayInput_ok (h : s.Ok Q) (relay : Nat) (hw : Q.mask &&& 0x5000000000000000000000000000000000000000000000000000000000000000000000000000000000000000000000000000000000000000000000000000000000000000000000000000000002120000000000000000000000000000000000000000000000000000000000000000000000000000000000000000000000000000000000 = 0) : OutOk Q (execRelayInput relay s) := by
  unfold execRelayInput
  refine okIf_ok ?_
  repeat' first
    | with_reducible assumption
    | with_reducible exact Kit.bit hw (by decide +kernel)
    | with_reducible exact Kit.sub hw (by decide +kernel)
    | with_reducible apply State.relayTake_ok
    | with_reducible rfl
    | with_reducible refine ok_ite (fun _ => ?_) (fun _ => ?_)
    | (intro s1; refine (fun (h1 : State.Ok Q s1) => ?_) ?_; rotate_left; subst s1; rotate_right)
    | (intro (f : _ → _); subst f; dsimp -zeta only)
    | (intro s1; fail_if_success (have : State := s1))
    | lift_lets
    | split
    | intro _


theorem execSwpStartInput_ok (h : s.Ok Q)  (hw : Q.mask &&& 0xc001000000000000000000000000000000000000000000000000000000000000000000000000000000000005700000000000000000000000000000000000000000000000000000000000020002002020000400402000000800010001000040800400002000000000008000200000800000018810010000000010000008800080000800800 = 0) : OutOk Q (execSwpStartInput s) := by
  unfold execSwpStartInput
  refine okIf_ok ?_
  repeat' first
    | with_reducible assumption
    | with_reducible exact Kit.bit hw (by decide +kernel)
    | with_reducible exact Kit.sub hw (by decide +kernel)
    | with_reducible apply State.swpStartTake_ok
    | with_reducible rfl
    | with_reducible refine ok_ite (fun _ => ?_) (fun _ => ?_)
    | (intro s1; refine (fun (h1 : State.Ok Q s1) => ?_) ?_; rotate_left; subst s1; rotate_right)
    | (intro (f : _ → _); subst f; dsimp -zeta only)
    | (intro s1; fail_if_success (have : State := s1))
    | lift_lets
    | split
    | intro _


theorem execSwpStopInput_ok (h : s.Ok Q)  (hw : Q.mask &&& 0xc001000000000000000000000000000000000000000000000000000000000000000000000000000000000000000000000000000000000000000000000000000000000000000000000000020002002020000400402000000800010001000040800400002000000000008000200000800000004810010000000010000008800080020800800 = 0) : OutOk Q (execSwpStopInput s) := by
  unfold execSwpStopInput
  refine okIf_ok ?_
  repeat' first
    | with_reducible assumption
    | with_reducible exact Kit.bit hw (by decide +kernel)
    | with_reducible exact Kit.sub hw (by decide +kernel)
    | with_reducible apply State.swpStopTake_ok
    | with_reducible rfl
    | with_reducible refine ok_ite (fun _ => ?_) (fun _ => ?_)
    | (intro s1; refine (fun (h1 : State.Ok Q s1) => ?_) ?_; rotate_left; subst s1; rotate_right)
    | (intro (f : _ → _); subst f; dsimp -zeta only)
    | (intro s1; fail_if_success (have : State := s1))
    | lift_lets
    | split
    | intro _


theorem execCalStartInput_ok (h : s.Ok Q)  (hw : Q.mask &&& 0x105000000000000000000000000000000000000000000000000000000000000000000000000000000000000000407b000000000000000000000000000000000804700000000000000000200020021200004004020000008b8410001000040800400002000000000008000200000800002000810010000000010000008800080400800800 = 0) : OutOk Q (execCalStartInput s) := by
  unfold execCalStartInput
  refine okIf_ok ?_
  repeat' first
    | with_reducible assumption
    | with_reducible exact Kit.bit hw (by decide +kernel)
    | with_reducible exact Kit.sub hw (by decide +kernel)
    | with_reducible apply State.calStartTake_ok
    | with_reducible rfl
    | with_reducible refine ok_ite (fun _ => ?_) (fun _ => ?_)
    | (intro s1; refine (fun (h1 : State.Ok Q s1) => ?_) ?_; rotate_left; subst s1; rotate_right)
    | (intro (f : _ → _); subst f; dsimp -zeta only)
    | (intro s1; fail_if_success (have : State := s1))
    | lift_lets
    | split
    | intro _


theorem execInterruptTake_ok (h : s.Ok Q) (irq : Nat) (hw : Q.mask &&& 0x10000000000000000000000000000000000000000000000000000000000000000000000000000000000000000000000000000000000000000000000000000000000000000000000000002000000000000000000000000000000000000000000000000000000000000000000000000000000000000000000000000000000000000 = 0) : OutOk Q (execInterruptTake irq s) := by
  unfold execInterruptTake
  refine okIf_ok ?_
  repeat' first
    | with_reducible assumption
    | with_reducible exact Kit.bit hw (by decide +kernel)
    | with_reducible exact Kit.sub hw (by decide +kernel)
    | with_reducible apply State.irqTake_ok
    | with_reducible rfl
    | with_reducible refine ok_ite (fun _ => ?_) (fun _ => ?_)
    | (intro s1; refine (fun (h1 : State.Ok Q s1) => ?_) ?_; rotate_left; subst s1; rotate_right)
    | (intro (f : _ → _); subst f; dsimp -zeta only)
    | (intro s1; fail_if_success (have : State := s1))
    | lift_lets
    | split
    | intro _


theorem execEventEntryWrite_ok (h : s.Ok Q) (ini : Initiator) (input : Bool) (index value : Nat) (hw : Q.mask &&& 0x1020000000000000000000000000000000000000000000000000000000000000000000000000000000000000000000000000000000000000000000000000000000000000000000000020002001820000400402000000800010001000040800400002000000000008000200000800000000810010000000010000008800080000800800 = 0) : OutOk Q (execEventEntryWrite ini input index value s) := by
  unfold execEventEntryWrite
  refine okIf_ok ?_
  repeat' first
    | with_reducible assumption
    | with_reducible exact Kit.bit hw (by decide +kernel)
    | with_reducible exact Kit.sub hw (by decide +kernel)
    | with_reducible apply State.evtEntryWrite_ok
    | with_reducible rfl
    | with_reducible refine ok_ite (fun _ => ?_) (fun _ => ?_)
    | (intro s1; refine (fun (h1 : State.Ok Q s1) => ?_) ?_; rotate_left; subst s1; rotate_right)
    | (intro (f : _ → _); subst f; dsimp -zeta only)
    | (intro s1; fail_if_success (have : State := s1))
    | lift_lets
    | split
    | intro _


theorem execSoftwarePublish_ok (h : s.Ok Q) (ini : Initiator) (k : Nat) (hw : Q.mask &&& 0x5020000000000000000000000000000000000000000000000000000000000000000000000000000000000000000000000000000000000000000000000000000000000000000000000020002000020000400402000000800010001000040800400002000000000008000200000800000000810010000000010000008800080000800800 = 0) : OutOk Q (execSoftwarePublish ini k s) := by
  unfold execSoftwarePublish
  refine okIf_ok ?_
  repeat' first
    | with_reducible assumption
    | with_reducible exact Kit.bit hw (by decide +kernel)
    | with_reducible exact Kit.sub hw (by decide +kernel)
    | with_reducible apply State.swPublish_ok
    | with_reducible rfl
    | with_reducible refine ok_ite (fun _ => ?_) (fun _ => ?_)
    | (intro s1; refine (fun (h1 : State.Ok Q s1) => ?_) ?_; rotate_left; subst s1; rotate_right)
    | (intro (f : _ → _); subst f; dsimp -zeta only)
    | (intro s1; fail_if_success (have : State := s1))
    | lift_lets
    | split
    | intro _


theorem execPtpStep_ok (h : s.Ok Q) (ht : Q.anyTime)  (hw : Q.mask &&& 0x1400000000000000000000000000000000000000000000000000000000000000000000000000000000000000000000000000000000000000000000000000000000000000000000000020002000020000400402000000800010001000040800400002000000000008000200000800000000810010000000010000008800080000800800 = 0) : OutOk Q (execPtpStep s) := by
  unfold execPtpStep
  refine okIf_ok ?_
  repeat' first
    | with_reducible assumption
    | with_reducible exact Kit.bit hw (by decide +kernel)
    | with_reducible exact Kit.sub hw (by decide +kernel)
    | with_reducible apply State.ptpStep_ok
    | with_reducible rfl
    | with_reducible refine ok_ite (fun _ => ?_) (fun _ => ?_)
    | (intro s1; refine (fun (h1 : State.Ok Q s1) => ?_) ?_; rotate_left; subst s1; rotate_right)
    | (intro (f : _ → _); subst f; dsimp -zeta only)
    | (intro s1; fail_if_success (have : State := s1))
    | lift_lets
    | split
    | intro _


theorem execPtpAdj_ok (h : s.Ok Q) (ht : Q.anyTime)  (hw : Q.mask &&& 0x1400000000000000000000000000000000000000000000000000000000000000000000000000000000000000000000000000000000000000000000000000000000000000000000000020002000020000400402000000800010001000040800400002000000000008000200000800000000810010000000010000008800080000800800 = 0) : OutOk Q (execPtpAdj s) := by
  unfold execPtpAdj
  refine okIf_ok ?_
  repeat' first
    | with_reducible assumption
    | with_reducible exact Kit.bit hw (by decide +kernel)
    | with_reducible exact Kit.sub hw (by decide +kernel)
    | with_reducible apply State.ptpAdj_ok
    | with_reducible rfl
    | with_reducible refine ok_ite (fun _ => ?_) (fun _ => ?_)
    | (intro s1; refine (fun (h1 : State.Ok Q s1) => ?_) ?_; rotate_left; subst s1; rotate_right)
    | (intro (f : _ → _); subst f; dsimp -zeta only)
    | (intro s1; fail_if_success (have : State := s1))
    | lift_lets
    | split
    | intro _


theorem execMacTimeSettled_ok (h : s.Ok Q)  (hw : Q.mask &&& 0x8000000000000000000000000000000000000000000000000000000 = 0) : OutOk Q (execMacTimeSettled s) := by
  unfold execMacTimeSettled
  refine okIf_ok ?_
  repeat' first
    | with_reducible assumption
    | with_reducible exact Kit.bit hw (by decide +kernel)
    | with_reducible exact Kit.sub hw (by decide +kernel)
    | with_reducible apply State.setRbit_ok
    | with_reducible rfl
    | with_reducible refine ok_ite (fun _ => ?_) (fun _ => ?_)
    | (intro s1; refine (fun (h1 : State.Ok Q s1) => ?_) ?_; rotate_left; subst s1; rotate_right)
    | (intro (f : _ → _); subst f; dsimp -zeta only)
    | (intro s1; fail_if_success (have : State := s1))
    | lift_lets
    | split
    | intro _


theorem execPtpIncrFracWrite_ok (h : s.Ok Q) (value : Nat) (hw : Q.mask &&& 0x1000000000000000000000000000000000000000000000000000000000000000000000000000000001000000000000000000000000000000000000000000000000000000000000000020002000020000400402000000800010001000040800400002000000000008000200000800000000810010000000010000008800080000800800 = 0) : OutOk Q (execPtpIncrFracWrite value s) := by
  unfold execPtpIncrFracWrite
  refine okIf_ok ?_
  repeat' first
    | with_reducible assumption
    | with_reducible exact Kit.bit hw (by decide +kernel)
    | with_reducible exact Kit.sub hw (by decide +kernel)
    | with_reducible apply State.incrFracWrite_ok
    | with_reducible rfl
    | with_reducible refine ok_ite (fun _ => ?_) (fun _ => ?_)
    | (intro s1; refine (fun (h1 : State.Ok Q s1) => ?_) ?_; rotate_left; subst s1; rotate_right)
    | (intro (f : _ → _); subst f; dsimp -zeta only)
    | (intro s1; fail_if_success (have : State := s1))
    | lift_lets
    | split
    | intro _


theorem execPtpIncrNsWrite_ok (h : s.Ok Q) (value : Nat) (hw : Q.mask &&& 0x1000000000000000000000000000000000000000000000000000000000000000000000000000000000000000000000000000000000000000000000000000000000000000000000000020002000020000400402000000800010001000040800400002000000006008000200000800000000810010000000010000008800080000800800 = 0) : OutOk Q (execPtpIncrNsWrite value s) := by
  unfold execPtpIncrNsWrite
  refine okIf_ok ?_
  repeat' first
    | with_reducible assumption
    | with_reducible exact Kit.bit hw (by decide +kernel)
    | with_reducible exact Kit.sub hw (by decide +kernel)
    | with_reducible apply State.incrNsWrite_ok
    | with_reducible rfl
    | with_reducible refine ok_ite (fun _ => ?_) (fun _ => ?_)
    | (intro s1; refine (fun (h1 : State.Ok Q s1) => ?_) ?_; rotate_left; subst s1; rotate_right)
    | (intro (f : _ → _); subst f; dsimp -zeta only)
    | (intro s1; fail_if_success (have : State := s1))
    | lift_lets
    | split
    | intro _


theorem execServoOffsetWrite_ok (h : s.Ok Q) (value : Nat) (hw : Q.mask &&& 0x5000000000000000000000000000000000000000000000000000000000000000000000000000000006000000000000000000000000000000000000000000000000000000000000000000000000000000000000000000000000000000000000000000000000808008000000000000000000000000000000000000000000000000000000 = 0) : OutOk Q (execServoOffsetWrite value s) := by
  unfold execServoOffsetWrite
  refine okIf_ok ?_
  repeat' first
    | with_reducible assumption
    | with_reducible exact Kit.bit hw (by decide +kernel)
    | with_reducible exact Kit.sub hw (by decide +kernel)
    | with_reducible apply State.offerOffset_ok
    | with_reducible rfl
    | with_reducible refine ok_ite (fun _ => ?_) (fun _ => ?_)
    | (intro s1; refine (fun (h1 : State.Ok Q s1) => ?_) ?_; rotate_left; subst s1; rotate_right)
    | (intro (f : _ → _); subst f; dsimp -zeta only)
    | (intro s1; fail_if_success (have : State := s1))
    | lift_lets
    | split
    | intro _


theorem execServoSilence_ok (h : s.Ok Q)  (hw : Q.mask &&& 0x5000000000000000000000000000000000000000000000000000000000000000000000000000000000000000000000000000000000000000000000000000000000000000000000000000000000000000000000000000000000000000000000000000000000000008000000000000000000000000000000000000000000000000000000 = 0) : OutOk Q (execServoSilence s) := by
  unfold execServoSilence
  refine okIf_ok ?_
  repeat' first
    | with_reducible assumption
    | with_reducible exact Kit.bit hw (by decide +kernel)
    | with_reducible exact Kit.sub hw (by decide +kernel)
    | with_reducible apply State.holdover_ok
    | with_reducible rfl
    | with_reducible refine ok_ite (fun _ => ?_) (fun _ => ?_)
    | (intro s1; refine (fun (h1 : State.Ok Q s1) => ?_) ?_; rotate_left; subst s1; rotate_right)
    | (intro (f : _ → _); subst f; dsimp -zeta only)
    | (intro s1; fail_if_success (have : State := s1))
    | lift_lets
    | split
    | intro _


theorem execPpsInEdge_ok (h : s.Ok Q) (edge : PpsEdge) (hw : Q.mask &&& 0x500000000000000000000000000000000000000000000000000000000000000000000000000000001e00000000000000000000000000000000000000000000000000000000000000000000000000000000000000000000000000000000000000000000003c808008000000000000000000000000000000000000000000000000000000 = 0) : OutOk Q (execPpsInEdge edge s) := by
  unfold execPpsInEdge
  refine okIf_ok ?_
  repeat' first
    | with_reducible assumption
    | with_reducible exact Kit.bit hw (by decide +kernel)
    | with_reducible exact Kit.sub hw (by decide +kernel)
    | with_reducible apply State.ppsEdge_ok
    | with_reducible rfl
    | with_reducible refine ok_ite (fun _ => ?_) (fun _ => ?_)
    | (intro s1; refine (fun (h1 : State.Ok Q s1) => ?_) ?_; rotate_left; subst s1; rotate_right)
    | (intro (f : _ → _); subst f; dsimp -zeta only)
    | (intro s1; fail_if_success (have : State := s1))
    | lift_lets
    | split
    | intro _


theorem execPpsLoss_ok (h : s.Ok Q)  (hw : Q.mask &&& 0x1000000000000000000000000000000000000000000000000000000000000000000000000000000010000000000000000000000000000000000000000000000000000000000000000000000000000000000000000000000000000000000000000000000000000008000000000000000000000000000000000000000000000000000000 = 0) : OutOk Q (execPpsLoss s) := by
  unfold execPpsLoss
  refine okIf_ok ?_
  repeat' first
    | with_reducible assumption
    | with_reducible exact Kit.bit hw (by decide +kernel)
    | with_reducible exact Kit.sub hw (by decide +kernel)
    | with_reducible apply State.ppsLoss_ok
    | with_reducible rfl
    | with_reducible refine ok_ite (fun _ => ?_) (fun _ => ?_)
    | (intro s1; refine (fun (h1 : State.Ok Q s1) => ?_) ?_; rotate_left; subst s1; rotate_right)
    | (intro (f : _ → _); subst f; dsimp -zeta only)
    | (intro s1; fail_if_success (have : State := s1))
    | lift_lets
    | split
    | intro _


theorem execPpsOutRise_ok (h : s.Ok Q)  (hw : Q.mask &&& 0x60000000000000000000000000000000000000000000000000000000000000000000000000000000000000000000000000000000000000000000000000000000000000000000000000000000000000000000000000000000000000 = 0) : OutOk Q (execPpsOutRise s) := by
  unfold execPpsOutRise
  refine okIf_ok ?_
  repeat' first
    | with_reducible assumption
    | with_reducible exact Kit.bit hw (by decide +kernel)
    | with_reducible exact Kit.sub hw (by decide +kernel)
    | with_reducible apply State.ppsRise_ok
    | with_reducible rfl
    | with_reducible refine ok_ite (fun _ => ?_) (fun _ => ?_)
    | (intro s1; refine (fun (h1 : State.Ok Q s1) => ?_) ?_; rotate_left; subst s1; rotate_right)
    | (intro (f : _ → _); subst f; dsimp -zeta only)
    | (intro s1; fail_if_success (have : State := s1))
    | lift_lets
    | split
    | intro _


theorem execPpsOutFall_ok (h : s.Ok Q)  (hw : Q.mask &&& 0x20000000000000000000000000000000000000000000000000000000000000000000000000000000000000000000000000000000000000000000000000000000000000000000000000000000000000000000000000000000000000 = 0) : OutOk Q (execPpsOutFall s) := by
  unfold execPpsOutFall
  refine okIf_ok ?_
  repeat' first
    | with_reducible assumption
    | with_reducible exact Kit.bit hw (by decide +kernel)
    | with_reducible exact Kit.sub hw (by decide +kernel)
    | with_reducible apply State.setLat_ok
    | with_reducible rfl
    | with_reducible refine ok_ite (fun _ => ?_) (fun _ => ?_)
    | (intro s1; refine (fun (h1 : State.Ok Q s1) => ?_) ?_; rotate_left; subst s1; rotate_right)
    | (intro (f : _ → _); subst f; dsimp -zeta only)
    | (intro s1; fail_if_success (have : State := s1))
    | lift_lets
    | split
    | intro _


theorem execTxtsFifoRead_ok (h : s.Ok Q) (port : Nat) (hw : Q.mask &&& 0x400000200000000000000000000000000000000000000000000000000000000000000000000000000000000000000000000000000000000000000000000000000000000000000000000000000000000000000000000000000000000000000000000000003c0000000000000000000000000000000000000000000000000000000000000000 = 0) : OutOk Q (execTxtsFifoRead port s) := by
  unfold execTxtsFifoRead
  refine okIf_ok ?_
  repeat' first
    | with_reducible assumption
    | with_reducible exact Kit.bit hw (by decide +kernel)
    | with_reducible exact Kit.sub hw (by decide +kernel)
    | with_reducible apply State.txtsRead_ok
    | with_reducible rfl
    | with_reducible refine ok_ite (fun _ => ?_) (fun _ => ?_)
    | (intro s1; refine (fun (h1 : State.Ok Q s1) => ?_) ?_; rotate_left; subst s1; rotate_right)
    | (intro (f : _ → _); subst f; dsimp -zeta only)
    | (intro s1; fail_if_success (have : State := s1))
    | lift_lets
    | split
    | intro _


theorem execMeterEnable_ok (h : s.Ok Q) (meter value : Nat) (hw : Q.mask &&& 0x1000000000000000000000000000000000000000000000000000000000000000000000000000000200000000000000000000000000000000000000000000000000000000000000000020002000020000400402000000800010001000140800400002000000000008000200000800000000810010000000010000008800080000800800 = 0) : OutOk Q (execMeterEnable meter value s) := by
  unfold execMeterEnable
  refine okIf_ok ?_
  repeat' first
    | with_reducible assumption
    | with_reducible exact Kit.bit hw (by decide +kernel)
    | with_reducible exact Kit.sub hw (by decide +kernel)
    | with_reducible apply State.polCfgWrite_ok
    | with_reducible rfl
    | with_reducible refine ok_ite (fun _ => ?_) (fun _ => ?_)
    | (intro s1; refine (fun (h1 : State.Ok Q s1) => ?_) ?_; rotate_left; subst s1; rotate_right)
    | (intro (f : _ → _); subst f; dsimp -zeta only)
    | (intro s1; fail_if_success (have : State := s1))
    | lift_lets
    | split
    | intro _


theorem execTrafficTick_ok (h : s.Ok Q)  (hw : Q.mask &&& 0xf80000000000000000000000000000000000000000000000000000000000000000000000000000000000000000000000000000430000000000000000000000000000000000000000000000000000000000000000000000000000000 = 0) : OutOk Q (execTrafficTick s) := by
  unfold execTrafficTick
  refine okIf_ok ?_
  repeat' first
    | with_reducible assumption
    | with_reducible exact Kit.bit hw (by decide +kernel)
    | with_reducible exact Kit.sub hw (by decide +kernel)
    | with_reducible apply State.trafficTick_ok
    | with_reducible rfl
    | with_reducible refine ok_ite (fun _ => ?_) (fun _ => ?_)
    | (intro s1; refine (fun (h1 : State.Ok Q s1) => ?_) ?_; rotate_left; subst s1; rotate_right)
    | (intro (f : _ → _); subst f; dsimp -zeta only)
    | (intro s1; fail_if_success (have : State := s1))
    | lift_lets
    | split
    | intro _


theorem execShaperUpdate_ok (h : s.Ok Q) (port queue value : Nat) (hw : Q.mask &&& 0x100000000000000000000000000000000000000000000000000000000000000000000000000000000 = 0) : OutOk Q (execShaperUpdate port queue value s) := by
  unfold execShaperUpdate
  refine okIf_ok ?_
  repeat' first
    | with_reducible assumption
    | with_reducible exact Kit.bit hw (by decide +kernel)
    | with_reducible exact Kit.sub hw (by decide +kernel)
    | with_reducible apply State.setReg_ok
    | with_reducible rfl
    | with_reducible refine ok_ite (fun _ => ?_) (fun _ => ?_)
    | (intro s1; refine (fun (h1 : State.Ok Q s1) => ?_) ?_; rotate_left; subst s1; rotate_right)
    | (intro (f : _ → _); subst f; dsimp -zeta only)
    | (intro s1; fail_if_success (have : State := s1))
    | lift_lets
    | split
    | intro _


theorem execEgressFrameStart_ok (h : s.Ok Q) (port stamp : Nat) (hw : Q.mask &&& 0x1c0000000000000000000000000000000000000000000000000000000000000000000000000000000000800000000000000000000000000000000000000000000000000000000000000000000000000000000000000000000000000000400000000000000000000000008000000000000000000000000000000000000000000000000000000 = 0) : OutOk Q (execEgressFrameStart port stamp s) := by
  unfold execEgressFrameStart
  refine okIf_ok ?_
  repeat' first
    | with_reducible assumption
    | with_reducible exact Kit.bit hw (by decide +kernel)
    | with_reducible exact Kit.sub hw (by decide +kernel)
    | with_reducible apply State.startFrame_ok
    | with_reducible rfl
    | with_reducible refine ok_ite (fun _ => ?_) (fun _ => ?_)
    | (intro s1; refine (fun (h1 : State.Ok Q s1) => ?_) ?_; rotate_left; subst s1; rotate_right)
    | (intro (f : _ → _); subst f; dsimp -zeta only)
    | (intro s1; fail_if_success (have : State := s1))
    | lift_lets
    | split
    | intro _


theorem execMoveTick_ok (h : s.Ok Q)  (hw : Q.mask &&& 0x1000000000000000000000000000000000000000000000000000000000000000000000000000000000000000000000000006000000000000000000000000000000000000000000000000000000000000000000000000000000000000 = 0) : OutOk Q (execMoveTick s) := by
  unfold execMoveTick
  refine okIf_ok ?_
  repeat' first
    | with_reducible assumption
    | with_reducible exact Kit.bit hw (by decide +kernel)
    | with_reducible exact Kit.sub hw (by decide +kernel)
    | with_reducible apply State.movePortTick_ok
    | with_reducible apply forUpto_ok
    | with_reducible rfl
    | (intro i1 s1 (h1 : State.Ok Q s1))
    | (intro s1 i1 (h1 : State.Ok Q s1))
    | with_reducible refine ok_ite (fun _ => ?_) (fun _ => ?_)
    | (intro s1; refine (fun (h1 : State.Ok Q s1) => ?_) ?_; rotate_left; subst s1; rotate_right)
    | (intro (f : _ → _); subst f; dsimp -zeta only)
    | (intro s1; fail_if_success (have : State := s1))
    | lift_lets
    | split
    | intro _


theorem execMoveCharge_ok (h : s.Ok Q) (port : Nat) (wearok : Bool) (hw : Q.mask &&& 0x60fd000000000000000000000000000000000000000000000000000000000000000000000000000000000 = 0) : OutOk Q (execMoveCharge port wearok s) := by
  unfold execMoveCharge
  refine okIf_ok ?_
  repeat' first
    | with_reducible assumption
    | with_reducible exact Kit.bit hw (by decide +kernel)
    | with_reducible exact Kit.sub hw (by decide +kernel)
    | with_reducible apply State.moveCmd_ok
    | with_reducible rfl
    | with_reducible refine ok_ite (fun _ => ?_) (fun _ => ?_)
    | (intro s1; refine (fun (h1 : State.Ok Q s1) => ?_) ?_; rotate_left; subst s1; rotate_right)
    | (intro (f : _ → _); subst f; dsimp -zeta only)
    | (intro s1; fail_if_success (have : State := s1))
    | lift_lets
    | split
    | intro _


theorem execMovePeek_ok (h : s.Ok Q) (port : Nat) (wearok : Bool) (hw : Q.mask &&& 0x60fd000000000000000000000000000000000000000000000000000000000000000000000000000000000 = 0) : OutOk Q (execMovePeek port wearok s) := by
  unfold execMovePeek
  refine okIf_ok ?_
  repeat' first
    | with_reducible assumption
    | with_reducible exact Kit.bit hw (by decide +kernel)
    | with_reducible exact Kit.sub hw (by decide +kernel)
    | with_reducible apply State.moveCmd_ok
    | with_reducible rfl
    | with_reducible refine ok_ite (fun _ => ?_) (fun _ => ?_)
    | (intro s1; refine (fun (h1 : State.Ok Q s1) => ?_) ?_; rotate_left; subst s1; rotate_right)
    | (intro (f : _ → _); subst f; dsimp -zeta only)
    | (intro s1; fail_if_success (have : State := s1))
    | lift_lets
    | split
    | intro _


theorem execMovePortWrite_ok (h : s.Ok Q) (port value : Nat) (hw : Q.mask &&& 0x1000000000000000000000000000000000000000000000000000000000000000000000000000000000000000000000000000000000000000000000000000000000000000000000000020002000020000400402000000800011001000040800400002000000000008000200000800000000810010000000010000008800080000800800 = 0) : OutOk Q (execMovePortWrite port value s) := by
  unfold execMovePortWrite
  refine okIf_ok ?_
  repeat' first
    | with_reducible assumption
    | with_reducible exact Kit.bit hw (by decide +kernel)
    | with_reducible exact Kit.sub hw (by decide +kernel)
    | with_reducible apply State.movePortWrite_ok
    | with_reducible rfl
    | with_reducible refine ok_ite (fun _ => ?_) (fun _ => ?_)
    | (intro s1; refine (fun (h1 : State.Ok Q s1) => ?_) ?_; rotate_left; subst s1; rotate_right)
    | (intro (f : _ → _); subst f; dsimp -zeta only)
    | (intro s1; fail_if_success (have : State := s1))
    | lift_lets
    | split
    | intro _


theorem execLearnRequestApply_ok (h : s.Ok Q) (pipe : Nat) (hw : Q.mask &&& 0x600005000000000000000000000000000000000000000000000000000000000000000000000000000000000000000000000000000000000000000000000000000000000000000000000000000000000000000000000000000000000000000000340400000000000000000000000000000000000000000000000000000000000000000000000 = 0) : OutOk Q (execLearnRequestApply pipe s) := by
  unfold execLearnRequestApply
  refine okIf_ok ?_
  repeat' first
    | with_reducible assumption
    | with_reducible exact Kit.bit hw (by decide +kernel)
    | with_reducible exact Kit.sub hw (by decide +kernel)
    | with_reducible apply State.learnApply_ok
    | with_reducible rfl
    | with_reducible refine ok_ite (fun _ => ?_) (fun _ => ?_)
    | (intro s1; refine (fun (h1 : State.Ok Q s1) => ?_) ?_; rotate_left; subst s1; rotate_right)
    | (intro (f : _ → _); subst f; dsimp -zeta only)
    | (intro s1; fail_if_success (have : State := s1))
    | lift_lets
    | split
    | intro _
    | with_reducible apply ok_learnQ


theorem execFlapWindowClose_ok (h : s.Ok Q) (pipe pos : Nat) (hw : Q.mask &&& 0x200000000000000000000000000000000000000000000000000000000000000000000000000000000000000000000000000000000000000000000000000000000000000000000000000000000000000000000000000000000000000000000000000000000000000000000000000000000000000000000000000000000000000000000000000 = 0) : OutOk Q (execFlapWindowClose pipe pos s) := by
  unfold execFlapWindowClose
  refine okIf_ok ?_
  repeat' first
    | with_reducible assumption
    | with_reducible exact Kit.bit hw (by decide +kernel)
    | with_reducible exact Kit.sub hw (by decide +kernel)
    | with_reducible apply State.windowClose_ok
    | with_reducible rfl
    | with_reducible refine ok_ite (fun _ => ?_) (fun _ => ?_)
    | (intro s1; refine (fun (h1 : State.Ok Q s1) => ?_) ?_; rotate_left; subst s1; rotate_right)
    | (intro (f : _ → _); subst f; dsimp -zeta only)
    | (intro s1; fail_if_success (have : State := s1))
    | lift_lets
    | split
    | intro _


theorem execFlapHoldExpiry_ok (h : s.Ok Q) (pipe pos : Nat) (hw : Q.mask &&& 0x200000000000000000000000000000000000000000000000000000000000000000000000000000000000000000000000000000000000000000000000000000000000000000000000000000000000000000000000000000000000000000000000000000000000000000000000000000000000000000000000000000000000000000000000000 = 0) : OutOk Q (execFlapHoldExpiry pipe pos s) := by
  unfold execFlapHoldExpiry
  refine okIf_ok ?_
  repeat' first
    | with_reducible assumption
    | with_reducible exact Kit.bit hw (by decide +kernel)
    | with_reducible exact Kit.sub hw (by decide +kernel)
    | with_reducible apply State.flapExpire_ok
    | with_reducible rfl
    | with_reducible refine ok_ite (fun _ => ?_) (fun _ => ?_)
    | (intro s1; refine (fun (h1 : State.Ok Q s1) => ?_) ?_; rotate_left; subst s1; rotate_right)
    | (intro (f : _ → _); subst f; dsimp -zeta only)
    | (intro s1; fail_if_success (have : State := s1))
    | lift_lets
    | split
    | intro _


theorem execAgeSweep_ok (h : s.Ok Q) (pipe pos : Nat) (hw : Q.mask &&& 0x200000000000000000000000000000000000000000000000000000000000000000000000000000000000000000000000000000000000000000000000000000000000000000000000000000000000000000000000000000000000000000000000000000000000000000000000000000000000000000000000000000000000000000000000000 = 0) : OutOk Q (execAgeSweep pipe pos s) := by
  unfold execAgeSweep
  refine okIf_ok ?_
  repeat' first
    | with_reducible assumption
    | with_reducible exact Kit.bit hw (by decide +kernel)
    | with_reducible exact Kit.sub hw (by decide +kernel)
    | with_reducible apply State.ageSweep_ok
    | with_reducible rfl
    | with_reducible refine ok_ite (fun _ => ?_) (fun _ => ?_)
    | (intro s1; refine (fun (h1 : State.Ok Q s1) => ?_) ?_; rotate_left; subst s1; rotate_right)
    | (intro (f : _ → _); subst f; dsimp -zeta only)
    | (intro s1; fail_if_success (have : State := s1))
    | lift_lets
    | split
    | intro _


theorem execFwdSearch_ok (h : s.Ok Q) (pipe : Nat) (hw : Q.mask &&& 0x20000100000000000000000000000000000000000000000000000000000000000000000000000000007e000000000000000000000000000000000000000000000000000000000000000000020002000020000400402000000800010001000040800c00002000000000008000200000800000000810010000000010000008800080000800800 = 0) : OutOk Q (execFwdSearch pipe s) := by
  unfold execFwdSearch
  refine okIf_ok ?_
  repeat' first
    | with_reducible assumption
    | with_reducible exact Kit.bit hw (by decide +kernel)
    | with_reducible exact Kit.sub hw (by decide +kernel)
    | with_reducible apply State.fwdStart_ok
    | with_reducible rfl
    | with_reducible refine ok_ite (fun _ => ?_) (fun _ => ?_)
    | (intro s1; refine (fun (h1 : State.Ok Q s1) => ?_) ?_; rotate_left; subst s1; rotate_right)
    | (intro (f : _ → _); subst f; dsimp -zeta only)
    | (intro s1; fail_if_success (have : State := s1))
    | lift_lets
    | split
    | intro _


theorem execFwdNext_ok (h : s.Ok Q) (pipe : Nat) (hw : Q.mask &&& 0x20000100000000000000000000000000000000000000000000000000000000000000000000000000007e000000000000000000000000000000000000000000000000000000000000000000020002000020000400402000000800010001000040800c00002000000000008000200000800000000810010000000010000008800080000800800 = 0) : OutOk Q (execFwdNext pipe s) := by
  unfold execFwdNext
  refine okIf_ok ?_
  repeat' first
    | with_reducible assumption
    | with_reducible exact Kit.bit hw (by decide +kernel)
    | with_reducible exact Kit.sub hw (by decide +kernel)
    | with_reducible apply State.fwdStart_ok
    | with_reducible rfl
    | with_reducible refine ok_ite (fun _ => ?_) (fun _ => ?_)
    | (intro s1; refine (fun (h1 : State.Ok Q s1) => ?_) ?_; rotate_left; subst s1; rotate_right)
    | (intro (f : _ → _); subst f; dsimp -zeta only)
    | (intro s1; fail_if_success (have : State := s1))
    | lift_lets
    | split
    | intro _


theorem execFwdFlushPort_ok (h : s.Ok Q) (pipe : Nat) (hw : Q.mask &&& 0x20000100000000000000000000000000000000000000000000000000000000000000000000000000007e000000000000000000000000000000000000000000000000000000000000000000020002000020000400402000000800010001000040800c00002000000000008000200000800000000810010000000010000008800080000800800 = 0) : OutOk Q (execFwdFlushPort pipe s) := by
  unfold execFwdFlushPort
  refine okIf_ok ?_
  repeat' first
    | with_reducible assumption
    | with_reducible exact Kit.bit hw (by decide +kernel)
    | with_reducible exact Kit.sub hw (by decide +kernel)
    | with_reducible apply State.fwdStart_ok
    | with_reducible rfl
    | with_reducible refine ok_ite (fun _ => ?_) (fun _ => ?_)
    | (intro s1; refine (fun (h1 : State.Ok Q s1) => ?_) ?_; rotate_left; subst s1; rotate_right)
    | (intro (f : _ → _); subst f; dsimp -zeta only)
    | (intro s1; fail_if_success (have : State := s1))
    | lift_lets
    | split
    | intro _


theorem execFwdBulkLoad_ok (h : s.Ok Q) (pipe : Nat) (hw : Q.mask &&& 0x20000100000000000000000000000000000000000000000000000000000000000000000000000000007e000000000000000000000000000000000000000000000000000000000000000000020002000020000400402000000800010001000040800c00002000000000008000200000800000000810010000000010000008800080000800800 = 0) : OutOk Q (execFwdBulkLoad pipe s) := by
  unfold execFwdBulkLoad
  refine okIf_ok ?_
  repeat' first
    | with_reducible assumption
    | with_reducible exact Kit.bit hw (by decide +kernel)
    | with_reducible exact Kit.sub hw (by decide +kernel)
    | with_reducible apply State.fwdStart_ok
    | with_reducible rfl
    | with_reducible refine ok_ite (fun _ => ?_) (fun _ => ?_)
    | (intro s1; refine (fun (h1 : State.Ok Q s1) => ?_) ?_; rotate_left; subst s1; rotate_right)
    | (intro (f : _ → _); subst f; dsimp -zeta only)
    | (intro s1; fail_if_success (have : State := s1))
    | lift_lets
    | split
    | intro _


theorem execFwdCmdDone_ok (h : s.Ok Q) (pipe : Nat) (hw : Q.mask &&& 0x20000180600000000000000000000000000000000000000000000000000000000000000000000000007e00000000000000000000000000000000000000000000000000000000000000000000e000000000000000000000000000000000000000010400000000000000000000000000000000000000000000000000000000000000000000000 = 0) : OutOk Q (execFwdCmdDone pipe s) := by
  unfold execFwdCmdDone
  refine okIf_ok ?_
  repeat' first
    | with_reducible assumption
    | with_reducible exact Kit.bit hw (by decide +kernel)
    | with_reducible exact Kit.sub hw (by decide +kernel)
    | with_reducible apply State.fwdDone_ok
    | with_reducible rfl
    | with_reducible refine ok_ite (fun _ => ?_) (fun _ => ?_)
    | (intro s1; refine (fun (h1 : State.Ok Q s1) => ?_) ?_; rotate_left; subst s1; rotate_right)
    | (intro (f : _ → _); subst f; dsimp -zeta only)
    | (intro s1; fail_if_success (have : State := s1))
    | lift_lets
    | split
    | intro _


theorem execLpmInsert_ok (h : s.Ok Q)  (hw : Q.mask &&& 0x1000000000000000000000000000000000000000000000000000000000000000000000000000080000000000000000000000000000000000000000000000000000000000000000000020002000020000400402000000800010001000040800400002000000000008000200000800000000810010000000010000008800080000800800 = 0) : OutOk Q (execLpmInsert s) := by
  unfold execLpmInsert
  refine okIf_ok ?_
  repeat' first
    | with_reducible assumption
    | with_reducible exact Kit.bit hw (by decide +kernel)
    | with_reducible exact Kit.sub hw (by decide +kernel)
    | with_reducible apply State.lpmStart_ok
    | with_reducible rfl
    | with_reducible refine ok_ite (fun _ => ?_) (fun _ => ?_)
    | (intro s1; refine (fun (h1 : State.Ok Q s1) => ?_) ?_; rotate_left; subst s1; rotate_right)
    | (intro (f : _ → _); subst f; dsimp -zeta only)
    | (intro s1; fail_if_success (have : State := s1))
    | lift_lets
    | split
    | intro _


theorem execLpmDelete_ok (h : s.Ok Q)  (hw : Q.mask &&& 0x1000000000000000000000000000000000000000000000000000000000000000000000000000080000000000000000000000000000000000000000000000000000000000000000000020002000020000400402000000800010001000040800400002000000000008000200000800000000810010000000010000008800080000800800 = 0) : OutOk Q (execLpmDelete s) := by
  unfold execLpmDelete
  refine okIf_ok ?_
  repeat' first
    | with_reducible assumption
    | with_reducible exact Kit.bit hw (by decide +kernel)
    | with_reducible exact Kit.sub hw (by decide +kernel)
    | with_reducible apply State.lpmStart_ok
    | with_reducible rfl
    | with_reducible refine ok_ite (fun _ => ?_) (fun _ => ?_)
    | (intro s1; refine (fun (h1 : State.Ok Q s1) => ?_) ?_; rotate_left; subst s1; rotate_right)
    | (intro (f : _ → _); subst f; dsimp -zeta only)
    | (intro s1; fail_if_success (have : State := s1))
    | lift_lets
    | split
    | intro _


theorem execLpmLookup_ok (h : s.Ok Q)  (hw : Q.mask &&& 0x1000000000000000000000000000000000000000000000000000000000000000000000000000080000000000000000000000000000000000000000000000000000000000000000000020002000020000400402000000800010001000040800400002000000000008000200000800000000810010000000010000008800080000800800 = 0) : OutOk Q (execLpmLookup s) := by
  unfold execLpmLookup
  refine okIf_ok ?_
  repeat' first
    | with_reducible assumption
    | with_reducible exact Kit.bit hw (by decide +kernel)
    | with_reducible exact Kit.sub hw (by decide +kernel)
    | with_reducible apply State.lpmStart_ok
    | with_reducible rfl
    | with_reducible refine ok_ite (fun _ => ?_) (fun _ => ?_)
    | (intro s1; refine (fun (h1 : State.Ok Q s1) => ?_) ?_; rotate_left; subst s1; rotate_right)
    | (intro (f : _ → _); subst f; dsimp -zeta only)
    | (intro s1; fail_if_success (have : State := s1))
    | lift_lets
    | split
    | intro _


theorem execLpmCmdDone_ok (h : s.Ok Q)  (hw : Q.mask &&& 0x800000000000000000000000000000000000000000000000000000000000000000000000000000000080000000000000000000000000000000000000000000000000000000000000000000000000000000000000000000000000000000000008800000000000000000000000000000000000000000000000000000000000000000000000000 = 0) : OutOk Q (execLpmCmdDone s) := by
  unfold execLpmCmdDone
  refine okIf_ok ?_
  repeat' first
    | with_reducible assumption
    | with_reducible exact Kit.bit hw (by decide +kernel)
    | with_reducible exact Kit.sub hw (by decide +kernel)
    | with_reducible apply State.lpmDone_ok
    | with_reducible rfl
    | with_reducible refine ok_ite (fun _ => ?_) (fun _ => ?_)
    | (intro s1; refine (fun (h1 : State.Ok Q s1) => ?_) ?_; rotate_left; subst s1; rotate_right)
    | (intro (f : _ → _); subst f; dsimp -zeta only)
    | (intro s1; fail_if_success (have : State := s1))
    | lift_lets
    | split
    | intro _


theorem execPortLinkChange_ok (h : s.Ok Q) (port : Nat) (up : Bool) (var : Nat) (hw : Q.mask &&& 0x80005000000000000000000000000000000000000000000000000000000000000000000000000000000000000000000000000000000000000000000000000000000000000000000000000000000000000000000000000000000000000800000000020000016000000000000000000000000000000000000000000000000000000000000000 = 0) : OutOk Q (execPortLinkChange port up var s) := by
  unfold execPortLinkChange
  refine okIf_ok ?_
  repeat' first
    | with_reducible assumption
    | with_reducible exact Kit.bit hw (by decide +kernel)
    | with_reducible exact Kit.sub hw (by decide +kernel)
    | with_reducible apply State.linkSet_ok
    | with_reducible rfl
    | with_reducible refine ok_ite (fun _ => ?_) (fun _ => ?_)
    | (intro s1; refine (fun (h1 : State.Ok Q s1) => ?_) ?_; rotate_left; subst s1; rotate_right)
    | (intro (f : _ → _); subst f; dsimp -zeta only)
    | (intro s1; fail_if_success (have : State := s1))
    | lift_lets
    | split
    | intro _


theorem execFrameReceive_ok (h : s.Ok Q) (port : Nat) (frame : RxFrame) (stamp cw unc : Nat) (hw : Q.mask &&& 0x168000180730000000000000000000000000000000000000000000000000000000000000000000000007c18000000000000000000000000000000000000000000000000000000000000000002e00200002000040040200000080001000183e0408805c0512000000000008000200000800000000810010000000010000008800080000800800 = 0) : OutOk Q (execFrameReceive port frame stamp cw unc s) := by
  unfold execFrameReceive
  refine okIf_ok ?_
  repeat' first
    | with_reducible assumption
    | with_reducible exact Kit.bit hw (by decide +kernel)
    | with_reducible exact Kit.sub hw (by decide +kernel)
    | with_reducible apply State.fecCount_ok
    | with_reducible apply State.receive_ok
    | with_reducible apply State.badFcs_ok
    | with_reducible rfl
    | with_reducible refine ok_ite (fun _ => ?_) (fun _ => ?_)
    | (intro s1; refine (fun (h1 : State.Ok Q s1) => ?_) ?_; rotate_left; subst s1; rotate_right)
    | (intro (f : _ → _); subst f; dsimp -zeta only)
    | (intro s1; fail_if_success (have : State := s1))
    | lift_lets
    | split
    | intro _


theorem execPortMTxSubmit_ok (h : s.Ok Q) (wp : Nat) (hw : Q.mask &&& 0x168000180730000000000000000000000000000000000000000000000000000000000000000000000007c00000000000000000000000000000000000000000000000000000000000000000002e00200002000040040200000080001000180004088050c512000000000008000200000800000000810010000000010000008800080000800800 = 0) : OutOk Q (execPortMTxSubmit wp s) := by
  unfold execPortMTxSubmit
  refine okIf_ok ?_
  repeat' first
    | with_reducible assumption
    | with_reducible exact Kit.bit hw (by decide +kernel)
    | with_reducible exact Kit.sub hw (by decide +kernel)
    | with_reducible apply State.txWpWrite_ok
    | with_reducible rfl
    | with_reducible refine ok_ite (fun _ => ?_) (fun _ => ?_)
    | (intro s1; refine (fun (h1 : State.Ok Q s1) => ?_) ?_; rotate_left; subst s1; rotate_right)
    | (intro (f : _ → _); subst f; dsimp -zeta only)
    | (intro s1; fail_if_success (have : State := s1))
    | lift_lets
    | split
    | intro _


theorem execCircuitSetup_ok (h : s.Ok Q)  (hw : Q.mask &&& 0x308000100730000000000000000000000000000000000000000000000000000000000000000000000000000000000000000000001e00000000000000000000000000000000000000000000002e0020000200004004020000008000160f980004080040051200000000000be70200000800000000810010000000010000008804080000800800 = 0) : OutOk Q (execCircuitSetup s) := by
  unfold execCircuitSetup
  refine okIf_ok ?_
  repeat' first
    | with_reducible assumption
    | with_reducible exact Kit.bit hw (by decide +kernel)
    | with_reducible exact Kit.sub hw (by decide +kernel)
    | with_reducible apply State.engServe_ok
    | with_reducible rfl
    | with_reducible refine ok_ite (fun _ => ?_) (fun _ => ?_)
    | (intro s1; refine (fun (h1 : State.Ok Q s1) => ?_) ?_; rotate_left; subst s1; rotate_right)
    | (intro (f : _ → _); subst f; dsimp -zeta only)
    | (intro s1; fail_if_success (have : State := s1))
    | lift_lets
    | split
    | intro _


theorem execCircuitRelease_ok (h : s.Ok Q)  (hw : Q.mask &&& 0x308000100730000000000000000000000000000000000000000000000000000000000000000000000000000000000000000000001e00000000000000000000000000000000000000000000002e0020000200004004020000008000160f980004080040051200000000000be70200000800000000810010000000010000008804080000800800 = 0) : OutOk Q (execCircuitRelease s) := by
  unfold execCircuitRelease
  refine okIf_ok ?_
  repeat' first
    | with_reducible assumption
    | with_reducible exact Kit.bit hw (by decide +kernel)
    | with_reducible exact Kit.sub hw (by decide +kernel)
    | with_reducible apply State.engServe_ok
    | with_reducible rfl
    | with_reducible refine ok_ite (fun _ => ?_) (fun _ => ?_)
    | (intro s1; refine (fun (h1 : State.Ok Q s1) => ?_) ?_; rotate_left; subst s1; rotate_right)
    | (intro (f : _ → _); subst f; dsimp -zeta only)
    | (intro s1; fail_if_success (have : State := s1))
    | lift_lets
    | split
    | intro _


theorem execCircuitQuery_ok (h : s.Ok Q)  (hw : Q.mask &&& 0x308000100730000000000000000000000000000000000000000000000000000000000000000000000000000000000000000000001e00000000000000000000000000000000000000000000002e0020000200004004020000008000160f980004080040051200000000000be70200000800000000810010000000010000008804080000800800 = 0) : OutOk Q (execCircuitQuery s) := by
  unfold execCircuitQuery
  refine okIf_ok ?_
  repeat' first
    | with_reducible assumption
    | with_reducible exact Kit.bit hw (by decide +kernel)
    | with_reducible exact Kit.sub hw (by decide +kernel)
    | with_reducible apply State.engServe_ok
    | with_reducible rfl
    | with_reducible refine ok_ite (fun _ => ?_) (fun _ => ?_)
    | (intro s1; refine (fun (h1 : State.Ok Q s1) => ?_) ?_; rotate_left; subst s1; rotate_right)
    | (intro (f : _ → _); subst f; dsimp -zeta only)
    | (intro s1; fail_if_success (have : State := s1))
    | lift_lets
    | split
    | intro _


theorem execEngineCommitRetry_ok (h : s.Ok Q)  (hw : Q.mask &&& 0x208000100730000000000000000000000000000000000000000000000000000000000000000000000000000000000000000000001e00000000000000000000000000000000000000000000002e0020000200004004020000008000160f980004080040051200000000000be70200000800000000810010000000010000008804080000800800 = 0) : OutOk Q (execEngineCommitRetry s) := by
  unfold execEngineCommitRetry
  refine okIf_ok ?_
  repeat' first
    | with_reducible assumption
    | with_reducible exact Kit.bit hw (by decide +kernel)
    | with_reducible exact Kit.sub hw (by decide +kernel)
    | with_reducible apply State.engRetry_ok
    | with_reducible rfl
    | with_reducible refine ok_ite (fun _ => ?_) (fun _ => ?_)
    | (intro s1; refine (fun (h1 : State.Ok Q s1) => ?_) ?_; rotate_left; subst s1; rotate_right)
    | (intro (f : _ → _); subst f; dsimp -zeta only)
    | (intro s1; fail_if_success (have : State := s1))
    | lift_lets
    | split
    | intro _


theorem execDmaStart_ok (h : s.Ok Q) (ch : Nat) (hw : Q.mask &&& 0x300180730000000000000000000000000000000000000000000000000000000000000000000000070000000000000000000000000000000000000000000000000000000000000000000002e023f20020000400402000000800010001000040800400002000000000008000200000800000000810010000000010000008800080000800800 = 0) : OutOk Q (execDmaStart ch s) := by
  unfold execDmaStart
  refine okIf_ok ?_
  repeat' first
    | with_reducible assumption
    | with_reducible exact Kit.bit hw (by decide +kernel)
    | with_reducible exact Kit.sub hw (by decide +kernel)
    | with_reducible apply State.dmaStart_ok
    | with_reducible rfl
    | with_reducible refine ok_ite (fun _ => ?_) (fun _ => ?_)
    | (intro s1; refine (fun (h1 : State.Ok Q s1) => ?_) ?_; rotate_left; subst s1; rotate_right)
    | (intro (f : _ → _); subst f; dsimp -zeta only)
    | (intro s1; fail_if_success (have : State := s1))
    | lift_lets
    | split
    | intro _


theorem execDmaResume_ok (h : s.Ok Q) (ch : Nat) (hw : Q.mask &&& 0x300180730000000000000000000000000000000000000000000000000000000000000000000000030000000000000000000000000000000000000000000000000000000000000000000002e023f20020000400402000000800010001000040800400002000000000008000200000800000000810010000000010000008800080000800800 = 0) : OutOk Q (execDmaResume ch s) := by
  unfold execDmaResume
  refine okIf_ok ?_
  repeat' first
    | with_reducible assumption
    | with_reducible exact Kit.bit hw (by decide +kernel)
    | with_reducible exact Kit.sub hw (by decide +kernel)
    | with_reducible apply State.dmaResume_ok
    | with_reducible rfl
    | with_reducible refine ok_ite (fun _ => ?_) (fun _ => ?_)
    | (intro s1; refine (fun (h1 : State.Ok Q s1) => ?_) ?_; rotate_left; subst s1; rotate_right)
    | (intro (f : _ → _); subst f; dsimp -zeta only)
    | (intro s1; fail_if_success (have : State := s1))
    | lift_lets
    | split
    | intro _


theorem execDmaAbort_ok (h : s.Ok Q) (ch : Nat) (hw : Q.mask &&& 0x1000000000000000000000000000000000000000000000000000000000000000000000000000800000000000000000000000000000000000000000000000000000000000000000000020002020020000400402000000800010001000040800400002000000000008000200000800000000810010000000010000008800080000800800 = 0) : OutOk Q (execDmaAbort ch s) := by
  unfold execDmaAbort
  refine okIf_ok ?_
  repeat' first
    | with_reducible assumption
    | with_reducible exact Kit.bit hw (by decide +kernel)
    | with_reducible exact Kit.sub hw (by decide +kernel)
    | with_reducible apply State.dmaAbort_ok
    | with_reducible rfl
    | with_reducible refine ok_ite (fun _ => ?_) (fun _ => ?_)
    | (intro s1; refine (fun (h1 : State.Ok Q s1) => ?_) ?_; rotate_left; subst s1; rotate_right)
    | (intro (f : _ → _); subst f; dsimp -zeta only)
    | (intro s1; fail_if_success (have : State := s1))
    | lift_lets
    | split
    | intro _


theorem execDmaTrigInput_ok (h : s.Ok Q) (ch : Nat) (hw : Q.mask &&& 0x400000000000000000000000000000000000000000000000000000000000000000000000000022000000000000000000000000000000000000000000000000000000000000000000000000000000000000000000000000000000000000 = 0) : OutOk Q (execDmaTrigInput ch s) := by
  unfold execDmaTrigInput
  refine okIf_ok ?_
  repeat' first
    | with_reducible assumption
    | with_reducible exact Kit.bit hw (by decide +kernel)
    | with_reducible exact Kit.sub hw (by decide +kernel)
    | with_reducible apply State.dmaTrig_ok
    | with_reducible rfl
    | with_reducible refine ok_ite (fun _ => ?_) (fun _ => ?_)
    | (intro s1; refine (fun (h1 : State.Ok Q s1) => ?_) ?_; rotate_left; subst s1; rotate_right)
    | (intro (f : _ → _); subst f; dsimp -zeta only)
    | (intro s1; fail_if_success (have : State := s1))
    | lift_lets
    | split
    | intro _


theorem execDmaUnitIssue_ok (h : s.Ok Q)  (hw : Q.mask &&& 0x1300180600000000000000000000000000000000000000000000000000000000000000000000002320000000000000000000000000000000000000000000000000000000000000000000000e021820000000000000000000000000000000000000000000000000000000000000000000000000000000000000000000000000000000000000 = 0) : OutOk Q (execDmaUnitIssue s) := by
  unfold execDmaUnitIssue
  refine okIf_ok ?_
  repeat' first
    | with_reducible assumption
    | with_reducible exact Kit.bit hw (by decide +kernel)
    | with_reducible exact Kit.sub hw (by decide +kernel)
    | with_reducible apply State.dmaIssue_ok
    | with_reducible rfl
    | with_reducible refine ok_ite (fun _ => ?_) (fun _ => ?_)
    | (intro s1; refine (fun (h1 : State.Ok Q s1) => ?_) ?_; rotate_left; subst s1; rotate_right)
    | (intro (f : _ → _); subst f; dsimp -zeta only)
    | (intro s1; fail_if_success (have : State := s1))
    | lift_lets
    | split
    | intro _


theorem execDmaUnitComplete_ok (h : s.Ok Q) (ch : Nat) (hw : Q.mask &&& 0x13005807300000000000000000000000000000000000000000000000000000000000000000000022b0000000000000000000000000000000000000000000000000000000000000000000002e023f20120000400402000000800010001000040800400002000000000008000200000800000000810010000000010000008800080000800800 = 0) : OutOk Q (execDmaUnitComplete ch s) := by
  unfold execDmaUnitComplete
  refine okIf_ok ?_
  repeat' first
    | with_reducible assumption
    | with_reducible exact Kit.bit hw (by decide +kernel)
    | with_reducible exact Kit.sub hw (by decide +kernel)
    | with_reducible apply State.dmaComplete_ok
    | with_reducible rfl
    | with_reducible refine ok_ite (fun _ => ?_) (fun _ => ?_)
    | (intro s1; refine (fun (h1 : State.Ok Q s1) => ?_) ?_; rotate_left; subst s1; rotate_right)
    | (intro (f : _ → _); subst f; dsimp -zeta only)
    | (intro s1; fail_if_success (have : State := s1))
    | lift_lets
    | split
    | intro _


theorem execDmaRdTimeout_ok (h : s.Ok Q) (link tag : Nat) (hw : Q.mask &&& 0x300180730000000000000000000000000000000000000000000000000000000000000000000000080000000000000000000000000000000000000000000000000000000000000000000002e022420020000400402000000800010001000040800400002000000000008000200000800000000810010000000010000008800080000800800 = 0) : OutOk Q (execDmaRdTimeout link tag s) := by
  unfold execDmaRdTimeout
  refine okIf_ok ?_
  repeat' first
    | with_reducible assumption
    | with_reducible exact Kit.bit hw (by decide +kernel)
    | with_reducible exact Kit.sub hw (by decide +kernel)
    | with_reducible apply State.dmaHostFail_ok
    | with_reducible rfl
    | with_reducible refine ok_ite (fun _ => ?_) (fun _ => ?_)
    | (intro s1; refine (fun (h1 : State.Ok Q s1) => ?_) ?_; rotate_left; subst s1; rotate_right)
    | (intro (f : _ → _); subst f; dsimp -zeta only)
    | (intro s1; fail_if_success (have : State := s1))
    | lift_lets
    | split
    | intro _


theorem execHostMessageInput_ok (h : s.Ok Q) (k : Nat) (hw : Q.mask &&& 0x10000000000000000000000000000000000000000000000000000000000000000000000000000022000000000000000000000000000000000000000000000000000000000000000000000000000002000000000000000000000000000000000000000000000000000000000000000000000000000000000000000000000000000000000000 = 0) : OutOk Q (execHostMessageInput k s) := by
  unfold execHostMessageInput
  refine okIf_ok ?_
  repeat' first
    | with_reducible assumption
    | with_reducible exact Kit.bit hw (by decide +kernel)
    | with_reducible exact Kit.sub hw (by decide +kernel)
    | with_reducible apply State.hostMessage_ok
    | with_reducible rfl
    | with_reducible refine ok_ite (fun _ => ?_) (fun _ => ?_)
    | (intro s1; refine (fun (h1 : State.Ok Q s1) => ?_) ?_; rotate_left; subst s1; rotate_right)
    | (intro (f : _ → _); subst f; dsimp -zeta only)
    | (intro s1; fail_if_success (have : State := s1))
    | lift_lets
    | split
    | intro _


theorem execDqsTracking_ok (h : s.Ok Q)  : OutOk Q (execDqsTracking s) := by
  unfold execDqsTracking
  refine okIf_ok ?_
  repeat' first
    | with_reducible assumption
    | with_reducible rfl
    | with_reducible refine ok_ite (fun _ => ?_) (fun _ => ?_)
    | (intro s1; refine (fun (h1 : State.Ok Q s1) => ?_) ?_; rotate_left; subst s1; rotate_right)
    | (intro (f : _ → _); subst f; dsimp -zeta only)
    | (intro s1; fail_if_success (have : State := s1))
    | lift_lets
    | split
    | intro _


theorem execPatrolScrub_ok (h : s.Ok Q) (word err : Nat) (hw : Q.mask &&& 0x100600000000000000000000000000000000000000000000000000000000000000000000000000000000000000000000000000000000000000000000000000000000000000000000000e000000000000000000000000000000000000000000000000000000000000000000000000000000000000000000000000000000000000000000 = 0) : OutOk Q (execPatrolScrub word err s) := by
  unfold execPatrolScrub
  refine okIf_ok ?_
  repeat' first
    | with_reducible assumption
    | with_reducible exact Kit.bit hw (by decide +kernel)
    | with_reducible exact Kit.sub hw (by decide +kernel)
    | with_reducible apply State.scrub_ok
    | with_reducible rfl
    | with_reducible refine ok_ite (fun _ => ?_) (fun _ => ?_)
    | (intro s1; refine (fun (h1 : State.Ok Q s1) => ?_) ?_; rotate_left; subst s1; rotate_right)
    | (intro (f : _ → _); subst f; dsimp -zeta only)
    | (intro s1; fail_if_success (have : State := s1))
    | lift_lets
    | split
    | intro _


theorem execPlvMboxRead_ok (h : s.Ok Q)  (hw : Q.mask &&& 0x200000200000000000000000000000000000000000000000000000000000000000000000000000000000000000000000000000000000000000000000000000000000000000000000000000a0000000000000000000000000000000000000000000000000000000000000000000000000000000000000000000000000000000000000000000 = 0) : OutOk Q (execPlvMboxRead s) := by
  unfold execPlvMboxRead
  refine okIf_ok ?_
  repeat' first
    | with_reducible assumption
    | with_reducible exact Kit.bit hw (by decide +kernel)
    | with_reducible exact Kit.sub hw (by decide +kernel)
    | with_reducible apply State.mboxRead_ok
    | with_reducible rfl
    | with_reducible refine ok_ite (fun _ => ?_) (fun _ => ?_)
    | (intro s1; refine (fun (h1 : State.Ok Q s1) => ?_) ?_; rotate_left; subst s1; rotate_right)
    | (intro (f : _ → _); subst f; dsimp -zeta only)
    | (intro s1; fail_if_success (have : State := s1))
    | lift_lets
    | split
    | intro _


theorem execCorrectionBlockFetch_ok (h : s.Ok Q) (pend : Bool) (pos : Nat) (hw : Q.mask &&& 0xa0000000000000000000000000000000000000000000000000000000000000000000000000100000000000000000000000000000000000000000000000000000000000000000000000000000000000000000000000000000000000000000000000000000000000000000000000000000000000000000000000000000000000000000000 = 0) : OutOk Q (execCorrectionBlockFetch pend pos s) := by
  unfold execCorrectionBlockFetch
  refine okIf_ok ?_
  repeat' first
    | with_reducible assumption
    | with_reducible exact Kit.bit hw (by decide +kernel)
    | with_reducible exact Kit.sub hw (by decide +kernel)
    | with_reducible apply State.rcFetch_ok
    | with_reducible rfl
    | with_reducible refine ok_ite (fun _ => ?_) (fun _ => ?_)
    | (intro s1; refine (fun (h1 : State.Ok Q s1) => ?_) ?_; rotate_left; subst s1; rotate_right)
    | (intro (f : _ → _); subst f; dsimp -zeta only)
    | (intro s1; fail_if_success (have : State := s1))
    | lift_lets
    | split
    | intro _


theorem execCorrectionBlockArrival_ok (h : s.Ok Q) (pend : Bool) (tile pos : Nat) (hw : Q.mask &&& 0x2180600000000000000000000000000000000000000000000000000000000000000000000000000000000000000000000000000000000100000000000000000000000000000000000000e000000001000000000000000000000000000000000000000000000000000000000000000000000000008000000010000000000000000000000 = 0) : OutOk Q (execCorrectionBlockArrival pend tile pos s) := by
  unfold execCorrectionBlockArrival
  refine okIf_ok ?_
  repeat' first
    | with_reducible assumption
    | with_reducible exact Kit.bit hw (by decide +kernel)
    | with_reducible exact Kit.sub hw (by decide +kernel)
    | with_reducible apply State.blockArrive_ok
    | with_reducible rfl
    | with_reducible refine ok_ite (fun _ => ?_) (fun _ => ?_)
    | (intro s1; refine (fun (h1 : State.Ok Q s1) => ?_) ?_; rotate_left; subst s1; rotate_right)
    | (intro (f : _ → _); subst f; dsimp -zeta only)
    | (intro s1; fail_if_success (have : State := s1))
    | lift_lets
    | split
    | intro _


theorem execCorrectionBlockDeadline_ok (h : s.Ok Q) (pend : Bool) (pos : Nat) (hw : Q.mask &&& 0x21000000000000000000000000000000000000000000000000000000000000000000000000000000000000000000000000000000000001000000000000000000000000000000000000000000000001000000000000000000000000000000000000000000000000000000000000000000000000008000000010000000000000000000000 = 0) : OutOk Q (execCorrectionBlockDeadline pend pos s) := by
  unfold execCorrectionBlockDeadline
  refine okIf_ok ?_
  repeat' first
    | with_reducible assumption
    | with_reducible exact Kit.bit hw (by decide +kernel)
    | with_reducible exact Kit.sub hw (by decide +kernel)
    | with_reducible apply State.blockDeadline_ok
    | with_reducible apply forIn'_ok
    | with_reducible rfl
    | (intro i1 s1 (h1 : State.Ok Q s1))
    | (intro s1 i1 (h1 : State.Ok Q s1))
    | with_reducible refine ok_ite (fun _ => ?_) (fun _ => ?_)
    | (intro s1; refine (fun (h1 : State.Ok Q s1) => ?_) ?_; rotate_left; subst s1; rotate_right)
    | (intro (f : _ → _); subst f; dsimp -zeta only)
    | (intro s1; fail_if_success (have : State := s1))
    | lift_lets
    | split
    | intro _


theorem execConfigBroadcast_ok (h : s.Ok Q) (ce ue : List Nat) (hw : Q.mask &&& 0x20000090002000000000000000000000000000000000000000000000000000000000000000000010000000000000000000000004020000000000000000000000000000002c0000000000000000000000000000000000000000000000000000000000000000000000000000000260000800000000000000000000000000000000000000084000 = 0) : OutOk Q (execConfigBroadcast ce ue s) := by
  unfold execConfigBroadcast
  refine okIf_ok ?_
  repeat' first
    | with_reducible assumption
    | with_reducible exact Kit.bit hw (by decide +kernel)
    | with_reducible exact Kit.sub hw (by decide +kernel)
    | with_reducible apply State.eccStrike_ok
    | with_reducible apply State.startCommit_ok
    | with_reducible apply foldl_ok
    | with_reducible rfl
    | (intro i1 s1 (h1 : State.Ok Q s1))
    | (intro s1 i1 (h1 : State.Ok Q s1))
    | with_reducible refine ok_ite (fun _ => ?_) (fun _ => ?_)
    | (intro s1; refine (fun (h1 : State.Ok Q s1) => ?_) ?_; rotate_left; subst s1; rotate_right)
    | (intro (f : _ → _); subst f; dsimp -zeta only)
    | (intro s1; fail_if_success (have : State := s1))
    | lift_lets
    | split
    | intro _


theorem execShadowDeadline_ok (h : s.Ok Q) (bad : List Nat) (hw : Q.mask &&& 0x10000000000000000000000004e0000000000000000000000000000000000000000000000000000000000000000000000000000000000000000000000000000000000000000000000000000000000000000000000000000000000000080000 = 0) : OutOk Q (execShadowDeadline bad s) := by
  unfold execShadowDeadline
  refine okIf_ok ?_
  repeat' first
    | with_reducible assumption
    | with_reducible exact Kit.bit hw (by decide +kernel)
    | with_reducible exact Kit.sub hw (by decide +kernel)
    | with_reducible apply State.shadowDeadline_ok
    | with_reducible rfl
    | with_reducible refine ok_ite (fun _ => ?_) (fun _ => ?_)
    | (intro s1; refine (fun (h1 : State.Ok Q s1) => ?_) ?_; rotate_left; subst s1; rotate_right)
    | (intro (f : _ → _); subst f; dsimp -zeta only)
    | (intro s1; fail_if_success (have : State := s1))
    | lift_lets
    | split
    | intro _


theorem execCommitDecisionPoint_ok (h : s.Ok Q) (agree : Bool) (hw : Q.mask &&& 0x2080019000000000000000000000000000000000000000000000000000000000000000000000000800000000000020000000000000001300000000000000000000000004100000000000000000000000000000004000000000000000000800000000000008000000000000000800000000000000000000000000000000000000038200000800 = 0) : OutOk Q (execCommitDecisionPoint agree s) := by
  unfold execCommitDecisionPoint
  refine okIf_ok ?_
  repeat' first
    | with_reducible assumption
    | with_reducible exact Kit.bit hw (by decide +kernel)
    | with_reducible exact Kit.sub hw (by decide +kernel)
    | with_reducible apply State.decision_ok
    | with_reducible rfl
    | with_reducible refine ok_ite (fun _ => ?_) (fun _ => ?_)
    | (intro s1; refine (fun (h1 : State.Ok Q s1) => ?_) ?_; rotate_left; subst s1; rotate_right)
    | (intro (f : _ → _); subst f; dsimp -zeta only)
    | (intro s1; fail_if_success (have : State := s1))
    | lift_lets
    | split
    | intro _


theorem execCommitStrobeEdge_ok (h : s.Ok Q) (missU missO : List Nat) (hw : Q.mask &&& 0x9000000000000000000000000000000000000000000000000000000000000000008000002000000000000000000000000012000100000000000000700000000000003f000000000000000000000000000040000000000000000000000000000000000000000000000002000000000000000078300000000000000000000008c0900000 = 0) : OutOk Q (execCommitStrobeEdge missU missO s) := by
  unfold execCommitStrobeEdge
  refine okIf_ok ?_
  repeat' first
    | with_reducible assumption
    | with_reducible exact Kit.bit hw (by decide +kernel)
    | with_reducible exact Kit.sub hw (by decide +kernel)
    | with_reducible apply State.strobeEdge_ok
    | with_reducible rfl
    | with_reducible refine ok_ite (fun _ => ?_) (fun _ => ?_)
    | (intro s1; refine (fun (h1 : State.Ok Q s1) => ?_) ?_; rotate_left; subst s1; rotate_right)
    | (intro (f : _ → _); subst f; dsimp -zeta only)
    | (intro s1; fail_if_success (have : State := s1))
    | lift_lets
    | split
    | intro _


theorem execGuardedGroupLoad_ok (h : s.Ok Q) (group : Nat) (hw : Q.mask &&& 0x80000000000000000000000000000000000000000000000000000000000000000080000000000000000000000000000000000000000000000000004000000000000800000000000000000000000000000000000000000000000000000000000000000000000000000000000000000000000000000000000000000000000000c0900000 = 0) : OutOk Q (execGuardedGroupLoad group s) := by
  unfold execGuardedGroupLoad
  refine okIf_ok ?_
  repeat' first
    | with_reducible assumption
    | with_reducible exact Kit.bit hw (by decide +kernel)
    | with_reducible exact Kit.sub hw (by decide +kernel)
    | with_reducible apply State.groupLoad_ok
    | with_reducible rfl
    | with_reducible refine ok_ite (fun _ => ?_) (fun _ => ?_)
    | (intro s1; refine (fun (h1 : State.Ok Q s1) => ?_) ?_; rotate_left; subst s1; rotate_right)
    | (intro (f : _ → _); subst f; dsimp -zeta only)
    | (intro s1; fail_if_success (have : State := s1))
    | lift_lets
    | split
    | intro _


theorem execSlotBoundary_ok (h : s.Ok Q) (hm : Q.anyMode)  (hw : Q.mask &&& 0x1ad0c0000000000000000000000000000000000000000000000000000000000000000400000e000000000000e00004000000f70600000000000000400fc00000007000300000000000000000000012000000000000000034781000000000000000000000000000000000020f80080000000000002040000000004800000008000000001c = 0) : OutOk Q (execSlotBoundary s) := by
  unfold execSlotBoundary
  refine okIf_ok ?_
  repeat' first
    | with_reducible assumption
    | with_reducible exact Kit.bit hw (by decide +kernel)
    | with_reducible exact Kit.sub hw (by decide +kernel)
    | with_reducible apply State.slotBoundary_ok
    | with_reducible rfl
    | with_reducible refine ok_ite (fun _ => ?_) (fun _ => ?_)
    | (intro s1; refine (fun (h1 : State.Ok Q s1) => ?_) ?_; rotate_left; subst s1; rotate_right)
    | (intro (f : _ → _); subst f; dsimp -zeta only)
    | (intro s1; fail_if_success (have : State := s1))
    | lift_lets
    | split
    | intro _


theorem execSpanBoundary_ok (h : s.Ok Q) (hbU hbO : Nat) (hw : Q.mask &&& 0x20809ad1068000000000000000000000000000000000000000000000000000000000000090c00000000000000000f3fffd03800012000f0f7f77f84be000403be0080ff00dbf0000000000000e0000021202400841148000003ff810000800000000000008000f000000000002000000000020000138603f80001800400080048804c0984020 = 0) : OutOk Q (execSpanBoundary hbU hbO s) := by
  unfold execSpanBoundary
  refine okIf_ok ?_
  repeat' first
    | with_reducible assumption
    | with_reducible exact Kit.bit hw (by decide +kernel)
    | with_reducible exact Kit.sub hw (by decide +kernel)
    | with_reducible apply State.spanBoundary_ok
    | with_reducible rfl
    | with_reducible refine ok_ite (fun _ => ?_) (fun _ => ?_)
    | (intro s1; refine (fun (h1 : State.Ok Q s1) => ?_) ?_; rotate_left; subst s1; rotate_right)
    | (intro (f : _ → _); subst f; dsimp -zeta only)
    | (intro s1; fail_if_success (have : State := s1))
    | lift_lets
    | split
    | intro _


theorem execSableEntry_ok (h : s.Ok Q) (hm : Q.anyMode)  (hw : Q.mask &&& 0x93105847300000000000000000000000000000000000000000000000000000000000002600008000800020000000000000000000000000000000000d4000000000507800300000000000022e02242002000040040200000080001000180004080042000201600000000800020000080000000081003000000001000800a80488004090081c = 0) : OutOk Q (execSableEntry s) := by
  unfold execSableEntry
  refine okIf_ok ?_
  repeat' first
    | with_reducible assumption
    | with_reducible exact Kit.bit hw (by decide +kernel)
    | with_reducible exact Kit.sub hw (by decide +kernel)
    | with_reducible apply State.sableEntry_ok
    | with_reducible rfl
    | with_reducible refine ok_ite (fun _ => ?_) (fun _ => ?_)
    | (intro s1; refine (fun (h1 : State.Ok Q s1) => ?_) ?_; rotate_left; subst s1; rotate_right)
    | (intro (f : _ → _); subst f; dsimp -zeta only)
    | (intro s1; fail_if_success (have : State := s1))
    | lift_lets
    | split
    | intro _


theorem execPowerOnReset_ok (h : s.Ok Q) (hr : Q.bare) (hg : Q.g = none) (straps : Nat) (low : Bool) (hz : Q.mask = 0) :
    OutOk Q (execPowerOnReset straps low s) := by
  unfold execPowerOnReset
  have e : (s.resetTo .power).Ok Q := State.resetTo_ok h hr .power (fun _ => hg) hz
  have e1 := State.latchStraps_ok e straps (Kit.subz hz)
  exact okIf_ok (ok_ite (fun _ => State.setLat_ok e1 _ _ _ _ _ (Kit.bitz hz)) (fun _ => e1))

theorem execPowerLoss_ok (h : s.Ok Q) (hr : Q.bare) (hg : Q.g = none) (cut : List Byte) (hz : Q.mask = 0) :
    OutOk Q (execPowerLoss cut s) := by
  unfold execPowerLoss
  have e := ok_ite (c := s.wearQ.isEmpty = true) (fun _ => h)
    (fun _ => State.flashPut_ok h (s.logAddr (s.nlat .logUse) + s.reg .WEAR_LOG_FILL) cut (Kit.bitz hz))
  exact okIf_ok (State.setLat_ok (State.resetTo_ok e hr .power (fun _ => hg) hz) _ _ _ _ _ (Kit.bitz hz))

theorem execResetNAsserted_ok (h : s.Ok Q) (hr : Q.bare) (hz : Q.mask = 0) : OutOk Q (execResetNAsserted s) :=
  okIf_ok (State.setLat_ok (State.resetTo_ok h hr .pin (fun e => nomatch e) hz) _ _ _ _ _ (Kit.bitz hz))

theorem execResetNReleased_ok (h : s.Ok Q) (ht : Q.anyTime) (straps : Nat) (hw : Q.mask &&& 0x400080000000000000000000000000000000000000000000000000000000000000030010000000000000000000000100000000000000002000000000000000000000000000000002000000000000000000000000000000000000000000000000000000000000000000000000000000000000000000000000000000000000000000000 = 0) : OutOk Q (execResetNReleased straps s) := by
  unfold execResetNReleased
  refine okIf_ok ?_
  repeat' first
    | with_reducible assumption
    | with_reducible exact Kit.bit hw (by decide +kernel)
    | with_reducible exact Kit.sub hw (by decide +kernel)
    | with_reducible apply State.latchStraps_ok
    | with_reducible apply State.setLat_ok
    | with_reducible apply State.clearTime_ok
    | with_reducible rfl
    | with_reducible refine ok_ite (fun _ => ?_) (fun _ => ?_)
    | (intro s1; refine (fun (h1 : State.Ok Q s1) => ?_) ?_; rotate_left; subst s1; rotate_right)
    | (intro (f : _ → _); subst f; dsimp -zeta only)
    | (intro s1; fail_if_success (have : State := s1))
    | lift_lets
    | split
    | intro _


theorem execThermalRestart_ok (h : s.Ok Q) (hr : Q.bare) (hz : Q.mask = 0) : OutOk Q (execThermalRestart s) :=
  okIf_ok (ok_ite (fun _ => State.resetTo_ok (State.satAdd_ok h _ _ _ _ _ (Kit.bitz hz)) hr .internal (fun e => nomatch e) hz)
    (fun _ => h))

theorem execTapInstruction_ok (h : s.Ok Q) (ir : Nat) (hw : Q.mask &&& 0x30000000000000000000000000000000000000000000000000000000000000000000000000000000000000000000000000000000000000000000000000000000000000000000000000000000000000000000000000000000000000000000000000 = 0) : OutOk Q (execTapInstruction ir s) := by
  unfold execTapInstruction
  refine okIf_ok ?_
  repeat' first
    | with_reducible assumption
    | with_reducible exact Kit.bit hw (by decide +kernel)
    | with_reducible exact Kit.sub hw (by decide +kernel)
    | with_reducible apply State.setLat_ok
    | with_reducible rfl
    | with_reducible refine ok_ite (fun _ => ?_) (fun _ => ?_)
    | (intro s1; refine (fun (h1 : State.Ok Q s1) => ?_) ?_; rotate_left; subst s1; rotate_right)
    | (intro (f : _ → _); subst f; dsimp -zeta only)
    | (intro s1; fail_if_success (have : State := s1))
    | lift_lets
    | split
    | intro _


theorem execResetCmd_ok (h : s.Ok Q) (hr : Q.bare) (ini : Initiator) (hz : Q.mask = 0) : OutOk Q (execResetCmd ini s) := by
  have hm := hr.mode
  have ht := hr.time
  unfold execResetCmd
  refine okIf_ok ?_
  repeat' first
    | with_reducible assumption
    | with_reducible exact Kit.subz hz
    | with_reducible exact Kit.bitz hz
    | with_reducible apply State.command_ok
    | with_reducible rfl
    | with_reducible refine ok_ite (fun _ => ?_) (fun _ => ?_)
    | (intro s1; refine (fun (h1 : State.Ok Q s1) => ?_) ?_; rotate_left; subst s1; rotate_right)
    | (intro (f : _ → _); subst f; dsimp -zeta only)
    | (intro s1; fail_if_success (have : State := s1))
    | lift_lets
    | split
    | intro _


theorem execModeCmdCharacterise_ok (h : s.Ok Q) (hr : Q.bare) (ini : Initiator) (hz : Q.mask = 0) : OutOk Q (execModeCmdCharacterise ini s) := by
  have hm := hr.mode
  have ht := hr.time
  unfold execModeCmdCharacterise
  refine okIf_ok ?_
  repeat' first
    | with_reducible assumption
    | with_reducible exact Kit.subz hz
    | with_reducible exact Kit.bitz hz
    | with_reducible apply State.command_ok
    | with_reducible rfl
    | with_reducible refine ok_ite (fun _ => ?_) (fun _ => ?_)
    | (intro s1; refine (fun (h1 : State.Ok Q s1) => ?_) ?_; rotate_left; subst s1; rotate_right)
    | (intro (f : _ → _); subst f; dsimp -zeta only)
    | (intro s1; fail_if_success (have : State := s1))
    | lift_lets
    | split
    | intro _


theorem execModeCmdStatic_ok (h : s.Ok Q) (hr : Q.bare) (ini : Initiator) (hz : Q.mask = 0) : OutOk Q (execModeCmdStatic ini s) := by
  have hm := hr.mode
  have ht := hr.time
  unfold execModeCmdStatic
  refine okIf_ok ?_
  repeat' first
    | with_reducible assumption
    | with_reducible exact Kit.subz hz
    | with_reducible exact Kit.bitz hz
    | with_reducible apply State.command_ok
    | with_reducible rfl
    | with_reducible refine ok_ite (fun _ => ?_) (fun _ => ?_)
    | (intro s1; refine (fun (h1 : State.Ok Q s1) => ?_) ?_; rotate_left; subst s1; rotate_right)
    | (intro (f : _ → _); subst f; dsimp -zeta only)
    | (intro s1; fail_if_success (have : State := s1))
    | lift_lets
    | split
    | intro _


theorem execDeviceHoldCmd_ok (h : s.Ok Q) (hr : Q.bare) (ini : Initiator) (hz : Q.mask = 0) : OutOk Q (execDeviceHoldCmd ini s) := by
  have hm := hr.mode
  have ht := hr.time
  unfold execDeviceHoldCmd
  refine okIf_ok ?_
  repeat' first
    | with_reducible assumption
    | with_reducible exact Kit.subz hz
    | with_reducible exact Kit.bitz hz
    | with_reducible apply State.command_ok
    | with_reducible rfl
    | with_reducible refine ok_ite (fun _ => ?_) (fun _ => ?_)
    | (intro s1; refine (fun (h1 : State.Ok Q s1) => ?_) ?_; rotate_left; subst s1; rotate_right)
    | (intro (f : _ → _); subst f; dsimp -zeta only)
    | (intro s1; fail_if_success (have : State := s1))
    | lift_lets
    | split
    | intro _


theorem execDeviceReleaseCmd_ok (h : s.Ok Q) (hr : Q.bare) (ini : Initiator) (hz : Q.mask = 0) : OutOk Q (execDeviceReleaseCmd ini s) := by
  have hm := hr.mode
  have ht := hr.time
  unfold execDeviceReleaseCmd
  refine okIf_ok ?_
  repeat' first
    | with_reducible assumption
    | with_reducible exact Kit.subz hz
    | with_reducible exact Kit.bitz hz
    | with_reducible apply State.command_ok
    | with_reducible rfl
    | with_reducible refine ok_ite (fun _ => ?_) (fun _ => ?_)
    | (intro s1; refine (fun (h1 : State.Ok Q s1) => ?_) ?_; rotate_left; subst s1; rotate_right)
    | (intro (f : _ → _); subst f; dsimp -zeta only)
    | (intro s1; fail_if_success (have : State := s1))
    | lift_lets
    | split
    | intro _


theorem execBootSlot_ok (h : s.Ok Q) (hr : Q.bare) (ini : Initiator) (slot : Nat) (hz : Q.mask = 0) : OutOk Q (execBootSlot ini slot s) := by
  have hm := hr.mode
  have ht := hr.time
  unfold execBootSlot
  refine okIf_ok ?_
  repeat' first
    | with_reducible assumption
    | with_reducible exact Kit.subz hz
    | with_reducible exact Kit.bitz hz
    | with_reducible apply State.command_ok
    | with_reducible rfl
    | with_reducible refine ok_ite (fun _ => ?_) (fun _ => ?_)
    | (intro s1; refine (fun (h1 : State.Ok Q s1) => ?_) ?_; rotate_left; subst s1; rotate_right)
    | (intro (f : _ → _); subst f; dsimp -zeta only)
    | (intro s1; fail_if_success (have : State := s1))
    | lift_lets
    | split
    | intro _


theorem execNvmRead_ok (h : s.Ok Q) (hr : Q.bare) (ini : Initiator) (off n lo hi : Nat) (hz : Q.mask = 0) : OutOk Q (execNvmRead ini off n lo hi s) := by
  have hm := hr.mode
  have ht := hr.time
  unfold execNvmRead
  refine okIf_ok ?_
  repeat' first
    | with_reducible assumption
    | with_reducible exact Kit.subz hz
    | with_reducible exact Kit.bitz hz
    | with_reducible apply State.command_ok
    | with_reducible rfl
    | with_reducible refine ok_ite (fun _ => ?_) (fun _ => ?_)
    | (intro s1; refine (fun (h1 : State.Ok Q s1) => ?_) ?_; rotate_left; subst s1; rotate_right)
    | (intro (f : _ → _); subst f; dsimp -zeta only)
    | (intro s1; fail_if_success (have : State := s1))
    | lift_lets
    | split
    | intro _


theorem execNvmWrite_ok (h : s.Ok Q) (hr : Q.bare) (ini : Initiator) (off n lo hi : Nat) (hz : Q.mask = 0) : OutOk Q (execNvmWrite ini off n lo hi s) := by
  have hm := hr.mode
  have ht := hr.time
  unfold execNvmWrite
  refine okIf_ok ?_
  repeat' first
    | with_reducible assumption
    | with_reducible exact Kit.subz hz
    | with_reducible exact Kit.bitz hz
    | with_reducible apply State.command_ok
    | with_reducible rfl
    | with_reducible refine ok_ite (fun _ => ?_) (fun _ => ?_)
    | (intro s1; refine (fun (h1 : State.Ok Q s1) => ?_) ?_; rotate_left; subst s1; rotate_right)
    | (intro (f : _ → _); subst f; dsimp -zeta only)
    | (intro s1; fail_if_success (have : State := s1))
    | lift_lets
    | split
    | intro _


theorem execNvmErase_ok (h : s.Ok Q) (hr : Q.bare) (ini : Initiator) (off n : Nat) (hz : Q.mask = 0) : OutOk Q (execNvmErase ini off n s) := by
  have hm := hr.mode
  have ht := hr.time
  unfold execNvmErase
  refine okIf_ok ?_
  repeat' first
    | with_reducible assumption
    | with_reducible exact Kit.subz hz
    | with_reducible exact Kit.bitz hz
    | with_reducible apply State.command_ok
    | with_reducible rfl
    | with_reducible refine ok_ite (fun _ => ?_) (fun _ => ?_)
    | (intro s1; refine (fun (h1 : State.Ok Q s1) => ?_) ?_; rotate_left; subst s1; rotate_right)
    | (intro (f : _ → _); subst f; dsimp -zeta only)
    | (intro s1; fail_if_success (have : State := s1))
    | lift_lets
    | split
    | intro _


theorem execImgCheck_ok (h : s.Ok Q) (hr : Q.bare) (ini : Initiator) (slot : Nat) (hz : Q.mask = 0) : OutOk Q (execImgCheck ini slot s) := by
  have hm := hr.mode
  have ht := hr.time
  unfold execImgCheck
  refine okIf_ok ?_
  repeat' first
    | with_reducible assumption
    | with_reducible exact Kit.subz hz
    | with_reducible exact Kit.bitz hz
    | with_reducible apply State.command_ok
    | with_reducible rfl
    | with_reducible refine ok_ite (fun _ => ?_) (fun _ => ?_)
    | (intro s1; refine (fun (h1 : State.Ok Q s1) => ?_) ?_; rotate_left; subst s1; rotate_right)
    | (intro (f : _ → _); subst f; dsimp -zeta only)
    | (intro s1; fail_if_success (have : State := s1))
    | lift_lets
    | split
    | intro _


theorem execFuseSvn_ok (h : s.Ok Q) (hr : Q.bare) (ini : Initiator) (hz : Q.mask = 0) : OutOk Q (execFuseSvn ini s) := by
  have hm := hr.mode
  have ht := hr.time
  unfold execFuseSvn
  refine okIf_ok ?_
  repeat' first
    | with_reducible assumption
    | with_reducible exact Kit.subz hz
    | with_reducible exact Kit.bitz hz
    | with_reducible apply State.command_ok
    | with_reducible rfl
    | with_reducible refine ok_ite (fun _ => ?_) (fun _ => ?_)
    | (intro s1; refine (fun (h1 : State.Ok Q s1) => ?_) ?_; rotate_left; subst s1; rotate_right)
    | (intro (f : _ → _); subst f; dsimp -zeta only)
    | (intro s1; fail_if_success (have : State := s1))
    | lift_lets
    | split
    | intro _


theorem execFuseRevoke0_ok (h : s.Ok Q) (hr : Q.bare) (ini : Initiator) (hz : Q.mask = 0) : OutOk Q (execFuseRevoke0 ini s) := by
  have hm := hr.mode
  have ht := hr.time
  unfold execFuseRevoke0
  refine okIf_ok ?_
  repeat' first
    | with_reducible assumption
    | with_reducible exact Kit.subz hz
    | with_reducible exact Kit.bitz hz
    | with_reducible apply State.command_ok
    | with_reducible rfl
    | with_reducible refine ok_ite (fun _ => ?_) (fun _ => ?_)
    | (intro s1; refine (fun (h1 : State.Ok Q s1) => ?_) ?_; rotate_left; subst s1; rotate_right)
    | (intro (f : _ → _); subst f; dsimp -zeta only)
    | (intro s1; fail_if_success (have : State := s1))
    | lift_lets
    | split
    | intro _


theorem execMgtCmdBusyWrite_ok (h : s.Ok Q) (hr : Q.bare) (ini : Initiator) (value : Nat) (hz : Q.mask = 0) : OutOk Q (execMgtCmdBusyWrite ini value s) := by
  have hm := hr.mode
  have ht := hr.time
  unfold execMgtCmdBusyWrite
  refine okIf_ok ?_
  repeat' first
    | with_reducible assumption
    | with_reducible exact Kit.subz hz
    | with_reducible exact Kit.bitz hz
    | with_reducible apply State.mgtCmdWrite_ok
    | with_reducible rfl
    | with_reducible refine ok_ite (fun _ => ?_) (fun _ => ?_)
    | (intro s1; refine (fun (h1 : State.Ok Q s1) => ?_) ?_; rotate_left; subst s1; rotate_right)
    | (intro (f : _ → _); subst f; dsimp -zeta only)
    | (intro s1; fail_if_success (have : State := s1))
    | lift_lets
    | split
    | intro _


theorem execMgmtCommandFrame_ok (h : s.Ok Q) (hr : Q.bare) (port : Nat) (frame : List Byte) (hz : Q.mask = 0) : OutOk Q (execMgmtCommandFrame port frame s) := by
  have hm := hr.mode
  have ht := hr.time
  unfold execMgmtCommandFrame
  refine okIf_ok ?_
  repeat' first
    | with_reducible assumption
    | with_reducible exact Kit.subz hz
    | with_reducible exact Kit.bitz hz
    | with_reducible apply State.mgmtFrame_ok
    | with_reducible rfl
    | with_reducible refine ok_ite (fun _ => ?_) (fun _ => ?_)
    | (intro s1; refine (fun (h1 : State.Ok Q s1) => ?_) ?_; rotate_left; subst s1; rotate_right)
    | (intro (f : _ → _); subst f; dsimp -zeta only)
    | (intro s1; fail_if_success (have : State := s1))
    | lift_lets
    | split
    | intro _


theorem execDeviceCommandDone_ok (h : s.Ok Q) (done : Nat) (err : Bool) (hw : Q.mask &&& 0x408000180f30000000000000000000000000000000000000000000000000000000000000000800000000000000000000000000000000000000000000000000000000000000000000000019002e002000020000400402000000800010001800040800400002000000000008000200000800000000810010000000010000008800080000800800 = 0) : OutOk Q (execDeviceCommandDone done err s) := by
  unfold execDeviceCommandDone
  refine okIf_ok ?_
  repeat' first
    | with_reducible assumption
    | with_reducible exact Kit.bit hw (by decide +kernel)
    | with_reducible exact Kit.sub hw (by decide +kernel)
    | with_reducible apply State.cmdDone_ok
    | with_reducible rfl
    | with_reducible refine ok_ite (fun _ => ?_) (fun _ => ?_)
    | (intro s1; refine (fun (h1 : State.Ok Q s1) => ?_) ?_; rotate_left; subst s1; rotate_right)
    | (intro (f : _ → _); subst f; dsimp -zeta only)
    | (intro s1; fail_if_success (have : State := s1))
    | lift_lets
    | split
    | intro _


theorem execRegisterWrite_ok (h : s.Ok Q) (hr : Q.bare) (ini : Initiator) (addr value : Nat) (hz : Q.mask = 0) : OutOk Q (execRegisterWrite ini addr value s) := by
  have hm := hr.mode
  have ht := hr.time
  unfold execRegisterWrite
  refine okIf_ok ?_
  repeat' first
    | with_reducible assumption
    | with_reducible exact Kit.subz hz
    | with_reducible exact Kit.bitz hz
    | with_reducible apply State.busWrite_ok
    | with_reducible rfl
    | with_reducible refine ok_ite (fun _ => ?_) (fun _ => ?_)
    | (intro s1; refine (fun (h1 : State.Ok Q s1) => ?_) ?_; rotate_left; subst s1; rotate_right)
    | (intro (f : _ → _); subst f; dsimp -zeta only)
    | (intro s1; fail_if_success (have : State := s1))
    | lift_lets
    | split
    | intro _


theorem execRsRead_ok (h : s.Ok Q) (ini : Initiator) (addr : Nat) (hz : Q.mask = 0) : OutOk Q (execRsRead ini addr s) := by
  unfold execRsRead
  refine okIf_ok ?_
  repeat' first
    | with_reducible assumption
    | with_reducible exact Kit.subz hz
    | with_reducible exact Kit.bitz hz
    | with_reducible apply State.busRead_ok
    | with_reducible rfl
    | with_reducible refine ok_ite (fun _ => ?_) (fun _ => ?_)
    | (intro s1; refine (fun (h1 : State.Ok Q s1) => ?_) ?_; rotate_left; subst s1; rotate_right)
    | (intro (f : _ → _); subst f; dsimp -zeta only)
    | (intro s1; fail_if_success (have : State := s1))
    | lift_lets
    | split
    | intro _


theorem execSnapshotRead_ok (h : s.Ok Q) (ini : Initiator) (addr : Nat) (hz : Q.mask = 0) : OutOk Q (execSnapshotRead ini addr s) := by
  unfold execSnapshotRead
  refine okIf_ok ?_
  repeat' first
    | with_reducible assumption
    | with_reducible exact Kit.subz hz
    | with_reducible exact Kit.bitz hz
    | with_reducible apply State.busRead_ok
    | with_reducible rfl
    | with_reducible refine ok_ite (fun _ => ?_) (fun _ => ?_)
    | (intro s1; refine (fun (h1 : State.Ok Q s1) => ?_) ?_; rotate_left; subst s1; rotate_right)
    | (intro (f : _ → _); subst f; dsimp -zeta only)
    | (intro s1; fail_if_success (have : State := s1))
    | lift_lets
    | split
    | intro _


theorem execUndefinedAddressAccess_ok (h : s.Ok Q) (hr : Q.bare) (ini : Initiator) (write : Bool) (addr value : Nat) (hz : Q.mask = 0) : OutOk Q (execUndefinedAddressAccess ini write addr value s) := by
  have hm := hr.mode
  have ht := hr.time
  unfold execUndefinedAddressAccess
  refine okIf_ok ?_
  repeat' first
    | with_reducible assumption
    | with_reducible exact Kit.subz hz
    | with_reducible exact Kit.bitz hz
    | with_reducible apply State.busAccess_ok
    | with_reducible rfl
    | with_reducible refine ok_ite (fun _ => ?_) (fun _ => ?_)
    | (intro s1; refine (fun (h1 : State.Ok Q s1) => ?_) ?_; rotate_left; subst s1; rotate_right)
    | (intro (f : _ → _); subst f; dsimp -zeta only)
    | (intro s1; fail_if_success (have : State := s1))
    | lift_lets
    | split
    | intro _


theorem execMisalignedAccess_ok (h : s.Ok Q) (ini : Initiator) (write : Bool) (addr width value : Nat) (hw : Q.mask &&& 0x182730000000000000000000000000000000000000000000000000000000000000000000000000000000000000000000000000000000000000000000000000000000000000000000002e002000020000400402000000800010001000040800400002000000000008000200000800000000810010000000010000008800080000800800 = 0) : OutOk Q (execMisalignedAccess ini write addr width value s) := by
  unfold execMisalignedAccess
  refine okIf_ok ?_
  repeat' first
    | with_reducible assumption
    | with_reducible exact Kit.bit hw (by decide +kernel)
    | with_reducible exact Kit.sub hw (by decide +kernel)
    | with_reducible apply State.oddAccess_ok
    | with_reducible rfl
    | with_reducible refine ok_ite (fun _ => ?_) (fun _ => ?_)
    | (intro s1; refine (fun (h1 : State.Ok Q s1) => ?_) ?_; rotate_left; subst s1; rotate_right)
    | (intro (f : _ → _); subst f; dsimp -zeta only)
    | (intro s1; fail_if_success (have : State := s1))
    | lift_lets
    | split
    | intro _


theorem execMgtRemapWrite_ok (h : s.Ok Q) (hr : Q.bare) (ini : Initiator) (value : Nat) (hz : Q.mask = 0) : OutOk Q (execMgtRemapWrite ini value s) := by
  have hm := hr.mode
  have ht := hr.time
  unfold execMgtRemapWrite
  refine okIf_ok ?_
  repeat' first
    | with_reducible assumption
    | with_reducible exact Kit.subz hz
    | with_reducible exact Kit.bitz hz
    | with_reducible apply State.busWrite_ok
    | with_reducible rfl
    | with_reducible refine ok_ite (fun _ => ?_) (fun _ => ?_)
    | (intro s1; refine (fun (h1 : State.Ok Q s1) => ?_) ?_; rotate_left; subst s1; rotate_right)
    | (intro (f : _ → _); subst f; dsimp -zeta only)
    | (intro s1; fail_if_success (have : State := s1))
    | lift_lets
    | split
    | intro _


theorem execFlashDiscoveryDone_ok (h : s.Ok Q) (found : FlashFound) (errA errB : Bool) (hw : Q.mask &&& 0x370000000000000000000000000000000000000000000000000000000000000000000000004000000000000000000000000000000000000000000000000000000000000000000000000000000000000000000000000000000000000000000001 = 0) : OutOk Q (execFlashDiscoveryDone found errA errB s) := by
  unfold execFlashDiscoveryDone
  refine okIf_ok ?_
  repeat' first
    | with_reducible assumption
    | with_reducible exact Kit.bit hw (by decide +kernel)
    | with_reducible exact Kit.sub hw (by decide +kernel)
    | with_reducible apply State.discovered_ok
    | with_reducible rfl
    | with_reducible refine ok_ite (fun _ => ?_) (fun _ => ?_)
    | (intro s1; refine (fun (h1 : State.Ok Q s1) => ?_) ?_; rotate_left; subst s1; rotate_right)
    | (intro (f : _ → _); subst f; dsimp -zeta only)
    | (intro s1; fail_if_success (have : State := s1))
    | lift_lets
    | split
    | intro _


theorem execDramTrainingDone_ok (h : s.Ok Q) (mask : Nat) (err : Bool) (hz : Q.mask = 0) : OutOk Q (execDramTrainingDone mask err s) := by
  unfold execDramTrainingDone
  refine okIf_ok ?_
  repeat' first
    | with_reducible assumption
    | with_reducible exact Kit.subz hz
    | with_reducible exact Kit.bitz hz
    | with_reducible apply State.trained_ok
    | with_reducible rfl
    | with_reducible refine ok_ite (fun _ => ?_) (fun _ => ?_)
    | (intro s1; refine (fun (h1 : State.Ok Q s1) => ?_) ?_; rotate_left; subst s1; rotate_right)
    | (intro (f : _ → _); subst f; dsimp -zeta only)
    | (intro s1; fail_if_success (have : State := s1))
    | lift_lets
    | split
    | intro _


theorem execImageStreamDone_ok (h : s.Ok Q) (err : Bool) (hz : Q.mask = 0) : OutOk Q (execImageStreamDone err s) := by
  unfold execImageStreamDone
  refine okIf_ok ?_
  repeat' first
    | with_reducible assumption
    | with_reducible exact Kit.subz hz
    | with_reducible exact Kit.bitz hz
    | with_reducible apply State.slotFail_ok
    | with_reducible apply State.streamed_ok
    | with_reducible apply State.checked_ok
    | with_reducible rfl
    | with_reducible refine ok_ite (fun _ => ?_) (fun _ => ?_)
    | (intro s1; refine (fun (h1 : State.Ok Q s1) => ?_) ?_; rotate_left; subst s1; rotate_right)
    | (intro (f : _ → _); subst f; dsimp -zeta only)
    | (intro s1; fail_if_success (have : State := s1))
    | lift_lets
    | split
    | intro _


theorem execLedgerRebuildDone_ok (h : s.Ok Q) (hr : Q.bare) (ok bad : Bool) (hz : Q.mask = 0) : OutOk Q (execLedgerRebuildDone ok bad s) := by
  have hm := hr.mode
  have ht := hr.time
  unfold execLedgerRebuildDone
  refine okIf_ok ?_
  repeat' first
    | with_reducible assumption
    | with_reducible exact Kit.subz hz
    | with_reducible exact Kit.bitz hz
    | with_reducible apply State.bootSteps_ok
    | with_reducible rfl
    | with_reducible refine ok_ite (fun _ => ?_) (fun _ => ?_)
    | (intro s1; refine (fun (h1 : State.Ok Q s1) => ?_) ?_; rotate_left; subst s1; rotate_right)
    | (intro (f : _ → _); subst f; dsimp -zeta only)
    | (intro s1; fail_if_success (have : State := s1))
    | lift_lets
    | split
    | intro _


theorem bootAt_boot {k : Nat} (e : s.bootAt k = true) : s.mode = .boot := by
  unfold State.bootAt State.loading at e
  simp only [Bool.and_eq_true, beq_iff_eq, decide_eq_true_eq] at e
  exact e.1.1.1.1.1

theorem execSelfTestDone_ok (h : s.Ok Q) (hm : Q.anyMode) (ok : Bool) (failU failO skew : List Nat) (hw : Q.mask &&& 0x40c00000000000000000000000000000000000000000000000000000000000000084000140000010002000020000000000000080000000001000000000000000000000000000002040000000000000000840008000001000060000000000000000000000000000000000000000000020000000000000000000000000000006e080001d = 0) :
    OutOk Q (execSelfTestDone ok failU failO skew s) := by
  refine okIf_ok (ok_ite (fun c => ?_) (fun _ => h))
  rcases hm with hn | hn
  · exact ok_ite (fun _ => State.selfTestPassed_ok h hn _ _ _ (Kit.sub hw (by decide +kernel)))
      (fun _ => State.bootFail_ok (State.bootCode_ok h _ _ (Kit.sub hw (by decide +kernel))) (Kit.sub hw (by decide +kernel)))
  · exact nomatch (bootAt_boot (Bool.and_eq_true_iff.mp c).1).symm.trans (h.1.m _ hn)

theorem execBootArm_ok (h : s.Ok Q)  (hw : Q.mask &&& 0x100000000000000000000000000000000000000000000000000000000000000000000000000000000020000000000000000020000000000000000000000000000000000000000000002000200002000040040200000080001000100004080040000200000000000800020001c800000000810010000000010000008800080000800800 = 0) : OutOk Q (execBootArm s) := by
  unfold execBootArm
  refine okIf_ok ?_
  repeat' first
    | with_reducible assumption
    | with_reducible exact Kit.bit hw (by decide +kernel)
    | with_reducible exact Kit.sub hw (by decide +kernel)
    | with_reducible apply State.bootArm_ok
    | with_reducible rfl
    | with_reducible refine ok_ite (fun _ => ?_) (fun _ => ?_)
    | (intro s1; refine (fun (h1 : State.Ok Q s1) => ?_) ?_; rotate_left; subst s1; rotate_right)
    | (intro (f : _ → _); subst f; dsimp -zeta only)
    | (intro s1; fail_if_success (have : State := s1))
    | lift_lets
    | split
    | intro _


theorem execFltRecDone_ok (h : s.Ok Q)  (hz : Q.mask = 0) : OutOk Q (execFltRecDone s) := by
  unfold execFltRecDone
  refine okIf_ok ?_
  repeat' first
    | with_reducible assumption
    | with_reducible exact Kit.subz hz
    | with_reducible exact Kit.bitz hz
    | with_reducible apply State.flightDone_ok
    | with_reducible rfl
    | with_reducible refine ok_ite (fun _ => ?_) (fun _ => ?_)
    | (intro s1; refine (fun (h1 : State.Ok Q s1) => ?_) ?_; rotate_left; subst s1; rotate_right)
    | (intro (f : _ → _); subst f; dsimp -zeta only)
    | (intro s1; fail_if_success (have : State := s1))
    | lift_lets
    | split
    | intro _


theorem execPlovomLinkState_ok (h : s.Ok Q) (link v lanes : Nat) (hw : Q.mask &&& 0x1300180730000000000000000000000000000000000000000000000000000000000000000000000080000000000000000000000000000000000000000000000000000000000000000000022e022420020000400402000000800010001000040800400002000000000008000200000800000000810010000000010000008800080000800800 = 0) : OutOk Q (execPlovomLinkState link v lanes s) := by
  unfold execPlovomLinkState
  refine okIf_ok ?_
  repeat' first
    | with_reducible assumption
    | with_reducible exact Kit.bit hw (by decide +kernel)
    | with_reducible exact Kit.sub hw (by decide +kernel)
    | with_reducible apply State.plvLanes_ok
    | with_reducible rfl
    | with_reducible refine ok_ite (fun _ => ?_) (fun _ => ?_)
    | (intro s1; refine (fun (h1 : State.Ok Q s1) => ?_) ?_; rotate_left; subst s1; rotate_right)
    | (intro (f : _ → _); subst f; dsimp -zeta only)
    | (intro s1; fail_if_success (have : State := s1))
    | lift_lets
    | split
    | intro _


theorem execPlvInit_ok (h : s.Ok Q) (link p np cpl : Nat) (hw : Q.mask &&& 0x100010000000000000000000000000000000000000000000000000000000000000000000000000fe000000000000000000000000000000000000000000000000000000000000000000000200000000000000000000000000000000000000000000000000000000000000000000000000000000000000000000000000000000000000000000 = 0) : OutOk Q (execPlvInit link p np cpl s) := by
  unfold execPlvInit
  refine okIf_ok ?_
  repeat' first
    | with_reducible assumption
    | with_reducible exact Kit.bit hw (by decide +kernel)
    | with_reducible exact Kit.sub hw (by decide +kernel)
    | with_reducible apply State.plvInitFrame_ok
    | with_reducible rfl
    | with_reducible refine ok_ite (fun _ => ?_) (fun _ => ?_)
    | (intro s1; refine (fun (h1 : State.Ok Q s1) => ?_) ?_; rotate_left; subst s1; rotate_right)
    | (intro (f : _ → _); subst f; dsimp -zeta only)
    | (intro s1; fail_if_success (have : State := s1))
    | lift_lets
    | split
    | intro _


theorem execPlvRead_ok (h : s.Ok Q) (link tag addr len : Nat) (hz : Q.mask = 0) : OutOk Q (execPlvRead link tag addr len s) := by
  unfold execPlvRead
  refine okIf_ok ?_
  repeat' first
    | with_reducible assumption
    | with_reducible exact Kit.subz hz
    | with_reducible exact Kit.bitz hz
    | with_reducible apply State.plvRead_ok
    | with_reducible rfl
    | with_reducible refine ok_ite (fun _ => ?_) (fun _ => ?_)
    | (intro s1; refine (fun (h1 : State.Ok Q s1) => ?_) ?_; rotate_left; subst s1; rotate_right)
    | (intro (f : _ → _); subst f; dsimp -zeta only)
    | (intro s1; fail_if_success (have : State := s1))
    | lift_lets
    | split
    | intro _


theorem execPlvWrite_ok (h : s.Ok Q) (hr : Q.bare) (link tag addr : Nat) (data : List Byte) (hz : Q.mask = 0) : OutOk Q (execPlvWrite link tag addr data s) := by
  have hm := hr.mode
  have ht := hr.time
  unfold execPlvWrite
  refine okIf_ok ?_
  repeat' first
    | with_reducible assumption
    | with_reducible exact Kit.subz hz
    | with_reducible exact Kit.bitz hz
    | with_reducible apply State.plvWrite_ok
    | with_reducible rfl
    | with_reducible refine ok_ite (fun _ => ?_) (fun _ => ?_)
    | (intro s1; refine (fun (h1 : State.Ok Q s1) => ?_) ?_; rotate_left; subst s1; rotate_right)
    | (intro (f : _ → _); subst f; dsimp -zeta only)
    | (intro s1; fail_if_success (have : State := s1))
    | lift_lets
    | split
    | intro _


theorem execPlvPwrite_ok (h : s.Ok Q) (hr : Q.bare) (link addr : Nat) (data : List Byte) (hz : Q.mask = 0) : OutOk Q (execPlvPwrite link addr data s) := by
  have hm := hr.mode
  have ht := hr.time
  unfold execPlvPwrite
  refine okIf_ok ?_
  repeat' first
    | with_reducible assumption
    | with_reducible exact Kit.subz hz
    | with_reducible exact Kit.bitz hz
    | with_reducible apply State.plvPwrite_ok
    | with_reducible rfl
    | with_reducible refine ok_ite (fun _ => ?_) (fun _ => ?_)
    | (intro s1; refine (fun (h1 : State.Ok Q s1) => ?_) ?_; rotate_left; subst s1; rotate_right)
    | (intro (f : _ → _); subst f; dsimp -zeta only)
    | (intro s1; fail_if_success (have : State := s1))
    | lift_lets
    | split
    | intro _


theorem execPlvMsg_ok (h : s.Ok Q) (link index data : Nat) (hw : Q.mask &&& 0x200000000000000000000000000000000000000000000000000000000000000000000000000000c4000000000000000000000000000000000000000000000000000000000000000000000020000000000000000000000000000000000000000000000000000000000000000000000000000000000000000000000000000000000000000000 = 0) : OutOk Q (execPlvMsg link index data s) := by
  unfold execPlvMsg
  refine okIf_ok ?_
  repeat' first
    | with_reducible assumption
    | with_reducible exact Kit.bit hw (by decide +kernel)
    | with_reducible exact Kit.sub hw (by decide +kernel)
    | with_reducible apply State.plvMsg_ok
    | with_reducible rfl
    | with_reducible refine ok_ite (fun _ => ?_) (fun _ => ?_)
    | (intro s1; refine (fun (h1 : State.Ok Q s1) => ?_) ?_; rotate_left; subst s1; rotate_right)
    | (intro (f : _ → _); subst f; dsimp -zeta only)
    | (intro s1; fail_if_success (have : State := s1))
    | lift_lets
    | split
    | intro _


theorem execPlvCpl_ok (h : s.Ok Q) (link tag status : Nat) (data : List Byte) (hw : Q.mask &&& 0x30018073000000000000000000000000000000000000000000000000000000000000000000000c480000000000000000000000000000000000000000000000000000000000000000000002e022420020000400402000000800010001000040800400002000000000008000200000800000000810010000000010000008800080000800800 = 0) : OutOk Q (execPlvCpl link tag status data s) := by
  unfold execPlvCpl
  refine okIf_ok ?_
  repeat' first
    | with_reducible assumption
    | with_reducible exact Kit.bit hw (by decide +kernel)
    | with_reducible exact Kit.sub hw (by decide +kernel)
    | with_reducible apply State.plvCpl_ok
    | with_reducible rfl
    | with_reducible refine ok_ite (fun _ => ?_) (fun _ => ?_)
    | (intro s1; refine (fun (h1 : State.Ok Q s1) => ?_) ?_; rotate_left; subst s1; rotate_right)
    | (intro (f : _ → _); subst f; dsimp -zeta only)
    | (intro s1; fail_if_success (have : State := s1))
    | lift_lets
    | split
    | intro _


theorem execPlvBadFrame_ok (h : s.Ok Q) (link : Nat) (crc : Bool) (hw : Q.mask &&& 0x80000000000000000000000000000000000000000000000000000000000000000000000400000000000000000000000000000000000000000000000000000000000000000000000000000000000000000000000000000000000000000000 = 0) : OutOk Q (execPlvBadFrame link crc s) := by
  unfold execPlvBadFrame
  refine okIf_ok ?_
  repeat' first
    | with_reducible assumption
    | with_reducible exact Kit.bit hw (by decide +kernel)
    | with_reducible exact Kit.sub hw (by decide +kernel)
    | with_reducible apply State.satAdd_ok
    | with_reducible apply State.setLat_ok
    | with_reducible rfl
    | with_reducible refine ok_ite (fun _ => ?_) (fun _ => ?_)
    | (intro s1; refine (fun (h1 : State.Ok Q s1) => ?_) ?_; rotate_left; subst s1; rotate_right)
    | (intro (f : _ → _); subst f; dsimp -zeta only)
    | (intro s1; fail_if_success (have : State := s1))
    | lift_lets
    | split
    | intro _


theorem execPlvAck_ok (h : s.Ok Q) (link seq : Nat) (hw : Q.mask &&& 0x10000000000000000000000000000000000000000000000000000000000000000000000000000022000000000000000000000000000000000000000000000000000000000000000000000000000000000000000000000000000000000000000000000000000000000000000000000000000000000000000000000000000000000000000000 = 0) : OutOk Q (execPlvAck link seq s) := by
  unfold execPlvAck
  refine okIf_ok ?_
  repeat' first
    | with_reducible assumption
    | with_reducible exact Kit.bit hw (by decide +kernel)
    | with_reducible exact Kit.sub hw (by decide +kernel)
    | with_reducible apply State.plvFree_ok
    | with_reducible apply State.pump_ok
    | with_reducible rfl
    | with_reducible refine ok_ite (fun _ => ?_) (fun _ => ?_)
    | (intro s1; refine (fun (h1 : State.Ok Q s1) => ?_) ?_; rotate_left; subst s1; rotate_right)
    | (intro (f : _ → _); subst f; dsimp -zeta only)
    | (intro s1; fail_if_success (have : State := s1))
    | lift_lets
    | split
    | intro _


theorem execPlvNak_ok (h : s.Ok Q) (link seq : Nat) (hw : Q.mask &&& 0x13001807300000000000000000000000000000000000000000000000000000000000000000000022800000000000000000000000000000000000000000000000000000000000000000000a2e022420020000400402000000800010001000040800400002000000000008000200000800000000810010000000010000008800080000800800 = 0) : OutOk Q (execPlvNak link seq s) := by
  unfold execPlvNak
  refine okIf_ok ?_
  repeat' first
    | with_reducible assumption
    | with_reducible exact Kit.bit hw (by decide +kernel)
    | with_reducible exact Kit.sub hw (by decide +kernel)
    | with_reducible apply State.plvFree_ok
    | with_reducible apply State.plvReplay_ok
    | with_reducible apply State.pump_ok
    | with_reducible rfl
    | with_reducible refine ok_ite (fun _ => ?_) (fun _ => ?_)
    | (intro s1; refine (fun (h1 : State.Ok Q s1) => ?_) ?_; rotate_left; subst s1; rotate_right)
    | (intro (f : _ → _); subst f; dsimp -zeta only)
    | (intro s1; fail_if_success (have : State := s1))
    | lift_lets
    | split
    | intro _


theorem execPlvReplayTimeout_ok (h : s.Ok Q) (link : Nat) (hw : Q.mask &&& 0x13001807300000000000000000000000000000000000000000000000000000000000000000000000800000000000000000000000000000000000000000000000000000000000000000000a2e022420020000400402000000800010001000040800400002000000000008000200000800000000810010000000010000008800080000800800 = 0) : OutOk Q (execPlvReplayTimeout link s) := by
  unfold execPlvReplayTimeout
  refine okIf_ok ?_
  repeat' first
    | with_reducible assumption
    | with_reducible exact Kit.bit hw (by decide +kernel)
    | with_reducible exact Kit.sub hw (by decide +kernel)
    | with_reducible apply State.plvReplay_ok
    | with_reducible rfl
    | with_reducible refine ok_ite (fun _ => ?_) (fun _ => ?_)
    | (intro s1; refine (fun (h1 : State.Ok Q s1) => ?_) ?_; rotate_left; subst s1; rotate_right)
    | (intro (f : _ → _); subst f; dsimp -zeta only)
    | (intro s1; fail_if_success (have : State := s1))
    | lift_lets
    | split
    | intro _


theorem execPlvCredit_ok (h : s.Ok Q) (link p np cpl : Nat) (hw : Q.mask &&& 0x1000000000000000000000000000000000000000000000000000000000000000000000000000002a000000000000000000000000000000000000000000000000000000000000000000000000000000000000000000000000000000000000000000000000000000000000000000000000000000000000000000000000000000000000000000 = 0) : OutOk Q (execPlvCredit link p np cpl s) := by
  unfold execPlvCredit
  refine okIf_ok ?_
  repeat' first
    | with_reducible assumption
    | with_reducible exact Kit.bit hw (by decide +kernel)
    | with_reducible exact Kit.sub hw (by decide +kernel)
    | with_reducible apply State.plvCredit_ok
    | with_reducible rfl
    | with_reducible refine ok_ite (fun _ => ?_) (fun _ => ?_)
    | (intro s1; refine (fun (h1 : State.Ok Q s1) => ?_) ?_; rotate_left; subst s1; rotate_right)
    | (intro (f : _ → _); subst f; dsimp -zeta only)
    | (intro s1; fail_if_success (have : State := s1))
    | lift_lets
    | split
    | intro _


end Sys2Proof.Machine
end

