-- ==== Sys2Proof/Laws/State.lean ====
section
/-! SUPPORT. Laws of the state: what each update leaves alone, field by field, and what a register or an
internal word reads after a write. The other writers of registers (setReg, setTfld, setFld, setTbit, setRbit,
setMapBit, satAdd, wrapInc) rewrite to setTreg, the other readers to treg; likewise for internal words. -/
set_option Elab.async false
namespace Sys2Proof.Machine

variable (s : State)

/-! ### One form of writing and reading -/

@[simp] theorem State.setReg_eq (r : Reg) (v i j : Nat) : s.setReg r v i j = s.setTreg r 0 v i j := rfl
@[simp] theorem State.setTfld_eq (r : Reg) (t hi lo v i j : Nat) :
    s.setTfld r t hi lo v i j = s.setTreg r t (setBits (s.treg r t i j) hi lo v) i j := rfl
@[simp] theorem State.setFld_eq (r : Reg) (hi lo v i j : Nat) :
    s.setFld r hi lo v i j = s.setTreg r 0 (setBits (s.treg r 0 i j) hi lo v) i j := rfl
@[simp] theorem State.setTbit_eq (r : Reg) (t b i j : Nat) (v : Bool) :
    s.setTbit r t b v i j = s.setTreg r t (setBit (s.treg r t i j) b v) i j := rfl
@[simp] theorem State.setRbit_eq (r : Reg) (b i j : Nat) (v : Bool) :
    s.setRbit r b v i j = s.setTreg r 0 (setBit (s.treg r 0 i j) b v) i j := rfl
@[simp] theorem State.setMapBit_eq (r : Reg) (t n : Nat) (v : Bool) :
    s.setMapBit r t n v = s.setTreg r t (setBit (s.treg r t (n / 32)) (n % 32) v) (n / 32) := rfl
@[simp] theorem State.satAdd_eq (r : Reg) (k t i j : Nat) :
    s.satAdd r k t i j = s.setTreg r t (satInc 32 (s.treg r t i j) k) i j := rfl
@[simp] theorem State.wrapInc_eq (r : Reg) (t i j : Nat) :
    s.wrapInc r t i j = s.setTreg r t ((s.treg r t i j + 1) % 2 ^ 32) i j := rfl
@[simp] theorem State.reg_eq (r : Reg) (i j : Nat) : s.reg r i j = s.treg r 0 i j := rfl
@[simp] theorem State.tfld_eq (r : Reg) (t hi lo i j : Nat) : s.tfld r t hi lo i j = bits (s.treg r t i j) hi lo := rfl
@[simp] theorem State.fld_eq (r : Reg) (hi lo i j : Nat) : s.fld r hi lo i j = bits (s.treg r 0 i j) hi lo := rfl
@[simp] theorem State.tbit_eq (r : Reg) (t b i j : Nat) : s.tbit r t b i j = bit (s.treg r t i j) b := rfl
@[simp] theorem State.rbit_eq (r : Reg) (b i j : Nat) : s.rbit r b i j = bit (s.treg r 0 i j) b := rfl
@[simp] theorem State.mapBit_eq (r : Reg) (t n : Nat) : s.mapBit r t n = bit (s.treg r t (n / 32)) (n % 32) := rfl
@[simp] theorem State.nlat_eq (l : Lat) (t i j : Nat) : s.nlat l t i j = (s.lat l t i j).toNat := rfl
@[simp] theorem State.flag_eq (l : Lat) (t i j : Nat) : s.flag l t i j = decide (s.lat l t i j ≠ 0) := rfl
@[simp] theorem State.setFlag_eq (l : Lat) (v : Bool) (t i j : Nat) :
    s.setFlag l v t i j = s.setLat l (if v then 1 else 0) t i j := rfl
@[simp] theorem State.send_eq (src kind addr xaddr : Nat) :
    s.send src kind addr xaddr = s.sendClass src kind (kindClass kind) addr xaddr := rfl

/-! ### Reading after writing -/

/-- A register element reads the low 32 bits of what was written to it. -/
theorem State.treg_setTreg_same (h : spWf 0#32 s.regs = true) (r : Reg) (t v i j : Nat) :
    (s.setTreg r t v i j).treg r t i j = v % 2 ^ 32 := by
  have e := spGet_put_same (r.key t i j) (BitVec.ofNat 32 v ^^^ BitVec.ofNat 32 r.desc.reset) h
  unfold State.treg State.setTreg
  dsimp only
  rw [e, BitVec.xor_assoc, BitVec.xor_self, BitVec.xor_zero, BitVec.toNat_ofNat]

/-- The other elements read what they read before. -/
theorem State.treg_setTreg_other (h : spWf 0#32 s.regs = true) {r q : Reg} {t i j t' i' j' : Nat} (v : Nat)
    (hk : q.key t' i' j' ≠ r.key t i j) : (s.setTreg r t v i j).treg q t' i' j' = s.treg q t' i' j' := by
  unfold State.treg State.setTreg
  dsimp only
  rw [spGet_put_other _ h hk]

/-- The elements of another register read what they read before. -/
theorem State.treg_setTreg_ne (h : spWf 0#32 s.regs = true) {r q : Reg} (t v i j t' i' j' : Nat) (hr : q ≠ r) :
    (s.setTreg r t v i j).treg q t' i' j' = s.treg q t' i' j' :=
  State.treg_setTreg_other s h v (fun e => hr (Reg.key_inj e).1)

/-- The other elements of the first index read what they read before. -/
theorem State.treg_setTreg_ix (h : spWf 0#32 s.regs = true) {r : Reg} (t v i j i' j' : Nat) (hi : i' % 16384 ≠ i % 16384) :
    (s.setTreg r t v i j).treg r t i' j' = s.treg r t i' j' :=
  State.treg_setTreg_other s h v (fun e => hi (Reg.key_inj e).2.2.1)

/-- The other tiles read what they read before. -/
theorem State.treg_setTreg_tile (h : spWf 0#32 s.regs = true) {r : Reg} (t v i j t' i' j' : Nat) (ht : t' % 256 ≠ t % 256) :
    (s.setTreg r t v i j).treg r t' i' j' = s.treg r t' i' j' :=
  State.treg_setTreg_other s h v (fun e => ht (Reg.key_inj e).2.1)

/-- An internal word reads what was written to it. -/
theorem State.lat_setLat_same (h : spWf (0 : Int) s.lats = true) (l : Lat) (v : Int) (t i j : Nat) :
    (s.setLat l v t i j).lat l t i j = v := spGet_put_same (l.key t i j) v h

/-- The other internal words read what they read before. -/
theorem State.lat_setLat_other (h : spWf (0 : Int) s.lats = true) {l m : Lat} {t i j t' i' j' : Nat} (v : Int)
    (hk : m.key t' i' j' ≠ l.key t i j) : (s.setLat l v t i j).lat m t' i' j' = s.lat m t' i' j' :=
  spGet_put_other _ h hk

/-- The internal words of another name read what they read before. -/
theorem State.lat_setLat_ne (h : spWf (0 : Int) s.lats = true) {l m : Lat} (v : Int) (t i j t' i' j' : Nat) (hl : m ≠ l) :
    (s.setLat l v t i j).lat m t' i' j' = s.lat m t' i' j' :=
  State.lat_setLat_other s h v (fun e => hl (Lat.key_inj e).1)

/-- Writing a register keeps the canonical form of the registers. -/
theorem State.setTreg_regs_wf (h : spWf 0#32 s.regs = true) (r : Reg) (t v i j : Nat) :
    spWf 0#32 (s.setTreg r t v i j).regs = true := spPut_wf _ _ h

/-- Writing an internal word keeps the canonical form of the internal words. -/
theorem State.setLat_lats_wf (h : spWf (0 : Int) s.lats = true) (l : Lat) (v : Int) (t i j : Nat) :
    spWf (0 : Int) (s.setLat l v t i j).lats = true := spPut_wf _ _ h

/-! ### What a write leaves alone -/

@[simp] theorem State.setTreg_pending (r : Reg) (t v i j : Nat) : (s.setTreg r t v i j).pending = s.pending := rfl
@[simp] theorem State.setTreg_lats (r : Reg) (t v i j : Nat) : (s.setTreg r t v i j).lats = s.lats := rfl
@[simp] theorem State.setTreg_regs0 (r : Reg) (t v i j : Nat) : (s.setTreg r t v i j).regs0 = s.regs0 := rfl
@[simp] theorem State.setTreg_lats0 (r : Reg) (t v i j : Nat) : (s.setTreg r t v i j).lats0 = s.lats0 := rfl
@[simp] theorem State.setTreg_mode0 (r : Reg) (t v i j : Nat) : (s.setTreg r t v i j).mode0 = s.mode0 := rfl
@[simp] theorem State.setTreg_time0 (r : Reg) (t v i j : Nat) : (s.setTreg r t v i j).time0 = s.time0 := rfl
@[simp] theorem State.setTreg_banks (r : Reg) (t v i j : Nat) : (s.setTreg r t v i j).banks = s.banks := rfl
@[simp] theorem State.setTreg_bankEcc (r : Reg) (t v i j : Nat) : (s.setTreg r t v i j).bankEcc = s.bankEcc := rfl
@[simp] theorem State.setTreg_cs (r : Reg) (t v i j : Nat) : (s.setTreg r t v i j).cs = s.cs := rfl
@[simp] theorem State.setTreg_dm (r : Reg) (t v i j : Nat) : (s.setTreg r t v i j).dm = s.dm := rfl
@[simp] theorem State.setTreg_sram (r : Reg) (t v i j : Nat) : (s.setTreg r t v i j).sram = s.sram := rfl
@[simp] theorem State.setTreg_dram (r : Reg) (t v i j : Nat) : (s.setTreg r t v i j).dram = s.dram := rfl
@[simp] theorem State.setTreg_dramUe (r : Reg) (t v i j : Nat) : (s.setTreg r t v i j).dramUe = s.dramUe := rfl
@[simp] theorem State.setTreg_flash (r : Reg) (t v i j : Nat) : (s.setTreg r t v i j).flash = s.flash := rfl
@[simp] theorem State.setTreg_snap (r : Reg) (t v i j : Nat) : (s.setTreg r t v i j).snap = s.snap := rfl
@[simp] theorem State.setTreg_resp (r : Reg) (t v i j : Nat) : (s.setTreg r t v i j).resp = s.resp := rfl
@[simp] theorem State.setTreg_mode (r : Reg) (t v i j : Nat) : (s.setTreg r t v i j).mode = s.mode := rfl
@[simp] theorem State.setTreg_prior (r : Reg) (t v i j : Nat) : (s.setTreg r t v i j).prior = s.prior := rfl
@[simp] theorem State.setTreg_sable (r : Reg) (t v i j : Nat) : (s.setTreg r t v i j).sable = s.sable := rfl
@[simp] theorem State.setTreg_grain (r : Reg) (t v i j : Nat) : (s.setTreg r t v i j).grain = s.grain := rfl
@[simp] theorem State.setTreg_time (r : Reg) (t v i j : Nat) : (s.setTreg r t v i j).time = s.time := rfl
@[simp] theorem State.setTreg_freeCtr (r : Reg) (t v i j : Nat) : (s.setTreg r t v i j).freeCtr = s.freeCtr := rfl
@[simp] theorem State.setTreg_faults (r : Reg) (t v i j : Nat) : (s.setTreg r t v i j).faults = s.faults := rfl
@[simp] theorem State.setTreg_unacks (r : Reg) (t v i j : Nat) : (s.setTreg r t v i j).unacks = s.unacks := rfl
@[simp] theorem State.setTreg_events (r : Reg) (t v i j : Nat) : (s.setTreg r t v i j).events = s.events := rfl
@[simp] theorem State.setTreg_commit (r : Reg) (t v i j : Nat) : (s.setTreg r t v i j).commit = s.commit := rfl
@[simp] theorem State.setTreg_slotHist (r : Reg) (t v i j : Nat) : (s.setTreg r t v i j).slotHist = s.slotHist := rfl
@[simp] theorem State.setTreg_blocks (r : Reg) (t v i j : Nat) : (s.setTreg r t v i j).blocks = s.blocks := rfl
@[simp] theorem State.setTreg_blocks0 (r : Reg) (t v i j : Nat) : (s.setTreg r t v i j).blocks0 = s.blocks0 := rfl
@[simp] theorem State.setTreg_occs (r : Reg) (t v i j : Nat) : (s.setTreg r t v i j).occs = s.occs := rfl
@[simp] theorem State.setTreg_wearQ (r : Reg) (t v i j : Nat) : (s.setTreg r t v i j).wearQ = s.wearQ := rfl
@[simp] theorem State.setTreg_samples (r : Reg) (t v i j : Nat) : (s.setTreg r t v i j).samples = s.samples := rfl
@[simp] theorem State.setTreg_capQ (r : Reg) (t v i j : Nat) : (s.setTreg r t v i j).capQ = s.capQ := rfl
@[simp] theorem State.setTreg_pipe (r : Reg) (t v i j : Nat) : (s.setTreg r t v i j).pipe = s.pipe := rfl
@[simp] theorem State.setTreg_tlb (r : Reg) (t v i j : Nat) : (s.setTreg r t v i j).tlb = s.tlb := rfl
@[simp] theorem State.setTreg_dmaUnits (r : Reg) (t v i j : Nat) : (s.setTreg r t v i j).dmaUnits = s.dmaUnits := rfl
@[simp] theorem State.setTreg_swpBuf (r : Reg) (t v i j : Nat) : (s.setTreg r t v i j).swpBuf = s.swpBuf := rfl
@[simp] theorem State.setTreg_swpX (r : Reg) (t v i j : Nat) : (s.setTreg r t v i j).swpX = s.swpX := rfl
@[simp] theorem State.setTreg_plvOut (r : Reg) (t v i j : Nat) : (s.setTreg r t v i j).plvOut = s.plvOut := rfl
@[simp] theorem State.setTreg_mbox (r : Reg) (t v i j : Nat) : (s.setTreg r t v i j).mbox = s.mbox := rfl
@[simp] theorem State.setTreg_txts (r : Reg) (t v i j : Nat) : (s.setTreg r t v i j).txts = s.txts := rfl
@[simp] theorem State.setTreg_txq (r : Reg) (t v i j : Nat) : (s.setTreg r t v i j).txq = s.txq := rfl
@[simp] theorem State.setTreg_sent (r : Reg) (t v i j : Nat) : (s.setTreg r t v i j).sent = s.sent := rfl
@[simp] theorem State.setTreg_mac (r : Reg) (t v i j : Nat) : (s.setTreg r t v i j).mac = s.mac := rfl
@[simp] theorem State.setTreg_learnQ (r : Reg) (t v i j : Nat) : (s.setTreg r t v i j).learnQ = s.learnQ := rfl
@[simp] theorem State.setTreg_lpm (r : Reg) (t v i j : Nat) : (s.setTreg r t v i j).lpm = s.lpm := rfl
@[simp] theorem State.setTreg_reqQ (r : Reg) (t v i j : Nat) : (s.setTreg r t v i j).reqQ = s.reqQ := rfl
@[simp] theorem State.setTreg_eng (r : Reg) (t v i j : Nat) : (s.setTreg r t v i j).eng = s.eng := rfl
@[simp] theorem State.setTreg_mgmt (r : Reg) (t v i j : Nat) : (s.setTreg r t v i j).mgmt = s.mgmt := rfl
@[simp] theorem State.lat_setTreg (r : Reg) (t v i j : Nat) (m : Lat) (t1 i1 j1 : Nat) : (s.setTreg r t v i j).lat m t1 i1 j1 = s.lat m t1 i1 j1 := rfl
@[simp] theorem State.setLat_pending (l : Lat) (v : Int) (t i j : Nat) : (s.setLat l v t i j).pending = s.pending := rfl
@[simp] theorem State.setLat_regs (l : Lat) (v : Int) (t i j : Nat) : (s.setLat l v t i j).regs = s.regs := rfl
@[simp] theorem State.setLat_regs0 (l : Lat) (v : Int) (t i j : Nat) : (s.setLat l v t i j).regs0 = s.regs0 := rfl
@[simp] theorem State.setLat_lats0 (l : Lat) (v : Int) (t i j : Nat) : (s.setLat l v t i j).lats0 = s.lats0 := rfl
@[simp] theorem State.setLat_mode0 (l : Lat) (v : Int) (t i j : Nat) : (s.setLat l v t i j).mode0 = s.mode0 := rfl
@[simp] theorem State.setLat_time0 (l : Lat) (v : Int) (t i j : Nat) : (s.setLat l v t i j).time0 = s.time0 := rfl
@[simp] theorem State.setLat_banks (l : Lat) (v : Int) (t i j : Nat) : (s.setLat l v t i j).banks = s.banks := rfl
@[simp] theorem State.setLat_bankEcc (l : Lat) (v : Int) (t i j : Nat) : (s.setLat l v t i j).bankEcc = s.bankEcc := rfl
@[simp] theorem State.setLat_cs (l : Lat) (v : Int) (t i j : Nat) : (s.setLat l v t i j).cs = s.cs := rfl
@[simp] theorem State.setLat_dm (l : Lat) (v : Int) (t i j : Nat) : (s.setLat l v t i j).dm = s.dm := rfl
@[simp] theorem State.setLat_sram (l : Lat) (v : Int) (t i j : Nat) : (s.setLat l v t i j).sram = s.sram := rfl
@[simp] theorem State.setLat_dram (l : Lat) (v : Int) (t i j : Nat) : (s.setLat l v t i j).dram = s.dram := rfl
@[simp] theorem State.setLat_dramUe (l : Lat) (v : Int) (t i j : Nat) : (s.setLat l v t i j).dramUe = s.dramUe := rfl
@[simp] theorem State.setLat_flash (l : Lat) (v : Int) (t i j : Nat) : (s.setLat l v t i j).flash = s.flash := rfl
@[simp] theorem State.setLat_snap (l : Lat) (v : Int) (t i j : Nat) : (s.setLat l v t i j).snap = s.snap := rfl
@[simp] theorem State.setLat_resp (l : Lat) (v : Int) (t i j : Nat) : (s.setLat l v t i j).resp = s.resp := rfl
@[simp] theorem State.setLat_mode (l : Lat) (v : Int) (t i j : Nat) : (s.setLat l v t i j).mode = s.mode := rfl
@[simp] theorem State.setLat_prior (l : Lat) (v : Int) (t i j : Nat) : (s.setLat l v t i j).prior = s.prior := rfl
@[simp] theorem State.setLat_sable (l : Lat) (v : Int) (t i j : Nat) : (s.setLat l v t i j).sable = s.sable := rfl
@[simp] theorem State.setLat_grain (l : Lat) (v : Int) (t i j : Nat) : (s.setLat l v t i j).grain = s.grain := rfl
@[simp] theorem State.setLat_time (l : Lat) (v : Int) (t i j : Nat) : (s.setLat l v t i j).time = s.time := rfl
@[simp] theorem State.setLat_freeCtr (l : Lat) (v : Int) (t i j : Nat) : (s.setLat l v t i j).freeCtr = s.freeCtr := rfl
@[simp] theorem State.setLat_faults (l : Lat) (v : Int) (t i j : Nat) : (s.setLat l v t i j).faults = s.faults := rfl
@[simp] theorem State.setLat_unacks (l : Lat) (v : Int) (t i j : Nat) : (s.setLat l v t i j).unacks = s.unacks := rfl
@[simp] theorem State.setLat_events (l : Lat) (v : Int) (t i j : Nat) : (s.setLat l v t i j).events = s.events := rfl
@[simp] theorem State.setLat_commit (l : Lat) (v : Int) (t i j : Nat) : (s.setLat l v t i j).commit = s.commit := rfl
@[simp] theorem State.setLat_slotHist (l : Lat) (v : Int) (t i j : Nat) : (s.setLat l v t i j).slotHist = s.slotHist := rfl
@[simp] theorem State.setLat_blocks (l : Lat) (v : Int) (t i j : Nat) : (s.setLat l v t i j).blocks = s.blocks := rfl
@[simp] theorem State.setLat_blocks0 (l : Lat) (v : Int) (t i j : Nat) : (s.setLat l v t i j).blocks0 = s.blocks0 := rfl
@[simp] theorem State.setLat_occs (l : Lat) (v : Int) (t i j : Nat) : (s.setLat l v t i j).occs = s.occs := rfl
@[simp] theorem State.setLat_wearQ (l : Lat) (v : Int) (t i j : Nat) : (s.setLat l v t i j).wearQ = s.wearQ := rfl
@[simp] theorem State.setLat_samples (l : Lat) (v : Int) (t i j : Nat) : (s.setLat l v t i j).samples = s.samples := rfl
@[simp] theorem State.setLat_capQ (l : Lat) (v : Int) (t i j : Nat) : (s.setLat l v t i j).capQ = s.capQ := rfl
@[simp] theorem State.setLat_pipe (l : Lat) (v : Int) (t i j : Nat) : (s.setLat l v t i j).pipe = s.pipe := rfl
@[simp] theorem State.setLat_tlb (l : Lat) (v : Int) (t i j : Nat) : (s.setLat l v t i j).tlb = s.tlb := rfl
@[simp] theorem State.setLat_dmaUnits (l : Lat) (v : Int) (t i j : Nat) : (s.setLat l v t i j).dmaUnits = s.dmaUnits := rfl
@[simp] theorem State.setLat_swpBuf (l : Lat) (v : Int) (t i j : Nat) : (s.setLat l v t i j).swpBuf = s.swpBuf := rfl
@[simp] theorem State.setLat_swpX (l : Lat) (v : Int) (t i j : Nat) : (s.setLat l v t i j).swpX = s.swpX := rfl
@[simp] theorem State.setLat_plvOut (l : Lat) (v : Int) (t i j : Nat) : (s.setLat l v t i j).plvOut = s.plvOut := rfl
@[simp] theorem State.setLat_mbox (l : Lat) (v : Int) (t i j : Nat) : (s.setLat l v t i j).mbox = s.mbox := rfl
@[simp] theorem State.setLat_txts (l : Lat) (v : Int) (t i j : Nat) : (s.setLat l v t i j).txts = s.txts := rfl
@[simp] theorem State.setLat_txq (l : Lat) (v : Int) (t i j : Nat) : (s.setLat l v t i j).txq = s.txq := rfl
@[simp] theorem State.setLat_sent (l : Lat) (v : Int) (t i j : Nat) : (s.setLat l v t i j).sent = s.sent := rfl
@[simp] theorem State.setLat_mac (l : Lat) (v : Int) (t i j : Nat) : (s.setLat l v t i j).mac = s.mac := rfl
@[simp] theorem State.setLat_learnQ (l : Lat) (v : Int) (t i j : Nat) : (s.setLat l v t i j).learnQ = s.learnQ := rfl
@[simp] theorem State.setLat_lpm (l : Lat) (v : Int) (t i j : Nat) : (s.setLat l v t i j).lpm = s.lpm := rfl
@[simp] theorem State.setLat_reqQ (l : Lat) (v : Int) (t i j : Nat) : (s.setLat l v t i j).reqQ = s.reqQ := rfl
@[simp] theorem State.setLat_eng (l : Lat) (v : Int) (t i j : Nat) : (s.setLat l v t i j).eng = s.eng := rfl
@[simp] theorem State.setLat_mgmt (l : Lat) (v : Int) (t i j : Nat) : (s.setLat l v t i j).mgmt = s.mgmt := rfl
@[simp] theorem State.treg_setLat (l : Lat) (v : Int) (t i j : Nat) (q : Reg) (t1 i1 j1 : Nat) : (s.setLat l v t i j).treg q t1 i1 j1 = s.treg q t1 i1 j1 := rfl
@[simp] theorem State.sendClass_pending (a b c d e : Nat) : (s.sendClass a b c d e).pending = s.pending := rfl
@[simp] theorem State.sendClass_regs (a b c d e : Nat) : (s.sendClass a b c d e).regs = s.regs := rfl
@[simp] theorem State.sendClass_lats (a b c d e : Nat) : (s.sendClass a b c d e).lats = s.lats := rfl
@[simp] theorem State.sendClass_regs0 (a b c d e : Nat) : (s.sendClass a b c d e).regs0 = s.regs0 := rfl
@[simp] theorem State.sendClass_lats0 (a b c d e : Nat) : (s.sendClass a b c d e).lats0 = s.lats0 := rfl
@[simp] theorem State.sendClass_mode0 (a b c d e : Nat) : (s.sendClass a b c d e).mode0 = s.mode0 := rfl
@[simp] theorem State.sendClass_time0 (a b c d e : Nat) : (s.sendClass a b c d e).time0 = s.time0 := rfl
@[simp] theorem State.sendClass_banks (a b c d e : Nat) : (s.sendClass a b c d e).banks = s.banks := rfl
@[simp] theorem State.sendClass_bankEcc (a b c d e : Nat) : (s.sendClass a b c d e).bankEcc = s.bankEcc := rfl
@[simp] theorem State.sendClass_cs (a b c d e : Nat) : (s.sendClass a b c d e).cs = s.cs := rfl
@[simp] theorem State.sendClass_dm (a b c d e : Nat) : (s.sendClass a b c d e).dm = s.dm := rfl
@[simp] theorem State.sendClass_sram (a b c d e : Nat) : (s.sendClass a b c d e).sram = s.sram := rfl
@[simp] theorem State.sendClass_dram (a b c d e : Nat) : (s.sendClass a b c d e).dram = s.dram := rfl
@[simp] theorem State.sendClass_dramUe (a b c d e : Nat) : (s.sendClass a b c d e).dramUe = s.dramUe := rfl
@[simp] theorem State.sendClass_flash (a b c d e : Nat) : (s.sendClass a b c d e).flash = s.flash := rfl
@[simp] theorem State.sendClass_snap (a b c d e : Nat) : (s.sendClass a b c d e).snap = s.snap := rfl
@[simp] theorem State.sendClass_resp (a b c d e : Nat) : (s.sendClass a b c d e).resp = s.resp := rfl
@[simp] theorem State.sendClass_mode (a b c d e : Nat) : (s.sendClass a b c d e).mode = s.mode := rfl
@[simp] theorem State.sendClass_prior (a b c d e : Nat) : (s.sendClass a b c d e).prior = s.prior := rfl
@[simp] theorem State.sendClass_sable (a b c d e : Nat) : (s.sendClass a b c d e).sable = s.sable := rfl
@[simp] theorem State.sendClass_grain (a b c d e : Nat) : (s.sendClass a b c d e).grain = s.grain := rfl
@[simp] theorem State.sendClass_time (a b c d e : Nat) : (s.sendClass a b c d e).time = s.time := rfl
@[simp] theorem State.sendClass_freeCtr (a b c d e : Nat) : (s.sendClass a b c d e).freeCtr = s.freeCtr := rfl
@[simp] theorem State.sendClass_unacks (a b c d e : Nat) : (s.sendClass a b c d e).unacks = s.unacks := rfl
@[simp] theorem State.sendClass_events (a b c d e : Nat) : (s.sendClass a b c d e).events = s.events := rfl
@[simp] theorem State.sendClass_commit (a b c d e : Nat) : (s.sendClass a b c d e).commit = s.commit := rfl
@[simp] theorem State.sendClass_slotHist (a b c d e : Nat) : (s.sendClass a b c d e).slotHist = s.slotHist := rfl
@[simp] theorem State.sendClass_blocks (a b c d e : Nat) : (s.sendClass a b c d e).blocks = s.blocks := rfl
@[simp] theorem State.sendClass_blocks0 (a b c d e : Nat) : (s.sendClass a b c d e).blocks0 = s.blocks0 := rfl
@[simp] theorem State.sendClass_occs (a b c d e : Nat) : (s.sendClass a b c d e).occs = s.occs := rfl
@[simp] theorem State.sendClass_wearQ (a b c d e : Nat) : (s.sendClass a b c d e).wearQ = s.wearQ := rfl
@[simp] theorem State.sendClass_samples (a b c d e : Nat) : (s.sendClass a b c d e).samples = s.samples := rfl
@[simp] theorem State.sendClass_capQ (a b c d e : Nat) : (s.sendClass a b c d e).capQ = s.capQ := rfl
@[simp] theorem State.sendClass_pipe (a b c d e : Nat) : (s.sendClass a b c d e).pipe = s.pipe := rfl
@[simp] theorem State.sendClass_tlb (a b c d e : Nat) : (s.sendClass a b c d e).tlb = s.tlb := rfl
@[simp] theorem State.sendClass_dmaUnits (a b c d e : Nat) : (s.sendClass a b c d e).dmaUnits = s.dmaUnits := rfl
@[simp] theorem State.sendClass_swpBuf (a b c d e : Nat) : (s.sendClass a b c d e).swpBuf = s.swpBuf := rfl
@[simp] theorem State.sendClass_swpX (a b c d e : Nat) : (s.sendClass a b c d e).swpX = s.swpX := rfl
@[simp] theorem State.sendClass_plvOut (a b c d e : Nat) : (s.sendClass a b c d e).plvOut = s.plvOut := rfl
@[simp] theorem State.sendClass_mbox (a b c d e : Nat) : (s.sendClass a b c d e).mbox = s.mbox := rfl
@[simp] theorem State.sendClass_txts (a b c d e : Nat) : (s.sendClass a b c d e).txts = s.txts := rfl
@[simp] theorem State.sendClass_txq (a b c d e : Nat) : (s.sendClass a b c d e).txq = s.txq := rfl
@[simp] theorem State.sendClass_sent (a b c d e : Nat) : (s.sendClass a b c d e).sent = s.sent := rfl
@[simp] theorem State.sendClass_mac (a b c d e : Nat) : (s.sendClass a b c d e).mac = s.mac := rfl
@[simp] theorem State.sendClass_learnQ (a b c d e : Nat) : (s.sendClass a b c d e).learnQ = s.learnQ := rfl
@[simp] theorem State.sendClass_lpm (a b c d e : Nat) : (s.sendClass a b c d e).lpm = s.lpm := rfl
@[simp] theorem State.sendClass_reqQ (a b c d e : Nat) : (s.sendClass a b c d e).reqQ = s.reqQ := rfl
@[simp] theorem State.sendClass_eng (a b c d e : Nat) : (s.sendClass a b c d e).eng = s.eng := rfl
@[simp] theorem State.sendClass_mgmt (a b c d e : Nat) : (s.sendClass a b c d e).mgmt = s.mgmt := rfl
@[simp] theorem State.treg_sendClass (a b c d e : Nat) (q : Reg) (t1 i1 j1 : Nat) : (s.sendClass a b c d e).treg q t1 i1 j1 = s.treg q t1 i1 j1 := rfl
@[simp] theorem State.lat_sendClass (a b c d e : Nat) (m : Lat) (t1 i1 j1 : Nat) : (s.sendClass a b c d e).lat m t1 i1 j1 = s.lat m t1 i1 j1 := rfl
@[simp] theorem State.respond_pending (e : Bool) (d : Nat) : (s.respond e d).pending = s.pending := rfl
@[simp] theorem State.respond_regs (e : Bool) (d : Nat) : (s.respond e d).regs = s.regs := rfl
@[simp] theorem State.respond_lats (e : Bool) (d : Nat) : (s.respond e d).lats = s.lats := rfl
@[simp] theorem State.respond_regs0 (e : Bool) (d : Nat) : (s.respond e d).regs0 = s.regs0 := rfl
@[simp] theorem State.respond_lats0 (e : Bool) (d : Nat) : (s.respond e d).lats0 = s.lats0 := rfl
@[simp] theorem State.respond_mode0 (e : Bool) (d : Nat) : (s.respond e d).mode0 = s.mode0 := rfl
@[simp] theorem State.respond_time0 (e : Bool) (d : Nat) : (s.respond e d).time0 = s.time0 := rfl
@[simp] theorem State.respond_banks (e : Bool) (d : Nat) : (s.respond e d).banks = s.banks := rfl
@[simp] theorem State.respond_bankEcc (e : Bool) (d : Nat) : (s.respond e d).bankEcc = s.bankEcc := rfl
@[simp] theorem State.respond_cs (e : Bool) (d : Nat) : (s.respond e d).cs = s.cs := rfl
@[simp] theorem State.respond_dm (e : Bool) (d : Nat) : (s.respond e d).dm = s.dm := rfl
@[simp] theorem State.respond_sram (e : Bool) (d : Nat) : (s.respond e d).sram = s.sram := rfl
@[simp] theorem State.respond_dram (e : Bool) (d : Nat) : (s.respond e d).dram = s.dram := rfl
@[simp] theorem State.respond_dramUe (e : Bool) (d : Nat) : (s.respond e d).dramUe = s.dramUe := rfl
@[simp] theorem State.respond_flash (e : Bool) (d : Nat) : (s.respond e d).flash = s.flash := rfl
@[simp] theorem State.respond_snap (e : Bool) (d : Nat) : (s.respond e d).snap = s.snap := rfl
@[simp] theorem State.respond_mode (e : Bool) (d : Nat) : (s.respond e d).mode = s.mode := rfl
@[simp] theorem State.respond_prior (e : Bool) (d : Nat) : (s.respond e d).prior = s.prior := rfl
@[simp] theorem State.respond_sable (e : Bool) (d : Nat) : (s.respond e d).sable = s.sable := rfl
@[simp] theorem State.respond_grain (e : Bool) (d : Nat) : (s.respond e d).grain = s.grain := rfl
@[simp] theorem State.respond_time (e : Bool) (d : Nat) : (s.respond e d).time = s.time := rfl
@[simp] theorem State.respond_freeCtr (e : Bool) (d : Nat) : (s.respond e d).freeCtr = s.freeCtr := rfl
@[simp] theorem State.respond_faults (e : Bool) (d : Nat) : (s.respond e d).faults = s.faults := rfl
@[simp] theorem State.respond_unacks (e : Bool) (d : Nat) : (s.respond e d).unacks = s.unacks := rfl
@[simp] theorem State.respond_events (e : Bool) (d : Nat) : (s.respond e d).events = s.events := rfl
@[simp] theorem State.respond_commit (e : Bool) (d : Nat) : (s.respond e d).commit = s.commit := rfl
@[simp] theorem State.respond_slotHist (e : Bool) (d : Nat) : (s.respond e d).slotHist = s.slotHist := rfl
@[simp] theorem State.respond_blocks (e : Bool) (d : Nat) : (s.respond e d).blocks = s.blocks := rfl
@[simp] theorem State.respond_blocks0 (e : Bool) (d : Nat) : (s.respond e d).blocks0 = s.blocks0 := rfl
@[simp] theorem State.respond_occs (e : Bool) (d : Nat) : (s.respond e d).occs = s.occs := rfl
@[simp] theorem State.respond_wearQ (e : Bool) (d : Nat) : (s.respond e d).wearQ = s.wearQ := rfl
@[simp] theorem State.respond_samples (e : Bool) (d : Nat) : (s.respond e d).samples = s.samples := rfl
@[simp] theorem State.respond_capQ (e : Bool) (d : Nat) : (s.respond e d).capQ = s.capQ := rfl
@[simp] theorem State.respond_pipe (e : Bool) (d : Nat) : (s.respond e d).pipe = s.pipe := rfl
@[simp] theorem State.respond_tlb (e : Bool) (d : Nat) : (s.respond e d).tlb = s.tlb := rfl
@[simp] theorem State.respond_dmaUnits (e : Bool) (d : Nat) : (s.respond e d).dmaUnits = s.dmaUnits := rfl
@[simp] theorem State.respond_swpBuf (e : Bool) (d : Nat) : (s.respond e d).swpBuf = s.swpBuf := rfl
@[simp] theorem State.respond_swpX (e : Bool) (d : Nat) : (s.respond e d).swpX = s.swpX := rfl
@[simp] theorem State.respond_plvOut (e : Bool) (d : Nat) : (s.respond e d).plvOut = s.plvOut := rfl
@[simp] theorem State.respond_mbox (e : Bool) (d : Nat) : (s.respond e d).mbox = s.mbox := rfl
@[simp] theorem State.respond_txts (e : Bool) (d : Nat) : (s.respond e d).txts = s.txts := rfl
@[simp] theorem State.respond_txq (e : Bool) (d : Nat) : (s.respond e d).txq = s.txq := rfl
@[simp] theorem State.respond_sent (e : Bool) (d : Nat) : (s.respond e d).sent = s.sent := rfl
@[simp] theorem State.respond_mac (e : Bool) (d : Nat) : (s.respond e d).mac = s.mac := rfl
@[simp] theorem State.respond_learnQ (e : Bool) (d : Nat) : (s.respond e d).learnQ = s.learnQ := rfl
@[simp] theorem State.respond_lpm (e : Bool) (d : Nat) : (s.respond e d).lpm = s.lpm := rfl
@[simp] theorem State.respond_reqQ (e : Bool) (d : Nat) : (s.respond e d).reqQ = s.reqQ := rfl
@[simp] theorem State.respond_eng (e : Bool) (d : Nat) : (s.respond e d).eng = s.eng := rfl
@[simp] theorem State.respond_mgmt (e : Bool) (d : Nat) : (s.respond e d).mgmt = s.mgmt := rfl
@[simp] theorem State.treg_respond (e : Bool) (d : Nat) (q : Reg) (t1 i1 j1 : Nat) : (s.respond e d).treg q t1 i1 j1 = s.treg q t1 i1 j1 := rfl
@[simp] theorem State.lat_respond (e : Bool) (d : Nat) (m : Lat) (t1 i1 j1 : Nat) : (s.respond e d).lat m t1 i1 j1 = s.lat m t1 i1 j1 := rfl

@[simp] theorem State.sendClass_faults (a b c d e : Nat) :
    (s.sendClass a b c d e).faults = s.faults ++ [⟨a, b, c, d, e, s.time.sec, s.time.ns⟩] := rfl
@[simp] theorem State.respond_resp (e : Bool) (d : Nat) : (s.respond e d).resp = ⟨e, d⟩ := rfl
@[simp] theorem okIf_true (s : State) : okIf true s = .next s := rfl

end Sys2Proof.Machine
end

