-- ==== Sys2Proof/Laws/Reads.lean ====
section
/-! SUPPORT. What a register, an internal word or a field of the state reads after an operation, in one equation
each. -/
set_option Elab.async false
namespace Sys2Proof.Machine

variable (s : State)

/-- A register after a register was written. -/
theorem State.treg_setTreg (h : spWf 0#32 s.regs = true) (r q : Reg) (t v i j t' i' j' : Nat) :
    (s.setTreg r t v i j).treg q t' i' j' =
      if q = r ∧ t' % 256 = t % 256 ∧ i' % 16384 = i % 16384 ∧ j' % 2048 = j % 2048 then v % 2 ^ 32 else s.treg q t' i' j' := by
  split
  · next e =>
    obtain ⟨rfl, e1, e2, e3⟩ := e
    have k : q.key t' i' j' = q.key t i j := by unfold Reg.key; rw [e1, e2, e3]
    have a := State.treg_setTreg_same s h q t v i j
    unfold State.treg at a ⊢
    rw [k, a]
  · next e => exact State.treg_setTreg_other s h v (fun k => e (Reg.key_inj k))

/-- An internal word after an internal word was written. -/
theorem State.lat_setLat (h : spWf (0 : Int) s.lats = true) (l m : Lat) (v : Int) (t i j t' i' j' : Nat) :
    (s.setLat l v t i j).lat m t' i' j' =
      if m = l ∧ t' % 256 = t % 256 ∧ i' % 16384 = i % 16384 ∧ j' % 2048 = j % 2048 then v else s.lat m t' i' j' := by
  split
  · next e =>
    obtain ⟨rfl, e1, e2, e3⟩ := e
    have k : m.key t' i' j' = m.key t i j := by unfold Lat.key; rw [e1, e2, e3]
    have a := State.lat_setLat_same s h m v t i j
    unfold State.lat at a ⊢
    rw [k, a]
  · next e => exact State.lat_setLat_other s h v (fun k => e (Lat.key_inj k))

theorem treg_mod (r : Reg) (t i j : Nat) : s.treg r t i j % 2 ^ 32 = s.treg r t i j := Nat.mod_eq_of_lt (treg_lt s r t i j)

/-- Soundness through a register write. -/
theorem State.Sound.setTreg {s : State} (h : s.Sound) (r : Reg) (t v i j : Nat) : (s.setTreg r t v i j).Sound :=
  { h with regs := State.setTreg_regs_wf s h.regs r t v i j }

/-- Soundness through a write of an internal word. -/
theorem State.Sound.setLat {s : State} (h : s.Sound) (l : Lat) (v : Int) (t i j : Nat) : (s.setLat l v t i j).Sound :=
  { h with lats := State.setLat_lats_wf s h.lats l v t i j }

/-- What publishing adds to the queue of occurrences. -/
def State.published (s : State) (src hop : Nat) : List Event :=
  if bit (s.treg .EVT_SRC 0 src 0) 31 then [⟨src, bits (s.treg .EVT_SRC 0 src 0) 8 0, hop⟩] else []

theorem State.publish_eq (src hop : Nat) : s.publish src hop = { s with events := s.events ++ s.published src hop } := by
  unfold State.publish State.published
  dsimp only
  by_cases c : bit (s.treg .EVT_SRC 0 src 0) 31 = true
  · rw [State.reg_eq, if_pos c, if_pos c]
  · rw [State.reg_eq, if_neg c, if_neg c, List.append_nil]

/-- The registers that entering a mode writes: the stamp (R29). -/
def State.stamped (s : State) : State :=
  ((s.setReg .MGT_MODE_STAMP_NS s.time.ns).setReg .MGT_MODE_STAMP_S_LO s.time.sec).setReg .MGT_MODE_STAMP_S_HI (s.time.sec / 2 ^ 32)

/-- The grains at which SLOTTED was entered or left are internal words; nothing else changes (R127). -/
theorem State.sltMark_eq (b : Bool) : s.sltMark b = { s with lats := (s.sltMark b).lats } := by
  cases b <;> rfl

theorem State.sltMark_mode (b : Bool) (m : Mode) : { s with mode := m }.sltMark b = { s.sltMark b with mode := m } := by
  cases b <;> rfl

/-- What entering mode `m` notes and stamps. -/
def State.modeMarked (s : State) (m : Mode) : State := (s.sltMark (decide (s.mode = Mode.slotted) != decide (m = Mode.slotted))).stamped

/-- Entering another mode: the mode, the note, the stamp and the event; nothing else (R22, R29). -/
theorem State.enterMode_eq {m : Mode} (hm : s.mode ≠ m) :
    s.enterMode m = { s.modeMarked m with mode := m, events := s.events ++ (s.modeMarked m).published 0x200 0 } := by
  have e : s.enterMode m =
      (({ s with mode := m }.sltMark (decide (s.mode = Mode.slotted) != decide (m = Mode.slotted))).stamped).publish 0x200 := by
    unfold State.enterMode
    rw [if_neg hm]
    rfl
  have e4 : (({ s with mode := m }.sltMark (decide (s.mode = Mode.slotted) != decide (m = Mode.slotted))).stamped) =
      { s.modeMarked m with mode := m } := by
    rw [State.sltMark_mode]
    rfl
  have e5 : (s.modeMarked m).events = s.events := by
    unfold State.modeMarked
    rw [State.sltMark_eq]
    rfl
  rw [e, e4, State.publish_eq, ← e5]
  rfl

theorem State.enterMode_mode (m : Mode) : (s.enterMode m).mode = m := by
  by_cases h : s.mode = m
  · unfold State.enterMode; rw [if_pos h]; exact h
  · rw [State.enterMode_eq s h]

theorem State.enterMode_prior (m : Mode) : (s.enterMode m).prior = s.prior := by
  by_cases h : s.mode = m
  · unfold State.enterMode; rw [if_pos h]
  · rw [State.enterMode_eq s h]
    show (s.modeMarked m).prior = _
    unfold State.modeMarked
    cases (decide (s.mode = Mode.slotted) != decide (m = Mode.slotted)) <;> rfl

theorem State.treg_modeMarked (m : Mode) (r : Reg) (t i j : Nat) : (s.modeMarked m).treg r t i j = s.stamped.treg r t i j := by
  unfold State.modeMarked
  cases (decide (s.mode = Mode.slotted) != decide (m = Mode.slotted)) <;> rfl

theorem State.treg_enterMode {m : Mode} (hm : s.mode ≠ m) (r : Reg) (t i j : Nat) :
    (s.enterMode m).treg r t i j = s.stamped.treg r t i j := by
  rw [State.enterMode_eq s hm]; exact s.treg_modeMarked m r t i j

theorem State.lat_enterMode (h : spWf (0 : Int) s.lats = true) (m : Mode) {l : Lat} (hl : l ≠ .sltAt) (t i j : Nat) :
    (s.enterMode m).lat l t i j = s.lat l t i j := by
  by_cases e : s.mode = m
  · unfold State.enterMode; rw [if_pos e]
  · rw [State.enterMode_eq s e]
    show (s.modeMarked m).lat l t i j = _
    unfold State.modeMarked
    cases (decide (s.mode = Mode.slotted) != decide (m = Mode.slotted))
    · rfl
    · have h1 := State.setLat_lats_wf s h .sltAt (s.grain + 1) 0 0 0
      have h2 := State.setLat_lats_wf _ h1 .sltAt (s.lat .sltAt 0) 1 0 0
      have h3 := State.setLat_lats_wf _ h2 .sltAt (s.lat .sltAt 1) 2 0 0
      exact (State.lat_setLat_ne _ h3 _ _ _ _ _ _ _ hl).trans ((State.lat_setLat_ne _ h2 _ _ _ _ _ _ _ hl).trans
        ((State.lat_setLat_ne _ h1 _ _ _ _ _ _ _ hl).trans (State.lat_setLat_ne _ h _ _ _ _ _ _ _ hl)))

theorem State.Sound.stamped {s : State} (h : s.Sound) : s.stamped.Sound := ((h.setTreg ..).setTreg ..).setTreg ..

theorem State.Sound.modeMarked {s : State} (h : s.Sound) (m : Mode) : (s.modeMarked m).Sound := by
  unfold State.modeMarked
  cases (decide (s.mode = Mode.slotted) != decide (m = Mode.slotted))
  · exact h.stamped
  · exact ((((h.setLat ..).setLat ..).setLat ..).setLat ..).stamped

theorem State.Sound.enterMode {s : State} (h : s.Sound) (m : Mode) : (s.enterMode m).Sound := by
  by_cases e : s.mode = m
  · unfold State.enterMode; rw [if_pos e]; exact h
  · rw [State.enterMode_eq s e]; exact { h.modeMarked m with }

end Sys2Proof.Machine
end

