-- ==== Sys2Proof/Laws/Frames.lean ====
section
/-! SUPPORT. From the kits to what the statements say: a kit that keeps every register but those of a list, or the
memories, and what it gives for the state after a command. -/
set_option Elab.async false
namespace Sys2Proof.Machine

/-- A list of registers as a set of bits. -/
def regMask : List Reg → Nat
  | [] => 0
  | r :: l => 2 ^ r.ctorIdx ||| regMask l

/-- The registers that are not in a list, as a set of bits. -/
def otherMask (l : List Reg) : Nat := (2 ^ 512 - 1) ^^^ regMask l

/-- The memories, as a set of bits: banks, control stores, data memories, SRAM, DRAM and flash. -/
def memMask : Nat := 2 ^ 1028 + 2 ^ 1030 + 2 ^ 1031 + 2 ^ 1032 + 2 ^ 1033 + 2 ^ 1035

theorem Reg.ctorIdx_lt (r : Reg) : r.ctorIdx < 512 := by cases r <;> decide

theorem regMask_bit {l : List Reg} {r : Reg} (h : r ∉ l) : (regMask l).testBit r.ctorIdx = false := by
  induction l with
  | nil => exact Nat.zero_testBit _
  | cons a q ih =>
    rw [List.mem_cons, not_or] at h
    unfold regMask
    rw [Nat.testBit_or, ih h.2, Nat.testBit_two_pow, Bool.or_false, decide_eq_false_iff_not]
    exact fun e => h.1 (Reg.ctorIdx_inj e.symm)

theorem otherMask_bit {l : List Reg} {r : Reg} (h : r ∉ l) : (otherMask l).testBit r.ctorIdx = true := by
  unfold otherMask
  rw [Nat.testBit_xor, regMask_bit h, Nat.testBit_two_pow_sub_one, Bool.xor_false]
  exact decide_eq_true (Reg.ctorIdx_lt r)

/-- A kit that keeps the registers outside a list. -/
theorem State.Ok.others {s0 t : State} {q g m tm sb mask} (h : t.Ok ⟨q, g, m, tm, sb, s0, mask⟩) (l : List Reg)
    (e : mask &&& otherMask l = otherMask l) : t.otherRegs s0 l := by
  intro r hr τ i j
  refine h.1.kregs r ?_ τ i j
  have a := congrArg (·.testBit r.ctorIdx) e
  simp only [Nat.testBit_and, otherMask_bit hr, Bool.and_true] at a
  exact a

/-- A kit that keeps the memories. -/
theorem State.Ok.mem {s0 t : State} {q g m tm sb mask} (h : t.Ok ⟨q, g, m, tm, sb, s0, mask⟩)
    (e : mask &&& memMask = memMask) : t.memAs s0 := by
  have k : ∀ i, memMask.testBit i = true → mask.testBit i = true := fun i hi => by
    have a := congrArg (·.testBit i) e
    simp only [Nat.testBit_and, hi, Bool.and_true] at a
    exact a
  have b := h.1.kbanks (k 1028 (by decide +kernel))
  have c := h.1.kcs (k 1030 (by decide +kernel))
  have d := h.1.kdm (k 1031 (by decide +kernel))
  have f := h.1.ksram (k 1032 (by decide +kernel))
  have g' := h.1.kdram (k 1033 (by decide +kernel))
  have i := h.1.kflash (k 1035 (by decide +kernel))
  refine ⟨fun _ => ?_, fun _ => ?_, fun _ => ?_, fun _ _ => ?_, fun _ => ?_, fun _ => ?_⟩
  · unfold State.sramByte; rw [f]
  · rw [g']
  · unfold State.flashByte; rw [i]
  · unfold State.bankWord; rw [b]
  · rw [c]
  · rw [d]

end Sys2Proof.Machine
end

