-- ==== Sys2Proof/Machine/Pads.lean ====
section
/-! DEFINITION. The pass-through pins in each mode (R500), XSPI_RESET_N at the start of BOOT among them (R497). -/
namespace Sys2Proof.Machine

/-- What a pass-through pin is held at (R500). -/
inductive Pad where
  | low
  | high
  /-- Electrical idle, of a lane. -/
  | idle
  /-- An open-drain output that is not driven. -/
  | released
  /-- Driven by the block that the pin serves. -/
  | driven
deriving DecidableEq, Repr

/-- The part is held in reset: RESET_N is low, or the power-on reset is not released (R457, R458). -/
def State.underReset (s : State) : Bool := s.lat .bootStep == 20

/-- S_TX of the signalling ports. -/
def State.sTxPad (s : State) : Pad := if s.underReset || s.mode == .boot || s.mode == .sable then .idle else .driven

/-- PLV_TX of a link (R445, R472). -/
def State.plvTxPad (s : State) (l : Nat) : Pad := if s.underReset || !s.plvEnabled l then .idle else .driven

/-- DDR_CKE: low, with the DRAM in self-refresh, until training drives it (R434). -/
def State.ddrCkePad (s : State) : Pad :=
  if s.underReset || (s.mode == .boot && decide (s.lat .bootStep < 3)) then .low else .driven

/-- DRAM_RESET_N. -/
def State.dramResetPad (s : State) : Pad := if s.underReset then .low else if s.mode = .boot then .driven else .high

/-- XSPI_CS_N. -/
def State.xspiCsPad (s : State) : Pad := if s.underReset then .high else .driven

/-- XSPI_RESET_N: low in reset and for the first 10 µs of every BOOT, then high (R497). -/
def State.xspiResetPad (s : State) : Pad :=
  if s.underReset || (s.mode == .boot && decide ((s.grain : Int) < s.lat .rstAt + 10000)) then .low else .high

/-- PPS_OUT (R277). -/
def State.ppsOutPad (s : State) : Pad := if s.lat .ppsOut = 0 then .low else .high

/-- SAFE_N: low with the Sable line driven. -/
def State.safePad (s : State) : Pad := if s.sable then .low else .released

/-- THERM_N (R361). -/
def State.thermPad (s : State) : Pad := if !s.underReset && s.thermN then .low else .released

end Sys2Proof.Machine
end

