-- ==== Sys2Proof/Tests/Slice0.lean ====
section
/-! SUPPORT. The model's own tests: every well-formedness check refuses an ill-formed command, and for every statement
states and operands that meet its hypotheses, clause by clause. A premise inside a conclusion that rests on a free value
(the fused key hash, the choice of the route solver, the ECC of an unwritten word) is met by no evaluation. -/
set_option Elab.async false

open Sys2Proof Sys2Proof.Machine

namespace Sys2Proof.Tests

/-- The invariant of a state, as a computation. -/
def soundB (s : State) : Bool :=
  (spWf 0#32 s.regs && spWf (0 : Int) s.lats && spWf 0#32 s.regs0 && spWf (0 : Int) s.lats0 && spWf 0#32 s.banks &&
    spWf 0 s.bankEcc && spWf 0#264 s.cs && spWf 0#32 s.dm && spWf 0#8 s.sram && spWf 0xFF#8 s.flash) &&
    (spRising s.dram && spRising s.snap && decide (s.time.ns < 1000000000) && decide (s.time.sec < 2 ^ 48) &&
    decide (s.time.frac < 2 ^ 32) && decide (s.mbox.length ≤ 16) && decide (s.unacks.length ≤ 256) &&
    decide (s.slotHist.length ≤ 256))

theorem sound_of {s : State} (h : soundB s = true) : s.Sound := by
  simp only [soundB, Bool.and_eq_true, decide_eq_true_eq] at h
  obtain ⟨⟨⟨⟨⟨⟨⟨⟨⟨⟨h1, h2⟩, h3⟩, h4⟩, h5⟩, h6⟩, h7⟩, h8⟩, h9⟩, h10⟩, ⟨⟨⟨⟨⟨⟨h11, h12⟩, h13⟩, h14⟩, h15⟩, h16⟩, h17⟩, h18⟩ := h
  exact ⟨h1, h2, h3, h4, h5, h6, h7, h8, h9, h10, h11, h12, h13, h14, h15, h16, h17, h18⟩

/-- The access of `State.reaches`, as a computation. -/
def reachesB (s : State) (ini : Initiator) (a : Nat) (r : Reg) (τ i j : Nat) (w : Bool) : Bool :=
  decide (a < 2 ^ 40 ∧ a % 4 = 0 ∧ s.regOf a = some (r, τ, i, j)) &&
    [Target.reg, .tile].any (fun tg => decide (s.target a = some (tg, a)) && pathOk (busPort ini) tg w)

theorem reaches_of {s : State} {ini : Initiator} {a : Nat} {r : Reg} {τ i j : Nat} {w : Bool}
    (h : reachesB s ini a r τ i j w = true) : s.reaches ini a r τ i j w := by
  simp only [reachesB, Bool.and_eq_true, decide_eq_true_eq, List.any_cons, List.any_nil, Bool.or_false, Bool.or_eq_true] at h
  obtain ⟨⟨h1, h2, h3⟩, ⟨h4, h5⟩ | ⟨h4, h5⟩⟩ := h
  · exact ⟨h1, h2, h3, _, h4, Or.inl rfl, h5⟩
  · exact ⟨h1, h2, h3, _, h4, Or.inr rfl, h5⟩

theorem some_of {α : Type} {o : Option α} {d : α} (h : o.isSome = true) : o = some (o.getD d) := by
  cases o <;> simp_all

theorem pair_of {α β : Type} {p : α × β} {a : α} (h : p.1 = a) : p = (a, p.2) := by
  cases p; simp_all

theorem tri_of {α β γ : Type} {p : α × β × γ} {a : α} (h : p.1 = a) : p = (a, p.2.1, p.2.2) := by
  rw [← h]

theorem eta2 {α β : Type} (p : α × β) : p = (p.1, p.2) := rfl

theorem eta3 {α β γ : Type} (p : α × β × γ) : p = (p.1, p.2.1, p.2.2) := rfl

theorem inl_of {α β : Type} {o : α ⊕ β} {d : α} (h : o.isLeft = true) : o = .inl (o.getLeft?.getD d) := by
  cases o <;> simp_all

theorem inr_of {α β : Type} {o : α ⊕ β} {d : β} (h : o.isRight = true) : o = .inr (o.getRight?.getD d) := by
  cases o <;> simp_all

/-- The bytes of a read. -/
def okBytes : MemRes → List Byte
  | .ok bs => bs
  | _ => []

/-- Whether a read gives bytes. -/
def isOk : MemRes → Bool
  | .ok _ => true
  | _ => false

theorem ok_of {o : MemRes} (h : isOk o = true) : o = .ok (okBytes o) := by
  cases o <;> simp_all [isOk, okBytes]

/-- The state a command goes on with. -/
def nextOf : Host.Outcome State Fault Refusal → State
  | .next t => t
  | _ => State.reset

/-- Whether a command goes on. -/
def isNext : Host.Outcome State Fault Refusal → Bool
  | .next _ => true
  | _ => false

theorem next_of {o : Host.Outcome State Fault Refusal} (h : isNext o = true) : o = .next (nextOf o) := by
  cases o <;> simp_all [isNext, nextOf]

/-- A state at the beginning of a grain. -/
def syncS (s : State) : State :=
  { s with regs0 := s.regs, lats0 := s.lats, mode0 := s.mode, time0 := (if s.time0 = ⟨0, 0, 0⟩ then s.time else s.time0), blocks0 := s.blocks }

/-- Register r written, latch l written, mode m. -/
def R (r : Reg) (v : Nat) (s : State) (τ : Nat := 0) (i j : Nat := 0) : State := s.setTreg r τ v i j
def L (l : Machine.Lat) (v : Int) (s : State) (τ : Nat := 0) (i j : Nat := 0) : State := s.setLat l v τ i j
def M (m : Mode) (s : State) : State := { s with mode := m }
/-- tiles 0 and 1 in use; tile 0: channel 0 switch, 1 attenuator, 2 spare; tile 1: channel 0 switch -/
def base : State := { State.reset with mode := .static, time := ⟨7, 5000, 9⟩, grain := 100000 }
  |> R .CAP_INUSE 3 |> (R .CFG_FMAP (2^30) · 0 0) |> (R .CFG_FMAP (2*2^30) · 0 1) |> (R .CFG_FMAP (3*2^30) · 0 2) |> (R .CFG_FMAP (2^30) · 0 64)
  |> R .CAP_FABRIC 4 |> R .DRAM_SIZE 3584 |> L .imgUp 1
def b8 (l : List Nat) : List Byte := l.map (BitVec.ofNat 8)
/-- The CRC of a bank of order 4 with the words 0 and 2 given and no other but its header. -/
def crcOf : Nat → Nat → Nat
  | 1, _ => 152606197
  | _, 0 => 1930239940
  | _, 65023 => 27298059
  | _, 65535 => 2358405694
  | _, _ => 2916967563
def goodBank (b : Nat) (s : State) (sel : Nat := 0) : State :=
  let s := s.setBankWord b 0 sel
  let s := s.setBankWord b 0x180 (2^31 + 256 + s.order)
  s.setBankWord b 0x183 (crcOf (s.bankWord b 0) (s.bankWord b 2))
/-- a two-entry list in memory m naming bank 5, each 10,000 ns -/
def slist (m : Nat) (s : State) : State := s |> (R .SLOT_ENTRY0 10000 · 0 m 0) |> (R .SLOT_ENTRY0 20000 · 0 m 1) |> (R .SLOT_ENTRY1 5 · 0 m 0) |> (R .SLOT_ENTRY1 (2^31+5) · 0 m 1)
def armedS (s : State) : State := (slist 0 s) |> R .SLOT_STATUS 0x40 |> L .pendMem 0 |> L .pendS 7000009000 |> R .SLOT_PEND_LEN 2 |> R .SLOT_PEND_TC_LO 30000 |> R .SLOT_START_NS 9000|> R .SLOT_START_S_LO 7
def runS (s : State) : State := (slist 0 s) |> M .slotted |> R .SLOT_STATUS 0x20 |> R .SLOT_OP_LEN 2 |> R .SLOT_OP_TC_LO 30000 |> R .SLOT_POS (2^31) |> R .SLOT_CYCLE 0xFFFFFFFF |> L .opNext 7000005100 |> L .opNextPos 1
def stopS (s : State) : State := runS s |> R .SLOT_STATUS 0xA0 |> L .stopAt 7000005100 |> L .stopWord 5
/-- a full order-4 map on cells 0..79 -/
def fab (s : State) : State :=
  let s := (List.range 8).foldl (fun s r => R .CFG_FMAP (3*2^30 + r) s 0 r) s
  let s := (List.range 56).foldl (fun s k => R .CFG_FMAP (2^30 + 2^21*(k/8) + k%8) s 0 (8+k)) s
  (List.range 16).foldl (fun s r => R .CFG_FMAP (2*2^30 + r) s 0 (64+r)) s
/-- a bank whose attenuators of the ports in `off` are shut (state 1) and others pass -/
def passBank (b : Nat) (off : Nat → Bool) (s : State) : State :=
  let s := s.setBankWord b 2 ((List.range 16).foldl (fun a j => a + if off j then 2^j else 0) 0)
  goodBank b s

def dOcc : Occ := ⟨0, 0, false, false, false, false, false, 0⟩
def dSlotRec : SlotRec := ⟨0, 0, 0, 0⟩
def dMsg : FaultMsg := ⟨0, 0, 0, 0, 0, 0, 0⟩
def dUnit : DmaUnit := ⟨0, 0, 0, [], [], false, false, 0, 0, none, false⟩
def dFrame : PlvFrame := ⟨0, none, 0, 0, 0, 0, [], 0, 0⟩
def dCirc : CircReq := ⟨0, []⟩
def dEng : EngReq := ⟨dCirc, .retry, [], false, 0, 0, 0, [], false⟩
def dMac : MacEnt := ⟨0, 0, 0, false, false, false, 0, 0, 0, 0⟩
def dLearn : LearnReq := ⟨0, 0, 0, 0⟩
def dLpm : LpmEnt := ⟨0, 0, 0⟩
def dTx : TxFrame := ⟨0, 0, []⟩
def dCommit : Commit := ⟨.slot, false, 0, 0, false, none, false, none, none, 0, false⟩
def dBlock : Block := ⟨0, 0, none, [], false, [], []⟩
def dCap : CapRec := ⟨0, 0, 0, 0, 0⟩
def dCause : XCause := .stream
def dUnack : Unack := ⟨0, none⟩
def dSample : Sample := ⟨0, 0, 0, 0, false, 0, false, false, false, false, 0, none, false, 0, false, 0, false, 0⟩
def dStamp : TxStamp := ⟨0, 0, 0, 0⟩
def dWear : WearRec := ⟨0, 0, 0, 0⟩
def dSec : Section := ⟨0, 0, 0⟩
def dPlvMsg : PlvMsg := ⟨0, 0⟩
def dTN : Target × Nat := (.sram, 0)
def dNB : Nat × Bool := (0, false)
def dNE : Nat × MacEnt := (0, dMac)
def dBN : Bool × Nat := (false, 0)
/-! Every check of Instr.wf refuses a command that fails it. -/

theorem test_illFormed_1 :
    ([.powerOnReset 32 false,
      .powerLoss (List.replicate 9 0),
      .resetNReleased 32,
      .flashDiscoveryDone ⟨(2 ^ 32 + 1), false⟩ false false,
      .dramTrainingDone 256 false,
      .selfTestDone false [176] [] [],
      .selfTestDone false [] [176] [],
      .selfTestDone false [] [] [352 * 16384],
      .bootSlot .core (2 ^ 32),
      .nvmRead .core (2 ^ 32) 0 0 0,
      .nvmRead .core 0 (2 ^ 32) 0 0,
      .nvmRead .core 0 0 (2 ^ 32) 0,
      .nvmRead .core 0 0 0 (2 ^ 32),
      .nvmWrite .core (2 ^ 32) 0 0 0,
      .nvmWrite .core 0 (2 ^ 32) 0 0,
      .nvmWrite .core 0 0 (2 ^ 32) 0,
      .nvmWrite .core 0 0 0 (2 ^ 32),
      .nvmErase .core (2 ^ 32) 0,
      .nvmErase .core 0 (2 ^ 32),
      .imgCheck .core (2 ^ 32)] : List Instr).all (fun c => !c.wf) = true := by
  decide +kernel

theorem test_illFormed_2 :
    ([.deviceCommandDone (2 ^ 32) false,
      .mgtCmdBusyWrite .core (2 ^ 32),
      .mgmtCommandFrame 8 (List.replicate 14 0),
      .mgmtCommandFrame 0 [],
      .registerWrite .core (2 ^ 40) 0,
      .registerWrite .core 2 0,
      .registerWrite .core 0 (2 ^ 32),
      .misalignedAccess .core false (2 ^ 40) 1 0,
      .misalignedAccess .core false 0 3 0,
      .misalignedAccess .core false 8 4 0,
      .undefinedAddressAccess .core false (2 ^ 40) 0,
      .undefinedAddressAccess .core false 2 0,
      .undefinedAddressAccess .core false 0 (2 ^ 32),
      .rsRead .core (2 ^ 40),
      .rsRead .core 2,
      .snapshotRead .core (2 ^ 40),
      .snapshotRead .core 2,
      .spanBoundary 4 0,
      .spanBoundary 0 4,
      .programGrain 176 0 0 0 0] : List Instr).all (fun c => !c.wf) = true := by
  decide +kernel

theorem test_illFormed_3 :
    ([.programGrain 0 2 0 0 0,
      .programGrain 0 0 3968 0 0,
      .programGrain 0 0 0 4096 0,
      .programGrain 0 0 0 0 256,
      .heartbeatReceived 176 0 false,
      .heartbeatReceived 0 2 false,
      .tokenDecision 176 false false false,
      .conversionComplete 176 0 0 0 false false 0,
      .conversionComplete 0 2 0 0 false false 0,
      .conversionComplete 0 0 128 0 false false 0,
      .conversionComplete 0 0 0 16384 false false 0,
      .conversionComplete 0 0 0 0 false false (2 ^ 32),
      .sampleDelivered 176 0,
      .sampleDelivered 0 2,
      .refReady 176,
      .syscalDark 176 0,
      .syscalDark 0 16,
      .syscalGainInject 176 0,
      .syscalGainInject 0 16,
      .syscalGainIllum 176 0] : List Instr).all (fun c => !c.wf) = true := by
  decide +kernel

theorem test_illFormed_4 :
    ([.syscalGainIllum 0 16,
      .syscalAccept 176 0,
      .syscalAccept 0 16,
      .syscalDone 176,
      .owtAutoStart 176,
      .adcOwtCmd 176 0 false,
      .adcOwtCmd 0 128 false,
      .captureRecordWritten 8,
      .captureRingEnable 8,
      .configBroadcast [131072] [],
      .configBroadcast [] [131072],
      .shadowDeadline [176],
      .commitStrobeEdge [176] [],
      .commitStrobeEdge [] [176],
      .guardedGroupLoad 0,
      .guardedGroupLoad 4,
      .legDeparture 176 0 false,
      .legDeparture 0 64 false,
      .heaterSliceFail 176 0,
      .heaterSliceFail 0 64] : List Instr).all (fun c => !c.wf) = true := by
  decide +kernel

theorem test_illFormed_5 :
    ([.htrSwap 176 0 0,
      .htrSwap 0 2 0,
      .htrSwap 0 0 64,
      .currentMeasurement 176 0 0 0,
      .currentMeasurement 0 194 0 0,
      .currentMeasurement 0 0 65536 0,
      .currentMeasurement 0 0 0 65536,
      .monitorScanEnd 176,
      .slotSkewApplyWrite (2 ^ 32),
      .trimPulseStart 176,
      .trimPulseEnd 176,
      .trimCmdPulse 176 0 false 0,
      .trimCmdPulse 0 64 false 0,
      .trimCmdPulse 0 0 false 8,
      .trimCmdTrain 176 0 false,
      .trimCmdTrain 0 64 false,
      .trimCmdAssign 176 0 0,
      .trimCmdAssign 0 64 0,
      .trimCmdAssign 0 0 64,
      .trimTsetWrite 176 0 0 0] : List Instr).all (fun c => !c.wf) = true := by
  decide +kernel

theorem test_illFormed_6 :
    ([.trimTsetWrite 0 8 0 0,
      .trimTsetWrite 0 0 8 0,
      .trimTsetWrite 0 0 0 (2 ^ 32),
      .wearQuery (2 ^ 14),
      .correctionBlockFetch false 1024,
      .correctionBlockArrival false 176 0,
      .correctionBlockArrival false 0 1024,
      .correctionBlockDeadline false 1024,
      .ddsSwap 176,
      .swpCmdStart 256,
      .swpCmdStop 256,
      .swpCmdResume 256,
      .swpJumpWrite 256,
      .sweepFrameArrival 256 0 0,
      .sweepFrameArrival 0 (2 ^ 24) 0,
      .sweepFrameArrival 0 0 257,
      .mcLoadDone [176],
      .controlStoreRead 176,
      .cfgCommit 512 false,
      .slotStop 512 false false] : List Instr).all (fun c => !c.wf) = true := by
  decide +kernel

theorem test_illFormed_7 :
    ([.stagingCopyArrival 2 0,
      .stagingCopyArrival 0 16,
      .routeSolverDone (2 ^ 32),
      .ptpIncrFracWrite (2 ^ 32),
      .ptpIncrNsWrite (2 ^ 32),
      .servoOffsetWrite (2 ^ 32),
      .ppsInEdge ⟨(2 ^ 112), 0, false⟩,
      .ppsInEdge ⟨0, (2 ^ 32), false⟩,
      .txtsFifoRead 8,
      .portLinkChange 8 false 0,
      .portLinkChange 0 false 10241,
      .frameReceive 8 ⟨List.replicate 14 0, true⟩ 0 0 0,
      .frameReceive 0 ⟨[], true⟩ 0 0 0,
      .frameReceive 0 ⟨List.replicate 14 0, true⟩ (2 ^ 112) 0 0,
      .egressFrameStart 8 0,
      .egressFrameStart 0 (2 ^ 112),
      .portMTxSubmit 64,
      .learnRequestApply 2,
      .flapWindowClose 2 0,
      .flapWindowClose 0 65536] : List Instr).all (fun c => !c.wf) = true := by
  decide +kernel

theorem test_illFormed_8 :
    ([.flapHoldExpiry 2 0,
      .flapHoldExpiry 0 65536,
      .ageSweep 2 0,
      .ageSweep 0 65536,
      .fwdSearch 2,
      .fwdNext 2,
      .fwdFlushPort 2,
      .fwdBulkLoad 2,
      .fwdCmdDone 2,
      .meterEnable 256 2147483648,
      .meterEnable 0 0,
      .meterEnable 0 (2 ^ 32),
      .shaperUpdate 8 0 0,
      .shaperUpdate 0 8 0,
      .shaperUpdate 0 0 (2 ^ 32),
      .moveCharge 1024 false,
      .movePeek 1024 false,
      .movePortWrite 1024 0,
      .movePortWrite 0 (2 ^ 32),
      .comparatorBlockDone 176 0 0] : List Instr).all (fun c => !c.wf) = true := by
  decide +kernel

theorem test_illFormed_9 :
    ([.comparatorBlockDone 0 2 0,
      .comparatorBlockDone 0 0 1025,
      .probeMarker 176 0 false,
      .probeMarker 0 2 false,
      .measureTimeout 176,
      .tempReading 176 0,
      .railSample 8 0,
      .railSample 0 65536,
      .ringOscCount 176 0,
      .ringOscCount 0 (2 ^ 20),
      .tileHoldCmd 176,
      .tileReleaseCmd 176,
      .tileRejoin 176 0,
      .tileRejoin 0 4,
      .tileRestart 176 0,
      .tileRestart 0 4,
      .tileDisable 176 0,
      .tileDisable 0 4,
      .tileSwap 176,
      .slotTimerRejoin 4] : List Instr).all (fun c => !c.wf) = true := by
  decide +kernel

theorem test_illFormed_10 :
    ([.fltAckOne (2 ^ 31),
      .relayInput 32,
      .dmaTrigInput 16,
      .hostMessageInput 8,
      .interruptTake 32,
      .softwarePublish .core 8,
      .eventEntryWrite .core false 1024 0,
      .eventEntryWrite .core false 0 (2 ^ 32),
      .mgtRemapWrite .core (2 ^ 32),
      .dmaStart 16,
      .dmaResume 16,
      .dmaAbort 16,
      .dmaUnitComplete 16,
      .mmuInvStream 32,
      .mmuInvPage 32,
      .patrolScrub (2 ^ 29) 0,
      .patrolScrub 0 3,
      .plovomLinkState 2 0 0,
      .plovomLinkState 0 3 0,
      .plovomLinkState 0 0 16] : List Instr).all (fun c => !c.wf) = true := by
  decide +kernel

theorem test_illFormed_11 :
    ([.plvRead 2 0 0 1,
      .plvRead 0 256 0 1,
      .plvRead 0 0 (2 ^ 40) 1,
      .plvRead 0 0 0 0,
      .plvRead 0 0 0 257,
      .plvWrite 2 0 0 [0],
      .plvWrite 0 256 0 [0],
      .plvWrite 0 0 (2 ^ 40) [0],
      .plvWrite 0 0 0 [],
      .plvWrite 0 0 0 (List.replicate 257 0),
      .plvPwrite 2 0 [0],
      .plvPwrite 0 (2 ^ 40) [0],
      .plvPwrite 0 0 [],
      .plvPwrite 0 0 (List.replicate 257 0),
      .plvMsg 2 0 0,
      .plvMsg 0 256 0,
      .plvMsg 0 0 (2 ^ 32),
      .plvCpl 2 0 0 [0],
      .plvCpl 0 256 0 [0],
      .plvCpl 0 0 256 [0]] : List Instr).all (fun c => !c.wf) = true := by
  decide +kernel

theorem test_illFormed_12 :
    ([.plvCpl 0 0 0 (List.replicate 257 0),
      .plvAck 2 0,
      .plvAck 0 4096,
      .plvNak 2 0,
      .plvNak 0 4096,
      .plvCredit 2 0 0 0,
      .plvCredit 0 (2 ^ 16) 0 0,
      .plvCredit 0 0 (2 ^ 16) 0,
      .plvCredit 0 0 0 (2 ^ 16),
      .plvInit 2 0 0 0,
      .plvInit 0 (2 ^ 16) 0 0,
      .plvInit 0 0 (2 ^ 16) 0,
      .plvInit 0 0 0 (2 ^ 16),
      .plvBadFrame 2 false,
      .plvReplayTimeout 2,
      .dmaRdTimeout 2 0,
      .dmaRdTimeout 0 256,
      .tapInstruction 6] : List Instr).all (fun c => !c.wf) = true := by
  decide +kernel

theorem test_overlong_1 : Instr.wf (.mgmtCommandFrame 0 (List.replicate 16385 0)) = false := by
  simp only [Instr.wf, List.length_replicate]
  rfl

theorem test_overlong_2 : Instr.wf (.frameReceive 0 ⟨(List.replicate 16385 0), true⟩ 0 0 0) = false := by
  simp only [Instr.wf, List.length_replicate]
  rfl

/-- What a command answers is the fault for an ill-formed command. -/
def faultsIllFormed : Host.Outcome State Fault Refusal → Bool
  | .fault .illFormed => true
  | _ => false

theorem test_illFormed_faults : faultsIllFormed (exec (.ddsSwap 176) State.reset) = true := by decide +kernel

/-! The worked example of file 20 (R485 to R487): tile 3, channel 8, in tenths of a micrometre. -/

theorem test_bump_drv8 : siteBump 8 12 = (.drv, 8) ∧ bumpAt 3 8 12 = (62625, 43500) ∧ fabricPad (62625, 43500) = (197375, 43500) := by
  decide
theorem test_bump_tcol0 : bumpSite .tcol 0 = (8, 16) ∧ bumpAt 3 8 16 = (62625, 44500) := by decide

/-! ### Witnesses -/

namespace BootStream
def streamS : State := syncS (M .boot base |> L .bootStep 4)
/-- States that meet the hypotheses of BootStream. -/
theorem witness_BootStream : streamS.Sound ∧ (streamS.bootAt 4 = true ∧ streamS.nlat .bootSlot < 2) :=
  ⟨sound_of (by decide +kernel), by decide +kernel⟩
end BootStream
namespace BootApplies
def ledgerS : State := syncS (M .boot base |> L .bootStep 6)
def testS : State := syncS (M .boot base |> L .bootStep 10)
theorem witness_BootApplies_1 : ledgerS.Sound ∧ (ledgerS.bootAt 6 = true ∧ ledgerS.nlat .bootSlot < 2) :=
  ⟨sound_of (by decide +kernel), by decide +kernel⟩
theorem witness_BootApplies_2 : (ledgerS.ledgerRebuild ledgerS.bootImage true).isSome = true := by decide +kernel
/-- The log region holds a byte that no record makes: the slot fails. -/
def badLogS : State := { ledgerS |> L .logBytes 64 with flash := [(0, 0#8)] }
theorem witness_BootApplies_2_none : (badLogS.ledgerRebuild badLogS.bootImage true).isNone = true := by decide +kernel
theorem witness_BootApplies_3 : testS.Sound ∧ (testS.bootAt 10 = true ∧ testS.nlat .bootSlot < 2 ∧
    testS.flag .flightRun = false ∧ (Instr.selfTestDone true [] [] []).wf = true ∧ testS.selfTestOk true [] [] = true ∧
    testS.selfTestOk false [] [] = false) :=
  ⟨sound_of (by decide +kernel), by decide +kernel⟩
end BootApplies

namespace AccessFaults
def samples : List State := [base, R .MGT_REMAP 1 base, M .boot base]
def states : List State := samples.map syncS ++ samples.filter (fun s => s.regs0 ≠ [])
def w0 : State := states.getD 0 base
def x50 : Nat := ((w0.target 1048576).getD dTN).snd
def x52 : Nat := ((w0.target (1048576 + 1 - 1)).getD dTN).snd
theorem sound_w0 : w0.Sound := sound_of (by decide +kernel)
/-! States and operands that meet the hypotheses of AccessFaults, clause by clause. -/
theorem witness_AccessFaults_1 :
    w0.Sound ∧ ((0 < 2 ^ 40) ∧ (0 < 2 ^ 32) ∧ (1 ∈ [1, 2, 4, 8, 16]) ∧ (¬(1 = 4 ∧ 0 % 4 = 0)) ∧ (w0.inMemory Initiator.core true 0 = false)) :=
  ⟨sound_w0, by decide +kernel⟩
theorem witness_AccessFaults_2 :
    w0.Sound ∧ (w0.target 0 = none ∨ (w0.regOf 0 = none ∧ w0.capWord 0 = none ∧ ∃ tg o, w0.target 0 = some (tg, o) ∧ (tg = Target.reg ∨ tg = Target.tile)) ∨ ∃ tg o, w0.target 0 = some (tg, o) ∧ pathOk (busPort Initiator.core) tg true = false) ∧ ((0 < 2 ^ 40) ∧ (0 < 2 ^ 32) ∧ (0 % 4 = 0)) :=
  ⟨sound_w0, Or.inr (Or.inr ⟨.rom, 0, by decide +kernel, by decide +kernel⟩), by decide +kernel⟩
theorem witness_AccessFaults_3 :
    w0.Sound ∧ ((1048576 < 2 ^ 40) ∧ (0 < 2 ^ 32) ∧ (1 ∈ [1, 2, 4, 8, 16]) ∧ (¬(1 = 4 ∧ 1048576 % 4 = 0)) ∧ (w0.target 1048576 = some (Target.sram, x50)) ∧ (w0.target (1048576 + 1 - 1) = some (Target.sram, x52)) ∧ (1 < x50 ∨ x50 + 1 ≤ 1)) :=
  ⟨sound_w0, by decide +kernel⟩
end AccessFaults

namespace BootCommands
def samples : List State := [base, M .boot base, M .boot base |> R .MGT_MODE 0x800, M .boot base |> R .MGT_MODE 0x800 |> R .MGT_CMD_STATUS (2^31), slist 0 base |> L .armWait 1 |> (L .startBase 77 · 0 0)|> (L .startBase 7 · 0 1), slist 0 base |> L .armWait 1 |> L .startWord 512 |> R .PTP_STATUS 2, slist 0 base |> L .armWait 1 |> L .startWord 512 ]
def states : List State := samples.map syncS ++ samples.filter (fun s => s.regs0 ≠ [])
def w0 : State := states.getD 0 base
def w2 : State := states.getD 2 base
def w4 : State := states.getD 4 base
theorem sound_w0 : w0.Sound := sound_of (by decide +kernel)
theorem sound_w2 : w2.Sound := sound_of (by decide +kernel)
theorem sound_w4 : w4.Sound := sound_of (by decide +kernel)
/-! States and operands that meet the hypotheses of BootCommands, clause by clause. -/
theorem witness_BootCommands_1 :
    w0.Sound ∧ ((0 < 2 ^ 32) ∧ (w0.cmdBusy = false) ∧ (w0.bootFailed = false)) :=
  ⟨sound_w0, by decide +kernel⟩
theorem witness_BootCommands_2 :
    w2.Sound ∧ ((0 < 3) ∧ (w2.cmdBusy = false) ∧ (w2.bootFailed = true) ∧ (w2.flag Lat.mgtFail = false)) :=
  ⟨sound_w2, by decide +kernel⟩
theorem witness_BootCommands_3 :
    w4.Sound ∧ ((w4.flag Lat.armWait = true) ∧ (w4.inRun = true) ∧ (w4.flag Lat.mgtFail = false) ∧ (bit (w4.nlat Lat.startWord) 9 = false ∨ w4.rbit Reg.PTP_STATUS 1 = true)) :=
  ⟨sound_w4, by decide +kernel⟩
end BootCommands

namespace BootDiscovery
def place (n : Nat) (xs : List (Nat × List Byte)) : List Byte :=
  let r := xs.foldl (fun acc x => acc ++ List.replicate (x.1 - acc.length) 0 ++ x.2) []
  r ++ List.replicate (n - r.length) 0
def sect (ty off len : Nat) : List Byte := leBytes 4 ty ++ leBytes 4 off ++ leBytes 4 len ++ leBytes 4 0
def hdr (seq key : Nat) (secs : List (List Byte)) (total : Nat) : List Byte := leBytes 4 0x474D4951 ++ leBytes 4 (256 + secs.length) ++ leBytes 4 seq ++ leBytes 4 total ++ leBytes 4 (2^8*key+3) ++ List.replicate 44 0 ++ secs.flatten
def prog : List Byte := 
  let body := leBytes 32 (2^255)
  leBytes 4 0x54434D4C ++ leBytes 4 0x0101 ++ leBytes 4 1 ++ leBytes 4 0 ++ leBytes 4 7 ++ leBytes 4 0 ++ leBytes 4 0 ++ leBytes 4 (crc32 body) ++ List.replicate 32 0 ++ (List.range 64).flatMap (fun _ => leBytes 4 0x0FFF0FFF) ++ body
def ucode : List Byte := leBytes 4 1 ++ [0#8, 0#8] ++ List.replicate 174 0xFF#8 ++ leBytes 4 0 ++ leBytes 4 188 ++ prog
def nvm : List Byte := leBytes 4 0x4000000 ++ leBytes 4 524288 ++ leBytes 4 0x5000000 ++ leBytes 4 0 ++ leBytes 4 0x10000 ++ leBytes 4 0x10 ++ leBytes 4 1000 ++ leBytes 4 788940000 ++ leBytes 4 0x1405
def start (m : Nat) : List Byte := leBytes 4 m ++ leBytes 12 7
def regs1 (a v : Nat) : List Byte := leBytes 4 a ++ leBytes 4 0 ++ leBytes 4 v
def image (mode a v : Nat) : List Byte := place 2048 [(0, hdr 9 1 [sect 3 0x200 36, sect 5 0x300 ucode.length, sect 10 0x240 16, sect 7 0x260 12, sect 1 0x280 12, sect 4 0x290 8] 2048), (0x200, nvm), (0x240, start mode), (0x260, regs1 a v), (0x280, leBytes 12 0), (0x290, leBytes 8 0x1122334455667788), (0x300, ucode)]
def at6 (im : List Byte) (s : State) : State := ((M .boot s).dramWrite s.bootArea im) |> L .bootStep 6 |> L .logBase 0x4000000 |> L .logBytes 524288 |> L .imgUp 0
def withSlot (k : Nat) (im : List Byte) (s : State) : State := { s with flash := s.flash ++ (im.zipIdx.filterMap (fun x => if x.1 = 0xFF#8 then none else some (0x2000000*k + x.2, x.1))) }
def at0 (s : State) : State := M .boot s |> L .bootStep 0
def at3 (s : State) : State := M .boot s |> L .bootStep 3
def im (q : Nat) : List Byte := place 1024 [(0, hdr q 1 [sect 1 0x280 12, sect 3 0x2A0 36, sect 5 0x300 200, sect 10 0x2D0 16] 2048), (0x280, leBytes 12 2), (0x2A0, nvm), (0x2D0, start 1)]
def samples : List State := [base, at0 base, at0 (withSlot 0 (im 9) base), at0 (withSlot 1 (im 9) base), at0 (withSlot 1 (im 9) (withSlot 0 (im 9) base)), at0 (withSlot 1 (im 10) (withSlot 0 (im 9) base)), at0 (withSlot 1 (im 10) (withSlot 0 (im 9) base)) |> L .bootSel 1, at0 (withSlot 1 (im 10) (withSlot 0 (im 9) base)) |> R .MGT_STRAP 2, at3 (withSlot 1 (im 10) (withSlot 0 (im 9) base)), at3 (withSlot 1 (im 10) base) |> L .bootSlot 1 |> L .bootNext 1, at3 base]
def states : List State := samples.map syncS ++ samples.filter (fun s => s.regs0 ≠ [])
def w1 : State := states.getD 1 base
def w2 : State := states.getD 2 base
def w8 : State := states.getD 8 base
def x0 : Section := (imgDramp (w8.slotByte (w8.nlat Lat.bootSlot))).getD dSec
theorem sound_w1 : w1.Sound := sound_of (by decide +kernel)
theorem sound_w2 : w2.Sound := sound_of (by decide +kernel)
theorem sound_w8 : w8.Sound := sound_of (by decide +kernel)
/-! States and operands that meet the hypotheses of BootDiscovery, clause by clause. -/
theorem witness_BootDiscovery_1 :
    w1.Sound ∧ ((w1.bootAt 0 = true) ∧ (0 ≤ 2 ^ 32) ∧ (0 ∈ w1.bootSlots) ∧ ((fun k => w1.headerCode k (if k = 0 then true else true)) 0 ≠ 0)) :=
  ⟨sound_w1, by decide +kernel⟩
theorem witness_BootDiscovery_2 :
    w1.Sound ∧ ((w1.bootAt 0 = true) ∧ (0 ≤ 2 ^ 32) ∧ (∀ (k : Nat), k ∈ w1.bootSlots → (fun k => w1.headerCode k (if k = 0 then true else true)) k ≠ 0)) :=
  ⟨sound_w1, by decide +kernel⟩
theorem witness_BootDiscovery_3 :
    w2.Sound ∧ ((w2.bootAt 0 = true) ∧ (0 ≤ 2 ^ 32) ∧ (∃ k, k ∈ w2.bootSlots ∧ (fun k => w2.headerCode k (if k = 0 then false else true)) k = 0) ∧ (0 ∈ w2.bootSlots) ∧ ((fun k => w2.headerCode k (if k = 0 then false else true)) 0 = 0)) :=
  ⟨sound_w2, by decide +kernel⟩
theorem witness_BootDiscovery_4 :
    w8.Sound ∧ (imgDramp (w8.slotByte (w8.nlat Lat.bootSlot)) = some x0) ∧ ((w8.bootAt 3 = true) ∧ (w8.nlat Lat.bootSlot < 2) ∧ (1 ≠ 0) ∧ (1 < 256)) :=
  ⟨sound_w8, some_of (by decide +kernel), by decide +kernel⟩
theorem witness_BootDiscovery_5 :
    w8.Sound ∧ ((w8.bootAt 3 = true) ∧ (w8.nlat Lat.bootSlot < 2) ∧ (0 < 256)) :=
  ⟨sound_w8, by decide +kernel⟩
end BootDiscovery

namespace Campaigns
def vis (s : State) : State := s |> R .CAL_STATUS 0x80000000 |> R .TILE_CAL_STATUS 2 |> (R .TILE_CMPT 5) |> (R .TILE_CMPT_NEXT 63)|> (R .TILE_CMPT_NEXT 31 · 0 1) |> (R .TILE_SKEW 777)|> (R .TILE_SKEW_NEXT 1023)|> (R .TILE_SKEW_NEXT 0 · 0 1) |> L .calNext 1
def samples : List State := [base, base |> R .CAL_CTRL (2^16), M .slotted base |> R .CAL_CTRL (2^16*15) |> R .MGT_TILE_HOLD 1, base |> R .THM_STATUS 0x80000000, base |> R .CAL_STATUS 0x40000000|> R .CAL_CTRL (2^16), M .slotted base |> R .CAL_STATUS 0x40000002 |> L .calEndAt 50000 |> R .CAL_HOLDOFF 1, vis base, vis base |> (L .calCmpN 23) |> (L .calCmpN 22 · 0 1), vis base |> (L .calCmpDone 1) |> (L .skDone 1), vis base |> (L .skProbes 15) |> (L .skProbes 15 · 0 1) |> (L .skLate 8), vis base |> R .TILE_SKEW_NEXT 5 |> (L .skProbes 15) |> (L .skProbes 14 · 0 1) |> (L .skLate 9), 
  vis base |> L .calSpans 65536, vis base |> R .CAL_TIMING (2^16*4) |> L .calSpans 4,vis base |> R .CAL_TIMING (2^16*4) |> L .calSpans 5, base |> R .CAL_CTRL (2^31+10) |> R .TILE_TEMP 11, base |> R .CAL_CTRL (2^31+10), base |> R .CAL_CTRL (2^31+10) |> (R .TILE_TEMP 5500 · 1), vis base |> (R .TILE_CMPT_NEXT 32 · 0 0), base |> R .CAL_STATUS 0x40000000 |> R .THM_STATUS 0x80000000]
def states : List State := samples.map syncS ++ samples.filter (fun s => s.regs0 ≠ [])
def w0 : State := states.getD 0 base
def w1 : State := states.getD 1 base
def w3 : State := states.getD 3 base
def w4 : State := states.getD 4 base
def w6 : State := states.getD 6 base
def w7 : State := states.getD 7 base
def w9 : State := states.getD 9 base
def w11 : State := states.getD 11 base
def w14 : State := states.getD 14 base
def w15 : State := states.getD 15 base
def w18 : State := states.getD 18 base
def x24 : Int := sx 6 (w6.treg Reg.TILE_CMPT_NEXT 0)
def x32 : Int := sx 6 (w7.treg Reg.TILE_CMPT_NEXT 0)
def x39 : Nat := (skewStep (w9.treg Reg.TILE_SKEW_NEXT 0) (Decidable.decide (w9.nlat Lat.skLate + b2n true < 9))).getD 0
def x40 : Nat := (List.find? w14.calTriggers w14.tiles).getD 0
theorem sound_w0 : w0.Sound := sound_of (by decide +kernel)
theorem sound_w1 : w1.Sound := sound_of (by decide +kernel)
theorem sound_w11 : w11.Sound := sound_of (by decide +kernel)
theorem sound_w14 : w14.Sound := sound_of (by decide +kernel)
theorem sound_w15 : w15.Sound := sound_of (by decide +kernel)
theorem sound_w18 : w18.Sound := sound_of (by decide +kernel)
theorem sound_w3 : w3.Sound := sound_of (by decide +kernel)
theorem sound_w4 : w4.Sound := sound_of (by decide +kernel)
theorem sound_w6 : w6.Sound := sound_of (by decide +kernel)
theorem sound_w7 : w7.Sound := sound_of (by decide +kernel)
theorem sound_w9 : w9.Sound := sound_of (by decide +kernel)
/-! States and operands that meet the hypotheses of Campaigns, clause by clause. -/
theorem witness_Campaigns_1 :
    w0.Sound ∧ (w0.calState ≠ 1 ∨ w0.calStartOk = false ∨ w0.calHeldOff = false) :=
  ⟨sound_w0, by decide +kernel⟩
theorem witness_Campaigns_2 :
    w0.Sound ∧ (w0.calState = 0) :=
  ⟨sound_w0, by decide +kernel⟩
theorem witness_Campaigns_3 :
    w0.Sound ∧ ((0 < 176) ∧ (0 < 2) ∧ (0 ≤ 1024) ∧ (w0.calStage 0 ≠ 2 ∨ w0.flag Lat.calCmpDone = true)) :=
  ⟨sound_w0, by decide +kernel⟩
theorem witness_Campaigns_4 :
    w0.Sound ∧ ((0 < 176) ∧ (0 < 2) ∧ (w0.calStage 0 ≠ 2 ∨ w0.flag Lat.skDone = true)) :=
  ⟨sound_w0, by decide +kernel⟩
theorem witness_Campaigns_5 :
    w0.Sound ∧ ((0 < 176) ∧ (w0.calStage 0 ≠ 2 ∨ w0.nlat Lat.calSpans ≤ w0.fld Reg.CAL_TIMING 31 16)) :=
  ⟨sound_w0, by decide +kernel⟩
theorem witness_Campaigns_6 :
    w1.Sound ∧ ((w1.calState < 2) ∧ (w1.calStartOk = true) ∧ (0 ∈ List.take (w1.fld Reg.CAL_CTRL 19 16) w1.tiles) ∧ (w1.tileHold 0 = false)) :=
  ⟨sound_w1, by decide +kernel⟩
theorem witness_Campaigns_7 :
    w3.Sound ∧ (2 ≤ w3.calState ∨ w3.calState = 0 ∧ w3.calStartOk = false) :=
  ⟨sound_w3, by decide +kernel⟩
theorem witness_Campaigns_8 :
    w4.Sound ∧ ((w4.calState = 1) ∧ (w4.calStartOk = true) ∧ (w4.calHeldOff = true) ∧ (0 ∈ List.take (w4.fld Reg.CAL_CTRL 19 16) w4.tiles) ∧ (w4.tileHold 0 = false)) :=
  ⟨sound_w4, by decide +kernel⟩
theorem witness_Campaigns_9 :
    w6.Sound ∧ ((w6.campaign = true) ∧ (0 < 176) ∧ (w6.inUse 0 = true)) :=
  ⟨sound_w6, by decide +kernel⟩
theorem witness_Campaigns_10 :
    w6.Sound ∧ ((0 < 176) ∧ (0 < 2) ∧ (0 ≤ 1024) ∧ (w6.calStage 0 = 2) ∧ (w6.flag Lat.calCmpDone = false) ∧ (1 = -1 ∧ 544 < 0 ∧ -32 < x24 ∨ 1 = 1 ∧ 0 < 480 ∧ x24 < 31) ∧ (w6.nlat Lat.calCmpN < 23)) :=
  ⟨sound_w6, by decide +kernel⟩
theorem witness_Campaigns_11 :
    w6.Sound ∧ ((0 < 176) ∧ (0 < 2) ∧ (480 ≤ 1024) ∧ (w6.calStage 0 = 2) ∧ (w6.flag Lat.calCmpDone = false) ∧ (480 ≤ 480) ∧ (480 ≤ 544)) :=
  ⟨sound_w6, by decide +kernel⟩
theorem witness_Campaigns_12 :
    w6.Sound ∧ ((0 < 176) ∧ (0 < 2) ∧ (w6.calStage 0 = 2) ∧ (w6.flag Lat.skDone = false) ∧ (w6.nlat Lat.skProbes < 15)) :=
  ⟨sound_w6, by decide +kernel⟩
theorem witness_Campaigns_13 :
    w7.Sound ∧ ((0 < 176) ∧ (0 < 2) ∧ (0 ≤ 1024) ∧ (w7.calStage 0 = 2) ∧ (w7.flag Lat.calCmpDone = false) ∧ (1 = -1 ∧ 544 < 0 ∧ -32 < x32 ∨ 1 = 1 ∧ 0 < 480 ∧ x32 < 31) ∧ (23 ≤ w7.nlat Lat.calCmpN)) :=
  ⟨sound_w7, by decide +kernel⟩
theorem witness_Campaigns_14 :
    w9.Sound ∧ (skewStep (w9.treg Reg.TILE_SKEW_NEXT 0) (Decidable.decide (w9.nlat Lat.skLate + b2n true < 9)) = some x39) ∧ ((0 < 176) ∧ (0 < 2) ∧ (w9.calStage 0 = 2) ∧ (w9.flag Lat.skDone = false) ∧ (w9.nlat Lat.skProbes = 15) ∧ (w9.lat Lat.skDir = 0) ∧ (w9.nlat Lat.skSteps < 64)) :=
  ⟨sound_w9, some_of (by decide +kernel), by decide +kernel⟩
theorem witness_Campaigns_15 :
    w11.Sound ∧ ((0 < 176) ∧ (w11.calStage 0 = 2) ∧ (w11.fld Reg.CAL_TIMING 31 16 < w11.nlat Lat.calSpans) ∧ (0 < w11.nlat Lat.calNext)) :=
  ⟨sound_w11, by decide +kernel⟩
theorem witness_Campaigns_16 :
    w14.Sound ∧ (List.find? w14.calTriggers w14.tiles = some x40) ∧ ((w14.rbit Reg.CAL_CTRL 31 = true) ∧ (w14.calState = 0) ∧ (w14.mode ≠ Mode.boot) ∧ (w14.mode ≠ Mode.sable)) :=
  ⟨sound_w14, some_of (by decide +kernel), by decide +kernel⟩
theorem witness_Campaigns_17 :
    w15.Sound ∧ ((w15.rbit Reg.CAL_CTRL 31 = true) ∧ (w15.calState = 0) ∧ (w15.mode ≠ Mode.boot) ∧ (w15.mode ≠ Mode.sable) ∧ (List.find? w15.calTriggers w15.tiles = none)) :=
  ⟨sound_w15, by decide +kernel⟩
theorem witness_Campaigns_18 :
    w18.Sound ∧ ((w18.calState = 1) ∧ (w18.calStartOk = false)) :=
  ⟨sound_w18, by decide +kernel⟩
end Campaigns

namespace CaptureRings
def qr : CapRec := ⟨1, 1, 2, 3, 4⟩
def globCapRec : List (CapRec) := [qr, ⟨0, 5, 2, 3, 4⟩]
def mm (s : State) : State := { s with capQ := [⟨0, 5, 2, 3, 4⟩, qr], tlb := [⟨17, 0x10000, 4096, 0x1000020000, true, true⟩] } |> (R .MMU_STREAM (2^31) · 0 17) |> (R .DMA_CAP_CTRL 1 · 0 1) |> (R .DMA_CAP_SIZE 12 · 0 1) |> (R .DMA_CAP_BASE_LO 0x10000 · 0 1)
def samples : List State := [base, mm base, mm base |> (R .DMA_CAP_WP 4080 · 0 1) , mm base |> (R .DMA_CAP_WP 4080 · 0 1) |> (R .DMA_CAP_RP 32 · 0 1),  mm base |> (R .DMA_CAP_WP 4080 · 0 1) |> (R .DMA_CAP_CTRL 3 · 0 1) ]
def states : List State := samples.map syncS ++ samples.filter (fun s => s.regs0 ≠ [])
def w0 : State := states.getD 0 base
def w1 : State := states.getD 1 base
def w2 : State := states.getD 2 base
def x4 : CapRec := (List.find? (fun q => q.ring == 1) w1.capQ).getD dCap
def x5 : State := { w1 with capQ := w1.capQ.erase x4 }
def x6 : Nat := w1.reg Reg.DMA_CAP_WP 1
def x7 : State := (x5.translate (16 + 1) ((2 ^ 32 * w1.fld Reg.DMA_CAP_BASE_HI 7 0 1 + 4096 * w1.fld Reg.DMA_CAP_BASE_LO 31 12 1 + x6) % 2 ^ 39) true).snd
def x8 : Nat := (x5.translate (16 + 1) ((2 ^ 32 * w1.fld Reg.DMA_CAP_BASE_HI 7 0 1 + 4096 * w1.fld Reg.DMA_CAP_BASE_LO 31 12 1 + x6) % 2 ^ 39) true).fst.getRight?.getD 0
def x9 : Nat := ((x7.target x8).getD dTN).snd
def x10 : Nat := ((x7.target (x8 + 15)).getD dTN).snd
def x13 : CapRec := (List.find? (fun q => q.ring == 1) w2.capQ).getD dCap
def x15 : Nat := w2.reg Reg.DMA_CAP_WP 1
theorem sound_w0 : w0.Sound := sound_of (by decide +kernel)
theorem sound_w1 : w1.Sound := sound_of (by decide +kernel)
theorem sound_w2 : w2.Sound := sound_of (by decide +kernel)
/-! States and operands that meet the hypotheses of CaptureRings, clause by clause. -/
theorem witness_CaptureRings_1 :
    w0.Sound ∧ ((0 < 8) ∧ (w0.rbit Reg.DMA_CAP_CTRL 0 = false)) :=
  ⟨sound_w0, by decide +kernel⟩
theorem witness_CaptureRings_2 :
    w1.Sound ∧ (List.find? (fun q => q.ring == 1) w1.capQ = some x4) ∧ (x5.translate (16 + 1) ((2 ^ 32 * w1.fld Reg.DMA_CAP_BASE_HI 7 0 1 + 4096 * w1.fld Reg.DMA_CAP_BASE_LO 31 12 1 + x6) % 2 ^ 39) true = (Sum.inr x8, x7)) ∧ ((1 < 8) ∧ (w1.rbit Reg.DMA_CAP_CTRL 0 1 = true) ∧ (w1.nlat Lat.capLost 1 = 0) ∧ (¬(w1.rbit Reg.DMA_CAP_CTRL 1 1 = false ∧ (x6 + 16) % w1.ringSize 1 = w1.reg Reg.DMA_CAP_RP 1 % w1.ringSize 1)) ∧ (x7.target x8 = some (Target.dram, x9)) ∧ (x7.target (x8 + 15) = some (Target.dram, x10)) ∧ (0 < x9 ∨ x9 + 16 ≤ 0)) :=
  ⟨sound_w1, some_of (by decide +kernel), by delta x8 x7; exact pair_of (inr_of (by decide +kernel)), by decide +kernel⟩
theorem witness_CaptureRings_3 :
    w2.Sound ∧ (List.find? (fun q => q.ring == 1) w2.capQ = some x13) ∧ ((1 < 8) ∧ (w2.rbit Reg.DMA_CAP_CTRL 0 1 = true) ∧ (w2.nlat Lat.capLost 1 = 0) ∧ (w2.rbit Reg.DMA_CAP_CTRL 1 1 = false ∧ (x15 + 16) % w2.ringSize 1 = w2.reg Reg.DMA_CAP_RP 1 % w2.ringSize 1)) :=
  ⟨sound_w2, some_of (by decide +kernel), by decide +kernel⟩
end CaptureRings

namespace CircuitRequests
def rec (i o : Nat) : List Byte := beBytes 18 (0xAB * 2^136) ++ beBytes 18 (0xAC*2^136) ++ beBytes 2 i ++ beBytes 2 o
def rq (op : Nat) (recs : List (List Byte)) : List Byte := beBytes 6 0 ++ beBytes 6 0x10AABBCCDD ++ beBytes 2 0x88B5 ++ [1#8, BitVec.ofNat 8 op] ++ beBytes 2 recs.length ++ beBytes 4 7 ++ beBytes 4 0 ++ recs.flatten
def globEngReq : List (EngReq) := [⟨⟨0, rq 1 [rec 4 9]⟩, .retry, [(4,9)], false, 7, 8, 2, [], false⟩, ⟨⟨0, rq 2 [rec 4 9]⟩, .retry, [(4,9)], false, 7, 8, 3, [], false⟩, ⟨⟨0, rq 2 [rec 4 9]⟩, .retry, [(4,9)], false, 7, 7, 0, [], true⟩]
def lim (s : State) : State := (List.range 64).foldl (fun s k => R .SHP_QLIM 256 s 0 (k/8) (k%8)) s
def cfm : State := lim ({passBank 7 (fun j => j != 9) (fab base) with lpm := [⟨0xAB * 2^136, 8, 3⟩, ⟨0xAC * 2^136, 8, 4⟩]} |> (R .LPM_GROUP (2^31+2^16*2+3) · 0 3)|> (R .LPM_GROUP (2^31+2^16*2+10) · 0 4) |> R .CFG_INFORCE 7 |> R .SIG_REQ_CTRL (2^31) |> R .SIG_REQ_BANK (2^16*7+8) |> (R .SIG_PORT_STATUS 3 · 0 0) |> (R .MOVE_TC 131069 · 0 3)|> (R .MOVE_TP 131069 · 0 3)|> (R .MOVE_TC 131069 · 0 4)|> (R .MOVE_TP 131069 · 0 4)|> (R .MOVE_TC 131069 · 0 5)|> (R .MOVE_TP 131069 · 0 5) )
def w (q : List CircReq) (s : State) : State := {s with reqQ := q}
def live0 : Nat := ((cfm.liveCircuits (false,7)).map (·.1)).getD 0 0
def samples : List State := [w [⟨0, rq 1 [rec 0xFFFF 0xFFFF]⟩] cfm, w [⟨0, rq 1 [rec 5 11]⟩, ⟨1, [1#8]⟩] cfm, w [⟨0, rq 1 [rec 5 12]⟩] cfm, w [⟨0, rq 1 [rec 4 12]⟩] cfm, w [⟨0, rq 1 [rec 5 11]⟩] {cfm with lpm := []}, w [⟨0, rq 2 [rec live0 0]⟩] cfm, w [⟨0, rq 2 [rec live0 0]⟩] (cfm |> R .CFG_INFORCE (2^31)), w [⟨0, rq 2 [rec 4 9]⟩] (M .characterise cfm), w [⟨0, rq 1 [rec 4 9]⟩] (M .hold cfm), w [⟨0, rq 3 [rec live0 9, rec 3 4]⟩] (cfm), {w [⟨0, rq 3 [rec live0 9, rec 3 4]⟩] (goodBank 8 cfm) with reqQ := [⟨0, rq 3 [rec live0 9]⟩]}]
def states : List State := samples.map syncS ++ samples.filter (fun s => s.regs0 ≠ [])
def w0 : State := states.getD 0 base
def w4 : State := states.getD 4 base
def w5 : State := states.getD 5 base
def w6 : State := states.getD 6 base
def w7 : State := states.getD 7 base
def w8 : State := states.getD 8 base
def w9 : State := states.getD 9 base
def x0 : CircReq := w0.reqQ.headD dCirc
def x1 : List CircReq := w0.reqQ.tail
def x2 : State := { w0 with reqQ := x1 }
def x3 : Bool × Nat := w0.inForceCfg.getD dBN
def x5 : List (Nat × Nat) := (x2.lookups x0.bytes (reqN x0.bytes) 0 []).getLeft?.getD []
def x6 : List (Nat × Nat) := (x2.choosePorts x0.bytes x5 0 (List.map (fun x => x.fst) (x2.liveCircuits x3)) (List.map (fun x => x.snd.fst) (x2.liveCircuits x3)) []).getLeft?.getD []
def x28 : CircReq := w4.reqQ.headD dCirc
def x29 : List CircReq := w4.reqQ.tail
def x30 : State := { w4 with reqQ := x29 }
def x31 : Bool × Nat := w4.inForceCfg.getD dBN
def x32 : Nat := (x30.lookups x28.bytes (reqN x28.bytes) 0 []).getRight?.getD 0
def x34 : CircReq := w5.reqQ.headD dCirc
def x35 : List CircReq := w5.reqQ.tail
def x37 : Bool × Nat := w5.inForceCfg.getD dBN
def x40 : CircReq := w6.reqQ.headD dCirc
def x41 : List CircReq := w6.reqQ.tail
def x44 : CircReq := w7.reqQ.headD dCirc
def x45 : List CircReq := w7.reqQ.tail
def x47 : CircReq := w8.reqQ.headD dCirc
def x48 : List CircReq := w8.reqQ.tail
def x50 : CircReq := w9.reqQ.headD dCirc
def x51 : List CircReq := w9.reqQ.tail
theorem sound_w0 : w0.Sound := sound_of (by decide +kernel)
theorem sound_w4 : w4.Sound := sound_of (by decide +kernel)
theorem sound_w5 : w5.Sound := sound_of (by decide +kernel)
theorem sound_w6 : w6.Sound := sound_of (by decide +kernel)
theorem sound_w7 : w7.Sound := sound_of (by decide +kernel)
theorem sound_w8 : w8.Sound := sound_of (by decide +kernel)
theorem sound_w9 : w9.Sound := sound_of (by decide +kernel)
/-! States and operands that meet the hypotheses of CircuitRequests, clause by clause. -/
theorem witness_CircuitRequests_1 :
    w0.Sound ∧ (w0.inForceCfg = some x3) ∧ (x2.lookups x0.bytes (reqN x0.bytes) 0 [] = Sum.inl x5) ∧ (x2.choosePorts x0.bytes x5 0 (List.map (fun x => x.fst) (x2.liveCircuits x3)) (List.map (fun x => x.snd.fst) (x2.liveCircuits x3)) [] = Sum.inl x6) ∧ ((w0.reqQ = x0 :: x1) ∧ (w0.eng = none) ∧ (reqOk x0.bytes = true) ∧ (w0.reqToFirmware = false) ∧ (w0.mode = Mode.static) ∧ (w0.armed = false) ∧ (reqOp x0.bytes = 1) ∧ (x2.engTarget < 512)) :=
  ⟨sound_w0, some_of (by decide +kernel), inl_of (by decide +kernel), inl_of (by decide +kernel), by decide +kernel⟩
theorem witness_CircuitRequests_2 :
    w0.Sound ∧ ((w0.reqQ = x0 :: x1) ∧ (w0.eng = none) ∧ (reqOk x0.bytes = true) ∧ (w0.reqToFirmware = false) ∧ (reqOp x0.bytes ≠ 2)) :=
  ⟨sound_w0, by decide +kernel⟩
theorem witness_CircuitRequests_3 :
    w0.Sound ∧ ((w0.reqQ = x0 :: x1) ∧ (w0.eng = none) ∧ (reqOk x0.bytes = true) ∧ (w0.reqToFirmware = false) ∧ (reqOp x0.bytes ≠ 3)) :=
  ⟨sound_w0, by decide +kernel⟩
theorem witness_CircuitRequests_4 :
    w0.Sound ∧ ((w0.reqQ = x0 :: x1) ∧ (w0.eng = none) ∧ (reqOk x0.bytes = true) ∧ (w0.reqToFirmware = false) ∧ (({ req := { port := 0, bytes := rq 2 [rec 4 9] }, phase := EngPhase.retry, circs := [(4, 9)], srcDram := false, srcIdx := 7, tgt := 7, supp := 0, groups := [], again := true } : EngReq).phase = EngPhase.retry) ∧ (w0.rbit Reg.CFG_STATUS 4 = false) ∧ (({ req := { port := 0, bytes := rq 2 [rec 4 9] }, phase := EngPhase.retry, circs := [(4, 9)], srcDram := false, srcIdx := 7, tgt := 7, supp := 0, groups := [], again := true } : EngReq).supp < 3) ∧ (w0.inForceCfg = some (({ req := { port := 0, bytes := rq 2 [rec 4 9] }, phase := EngPhase.retry, circs := [(4, 9)], srcDram := false, srcIdx := 7, tgt := 7, supp := 0, groups := [], again := true } : EngReq).srcDram, ({ req := { port := 0, bytes := rq 2 [rec 4 9] }, phase := EngPhase.retry, circs := [(4, 9)], srcDram := false, srcIdx := 7, tgt := 7, supp := 0, groups := [], again := true } : EngReq).srcIdx)) ∧ ((w0.checkBank ({ req := { port := 0, bytes := rq 2 [rec 4 9] }, phase := EngPhase.retry, circs := [(4, 9)], srcDram := false, srcIdx := 7, tgt := 7, supp := 0, groups := [], again := true } : EngReq).tgt).fst = true) ∧ (w0.mode = Mode.static) ∧ (w0.armed = false)) :=
  ⟨sound_w0, by decide +kernel⟩
theorem witness_CircuitRequests_5 :
    w0.Sound ∧ ((w0.reqQ = x0 :: x1) ∧ (w0.eng = none) ∧ (reqOk x0.bytes = true) ∧ (w0.reqToFirmware = false) ∧ (({ req := { port := 0, bytes := rq 2 [rec 4 9] }, phase := EngPhase.retry, circs := [(4, 9)], srcDram := false, srcIdx := 7, tgt := 8, supp := 3, groups := [], again := false } : EngReq).phase = EngPhase.retry) ∧ (w0.rbit Reg.CFG_STATUS 4 = false) ∧ (3 ≤ ({ req := { port := 0, bytes := rq 2 [rec 4 9] }, phase := EngPhase.retry, circs := [(4, 9)], srcDram := false, srcIdx := 7, tgt := 8, supp := 3, groups := [], again := false } : EngReq).supp)) :=
  ⟨sound_w0, by decide +kernel⟩
theorem witness_CircuitRequests_6 :
    w4.Sound ∧ (w4.inForceCfg = some x31) ∧ (x30.lookups x28.bytes (reqN x28.bytes) 0 [] = Sum.inr x32) ∧ ((w4.reqQ = x28 :: x29) ∧ (w4.eng = none) ∧ (reqOk x28.bytes = true) ∧ (w4.reqToFirmware = false) ∧ (w4.mode = Mode.static) ∧ (w4.armed = false) ∧ (reqOp x28.bytes = 1)) :=
  ⟨sound_w4, some_of (by decide +kernel), inr_of (by decide +kernel), by decide +kernel⟩
theorem witness_CircuitRequests_7 :
    w5.Sound ∧ (w5.inForceCfg = some x37) ∧ ((w5.reqQ = x34 :: x35) ∧ (w5.eng = none) ∧ (reqOk x34.bytes = true) ∧ (w5.reqToFirmware = false) ∧ (w5.mode = Mode.static) ∧ (w5.armed = false) ∧ (reqOp x34.bytes = 2)) :=
  ⟨sound_w5, some_of (by decide +kernel), by decide +kernel⟩
theorem witness_CircuitRequests_8 :
    w5.Sound ∧ ((w5.reqQ = x34 :: x35) ∧ (w5.eng = none) ∧ (reqOk x34.bytes = true) ∧ (w5.reqToFirmware = false) ∧ (reqOp x34.bytes ≠ 1)) :=
  ⟨sound_w5, by decide +kernel⟩
theorem witness_CircuitRequests_9 :
    w6.Sound ∧ ((w6.reqQ = x40 :: x41) ∧ (w6.eng = none) ∧ (reqOk x40.bytes = true) ∧ (w6.reqToFirmware = false) ∧ (w6.mode = Mode.static) ∧ (w6.armed = false) ∧ (reqOp x40.bytes = 2) ∧ (w6.inForceCfg = none)) :=
  ⟨sound_w6, by decide +kernel⟩
theorem witness_CircuitRequests_10 :
    w7.Sound ∧ ((w7.reqQ = x44 :: x45) ∧ (w7.eng = none) ∧ (reqOk x44.bytes = true) ∧ (w7.reqToFirmware = false) ∧ (w7.mode ≠ Mode.static) ∧ (w7.mode ≠ Mode.slotted) ∧ (reqOp x44.bytes = 2)) :=
  ⟨sound_w7, by decide +kernel⟩
theorem witness_CircuitRequests_11 :
    w8.Sound ∧ ((w8.reqQ = x47 :: x48) ∧ (w8.eng = none) ∧ (reqOk x47.bytes = true) ∧ (w8.reqToFirmware = false) ∧ (w8.mode ≠ Mode.static) ∧ (w8.mode ≠ Mode.slotted) ∧ (reqOp x47.bytes = 1)) :=
  ⟨sound_w8, by decide +kernel⟩
theorem witness_CircuitRequests_12 :
    w9.Sound ∧ ((w9.reqQ = x50 :: x51) ∧ (w9.eng = none) ∧ (reqOk x50.bytes = true) ∧ (w9.reqToFirmware = false) ∧ (reqOp x50.bytes = 3) ∧ (w9.mode ≠ Mode.boot) ∧ (w9.mode ≠ Mode.sable) ∧ (w9.linkUp x50.port = true) ∧ ((w9.txq.all fun f => f.port != x50.port) = true) ∧ (x50.port < 8) ∧ (32 ≤ w9.fld Reg.SHP_QLIM 8 0 x50.port 7)) :=
  ⟨sound_w9, by decide +kernel⟩
end CircuitRequests

namespace ClockCommands
def samples : List State := [base, base |> R .PTP_SET_NS 1000000001 |> R .PTP_SET_S_LO 77 |> R .PTP_SET_S_HI 0xFFFF |> R .PTP_ADJ_NS 0xFFFFFFFF, base |> R .PTP_STATUS 0x10, armedS base, {base with time := ⟨0, 5, 7⟩} |> R .PTP_ADJ_NS 0xFFFFFFFA |> L .incrStage 0x19999999, {base with time := ⟨2^48-1, 999999999, 7⟩} |> R .PTP_ADJ_NS 2 |> L .incrStage 0x1999999a, {base with time := ⟨0, 5, 7⟩} |> R .PTP_ADJ_NS 0xFFFFFFFB |> L .incrStage 0xE6666666, base |> L .incrStage 0xE6666665]
def states : List State := samples.map syncS ++ samples.filter (fun s => s.regs0 ≠ [])
def w0 : State := states.getD 0 base
def w2 : State := states.getD 2 base
def w3 : State := states.getD 3 base
def x0 : Int := ↑w0.nowNs + sx 32 (w0.reg Reg.PTP_ADJ_NS)
def x1 : Nat := 2 ^ 32 * (0 % 2) + w0.nlat Lat.incrStage
def x2 : Nat := 2 ^ 32 * (1 % 2) + w0.nlat Lat.incrStage
def x16 : Int := ↑w2.nowNs + sx 32 (w2.reg Reg.PTP_ADJ_NS)
theorem sound_w0 : w0.Sound := sound_of (by decide +kernel)
theorem sound_w2 : w2.Sound := sound_of (by decide +kernel)
theorem sound_w3 : w3.Sound := sound_of (by decide +kernel)
/-! States and operands that meet the hypotheses of ClockCommands, clause by clause. -/
theorem witness_ClockCommands_1 :
    w0.Sound ∧ ((w0.ptpCmdOk = true) ∧ (w0.fld Reg.PTP_SET_NS 29 0 < 1000000000)) :=
  ⟨sound_w0, by decide +kernel⟩
theorem witness_ClockCommands_2 :
    w0.Sound ∧ ((w0.ptpCmdOk = true) ∧ (0 ≤ x0)) :=
  ⟨sound_w0, by decide +kernel⟩
theorem witness_ClockCommands_3 :
    w0.Sound ∧ ((0 < 2 ^ 32) ∧ (w0.slotsQuiet = true)) :=
  ⟨sound_w0, by decide +kernel⟩
theorem witness_ClockCommands_4 :
    w0.Sound ∧ ((0 < 2 ^ 32) ∧ (w0.slotsQuiet = false ∨ ¬(3865470566 ≤ x1 ∧ x1 ≤ 4724464025))) :=
  ⟨sound_w0, by decide +kernel⟩
theorem witness_ClockCommands_5 :
    w0.Sound ∧ ((1 < 2 ^ 32) ∧ (w0.slotsQuiet = true) ∧ (w0.nlat Lat.incrStage < 2 ^ 32) ∧ (3865470566 ≤ x2 ∧ x2 ≤ 4724464025)) :=
  ⟨sound_w0, by decide +kernel⟩
theorem witness_ClockCommands_6 :
    w2.Sound ∧ (w2.ptpCmdOk = false) :=
  ⟨sound_w2, by decide +kernel⟩
theorem witness_ClockCommands_7 :
    w2.Sound ∧ (w2.ptpCmdOk = false ∨ x16 < 0) :=
  ⟨sound_w2, by decide +kernel⟩
theorem witness_ClockCommands_8 :
    w3.Sound ∧ ((0 < 2 ^ 32) ∧ (w3.slotsQuiet = false)) :=
  ⟨sound_w3, by decide +kernel⟩
end ClockCommands

namespace CommandDoors
def globListByte : List ((List Byte)) := [b8 ([2,0,0,0,0,1] ++ [4,0,0,0,0,9] ++ [0x88,0xB6] ++ [1,6,0,0, 0,0,0,0, 1,2,3,4, 0,0,0,9, 0,0,0,1, 0,0,0,2] ++ List.replicate 40 0), b8 ([2,0,0,0,0,2] ++ List.replicate 60 0)]
def samples : List State := [base, R .MGT_CMD_STATUS (2^31) base, base |> R .SIG_SELF_HI 0x200 |> R .SIG_SELF_LO 1 |> L .startWord 0xFF0000 |> L .fwUp 1]
def states : List State := samples.map syncS ++ samples.filter (fun s => s.regs0 ≠ [])
def w0 : State := states.getD 0 base
def w1 : State := states.getD 1 base
def w2 : State := states.getD 2 base
theorem sound_w0 : w0.Sound := sound_of (by decide +kernel)
theorem sound_w1 : w1.Sound := sound_of (by decide +kernel)
theorem sound_w2 : w2.Sound := sound_of (by decide +kernel)
/-! States and operands that meet the hypotheses of CommandDoors, clause by clause. -/
theorem witness_CommandDoors_1 :
    w0.Sound ∧ ((0 < 8) ∧ (14 ≤ (b8 ([2, 0, 0, 0, 0, 1] ++ [4, 0, 0, 0, 0, 9] ++ [136, 182] ++ [1, 6, 0, 0, 0, 0, 0, 0, 1, 2, 3, 4, 0, 0, 0, 9, 0, 0, 0, 1, 0, 0, 0, 2] ++ List.replicate 40 0)).length) ∧ ((b8 ([2, 0, 0, 0, 0, 1] ++ [4, 0, 0, 0, 0, 9] ++ [136, 182] ++ [1, 6, 0, 0, 0, 0, 0, 0, 1, 2, 3, 4, 0, 0, 0, 9, 0, 0, 0, 1, 0, 0, 0, 2] ++ List.replicate 40 0)).length ≤ 16384) ∧ (dstMac (b8 ([2, 0, 0, 0, 0, 1] ++ [4, 0, 0, 0, 0, 9] ++ [136, 182] ++ [1, 6, 0, 0, 0, 0, 0, 0, 1, 2, 3, 4, 0, 0, 0, 9, 0, 0, 0, 1, 0, 0, 0, 2] ++ List.replicate 40 0)) ≠ w0.selfMac ∨ etherType (b8 ([2, 0, 0, 0, 0, 1] ++ [4, 0, 0, 0, 0, 9] ++ [136, 182] ++ [1, 6, 0, 0, 0, 0, 0, 0, 1, 2, 3, 4, 0, 0, 0, 9, 0, 0, 0, 1, 0, 0, 0, 2] ++ List.replicate 40 0)) ≠ 34998 ∨ bit (w0.nlat Lat.startWord) (16 + 0) = false)) :=
  ⟨sound_w0, by decide +kernel⟩
theorem witness_CommandDoors_2 :
    w1.Sound ∧ ((0 < 2 ^ 32) ∧ (w1.cmdBusy = true)) :=
  ⟨sound_w1, by decide +kernel⟩
theorem witness_CommandDoors_3 :
    w2.Sound ∧ ((0 < 8) ∧ (14 ≤ (b8 ([2, 0, 0, 0, 0, 1] ++ [4, 0, 0, 0, 0, 9] ++ [136, 182] ++ [1, 6, 0, 0, 0, 0, 0, 0, 1, 2, 3, 4, 0, 0, 0, 9, 0, 0, 0, 1, 0, 0, 0, 2] ++ List.replicate 40 0)).length) ∧ ((b8 ([2, 0, 0, 0, 0, 1] ++ [4, 0, 0, 0, 0, 9] ++ [136, 182] ++ [1, 6, 0, 0, 0, 0, 0, 0, 1, 2, 3, 4, 0, 0, 0, 9, 0, 0, 0, 1, 0, 0, 0, 2] ++ List.replicate 40 0)).length ≤ 16384) ∧ (dstMac (b8 ([2, 0, 0, 0, 0, 1] ++ [4, 0, 0, 0, 0, 9] ++ [136, 182] ++ [1, 6, 0, 0, 0, 0, 0, 0, 1, 2, 3, 4, 0, 0, 0, 9, 0, 0, 0, 1, 0, 0, 0, 2] ++ List.replicate 40 0)) = w2.selfMac) ∧ (etherType (b8 ([2, 0, 0, 0, 0, 1] ++ [4, 0, 0, 0, 0, 9] ++ [136, 182] ++ [1, 6, 0, 0, 0, 0, 0, 0, 1, 2, 3, 4, 0, 0, 0, 9, 0, 0, 0, 1, 0, 0, 0, 2] ++ List.replicate 40 0)) = 34998) ∧ (payOff (b8 ([2, 0, 0, 0, 0, 1] ++ [4, 0, 0, 0, 0, 9] ++ [136, 182] ++ [1, 6, 0, 0, 0, 0, 0, 0, 1, 2, 3, 4, 0, 0, 0, 9, 0, 0, 0, 1, 0, 0, 0, 2] ++ List.replicate 40 0)) + 28 ≤ (b8 ([2, 0, 0, 0, 0, 1] ++ [4, 0, 0, 0, 0, 9] ++ [136, 182] ++ [1, 6, 0, 0, 0, 0, 0, 0, 1, 2, 3, 4, 0, 0, 0, 9, 0, 0, 0, 1, 0, 0, 0, 2] ++ List.replicate 40 0)).length) ∧ (beVal (slice (b8 ([2, 0, 0, 0, 0, 1] ++ [4, 0, 0, 0, 0, 9] ++ [136, 182] ++ [1, 6, 0, 0, 0, 0, 0, 0, 1, 2, 3, 4, 0, 0, 0, 9, 0, 0, 0, 1, 0, 0, 0, 2] ++ List.replicate 40 0)) (payOff (b8 ([2, 0, 0, 0, 0, 1] ++ [4, 0, 0, 0, 0, 9] ++ [136, 182] ++ [1, 6, 0, 0, 0, 0, 0, 0, 1, 2, 3, 4, 0, 0, 0, 9, 0, 0, 0, 1, 0, 0, 0, 2] ++ List.replicate 40 0))) 1) = 1) ∧ (bit (w2.nlat Lat.startWord) (16 + 0) = true) ∧ (w2.flag Lat.fwUp = true) ∧ (w2.flag Lat.mgtFail = false) ∧ (w2.cmdBusy = false) ∧ (w2.nvmLegal = true) ∧ (beVal (slice (b8 ([2, 0, 0, 0, 0, 1] ++ [4, 0, 0, 0, 0, 9] ++ [136, 182] ++ [1, 6, 0, 0, 0, 0, 0, 0, 1, 2, 3, 4, 0, 0, 0, 9, 0, 0, 0, 1, 0, 0, 0, 2] ++ List.replicate 40 0)) (payOff (b8 ([2, 0, 0, 0, 0, 1] ++ [4, 0, 0, 0, 0, 9] ++ [136, 182] ++ [1, 6, 0, 0, 0, 0, 0, 0, 1, 2, 3, 4, 0, 0, 0, 9, 0, 0, 0, 1, 0, 0, 0, 2] ++ List.replicate 40 0)) + 1) 1) = 6)) :=
  ⟨sound_w2, by decide +kernel⟩
end CommandDoors

namespace CommandsTakeNoTime
def samples : List State := [base]
def states : List State := samples.map syncS ++ samples.filter (fun s => s.regs0 ≠ [])
def w0 : State := states.getD 0 base
def x0 : State := nextOf (exec Instr.ageTick w0)
theorem sound_w0 : w0.Sound := sound_of (by decide +kernel)
/-! States and operands that meet the hypotheses of CommandsTakeNoTime, clause by clause. -/
theorem witness_CommandsTakeNoTime_1 :
    w0.Sound ∧ exec Instr.ageTick w0 = Host.Outcome.next x0 ∧ ((isReset Instr.ageTick = false) ∧ (writesAny Instr.ageTick = false) ∧ (Instr.ageTick ≠ Instr.ptpStep) ∧ (Instr.ageTick ≠ Instr.ptpAdj) ∧ (∀ (straps : Nat), Instr.ageTick ≠ Instr.resetNReleased straps)) :=
  ⟨sound_w0, next_of (by decide +kernel), by decide, by decide, by decide, by decide, fun _ h => nomatch h⟩
end CommandsTakeNoTime

namespace CommitDecision
def cm : Commit := ⟨.staticCommit, false, 5, 5, false, none, false, none, none, 100048, false⟩
def globCommit : List (Commit) := [cm, {cm with edgeAt := 100400}, {cm with edgeAt := 100401}, {cm with kind := .heldOver, edgeAt := 100400}, {cm with edgeAt := 100032}, {cm with edgeAt := 100033}, {cm with edgeAt := 100032, idx := 300, bank := 490, dram := true}, {cm with edgeAt := 100032, kind := .slot, pos := some 3}, {cm with guard := true}, {cm with edge := true}, {cm with launched := some true}, {cm with idx := 300, bank := 490, dram := true},{cm with kind := .slot, pos := some 3}]
def bb := base |> (R .DRV_BAR 0x111) |> (R .DRV_CROSS 0x222) |> (R .DRV_BAR 0x333 · 0 1)|> (R .DRV_CROSS 0x444 · 1 0) |> (R .DRV_MAN 0x555 · 1 0)
def bb2 : State := (bb.setBankWord 5 0 1).setBankWord 5 2 1
def pre (s : State) : State := s |> R .CFG_STATUS 0x10 |> L .cfgReq 6 |> L .cfgFrom 90000 |> L .spanAt 96400
def samples : List State := [bb2, pre bb2, pre bb2 |> L .spanAt 96401, pre bb2 |> R .MGT_TILE_HOLD 1, pre (M .hold {bb2 with prior := .static}), pre (M .characterise bb2), pre (M .hold bb2)] ++ globCommit.flatMap (fun c => [{bb2 with commit := some c}, {bb2 with commit := some c} |> M .slotted |> L .cmtUe 1,
   {bb2 with commit := some c, sable := true}, {bb2 with commit := some c} |> (L .unready 1 · 1), {bb2 with commit := some c} |> M .hold,{bb2 with commit := some c} |> R .MGT_TILE_HOLD 1|> L .unready 1])
def states : List State := samples.map syncS ++ samples.filter (fun s => s.regs0 ≠ [])
def w1 : State := states.getD 1 base
def w2 : State := states.getD 2 base
def w3 : State := states.getD 3 base
def w7 : State := states.getD 7 base
def w13 : State := states.getD 13 base
def w31 : State := states.getD 31 base
def w33 : State := states.getD 33 base
def x1 : Commit := w1.staticCommit.getD dCommit
def x4 : Commit := w2.staticCommit.getD dCommit
def x5 : Commit := w3.staticCommit.getD dCommit
def x13 : Commit := w7.commit.getD dCommit
def x19 : Commit := w13.commit.getD dCommit
def x37 : Commit := w31.commit.getD dCommit
def x39 : Commit := w33.commit.getD dCommit
theorem sound_w1 : w1.Sound := sound_of (by decide +kernel)
theorem sound_w13 : w13.Sound := sound_of (by decide +kernel)
theorem sound_w2 : w2.Sound := sound_of (by decide +kernel)
theorem sound_w3 : w3.Sound := sound_of (by decide +kernel)
theorem sound_w31 : w31.Sound := sound_of (by decide +kernel)
theorem sound_w33 : w33.Sound := sound_of (by decide +kernel)
theorem sound_w7 : w7.Sound := sound_of (by decide +kernel)
/-! States and operands that meet the hypotheses of CommitDecision, clause by clause. -/
theorem witness_CommitDecision_1 :
    w1.Sound ∧ (w1.staticCommit = some x1) ∧ ((w1.commit = none) ∧ (w1.lat Lat.fixG = 0) ∧ (w1.bankEcc = []) ∧ (x1.edgeAt = w1.grain + 400) ∧ (x1.guard = false) ∧ (0 ∈ w1.tiles) ∧ (0 < 64) ∧ (w1.chRole 0 0 ≠ 0) ∧ (w1.tileHold 0 = false) ∧ (w1.mode ≠ Mode.hold)) :=
  ⟨sound_w1, some_of (by decide +kernel), by decide +kernel⟩
theorem witness_CommitDecision_2 :
    w2.Sound ∧ (w2.staticCommit = some x4) ∧ ((w2.commit = none) ∧ (w2.lat Lat.fixG = 0) ∧ (w2.bankEcc = []) ∧ (x4.edgeAt ≠ w2.grain + 400)) :=
  ⟨sound_w2, some_of (by decide +kernel), by decide +kernel⟩
theorem witness_CommitDecision_3 :
    w3.Sound ∧ (w3.staticCommit = some x5) ∧ ((w3.commit = none) ∧ (w3.lat Lat.fixG = 0) ∧ (w3.bankEcc = []) ∧ (x5.edgeAt = w3.grain + 400) ∧ (x5.guard = false) ∧ (0 < 176) ∧ (0 < 64) ∧ (w3.tileHold 0 = true ∨ w3.mode = Mode.hold)) :=
  ⟨sound_w3, some_of (by decide +kernel), by decide +kernel⟩
theorem witness_CommitDecision_4 :
    w7.Sound ∧ (w7.commit = some x13) ∧ ((x13.edge = false) ∧ (x13.late = none) ∧ (([].all fun t => Decidable.decide (t < 176)) = true) ∧ (x13.edgeAt = w7.grain + 48) ∧ (x13.dram = false)) :=
  ⟨sound_w7, some_of (by decide +kernel), by decide +kernel⟩
theorem witness_CommitDecision_5 :
    w7.Sound ∧ (w7.commit = some x13) ∧ ((x13.edge = false) ∧ (x13.late = none) ∧ (x13.edgeAt ≠ w7.grain + 32)) :=
  ⟨sound_w7, some_of (by decide +kernel), by decide +kernel⟩
theorem witness_CommitDecision_6 :
    w13.Sound ∧ (w13.commit = some x19) ∧ ((x19.edge = false) ∧ (x19.late = none) ∧ (([].all fun t => Decidable.decide (t < 176)) = true) ∧ (x19.edgeAt ≠ w13.grain + 48)) :=
  ⟨sound_w13, some_of (by decide +kernel), by decide +kernel⟩
theorem witness_CommitDecision_7 :
    w31.Sound ∧ (w31.commit = some x37) ∧ ((x37.edge = false) ∧ (x37.late = none) ∧ (x37.launched = none) ∧ (w31.mode ≠ Mode.boot) ∧ (x37.edgeAt = w31.grain + 32) ∧ (w31.holdSeen = false) ∧ (w31.sable = false) ∧ (w31.unreadyTiles = [])) :=
  ⟨sound_w31, some_of (by decide +kernel), by decide +kernel⟩
theorem witness_CommitDecision_8 :
    w33.Sound ∧ (w33.commit = some x39) ∧ ((x39.edge = false) ∧ (x39.late = none) ∧ (x39.launched = none) ∧ (w33.mode ≠ Mode.boot) ∧ (x39.edgeAt = w33.grain + 32) ∧ (true = false ∧ w33.slotPaired = true ∨ w33.holdSeen = true ∨ w33.sable = true ∨ w33.unreadyTiles ≠ [])) :=
  ⟨sound_w33, some_of (by decide +kernel), by decide +kernel⟩
end CommitDecision

namespace Conversions
def sm : Sample := ⟨0, 1, 1, 6, false, 12345, false, false, false, false, 99000, none, false, 0, true, 4, false, 99⟩
def globSample : List (Sample) := [sm, {sm with span := 5}, {sm with conv := 0, tile := 1}, {sm with trim := true, bad := true, pos := some 4}]
def b2 := base |> L .aligned 1 |> R .ADC_REF 3 |> (L .convSpan 5 · 0 1) |> L .spanUp 1 |> L .tileSpan 5 |> L .tileSpanAt 99000
def samples : List State := [base, L .imgUp 0 b2, b2, b2 |> (L .convLong 1), b2 |> (R .ADC_ERRCNT 0xFFFF0005), {b2 with samples := [sm]}, {b2 with samples := [{sm with span := 5}, sm]}, {b2 with samples := [{sm with span := 4}, sm]}, {b2 with samples := [{sm with conv := 0, tile := 1}, sm]},  {b2 with samples := [{sm with trim := true, bad := true, pos := some 4}]}]
def states : List State := samples.map syncS ++ samples.filter (fun s => s.regs0 ≠ [])
def w0 : State := states.getD 0 base
def w1 : State := states.getD 1 base
def w5 : State := states.getD 5 base
def w7 : State := states.getD 7 base
def x71 : Sample := (List.find? (fun m => m.tile == 0 && m.conv == 1) w5.samples).getD dSample
def x72 : Nat := if x71.span = w5.nlat Lat.tileSpan ∧ w5.flag Lat.spanUp = true then w5.bankNow 0 else 1 - w5.bankNow 0
def x105 : Sample := (List.find? (fun m => m.tile == 0 && m.conv == 1) w7.samples).getD dSample
theorem sound_w0 : w0.Sound := sound_of (by decide +kernel)
theorem sound_w1 : w1.Sound := sound_of (by decide +kernel)
theorem sound_w5 : w5.Sound := sound_of (by decide +kernel)
theorem sound_w7 : w7.Sound := sound_of (by decide +kernel)
/-! States and operands that meet the hypotheses of Conversions, clause by clause. -/
theorem witness_Conversions_1 :
    w0.Sound ∧ ((0 < 176) ∧ (0 < 2) ∧ (0 < 128) ∧ (0 < 16384) ∧ (0 < 2 ^ 32) ∧ (w0.inUse 0 = true) ∧ (w0.flag Lat.imgUp = true) ∧ (0 < w0.roundLen 0 0) ∧ (w0.flag Lat.convLong 0 (1 - 0) = false)) :=
  ⟨sound_w0, by decide +kernel⟩
theorem witness_Conversions_2 :
    w1.Sound ∧ ((0 < 176) ∧ (0 < 2) ∧ (0 < 128) ∧ (0 < 16384) ∧ (0 < 2 ^ 32) ∧ (w1.inUse 0 = true) ∧ (w1.flag Lat.imgUp = false)) :=
  ⟨sound_w1, by decide +kernel⟩
theorem witness_Conversions_3 :
    w5.Sound ∧ (List.find? (fun m => m.tile == 0 && m.conv == 1) w5.samples = some x71) ∧ ((0 < 176) ∧ (1 < 2) ∧ (0 < 128) ∧ (0 < 16384) ∧ (0 < 2 ^ 32) ∧ (w5.inUse 0 = true) ∧ (x71.extra = false) ∧ (x71.input < 64) ∧ (w5.flag Lat.loopRec 0 (64 * x72 + x71.input) 7 = false) ∧ (w5.flag Lat.spanUp = true → w5.nlat Lat.tileSpan ≤ x71.span)) :=
  ⟨sound_w5, some_of (by decide +kernel), by decide +kernel⟩
theorem witness_Conversions_4 :
    w7.Sound ∧ (List.find? (fun m => m.tile == 0 && m.conv == 1) w7.samples = some x105) ∧ ((0 < 176) ∧ (1 < 2) ∧ (0 < 128) ∧ (0 < 16384) ∧ (0 < 2 ^ 32) ∧ (w7.inUse 0 = true) ∧ (x105.extra = false) ∧ (x105.input < 64) ∧ (w7.flag Lat.spanUp = true) ∧ (x105.span < w7.nlat Lat.tileSpan)) :=
  ⟨sound_w7, some_of (by decide +kernel), by decide +kernel⟩
end Conversions

namespace CoreCommands
def cmd (k : Int) (a : List Nat) (s : State) : State := (a.zipIdx.foldl (fun s x => (R .MGT_CMD_ARG x.1 s 0 x.2)) s) |> L .cmdOp k |> R .MGT_CMD_STATUS (2^31+2^16)
def prot (s : State) : State := s |> R .MGT_BOOT 0x81000000
def samples : List State := (([base, M .hold base, M .boot base, M .boot base |> R .MGT_MODE 0x800, cmd 7 [4096, 8, 0x100010, 0] (base.flashPut 4096 (leBytes 8 77)), cmd 8 [4096, 256, 0x100010, 0] (base.sramWrite 16 (leBytes 8 0x123456)), cmd 9 [65536,65536] (base.flashPut 65600 (leBytes 8 77)), cmd 9 [0x2000000,65536] (prot base), cmd 8 [0x2000000,16,0x100010,0] (prot base), cmd 10 [0] base, cmd 10 [1] base, cmd 11 [1] base |> L .imgSvn 5, cmd 11 [2] base |> R .MGT_FUSE 0x100, cmd 11 [2] base |> R .MGT_FUSE 5] : List State).map (L .flashSize 0x8000000))
def states : List State := samples.map syncS ++ samples.filter (fun s => s.regs0 ≠ [])
def w0 : State := states.getD 0 base
def w4 : State := states.getD 4 base
def w5 : State := states.getD 5 base
def w6 : State := states.getD 6 base
def w7 : State := states.getD 7 base
def w9 : State := states.getD 9 base
def w11 : State := states.getD 11 base
def w12 : State := states.getD 12 base
def w13 : State := states.getD 13 base
def x9 : Nat := w4.reg Reg.MGT_CMD_ARG 1
def x10 : Nat := ((w4.target w4.nvmAddr).getD dTN).snd
def x11 : Nat := w5.reg Reg.MGT_CMD_ARG
def x12 : Nat := w5.reg Reg.MGT_CMD_ARG 1
def x13 : Nat := ((w5.target w5.nvmAddr).getD dTN).snd
def x14 : Nat := w6.reg Reg.MGT_CMD_ARG
def x15 : Nat := w6.reg Reg.MGT_CMD_ARG 1
def x16 : Nat := w7.reg Reg.MGT_CMD_ARG
def x17 : Nat := w7.reg Reg.MGT_CMD_ARG 1
def x24 : Nat := w11.reg Reg.MGT_CMD_ARG
def x26 : Nat := w12.reg Reg.MGT_CMD_ARG
def x28 : Nat := w13.reg Reg.MGT_CMD_ARG
theorem sound_w0 : w0.Sound := sound_of (by decide +kernel)
theorem sound_w11 : w11.Sound := sound_of (by decide +kernel)
theorem sound_w12 : w12.Sound := sound_of (by decide +kernel)
theorem sound_w13 : w13.Sound := sound_of (by decide +kernel)
theorem sound_w4 : w4.Sound := sound_of (by decide +kernel)
theorem sound_w5 : w5.Sound := sound_of (by decide +kernel)
theorem sound_w6 : w6.Sound := sound_of (by decide +kernel)
theorem sound_w7 : w7.Sound := sound_of (by decide +kernel)
theorem sound_w9 : w9.Sound := sound_of (by decide +kernel)
/-! States and operands that meet the hypotheses of CoreCommands, clause by clause. -/
theorem witness_CoreCommands_1 :
    w0.Sound ∧ ((w0.cmdBusy = false) ∧ (w0.flag Lat.mgtFail = false) ∧ (w0.nvmLegal = true) ∧ (0 < 2 ^ 32) ∧ (0 < 2 ^ 32) ∧ (0 < 2 ^ 32) ∧ (0 < 2 ^ 32)) :=
  ⟨sound_w0, by decide +kernel⟩
theorem witness_CoreCommands_2 :
    w0.Sound ∧ ((w0.cmdBusy = false) ∧ (w0.flag Lat.mgtFail = false) ∧ (w0.inRun = true ∨ w0.mode = Mode.hold)) :=
  ⟨sound_w0, by decide +kernel⟩
theorem witness_CoreCommands_3 :
    w4.Sound ∧ ((0 < 2 ^ 32) ∧ (w4.flag Lat.mgtFail = false) ∧ (w4.sable = false) ∧ (w4.mgmt = none) ∧ (w4.lat Lat.cmdOp = 7) ∧ (w4.nvmArgsOk 6 = true) ∧ (w4.target w4.nvmAddr = some (Target.sram, x10)) ∧ (0 < x9)) :=
  ⟨sound_w4, by decide +kernel⟩
theorem witness_CoreCommands_4 :
    w4.Sound ∧ ((0 < 2 ^ 32) ∧ (w4.flag Lat.mgtFail = false) ∧ (w4.sable = false) ∧ (w4.mgmt = none) ∧ (w4.lat Lat.cmdOp = 7) ∧ (w4.nvmArgsOk 6 = true) ∧ (w4.target w4.nvmAddr = some (Target.sram, x10)) ∧ (0 < x10 ∨ x10 + x9 ≤ 0)) :=
  ⟨sound_w4, by decide +kernel⟩
theorem witness_CoreCommands_5 :
    w5.Sound ∧ ((0 < 2 ^ 32) ∧ (w5.flag Lat.mgtFail = false) ∧ (w5.sable = false) ∧ (w5.mgmt = none) ∧ (w5.lat Lat.cmdOp = 8) ∧ (w5.nvmArgsOk 7 = true) ∧ (w5.protected' x11 x12 = false) ∧ (w5.target w5.nvmAddr = some (Target.sram, x13)) ∧ (0 < x12)) :=
  ⟨sound_w5, by decide +kernel⟩
theorem witness_CoreCommands_6 :
    w5.Sound ∧ ((0 < 2 ^ 32) ∧ (w5.flag Lat.mgtFail = false) ∧ (w5.sable = false) ∧ (w5.mgmt = none) ∧ (w5.lat Lat.cmdOp = 8) ∧ (w5.nvmArgsOk 7 = true) ∧ (w5.protected' x11 x12 = false) ∧ (w5.target w5.nvmAddr = some (Target.sram, x13)) ∧ (0 < x11 ∨ x11 + x12 ≤ 0)) :=
  ⟨sound_w5, by decide +kernel⟩
theorem witness_CoreCommands_7 :
    w6.Sound ∧ ((0 < 2 ^ 32) ∧ (w6.flag Lat.mgtFail = false) ∧ (w6.sable = false) ∧ (w6.mgmt = none) ∧ (w6.lat Lat.cmdOp = 9) ∧ (w6.nvmArgsOk 8 = true) ∧ (w6.protected' x14 x15 = false) ∧ (x14 ≤ 65600) ∧ (65600 < x14 + x15)) :=
  ⟨sound_w6, by decide +kernel⟩
theorem witness_CoreCommands_8 :
    w6.Sound ∧ ((0 < 2 ^ 32) ∧ (w6.flag Lat.mgtFail = false) ∧ (w6.sable = false) ∧ (w6.mgmt = none) ∧ (w6.lat Lat.cmdOp = 9) ∧ (w6.nvmArgsOk 8 = true) ∧ (w6.protected' x14 x15 = false) ∧ (0 < x14 ∨ x14 + x15 ≤ 0)) :=
  ⟨sound_w6, by decide +kernel⟩
theorem witness_CoreCommands_9 :
    w7.Sound ∧ ((0 < 2 ^ 32) ∧ (w7.flag Lat.mgtFail = false) ∧ (w7.sable = false) ∧ (w7.mgmt = none) ∧ (8 = 7 ∨ 8 = 8) ∧ (w7.lat Lat.cmdOp = ↑(8 + 1)) ∧ (w7.nvmArgsOk 8 = true) ∧ (w7.protected' x16 x17 = true)) :=
  ⟨sound_w7, by decide +kernel⟩
theorem witness_CoreCommands_10 :
    w9.Sound ∧ ((0 < 2 ^ 32) ∧ (w9.flag Lat.mgtFail = false) ∧ (w9.sable = false) ∧ (w9.mgmt = none) ∧ (w9.lat Lat.cmdOp = 10)) :=
  ⟨sound_w9, by decide +kernel⟩
theorem witness_CoreCommands_11 :
    w11.Sound ∧ ((0 < 2 ^ 32) ∧ (w11.flag Lat.mgtFail = false) ∧ (w11.sable = false) ∧ (w11.mgmt = none) ∧ (w11.lat Lat.cmdOp = 11) ∧ (x24 = 1) ∧ (w11.nlat Lat.imgSvn < 64)) :=
  ⟨sound_w11, by decide +kernel⟩
theorem witness_CoreCommands_12 :
    w12.Sound ∧ ((0 < 2 ^ 32) ∧ (w12.flag Lat.mgtFail = false) ∧ (w12.sable = false) ∧ (w12.mgmt = none) ∧ (w12.lat Lat.cmdOp = 11) ∧ (x26 = 2) ∧ (w12.rbit Reg.MGT_FUSE 8 = true)) :=
  ⟨sound_w12, by decide +kernel⟩
theorem witness_CoreCommands_13 :
    w13.Sound ∧ ((0 < 2 ^ 32) ∧ (w13.flag Lat.mgtFail = false) ∧ (w13.sable = false) ∧ (w13.mgmt = none) ∧ (w13.lat Lat.cmdOp = 11) ∧ (x28 = 2) ∧ (w13.rbit Reg.MGT_FUSE 8 = false)) :=
  ⟨sound_w13, by decide +kernel⟩
end CoreCommands

namespace CurrentMonitor
def samples : List State := [base,
  base |> (R .DRV_IMON 0xfff0fff) |> R .HLT_V 12000 |> (R .HLT_V 11900 · 0 2) |> L .scanI 1000000 |> L .scanVI 5000000,
  base |> (R .DRV_LEGA_LOST 2) |> (R .DRV_LEGB_LOST 1) |> R .DRV_ACTIVE 0x123 |> L .skewReq 1|> (R .HTR_SPARE 0x40000005 · 0 1),
  base |> R .CAL_STATUS 0x80000000]
def states : List State := samples.map syncS ++ samples.filter (fun s => s.regs0 ≠ [])
def w0 : State := states.getD 0 base
def w3 : State := states.getD 3 base
theorem sound_w0 : w0.Sound := sound_of (by decide +kernel)
theorem sound_w3 : w3.Sound := sound_of (by decide +kernel)
/-! States and operands that meet the hypotheses of CurrentMonitor, clause by clause. -/
theorem witness_CurrentMonitor_1 :
    w0.Sound ∧ ((0 < 176) ∧ (w0.inUse 0 = true) ∧ (0 < 128) ∧ (0 < 65536) ∧ (0 < 65536)) :=
  ⟨sound_w0, by decide +kernel⟩
theorem witness_CurrentMonitor_2 :
    w0.Sound ∧ ((0 < 176) ∧ (w0.inUse 0 = true) ∧ (0 < 64) ∧ (0 < 65536) ∧ (0 < 65536) ∧ (w0.spareOf 0 0 = none)) :=
  ⟨sound_w0, by decide +kernel⟩
theorem witness_CurrentMonitor_3 :
    w0.Sound ∧ ((0 < 176) ∧ (w0.inUse 0 = true) ∧ (1 < 2 ^ 32) ∧ (w0.campaign = false) ∧ (bit 1 0 = true)) :=
  ⟨sound_w0, by decide +kernel⟩
theorem witness_CurrentMonitor_4 :
    w3.Sound ∧ ((0 < 176) ∧ (w3.inUse 0 = true) ∧ (0 < 2 ^ 32) ∧ (w3.campaign = true)) :=
  ⟨sound_w3, by decide +kernel⟩
end CurrentMonitor

namespace DmaChannels
def okB : MemRes → Option (List Byte) | .ok b => some b | _ => none
def desc (w0 w1 : Nat) : List Byte := leBytes 4 w0 ++ leBytes 4 w1 ++ leBytes 4 0x3000 ++ leBytes 4 0 ++ leBytes 4 0x5000 ++ leBytes 4 0 ++ leBytes 4 0 ++ leBytes 4 0
def ds (ch : Nat) (w0 w1 : Nat) (s : State) : State := ({s with tlb := [⟨ch, 0x10000, 4096, 0x1000020000, true, true⟩]} |> (R .MMU_STREAM (2^31) · 0 ch) |> (R .DMA_CH_DESC_LO 0x10020 · 0 ch)).dramWrite 0x20020 (desc w0 w1)
def stt (ch v : Nat) (s : State) : State := R .DMA_CH_STATUS (2^29*v+7) s 0 ch
def samples : List State := [base, ds 0 0 64 base, ds 1 (2^31+64) 0 base, ds 15 (2^31+2^29+3) 7 (stt 15 4 base), ds 0 (2^31+2^28) 0 base, stt 0 1 base |> (R .DMA_CH_FAULT_HI 0x1000 · 0 1) |> stt 1 3, stt 0 3 base |> (L .dmaAbort 1) |> stt 1 3 |> stt 15 2, {stt 0 1 base |> stt 15 2 with dmaUnits := [⟨0, 0, 4, [], [], false, false, 0, 0, none, false⟩]}, ds 0 (2^30) 5 base, stt 0 3 (ds 0 (2^31) 64 base) |> (R .DMA_CH_FAULT_HI 0x1000 · 0 0), stt 0 7 base]
def states : List State := samples.map syncS ++ samples.filter (fun s => s.regs0 ≠ [])
def w0 : State := states.getD 0 base
def w1 : State := states.getD 1 base
def w2 : State := states.getD 2 base
def w5 : State := states.getD 5 base
def w6 : State := states.getD 6 base
def w7 : State := states.getD 7 base
def x0 : Nat := 2 ^ 32 * w0.fld Reg.DMA_CH_DESC_HI 6 0 + w0.fld Reg.DMA_CH_DESC_LO 31 5 * 32
def x1 : State := ((((w0.setLat Lat.dmaHop 0).setReg Reg.DMA_CH_CUR_LO (x0 % 2 ^ 32)).setReg Reg.DMA_CH_CUR_HI (x0 / 2 ^ 32 % 2 ^ 7)).setReg Reg.DMA_CH_DONE 0).setLat Lat.dmaPos 0
def x3 : State := (x1.translate 0 (x0 % 2 ^ 39) false).snd
def x6 : XCause := (x1.translate 0 (x0 % 2 ^ 39) false).fst.getLeft?.getD dCause
def x21 : Nat := 2 ^ 32 * w1.fld Reg.DMA_CH_DESC_HI 6 0 + w1.fld Reg.DMA_CH_DESC_LO 31 5 * 32
def x22 : State := ((((w1.setLat Lat.dmaHop 0).setReg Reg.DMA_CH_CUR_LO (x21 % 2 ^ 32)).setReg Reg.DMA_CH_CUR_HI (x21 / 2 ^ 32 % 2 ^ 7)).setReg Reg.DMA_CH_DONE 0).setLat Lat.dmaPos 0
def x23 : Nat := (x22.translate 0 (x21 % 2 ^ 39) false).fst.getRight?.getD 0
def x24 : State := (x22.translate 0 (x21 % 2 ^ 39) false).snd
def x25 : List Byte := okBytes (x24.memGet Port.dma x23 32).fst
def x26 : State := (x24.memGet Port.dma x23 32).snd
def x27 : Bool := descValid ((fun k => leVal (slice x25 (4 * k) 4)) 0) ((fun k => leVal (slice x25 (4 * k) 4)) 1) ((fun k => leVal (slice x25 (4 * k) 4)) 3) ((fun k => leVal (slice x25 (4 * k) 4)) 5) ((fun k => leVal (slice x25 (4 * k) 4)) 7) (bit ((fun k => leVal (slice x25 (4 * k) 4)) 0) 27) (bit ((fun k => leVal (slice x25 (4 * k) 4)) 0) 26)
def x50 : Nat := 2 ^ 32 * w2.fld Reg.DMA_CH_DESC_HI 6 0 1 + w2.fld Reg.DMA_CH_DESC_LO 31 5 1 * 32
def x51 : State := ((((w2.setLat Lat.dmaHop 0 1).setReg Reg.DMA_CH_CUR_LO (x50 % 2 ^ 32) 1).setReg Reg.DMA_CH_CUR_HI (x50 / 2 ^ 32 % 2 ^ 7) 1).setReg Reg.DMA_CH_DONE 0 1).setLat Lat.dmaPos 0 1
def x52 : Nat := (x51.translate 1 (x50 % 2 ^ 39) false).fst.getRight?.getD 0
def x53 : State := (x51.translate 1 (x50 % 2 ^ 39) false).snd
def x54 : List Byte := okBytes (x53.memGet Port.dma x52 32).fst
def x55 : State := (x53.memGet Port.dma x52 32).snd
def x56 : Bool := descValid ((fun k => leVal (slice x54 (4 * k) 4)) 0) ((fun k => leVal (slice x54 (4 * k) 4)) 1) ((fun k => leVal (slice x54 (4 * k) 4)) 3) ((fun k => leVal (slice x54 (4 * k) 4)) 5) ((fun k => leVal (slice x54 (4 * k) 4)) 7) (bit ((fun k => leVal (slice x54 (4 * k) 4)) 0) 27) (bit ((fun k => leVal (slice x54 (4 * k) 4)) 0) 26)
theorem sound_w0 : w0.Sound := sound_of (by decide +kernel)
theorem sound_w1 : w1.Sound := sound_of (by decide +kernel)
theorem sound_w2 : w2.Sound := sound_of (by decide +kernel)
theorem sound_w5 : w5.Sound := sound_of (by decide +kernel)
theorem sound_w6 : w6.Sound := sound_of (by decide +kernel)
theorem sound_w7 : w7.Sound := sound_of (by decide +kernel)
/-! States and operands that meet the hypotheses of DmaChannels, clause by clause. -/
theorem witness_DmaChannels_1 :
    w0.Sound ∧ (x1.translate 0 (x0 % 2 ^ 39) false = (Sum.inl x6, x3)) ∧ ((0 < 16) ∧ (w0.dmaState 0 = 0 ∨ w0.dmaState 0 = 4)) :=
  ⟨sound_w0, by delta x6 x3; exact pair_of (inl_of (by decide +kernel)), by decide +kernel⟩
theorem witness_DmaChannels_2 :
    w0.Sound ∧ ((0 < 16) ∧ (w0.dmaState 0 ≠ 3 ∨ w0.flag Lat.dmaAbort = true)) :=
  ⟨sound_w0, by decide +kernel⟩
theorem witness_DmaChannels_3 :
    w0.Sound ∧ ((0 < 16) ∧ (w0.dmaState 0 = 0 ∨ 3 < w0.dmaState 0)) :=
  ⟨sound_w0, by decide +kernel⟩
theorem witness_DmaChannels_4 :
    w1.Sound ∧ (x22.translate 0 (x21 % 2 ^ 39) false = (Sum.inr x23, x24)) ∧ (x24.memGet Port.dma x23 32 = (MemRes.ok x25, x26)) ∧ ((0 < 16) ∧ (w1.dmaState 0 = 0 ∨ w1.dmaState 0 = 4) ∧ (x27 = false)) :=
  ⟨sound_w1, by delta x23 x24; exact pair_of (inr_of (by decide +kernel)), by delta x25 x26; exact pair_of (ok_of (by decide +kernel)), by decide +kernel⟩
theorem witness_DmaChannels_5 :
    w2.Sound ∧ (x51.translate 1 (x50 % 2 ^ 39) false = (Sum.inr x52, x53)) ∧ (x53.memGet Port.dma x52 32 = (MemRes.ok x54, x55)) ∧ ((1 < 16) ∧ (w2.dmaState 1 = 0 ∨ w2.dmaState 1 = 4) ∧ (x56 = true)) :=
  ⟨sound_w2, by delta x52 x53; exact pair_of (inr_of (by decide +kernel)), by delta x54 x55; exact pair_of (ok_of (by decide +kernel)), by decide +kernel⟩
theorem witness_DmaChannels_6 :
    w5.Sound ∧ ((0 < 16) ∧ (¬(w5.dmaState 0 = 0 ∨ w5.dmaState 0 = 4))) :=
  ⟨sound_w5, by decide +kernel⟩
theorem witness_DmaChannels_7 :
    w5.Sound ∧ ((0 < 16) ∧ (1 ≤ w5.dmaState 0) ∧ (w5.dmaState 0 ≤ 3) ∧ (w5.dmaBusy 0 = false)) :=
  ⟨sound_w5, by decide +kernel⟩
theorem witness_DmaChannels_8 :
    w6.Sound ∧ ((1 < 16) ∧ (w6.dmaState 1 = 3) ∧ (w6.flag Lat.dmaAbort 1 = false) ∧ (w6.rbit Reg.DMA_CH_FAULT_HI 12 1 = false)) :=
  ⟨sound_w6, by decide +kernel⟩
theorem witness_DmaChannels_9 :
    w7.Sound ∧ ((0 < 16) ∧ (1 ≤ w7.dmaState 0) ∧ (w7.dmaState 0 ≤ 3) ∧ (w7.dmaBusy 0 = true)) :=
  ⟨sound_w7, by decide +kernel⟩
end DmaChannels

namespace DmaUnitsAndMemory
def okB : MemRes → Option (List Byte) | .ok b => some b | _ => none
def dw (ch : Nat) (w0 pos : Nat) (s : State) : State := {s with dram := (List.range 512).map (fun k => (0x20000 + k, 5#8)) ++ (List.range 256).map (fun k => (0x20F00 + k, 5#8)), tlb := [⟨ch, 0x10000, 4096, 0x1000020000, true, true⟩, ⟨2, 0, 4096, 0x100000, true, true⟩, ⟨1, 0x3000, 4096, 0x1000020000, true, true⟩]} |> (R .MMU_STREAM (2^31) · 0 ch) |> (L .dmaW w0 · ch 0) |> (L .dmaW 0x10003 · ch 2) |> (L .dmaW 0x10f41 · ch 4) |> (R .DMA_CH_STATUS (2^29+3) · 0 ch) |> (L .dmaPos pos · ch)
def un : DmaUnit := ⟨1, 64, 8, [(0x1000020000, 8)], [(0x1000020F00, 4), (0x1000020FF0, 4)], false, false, 0, 0, none, false⟩
def uh : DmaUnit := ⟨2, 64, 8, [(0x1000020000, 8)], [(0x1000020F00, 8)], true, false, 1, 15, none, false⟩
def run2 (s : State) : State := R .DMA_CH_STATUS (2^29) s 0 2
def samples : List State := [base, dw 1 (2^31+200) 0 base, dw 1 (2^31+200) 190 base, {dw 1 (2^31+200) 0 base with dmaUnits := List.replicate 8 un}, {dw 1 (2^31+200) 0 base with dmaUnits := [un, uh]}, {run2 (dw 1 (2^31+72) 0 base) with dmaUnits := [un, uh], dramUe := [0x20000/32]}, dw 1 (2^27+2^31+64) 60 base, base |> R .MMU_INV_IOVA_LO 0x3000, dw 1 0 0 base |> R .MMU_INV_IOVA_LO 0x3000, {base with dramUe := [1, 500]}.dramWrite 0 (List.replicate 80 7#8) |> R .DRAM_CTRL 1 |> R .DRAM_CE_CNT 0xFFFFFFFF, {run2 (dw 1 (2^31+72) 0 base) with dmaUnits := [uh]}]
def states : List State := samples.map syncS ++ samples.filter (fun s => s.regs0 ≠ [])
def w0 : State := states.getD 0 base
def w1 : State := states.getD 1 base
def w3 : State := states.getD 3 base
def w4 : State := states.getD 4 base
def w5 : State := states.getD 5 base
def w9 : State := states.getD 9 base
def x19 : Nat := 32 * 0
def x25 : Nat := 32 * 15
def x29 : Nat := w1.dmaChoose.getD 0
def x30 : List (Nat × Nat) := ((w1.setLat Lat.dmaPick ↑(x29 + 1)).dmaSide x29 (bit (w1.dmaWord x29 0) 27) false (w1.dmaWord x29 2 + 2 ^ 32 * w1.dmaWord x29 3 + w1.nlat Lat.dmaPos x29) (Min.min (w1.dmaLen x29 - w1.nlat Lat.dmaPos x29) (64 - (w1.dmaWord x29 4 + 2 ^ 32 * w1.dmaWord x29 5 + w1.nlat Lat.dmaPos x29) % 64))).fst.getRight?.getD []
def x31 : State := ((w1.setLat Lat.dmaPick ↑(x29 + 1)).dmaSide x29 (bit (w1.dmaWord x29 0) 27) false (w1.dmaWord x29 2 + 2 ^ 32 * w1.dmaWord x29 3 + w1.nlat Lat.dmaPos x29) (Min.min (w1.dmaLen x29 - w1.nlat Lat.dmaPos x29) (64 - (w1.dmaWord x29 4 + 2 ^ 32 * w1.dmaWord x29 5 + w1.nlat Lat.dmaPos x29) % 64))).snd
def x32 : List (Nat × Nat) := (x31.dmaSide x29 (bit (w1.dmaWord x29 0) 26) true (w1.dmaWord x29 4 + 2 ^ 32 * w1.dmaWord x29 5 + w1.nlat Lat.dmaPos x29) (Min.min (w1.dmaLen x29 - w1.nlat Lat.dmaPos x29) (64 - (w1.dmaWord x29 4 + 2 ^ 32 * w1.dmaWord x29 5 + w1.nlat Lat.dmaPos x29) % 64))).fst.getRight?.getD []
def x33 : State := (x31.dmaSide x29 (bit (w1.dmaWord x29 0) 26) true (w1.dmaWord x29 4 + 2 ^ 32 * w1.dmaWord x29 5 + w1.nlat Lat.dmaPos x29) (Min.min (w1.dmaLen x29 - w1.nlat Lat.dmaPos x29) (64 - (w1.dmaWord x29 4 + 2 ^ 32 * w1.dmaWord x29 5 + w1.nlat Lat.dmaPos x29) % 64))).snd
def x34 : Nat := w1.nlat Lat.dmaPos x29
def x35 : Nat := w1.dmaWord x29 0
def x36 : Nat := w1.dmaWord x29 4 + 2 ^ 32 * w1.dmaWord x29 5 + x34
def x37 : Nat := Min.min (w1.dmaLen x29 - x34) (64 - x36 % 64)
def x67 : DmaUnit := (List.find? (fun u => u.ch == 1) w3.dmaUnits).getD dUnit
def x68 : State := { w3 with dmaUnits := w3.dmaUnits.erase x67 }
def x69 : List Byte := okBytes (x68.dmaGather x67.src).fst
def x70 : State := (x68.dmaGather x67.src).snd
def x71 : State := (x70.dmaScatter x67.dst x69).snd
def x99 : DmaUnit := (w4.tagUnit 1 15).getD dUnit
def x102 : DmaUnit := (List.find? (fun u => u.ch == 1) w5.dmaUnits).getD dUnit
def x103 : State := { w5 with dmaUnits := w5.dmaUnits.erase x102 }
def x105 : State := (x103.dmaGather x102.src).snd
theorem sound_w0 : w0.Sound := sound_of (by decide +kernel)
theorem sound_w1 : w1.Sound := sound_of (by decide +kernel)
theorem sound_w3 : w3.Sound := sound_of (by decide +kernel)
theorem sound_w4 : w4.Sound := sound_of (by decide +kernel)
theorem sound_w5 : w5.Sound := sound_of (by decide +kernel)
theorem sound_w9 : w9.Sound := sound_of (by decide +kernel)
/-! States and operands that meet the hypotheses of DmaUnitsAndMemory, clause by clause. -/
theorem witness_DmaUnitsAndMemory_1 :
    w0.Sound ∧ (8 ≤ w0.dmaUnits.length ∨ w0.dmaChoose = none) :=
  ⟨sound_w0, by decide +kernel⟩
theorem witness_DmaUnitsAndMemory_2 :
    w0.Sound ∧ ((0 < 16) ∧ (List.find? (fun u => u.ch == 0) w0.dmaUnits = none)) :=
  ⟨sound_w0, by decide +kernel⟩
theorem witness_DmaUnitsAndMemory_3 :
    w0.Sound ∧ ((0 < 2) ∧ (0 < 256) ∧ (w0.tagUnit 0 0 = none)) :=
  ⟨sound_w0, by decide +kernel⟩
theorem witness_DmaUnitsAndMemory_4 :
    w0.Sound ∧ (0 < 32) :=
  ⟨sound_w0, by decide +kernel⟩
theorem witness_DmaUnitsAndMemory_5 :
    w0.Sound ∧ ((0 < 2 ^ 29) ∧ (0 < 3) ∧ (w0.rbit Reg.DRAM_CTRL 0 = false ∨ w0.dramSize ≤ 0 * 32 ∨ ¬0 ∈ w0.dramUe ∧ 0 = 0 ∧ ¬w0.dramFresh x19 32 ≠ [])) :=
  ⟨sound_w0, by decide +kernel⟩
theorem witness_DmaUnitsAndMemory_6 :
    w1.Sound ∧ (w1.dmaChoose = some x29) ∧ ((w1.setLat Lat.dmaPick ↑(x29 + 1)).dmaSide x29 (bit x35 27) false (w1.dmaWord x29 2 + 2 ^ 32 * w1.dmaWord x29 3 + x34) x37 = (Sum.inr x30, x31)) ∧ (x31.dmaSide x29 (bit x35 26) true x36 x37 = (Sum.inr x32, x33)) ∧ (w1.dmaUnits.length < 8) :=
  ⟨sound_w1, some_of (by decide +kernel), by delta x30 x31; exact pair_of (inr_of (by decide +kernel)), by delta x32 x33; exact pair_of (inr_of (by decide +kernel)), by decide +kernel⟩
theorem witness_DmaUnitsAndMemory_7 :
    w3.Sound ∧ (List.find? (fun u => u.ch == 1) w3.dmaUnits = some x67) ∧ (x68.dmaGather x67.src = (MemRes.ok x69, x70)) ∧ (x70.dmaScatter x67.dst x69 = (true, x71)) ∧ ((1 < 16) ∧ (x67.srcHost = false) ∧ (x67.dstHost = false) ∧ (x67.data = none) ∧ (x67.stray = false) ∧ (w3.flag Lat.dmaAbort 1 = false) ∧ (x67.pos + x67.len ≠ w3.dmaLen 1)) :=
  ⟨sound_w3, some_of (by decide +kernel), by delta x69 x70; exact pair_of (ok_of (by decide +kernel)), by delta x71; exact pair_of (by decide +kernel), by decide +kernel⟩
theorem witness_DmaUnitsAndMemory_8 :
    w4.Sound ∧ (w4.tagUnit 1 15 = some x99) ∧ ((1 < 2) ∧ (15 < 256) ∧ (x99.ch < 16) ∧ (x99.stray = false) ∧ (w4.flag Lat.dmaAbort x99.ch = false)) :=
  ⟨sound_w4, some_of (by decide +kernel), by decide +kernel⟩
theorem witness_DmaUnitsAndMemory_9 :
    w5.Sound ∧ (List.find? (fun u => u.ch == 1) w5.dmaUnits = some x102) ∧ (x103.dmaGather x102.src = (MemRes.ue, x105)) ∧ ((1 < 16) ∧ (x102.srcHost = false) ∧ (x102.dstHost = false) ∧ (x102.data = none) ∧ (x102.stray = false) ∧ (w5.flag Lat.dmaAbort 1 = false)) :=
  ⟨sound_w5, some_of (by decide +kernel), by delta x105; exact pair_of (by decide +kernel), by decide +kernel⟩
theorem witness_DmaUnitsAndMemory_10 :
    w9.Sound ∧ ((0 < 2 ^ 29) ∧ (1 < 3) ∧ (w9.rbit Reg.DRAM_CTRL 0 = true) ∧ (0 * 32 < w9.dramSize) ∧ (1 = 1) ∧ (¬w9.dramFresh x19 32 ≠ []) ∧ (¬0 ∈ w9.dramUe)) :=
  ⟨sound_w9, by decide +kernel⟩
theorem witness_DmaUnitsAndMemory_11 :
    w9.Sound ∧ ((0 < 2 ^ 29) ∧ (2 < 3) ∧ (w9.rbit Reg.DRAM_CTRL 0 = true) ∧ (0 * 32 < w9.dramSize) ∧ (0 ∈ w9.dramUe ∨ 2 = 2 ∧ ¬w9.dramFresh x19 32 ≠ [])) :=
  ⟨sound_w9, by decide +kernel⟩
theorem witness_DmaUnitsAndMemory_12 :
    w9.Sound ∧ ((15 < 2 ^ 29) ∧ (0 < 3) ∧ (w9.rbit Reg.DRAM_CTRL 0 = true) ∧ (15 * 32 < w9.dramSize) ∧ (w9.dramFresh x25 32 ≠ []) ∧ (¬15 ∈ w9.dramUe)) :=
  ⟨sound_w9, by decide +kernel⟩
end DmaUnitsAndMemory

namespace EventConsumers
def globPlvFrame : List (PlvFrame) := []
def pend (i h src : Nat) (s : State) : State := (R .EVT_INST (2^31+2^27*h+src) s 0 i)
def lup (l : Nat) (s : State) : State := s |> (R .PLV_LSTATUS 0xF3 · 0 l) |> (L .plvLim 1000 · l 0)|> (L .plvLim 1000 · l 1)|> (L .plvLim 1000 · l 2) |> (L .plvTx 4095 · l)
def fr0 : PlvFrame := ⟨0, some 3, 8, 7, 0, 0, [1#8], 1, 0⟩
def sec (s : State) : State := s |> (R .EVT_CH 0x8000 · 0 9) |> (R .EVT_SRC (2^31+9) · 0 0x260) |> (R .EVT_SRC (2^31+8) · 0 0x261)
def samples : List State := [base, sec base, pend 0x238 3 9 (M .characterise base) |> L .swpSeg 5, pend 0x238 3 9 (base), pend 0x239 3 9 (M .characterise base) |> R .SWP_STATUS 1, pend 0x23A 6 9 (base) |> R .CAL_CTRL 0x10000 , pend 0x228 5 9 (base) |> (R .DMA_CH_STATUS (2*2^29+5)), pend 0x229 5 9 (base) |> (R .DMA_CH_STATUS (2*2^29+5) · 0 1) |> (L .dmaAbort 1 · 1), pend 0x220 5 9 (lup 1 base), {pend 0x221 5 9 (lup 0 base) with plvOut := [fr0]}, {pend 0x221 5 9 (lup 0 base) with plvOut := [{fr0 with seq := none}]}, pend 0x200 5 9 base, pend 0x201 5 9 base, sec base |> (R .EVT_CH 0x10000 · 0 0x29) |> (R .EVT_CH 0x20000 · 0 5), sec base |> (R .EVT_SUB (2^31+9) · 0 5), sec base |> (R .EVT_CH 0x28000 · 0 9)]
def states : List State := samples.map syncS ++ samples.filter (fun s => s.regs0 ≠ [])
def w0 : State := states.getD 0 base
def w1 : State := states.getD 1 base
def w2 : State := states.getD 2 base
def w4 : State := states.getD 4 base
def w5 : State := states.getD 5 base
def w6 : State := states.getD 6 base
def w8 : State := states.getD 8 base
def x0 : Nat := w0.reg Reg.EVT_SRC (608 + 0)
def x3 : Reg := evtReg true
def x4 : Nat := bits 0 8 0
def x5 : Bool := if true = true then evtInput 0 else evtSource 0
def x14 : Bool := if true = true then evtInput 5 else evtSource 5
def x16 : Bool := if true = true then evtInput 176 else evtSource 176
def x17 : Nat := w1.reg Reg.EVT_SRC (608 + 0)
theorem sound_w0 : w0.Sound := sound_of (by decide +kernel)
theorem sound_w1 : w1.Sound := sound_of (by decide +kernel)
theorem sound_w2 : w2.Sound := sound_of (by decide +kernel)
theorem sound_w4 : w4.Sound := sound_of (by decide +kernel)
theorem sound_w5 : w5.Sound := sound_of (by decide +kernel)
theorem sound_w6 : w6.Sound := sound_of (by decide +kernel)
theorem sound_w8 : w8.Sound := sound_of (by decide +kernel)
/-! States and operands that meet the hypotheses of EventConsumers, clause by clause. -/
theorem witness_EventConsumers_1 :
    w0.Sound ∧ (w0.evtPend 568 = false) :=
  ⟨sound_w0, by decide +kernel⟩
theorem witness_EventConsumers_2 :
    w0.Sound ∧ (w0.evtPend 569 = false) :=
  ⟨sound_w0, by decide +kernel⟩
theorem witness_EventConsumers_3 :
    w0.Sound ∧ (w0.evtPend 570 = false) :=
  ⟨sound_w0, by decide +kernel⟩
theorem witness_EventConsumers_4 :
    w0.Sound ∧ ((0 < 16) ∧ (¬(w0.evtPend (552 + 0) = true ∧ w0.dmaState 0 = 2 ∧ w0.flag Lat.dmaAbort = false))) :=
  ⟨sound_w0, by decide +kernel⟩
theorem witness_EventConsumers_5 :
    w0.Sound ∧ ((0 < 8) ∧ (¬(w0.evtPend (544 + 0) = true ∧ w0.wouldSend w0.msgLink 4 8 = true))) :=
  ⟨sound_w0, by decide +kernel⟩
theorem witness_EventConsumers_6 :
    w0.Sound ∧ (0 < 32) :=
  ⟨sound_w0, by decide +kernel⟩
theorem witness_EventConsumers_7 :
    w0.Sound ∧ ((0 < 8) ∧ (Initiator.core = Initiator.core ∨ w0.evtSec (bits x0 8 0) = false)) :=
  ⟨sound_w0, by decide +kernel⟩
theorem witness_EventConsumers_8 :
    w0.Sound ∧ ((0 < 1024) ∧ (0 < 2 ^ 32) ∧ (x5 = true) ∧ ((match evtTile true 0 with | some τ => w0.inUse τ | none => true) = true ∧ (Initiator.core = Initiator.core ∨ w0.evtSec (w0.fld x3 8 0) = false ∧ w0.evtSec x4 = false) ∧ (bit 0 31 = true → w0.evtMayEnable Initiator.core true 0 x4 = true))) :=
  ⟨sound_w0, by decide +kernel⟩
theorem witness_EventConsumers_9 :
    w0.Sound ∧ ((5 < 1024) ∧ (0 < 2 ^ 32) ∧ (x14 = true) ∧ (¬((match evtTile true 5 with | some τ => w0.inUse τ | none => true) = true ∧ (Initiator.core = Initiator.core ∨ w0.evtSec (w0.fld x3 8 0 5) = false ∧ w0.evtSec x4 = false) ∧ (bit 0 31 = true → w0.evtMayEnable Initiator.core true 5 x4 = true)))) :=
  ⟨sound_w0, by decide +kernel⟩
theorem witness_EventConsumers_10 :
    w0.Sound ∧ ((176 < 1024) ∧ (0 < 2 ^ 32) ∧ (x16 = false)) :=
  ⟨sound_w0, by decide +kernel⟩
theorem witness_EventConsumers_11 :
    w1.Sound ∧ ((0 < 8) ∧ (Initiator.plv0 ≠ Initiator.core) ∧ (w1.evtSec (bits x17 8 0) = true)) :=
  ⟨sound_w1, by decide +kernel⟩
theorem witness_EventConsumers_12 :
    w2.Sound ∧ ((w2.evtPend 568 = true) ∧ (w2.mode = Mode.characterise) ∧ (w2.swpBusy = false)) :=
  ⟨sound_w2, by decide +kernel⟩
theorem witness_EventConsumers_13 :
    w4.Sound ∧ ((w4.evtPend 569 = true) ∧ (w4.swpBusy = true)) :=
  ⟨sound_w4, by decide +kernel⟩
theorem witness_EventConsumers_14 :
    w5.Sound ∧ ((w5.evtPend 570 = true) ∧ (w5.calState < 2) ∧ (w5.calStartOk = true)) :=
  ⟨sound_w5, by decide +kernel⟩
theorem witness_EventConsumers_15 :
    w6.Sound ∧ ((0 < 16) ∧ (w6.evtPend (552 + 0) = true ∧ w6.dmaState 0 = 2 ∧ w6.flag Lat.dmaAbort = false)) :=
  ⟨sound_w6, by decide +kernel⟩
theorem witness_EventConsumers_16 :
    w8.Sound ∧ ((0 < 8) ∧ (w8.evtPend (544 + 0) = true ∧ w8.wouldSend w8.msgLink 4 8 = true) ∧ ((w8.plvOut.all fun g => g.link != w8.msgLink || g.seq.isSome) = true)) :=
  ⟨sound_w8, by decide +kernel⟩
end EventConsumers

namespace EventRouting
def ev (a b c : Nat) : Event := ⟨a, b, c⟩
def globEvent : List (Event) := [ev 3 7 2, ev 2 7 0, ev 9 33 1]
def sb (s : State) : State := s |> (R .EVT_SUB (2^31 + 7) · 0 0) |> (R .EVT_SUB (2^31 + 33) · 0 0x220) |> (R .EVT_SUB (2^31 + 7) · 0 1)|> (R .EVT_INST (2^31+5) · 0 1) |> R .EVT_GROUPS 3
def rl (h : Nat) (e : Nat) (s : State) : State := s |> (R .EVT_INST (2^31+2^27*h+9) · 0 0x241) |> (R .EVT_SRC (2^31*e+9) · 0 0x241) |> R .EVT_LOOP_CNT 0xFFFFFFFF
def samples : List State := [base, {sb base with events := globEvent}, {sb base |> R .EVT_CTRL 1 with events := globEvent}, sb base |> R .EVT_CTRL 1,{sb base |> R .EVT_CTRL 1 |> R .EVT_GROUPS 0 with events := globEvent}, rl 3 1 base, rl 3 0 base, rl 6 1 base, rl 6 0 base, rl 7 1 base, {sb base |> R .EVT_CTRL 1 |> (R .EVT_SUB (2^31 + 7) · 0 0x260)  |> (R .EVT_SUB (2^31 + 7) · 0 0x271) with events := globEvent}]
def states : List State := samples.map syncS ++ samples.filter (fun s => s.regs0 ≠ [])
def w0 : State := states.getD 0 base
def w2 : State := states.getD 2 base
def w3 : State := states.getD 3 base
def w5 : State := states.getD 5 base
def w7 : State := states.getD 7 base
def x6 : List Event := List.filter (fun e => e.chan == w2.fld Reg.EVT_SUB 8 0 && w2.evtGroupOn e.chan) w2.events
def x7 : List Event := List.filter (fun e => e.chan == w2.fld Reg.EVT_SUB 8 0 1 && w2.evtGroupOn e.chan) w2.events
def x12 : List Event := List.filter (fun e => e.chan == w3.fld Reg.EVT_SUB 8 0 && w3.evtGroupOn e.chan) w3.events
def x26 : Nat := w7.reg Reg.EVT_SRC (576 + 1)
theorem sound_w0 : w0.Sound := sound_of (by decide +kernel)
theorem sound_w2 : w2.Sound := sound_of (by decide +kernel)
theorem sound_w3 : w3.Sound := sound_of (by decide +kernel)
theorem sound_w5 : w5.Sound := sound_of (by decide +kernel)
theorem sound_w7 : w7.Sound := sound_of (by decide +kernel)
/-! States and operands that meet the hypotheses of EventRouting, clause by clause. -/
theorem witness_EventRouting_1 :
    w0.Sound ∧ (w0.rbit Reg.EVT_CTRL 0 = false) :=
  ⟨sound_w0, by decide +kernel⟩
theorem witness_EventRouting_2 :
    w0.Sound ∧ ((0 < 32) ∧ (w0.evtPend (576 + 0) = false)) :=
  ⟨sound_w0, by decide +kernel⟩
theorem witness_EventRouting_3 :
    w2.Sound ∧ ((w2.rbit Reg.EVT_CTRL 0 = true) ∧ (evtInput 0 = true) ∧ (0 < 608) ∧ (w2.rbit Reg.EVT_SUB 31 = true) ∧ (ev 2 7 0 ∈ x6) ∧ (ev 3 7 2 ∈ x6) ∧ (∀ (x : Event), x ∈ x6 → (ev 2 7 0).src ≤ x.src ∧ x.hop ≤ (ev 3 7 2).hop) ∧ ((ev 2 7 0).src < 2 ^ 10) ∧ ((ev 3 7 2).hop < 8) ∧ (w2.evtPend 0 = false)) :=
  ⟨sound_w2, by decide +kernel⟩
theorem witness_EventRouting_4 :
    w2.Sound ∧ ((w2.rbit Reg.EVT_CTRL 0 = true) ∧ (evtInput 1 = true) ∧ (1 < 608) ∧ (w2.rbit Reg.EVT_SUB 31 1 = true) ∧ (x7 ≠ []) ∧ (w2.evtPend 1 = true)) :=
  ⟨sound_w2, by decide +kernel⟩
theorem witness_EventRouting_5 :
    w3.Sound ∧ ((w3.rbit Reg.EVT_CTRL 0 = true) ∧ (evtInput 0 = true) ∧ (0 < 608) ∧ (w3.rbit Reg.EVT_SUB 31 = true) ∧ (x12 = [])) :=
  ⟨sound_w3, by decide +kernel⟩
theorem witness_EventRouting_6 :
    w5.Sound ∧ ((1 < 32) ∧ (w5.evtPend (576 + 1) = true) ∧ (w5.evtHop (576 + 1) < 6)) :=
  ⟨sound_w5, by decide +kernel⟩
theorem witness_EventRouting_7 :
    w7.Sound ∧ ((1 < 32) ∧ (w7.evtPend (576 + 1) = true) ∧ (6 ≤ w7.evtHop (576 + 1)) ∧ (bit x26 31 = true)) :=
  ⟨sound_w7, by decide +kernel⟩
end EventRouting

namespace FabricMapStands
def globInstr : List (Instr) := [.rteSolve, .slotBoundary, .faultMessageAccept, .legDeparture 0 0 true, .heaterSliceFail 0 0, .holdReqNAsserted]
def samples : List State := [base, fab base]
def states : List State := samples.map syncS ++ samples.filter (fun s => s.regs0 ≠ [])
def w0 : State := states.getD 0 base
def x0 : State := nextOf (exec Instr.rteSolve w0)
theorem sound_w0 : w0.Sound := sound_of (by decide +kernel)
/-! States and operands that meet the hypotheses of FabricMapStands, clause by clause. -/
theorem witness_FabricMapStands_1 :
    w0.Sound ∧ exec Instr.rteSolve w0 = Host.Outcome.next x0 ∧ ((isReset Instr.rteSolve = false) ∧ (bootApplies Instr.rteSolve = false) ∧ (writesAny Instr.rteSolve = false)) :=
  ⟨sound_w0, next_of (by decide +kernel), by decide +kernel⟩
theorem witness_FabricMapStands_2 :
    w0.Sound ∧ w0.reaches Initiator.core 4800516 Reg.CFG_FMAP 0 1 0 true ∧ (0 < 2 ^ 32) :=
  ⟨sound_w0, reaches_of (by decide +kernel), by decide +kernel⟩
end FabricMapStands

namespace FaultCollector
def fm (s k c a : Nat) : FaultMsg := ⟨s, k, c, a, 0, 7, 4000⟩
def msgs : List FaultMsg := [fm 0 0x11 2 5, fm 1 0x13 2 0, fm 0x105 0x45 3 77, fm 0x104 0x5E 3 64, fm 0 0x10 1 3, fm 0x105 0x40 1 1, fm 0x101 2 0 0x400000, fm 0x118 0x73 0 1]
def rx (k : Nat) (s : State) : State := [0x02, 0x10, 0x11, 0x13, 0x40, 0x45, 0x5E, 0x73].foldl (fun s i => R .FLT_REACT k s 0 i) s
def un (s : State) : State := { s with unacks := [⟨5, none⟩, ⟨2^31+7, some 1⟩] } |> (R .FLT_LOG 5 · 0 5 5) |> (R .FLT_LOG 0xff · 0 5 0) |> (R .FLT_LOG (2^31+7) · 0 7 5)|> (R .FLT_LOG 0xff · 0 7 0)
def fu (s : State) : State := { s with unacks := (List.range 256).map (fun k => ⟨k, none⟩) }
def merged (m : FaultMsg) (r : Nat) : State := { base with faults := [m] } |> rx r |> R .FLT_CTRL 1 |> R .FLT_SEQ 5 |> (R .FLT_LOG (2^20*m.src + 2^12*m.kind) · 0 5 0) |> (R .FLT_LOG m.addr · 0 5 1) |> (R .FLT_LOG m.ns · 0 5 2) |> (R .FLT_LOG 7 · 0 5 3) |> (R .FLT_LOG 0xFFFF0000 · 0 5 4)
def samples : List State := [base, un base, fu base |> L .unackOvf 1] ++ (List.range 5).flatMap (fun r => msgs.flatMap (fun m => [{base with faults := [m]} |> rx r, {un base with faults := m :: msgs} |> rx r |> M .slotted |> R .FLT_SEQ 0xFFFFFFFF, {fu base with faults := [m]} |> rx r |> M .hold, merged m r]))
def states : List State := samples.map syncS ++ samples.filter (fun s => s.regs0 ≠ [])
def w0 : State := states.getD 0 base
def w1 : State := states.getD 1 base
def w3 : State := states.getD 3 base
def w6 : State := states.getD 6 base
def w35 : State := states.getD 35 base
def w67 : State := states.getD 67 base
def w79 : State := states.getD 79 base
def w81 : State := states.getD 81 base
def w131 : State := states.getD 131 base
def x14 : Unack := (List.find? (fun u => u.seq % 2 ^ 31 == 5) w1.unacks).getD dUnack
def x19 : Nat := w3.nextSource.getD 0
def x20 : FaultMsg := (w3.headOf x19).getD dMsg
def x21 : Nat := w3.taken x20
def x34 : Nat := w6.nextSource.getD 0
def x35 : FaultMsg := (w6.headOf x34).getD dMsg
def x173 : Nat := w35.nextSource.getD 0
def x174 : FaultMsg := (w35.headOf x173).getD dMsg
def x175 : Nat := w35.taken x174
def x327 : Nat := w67.nextSource.getD 0
def x328 : FaultMsg := (w67.headOf x327).getD dMsg
def x329 : Nat := w67.taken x328
def x330 : Nat := x328.tile.getD 0
def x385 : Nat := w79.nextSource.getD 0
def x386 : FaultMsg := (w79.headOf x385).getD dMsg
def x387 : Nat := w79.taken x386
def x395 : Nat := w81.nextSource.getD 0
def x396 : FaultMsg := (w81.headOf x395).getD dMsg
def x397 : Nat := w81.taken x396
def x635 : Nat := w131.nextSource.getD 0
def x636 : FaultMsg := (w131.headOf x635).getD dMsg
def x637 : Nat := w131.taken x636
theorem sound_w0 : w0.Sound := sound_of (by decide +kernel)
theorem sound_w1 : w1.Sound := sound_of (by decide +kernel)
theorem sound_w131 : w131.Sound := sound_of (by decide +kernel)
theorem sound_w3 : w3.Sound := sound_of (by decide +kernel)
theorem sound_w35 : w35.Sound := sound_of (by decide +kernel)
theorem sound_w6 : w6.Sound := sound_of (by decide +kernel)
theorem sound_w67 : w67.Sound := sound_of (by decide +kernel)
theorem sound_w79 : w79.Sound := sound_of (by decide +kernel)
theorem sound_w81 : w81.Sound := sound_of (by decide +kernel)
/-! States and operands that meet the hypotheses of FaultCollector, clause by clause. -/
theorem witness_FaultCollector_1 :
    w0.Sound ∧ (w0.faults = []) :=
  ⟨sound_w0, by decide +kernel⟩
theorem witness_FaultCollector_2 :
    w0.Sound ∧ ((0 < 2 ^ 31) ∧ (List.find? (fun u => u.seq % 2 ^ 31 == 0) w0.unacks = none)) :=
  ⟨sound_w0, by decide +kernel⟩
theorem witness_FaultCollector_3 :
    w1.Sound ∧ (List.find? (fun u => u.seq % 2 ^ 31 == 5) w1.unacks = some x14) ∧ ((5 < 2 ^ 31) ∧ (w1.reg Reg.FLT_LOG (x14.seq % 1024) 5 = x14.seq)) :=
  ⟨sound_w1, some_of (by decide +kernel), by decide +kernel⟩
theorem witness_FaultCollector_4 :
    w3.Sound ∧ (w3.nextSource = some x19) ∧ (w3.headOf x19 = some x20) ∧ ((x20.src < 4096) ∧ (x20.kind < 256) ∧ (x20.cls < 4) ∧ (w3.merges x20 = false) ∧ (¬(x21 = 2 ∨ x21 = 3))) :=
  ⟨sound_w3, some_of (by decide +kernel), some_of (by decide +kernel), by decide +kernel⟩
theorem witness_FaultCollector_5 :
    w3.Sound ∧ (w3.nextSource = some x19) ∧ (w3.headOf x19 = some x20) ∧ ((x20.src < 4096) ∧ (x20.kind < 256) ∧ (x20.cls < 4) ∧ (w3.merges x20 = false) ∧ (x21 = 0)) :=
  ⟨sound_w3, some_of (by decide +kernel), some_of (by decide +kernel), by decide +kernel⟩
theorem witness_FaultCollector_6 :
    w6.Sound ∧ (w6.nextSource = some x34) ∧ (w6.headOf x34 = some x35) ∧ ((x35.src < 4096) ∧ (x35.kind < 256) ∧ (x35.cls < 4) ∧ (w6.merges x35 = true)) :=
  ⟨sound_w6, some_of (by decide +kernel), some_of (by decide +kernel), by decide +kernel⟩
theorem witness_FaultCollector_7 :
    w35.Sound ∧ (w35.nextSource = some x173) ∧ (w35.headOf x173 = some x174) ∧ ((x174.src < 4096) ∧ (x174.kind < 256) ∧ (x174.cls < 4) ∧ (w35.merges x174 = false) ∧ (1 ≤ x175)) :=
  ⟨sound_w35, some_of (by decide +kernel), some_of (by decide +kernel), by decide +kernel⟩
theorem witness_FaultCollector_8 :
    w67.Sound ∧ (w67.nextSource = some x327) ∧ (w67.headOf x327 = some x328) ∧ ((x328.src < 4096) ∧ (x328.kind < 256) ∧ (x328.cls < 4) ∧ (w67.merges x328 = false) ∧ (x329 = 2 ∨ x329 = 3) ∧ (w67.unacks.length < 256)) :=
  ⟨sound_w67, some_of (by decide +kernel), some_of (by decide +kernel), by decide +kernel⟩
theorem witness_FaultCollector_9 :
    w67.Sound ∧ (w67.nextSource = some x327) ∧ (w67.headOf x327 = some x328) ∧ (x328.tile = some x330) ∧ ((x328.src < 4096) ∧ (x328.kind < 256) ∧ (x328.cls < 4) ∧ (w67.merges x328 = false) ∧ (x329 = 2)) :=
  ⟨sound_w67, some_of (by decide +kernel), some_of (by decide +kernel), some_of (by decide +kernel), by decide +kernel⟩
theorem witness_FaultCollector_10 :
    w79.Sound ∧ (w79.nextSource = some x385) ∧ (w79.headOf x385 = some x386) ∧ ((x386.src < 4096) ∧ (x386.kind < 256) ∧ (x386.cls < 4) ∧ (w79.merges x386 = false) ∧ (x387 = 3) ∧ (w79.inRun = true)) :=
  ⟨sound_w79, some_of (by decide +kernel), some_of (by decide +kernel), by decide +kernel⟩
theorem witness_FaultCollector_11 :
    w81.Sound ∧ (w81.nextSource = some x395) ∧ (w81.headOf x395 = some x396) ∧ ((x396.src < 4096) ∧ (x396.kind < 256) ∧ (x396.cls < 4) ∧ (w81.merges x396 = false) ∧ (x397 = 3) ∧ (w81.inRun = false)) :=
  ⟨sound_w81, some_of (by decide +kernel), some_of (by decide +kernel), by decide +kernel⟩
theorem witness_FaultCollector_12 :
    w131.Sound ∧ (w131.nextSource = some x635) ∧ (w131.headOf x635 = some x636) ∧ ((x636.src < 4096) ∧ (x636.kind < 256) ∧ (x636.cls < 4) ∧ (w131.merges x636 = false) ∧ (x637 = 4) ∧ (w131.sable = false)) :=
  ⟨sound_w131, some_of (by decide +kernel), some_of (by decide +kernel), by decide +kernel⟩
end FaultCollector

namespace FaultMarks
def fm (s k c a : Nat) : FaultMsg := ⟨s, k, c, a, 0, 7, 4000⟩
def globFaultMsg : List (FaultMsg) := [fm 0 0x11 2 5, fm 1 0x13 2 0, fm 1 0x20 2 65, fm 0 0x21 2 64, fm 0 0x10 1 3]
def samples : List State := globFaultMsg.map (fun m => {base with faults := [m]}) ++ globFaultMsg.map (fun m => {base with faults := [m]} |> (R .FLT_REACT 2 · 0 0x11) |> (R .FLT_REACT 3 · 0 0x13) |> (R .FLT_REACT 1 · 0 0x20) |> R .FLT_CTRL 1) ++ [base |> R .RTE_FAULT 1]
def states : List State := samples.map syncS ++ samples.filter (fun s => s.regs0 ≠ [])
def w0 : State := states.getD 0 base
def w10 : State := states.getD 10 base
def x0 : Nat := w0.nextSource.getD 0
def x1 : FaultMsg := (w0.headOf x0).getD dMsg
def x12 : State := nextOf (exec Instr.ageTick w10)
theorem sound_w0 : w0.Sound := sound_of (by decide +kernel)
theorem sound_w10 : w10.Sound := sound_of (by decide +kernel)
/-! States and operands that meet the hypotheses of FaultMarks, clause by clause. -/
theorem witness_FaultMarks_1 :
    w0.Sound ∧ (w0.nextSource = some x0) ∧ (w0.headOf x0 = some x1) ∧ ((x1.src < 176) ∧ (x1.cls < 4) ∧ (x1.kind ∈ [17, 19, 32, 33]) ∧ (0 < 11264) ∧ (0 ≠ 64 * x1.src + x1.addr % 64)) :=
  ⟨sound_w0, some_of (by decide +kernel), some_of (by decide +kernel), by decide +kernel⟩
theorem witness_FaultMarks_2 :
    w10.Sound ∧ exec Instr.ageTick w10 = Host.Outcome.next x12 ∧ ((isReset Instr.ageTick = false) ∧ (bootApplies Instr.ageTick = false) ∧ (writesAny Instr.ageTick = false) ∧ (0 < 11264) ∧ (w10.mapBit Reg.RTE_FAULT 0 0 = true)) :=
  ⟨sound_w10, next_of (by decide +kernel), by decide +kernel⟩
theorem witness_FaultMarks_3 :
    w0.Sound ∧ w0.reaches Initiator.core 4853760 Reg.RTE_FAULT 0 0 0 true ∧ (0 < 2 ^ 32) :=
  ⟨sound_w0, reaches_of (by decide +kernel), by decide +kernel⟩
end FaultMarks

namespace HalfCommands
def st (u o tok : Nat) (s : State) : State := s |> R .RED_TSTATE (u + 256*o + 2^31*tok) |> (R .RED_TSTATE (u + 256*o + 2^31*tok) · 1)
def samples : List State := [base, st 1 2 0 base, st 2 1 1 (M .slotted base), st 1 0 0 base, st 0 1 0 base |> R .MGT_TILE_HOLD 1 |> R .RED_THCAUSE 7, st 0 1 0 base |> R .MGT_TILE_HOLD 1 |> R .RED_THCAUSE 7 |> R .MC_STATUS 2, {st 1 4 0 base with unacks := [⟨5, some 0⟩]} |> R .RED_THCAUSE 7, M .characterise (st 3 1 1 base), st 1 2 0 base |> R .MC_LOAD_STATUS (2^31) |> R .MC_LOAD_TILES 1, base |> R .RED_SLOT_STATE 0x0001, base |> R .RED_SLOT_STATE 0x80000201,base |> R .RED_SLOT_STATE 0x0201, base |> R .RED_SLOT_STATE 0x20201, M .hold base ]
def states : List State := samples.map syncS ++ samples.filter (fun s => s.regs0 ≠ [])
def w0 : State := states.getD 0 base
def w1 : State := states.getD 1 base
def w3 : State := states.getD 3 base
def w4 : State := states.getD 4 base
def w7 : State := states.getD 7 base
def w8 : State := states.getD 8 base
def w9 : State := states.getD 9 base
def w11 : State := states.getD 11 base
def x0 : Nat := 0 - 1
def x1 : Nat := 1 - 1
def x2 : Nat := 2 - 1
theorem sound_w0 : w0.Sound := sound_of (by decide +kernel)
theorem sound_w1 : w1.Sound := sound_of (by decide +kernel)
theorem sound_w11 : w11.Sound := sound_of (by decide +kernel)
theorem sound_w3 : w3.Sound := sound_of (by decide +kernel)
theorem sound_w4 : w4.Sound := sound_of (by decide +kernel)
theorem sound_w7 : w7.Sound := sound_of (by decide +kernel)
theorem sound_w8 : w8.Sound := sound_of (by decide +kernel)
theorem sound_w9 : w9.Sound := sound_of (by decide +kernel)
/-! States and operands that meet the hypotheses of HalfCommands, clause by clause. -/
theorem witness_HalfCommands_1 :
    w0.Sound ∧ ((0 < 176) ∧ (0 < 4) ∧ (w0.inUse 0 = true) ∧ (w0.tileCmdMode = true) ∧ ((w0.loadBusy && w0.mapBit Reg.MC_LOAD_TILES 0 0) = false) ∧ (w0.causeStays 0 = false)) :=
  ⟨sound_w0, by decide +kernel⟩
theorem witness_HalfCommands_2 :
    w0.Sound ∧ ((0 < 176) ∧ (0 < 4) ∧ (w0.inUse 0 = true) ∧ (¬(0 = 1 ∨ 0 = 2) ∨ w0.rejoinOk 0 x0 = false)) :=
  ⟨sound_w0, by decide +kernel⟩
theorem witness_HalfCommands_3 :
    w0.Sound ∧ ((0 < 176) ∧ (0 < 4) ∧ (w0.inUse 0 = true) ∧ (¬(0 ≠ 0 ∧ w0.tileHold 0 = true ∧ ∀ (k : Nat), k < 2 → w0.halfState 0 k ≠ 4 ∧ w0.halfState 0 k ≠ 5 ∧ (Nat.testBit 0 k = true → w0.inMchk 0 k = false)))) :=
  ⟨sound_w0, by decide +kernel⟩
theorem witness_HalfCommands_4 :
    w0.Sound ∧ ((0 < 176) ∧ (0 < 4) ∧ (w0.inUse 0 = true) ∧ (¬((0 = 1 ∨ 0 = 2) ∧ (w0.halfState 0 x0 ≠ 1 ∨ w0.halfState 0 (1 - x0) = 2)))) :=
  ⟨sound_w0, by decide +kernel⟩
theorem witness_HalfCommands_5 :
    w0.Sound ∧ ((0 < 176) ∧ (0 < 4) ∧ (w0.inUse 0 = true) ∧ (w0.halfState 0 (1 - w0.token 0) ≠ 2)) :=
  ⟨sound_w0, by decide +kernel⟩
theorem witness_HalfCommands_6 :
    w0.Sound ∧ ((0 < 176) ∧ (0 < 4) ∧ (¬((0 = 1 ∨ 0 = 2) ∧ w0.slotHalf x0 = 0 ∧ w0.slotHalf (1 - x0) = 1))) :=
  ⟨sound_w0, by decide +kernel⟩
theorem witness_HalfCommands_7 :
    w0.Sound ∧ ((0 < 176) ∧ (0 < 4) ∧ (w0.slotEligible (1 - w0.slotToken) = false)) :=
  ⟨sound_w0, by decide +kernel⟩
theorem witness_HalfCommands_8 :
    w0.Sound ∧ ((0 < 176) ∧ (1 < 4) ∧ (w0.inUse 0 = true) ∧ ((1 = 1 ∨ 1 = 2) ∧ (w0.halfState 0 x1 ≠ 1 ∨ w0.halfState 0 (1 - x1) = 2))) :=
  ⟨sound_w0, by decide +kernel⟩
theorem witness_HalfCommands_9 :
    w0.Sound ∧ ((3 < 176) ∧ (0 < 4) ∧ (w0.inUse 3 = false) ∧ (Instr.tileHoldCmd 3 ∈ [Instr.tileHoldCmd 3, Instr.tileReleaseCmd 3, Instr.tileRejoin 3 0, Instr.tileRestart 3 0, Instr.tileDisable 3 0, Instr.tileSwap 3])) :=
  ⟨sound_w0, by decide +kernel⟩
theorem witness_HalfCommands_10 :
    w1.Sound ∧ ((0 < 176) ∧ (0 < 4) ∧ (w1.inUse 0 = true) ∧ (w1.halfState 0 (1 - w1.token 0) = 2)) :=
  ⟨sound_w1, by decide +kernel⟩
theorem witness_HalfCommands_11 :
    w3.Sound ∧ ((0 < 176) ∧ (2 < 4) ∧ (w3.inUse 0 = true) ∧ (2 = 1 ∨ 2 = 2) ∧ (w3.rejoinOk 0 x2 = true)) :=
  ⟨sound_w3, by decide +kernel⟩
theorem witness_HalfCommands_12 :
    w4.Sound ∧ ((0 < 176) ∧ (0 < 4) ∧ (w4.inUse 0 = true) ∧ (w4.tileCmdMode = true) ∧ ((w4.loadBusy && w4.mapBit Reg.MC_LOAD_TILES 0 0) = false) ∧ (w4.causeStays 0 = true)) :=
  ⟨sound_w4, by decide +kernel⟩
theorem witness_HalfCommands_13 :
    w4.Sound ∧ ((0 < 176) ∧ (1 < 4) ∧ (w4.inUse 0 = true) ∧ (1 ≠ 0 ∧ w4.tileHold 0 = true ∧ ∀ (k : Nat), k < 2 → w4.halfState 0 k ≠ 4 ∧ w4.halfState 0 k ≠ 5 ∧ (Nat.testBit 1 k = true → w4.inMchk 0 k = false))) :=
  ⟨sound_w4, by decide +kernel⟩
theorem witness_HalfCommands_14 :
    w7.Sound ∧ ((0 < 176) ∧ (0 < 4) ∧ (w7.inUse 0 = true) ∧ (w7.tileCmdMode = false)) :=
  ⟨sound_w7, by decide +kernel⟩
theorem witness_HalfCommands_15 :
    w8.Sound ∧ ((0 < 176) ∧ (0 < 4) ∧ (w8.inUse 0 = true) ∧ (w8.tileCmdMode = true) ∧ ((w8.loadBusy && w8.mapBit Reg.MC_LOAD_TILES 0 0) = true)) :=
  ⟨sound_w8, by decide +kernel⟩
theorem witness_HalfCommands_16 :
    w9.Sound ∧ ((0 < 176) ∧ (2 < 4) ∧ ((2 = 1 ∨ 2 = 2) ∧ w9.slotHalf x2 = 0 ∧ w9.slotHalf (1 - x2) = 1)) :=
  ⟨sound_w9, by decide +kernel⟩
theorem witness_HalfCommands_17 :
    w11.Sound ∧ ((0 < 176) ∧ (0 < 4) ∧ (w11.slotEligible (1 - w11.slotToken) = true)) :=
  ⟨sound_w11, by decide +kernel⟩
end HalfCommands

namespace HalfSupervision
def st (u o tok : Nat) (s : State) : State := s |> R .RED_TSTATE (u + 256*o + 2^31*tok) |> (R .RED_TSTATE (u + 256*o + 2^31*tok) · 1)
def hb (s : State) : State := st 1 2 0 s |> L .spanUp 1 |> (L .hbSent 3 · 0 0) |> (L .hbSent 3 · 0 1) |> (L .hbSent 2 · 1 1)
def samples : List State := [base, hb base, hb base |> (R .RED_SIG 7), hb base |> st 2 1 1 |> R .RED_SIG 7, hb base |> (L .hbSent 0), base |> R .RED_MGT_WDT 1, {base with grain := 60000000100} |> R .RED_MGT_WDT 1 |> (L .warmAt 101 · 2) |> (L .warmAt 5000 · 1), {base with grain := 60000000100} |> R .RED_MGT_WDT 1 |> (L .warmAt 100 · 2), base |> L .mgtFail 1, M .boot (hb base), hb base |> R .RED_MISMATCH_CNT 0xFFFFFFFF |> R .RED_SIG 7 |> R .RED_CTRL 0xffffffff]
def states : List State := samples.map syncS ++ samples.filter (fun s => s.regs0 ≠ [])
def w0 : State := states.getD 0 base
def w1 : State := states.getD 1 base
def w2 : State := states.getD 2 base
def w6 : State := states.getD 6 base
def w8 : State := states.getD 8 base
def x0 : Bool := bit (w0.nlat Lat.hbSent) (1 + b2n true)
def x25 : Bool := bit (w1.nlat Lat.hbSent) (1 + b2n false)
def x26 : Nat := w1.token 0
def x27 : Nat := 1 - x26
def x34 : Nat := w2.token 0
def x35 : Nat := 1 - x34
theorem sound_w0 : w0.Sound := sound_of (by decide +kernel)
theorem sound_w1 : w1.Sound := sound_of (by decide +kernel)
theorem sound_w2 : w2.Sound := sound_of (by decide +kernel)
theorem sound_w6 : w6.Sound := sound_of (by decide +kernel)
theorem sound_w8 : w8.Sound := sound_of (by decide +kernel)
/-! States and operands that meet the hypotheses of HalfSupervision, clause by clause. -/
theorem witness_HalfSupervision_1 :
    w0.Sound ∧ ((0 < 176) ∧ (0 < 2) ∧ (w0.inUse 0 = false ∨ x0 = false)) :=
  ⟨sound_w0, by decide +kernel⟩
theorem witness_HalfSupervision_2 :
    w0.Sound ∧ ((0 < 176) ∧ (w0.inUse 0 = false ∨ w0.flag Lat.spanUp = false ∨ w0.mode = Mode.boot ∨ w0.mode = Mode.sable)) :=
  ⟨sound_w0, by decide +kernel⟩
theorem witness_HalfSupervision_3 :
    w0.Sound ∧ ((Instr.lockstepMismatch = Instr.lockstepMismatch ∧ 95 = 95 ∨ Instr.lockstepMismatch = Instr.watchdogExpiry ∧ 95 = 96 ∧ w0.wdtDue = true) ∧ (w0.flag Lat.mgtFail = false) ∧ (¬(w0.lat Lat.warmAt 2 ≠ 0 ∧ ↑w0.grain + 1 - w0.lat Lat.warmAt 2 ≤ 60000000000))) :=
  ⟨sound_w0, by decide +kernel⟩
theorem witness_HalfSupervision_4 :
    w0.Sound ∧ (w0.wdtDue = false) :=
  ⟨sound_w0, by decide +kernel⟩
theorem witness_HalfSupervision_5 :
    w1.Sound ∧ ((0 < 176) ∧ (0 < 2) ∧ (w1.inUse 0 = true) ∧ (x25 = true)) :=
  ⟨sound_w1, by decide +kernel⟩
theorem witness_HalfSupervision_6 :
    w1.Sound ∧ ((0 < 176) ∧ (w1.inUse 0 = true) ∧ (w1.flag Lat.spanUp = true) ∧ (w1.executes 0 0 = true) ∧ (w1.executes 0 1 = true) ∧ (w1.flag Lat.mchkNew = false) ∧ (w1.flag Lat.mchkNew 0 1 = false) ∧ (w1.halfState 0 x26 = 1) ∧ (w1.halfState 0 x27 = 2) ∧ ((fun h => (if h = 0 then false else true) && bit (w1.nlat Lat.hbSent 0 h) 0) x26 = false) ∧ (false = false) ∧ ((fun h => (if h = 0 then false else true) && bit (w1.nlat Lat.hbSent 0 h) 0) x27 = true)) :=
  ⟨sound_w1, by decide +kernel⟩
theorem witness_HalfSupervision_7 :
    w2.Sound ∧ ((0 < 176) ∧ (w2.inUse 0 = true) ∧ (w2.flag Lat.spanUp = true) ∧ (w2.executes 0 0 = true) ∧ (w2.executes 0 1 = true) ∧ (w2.flag Lat.mchkNew = false) ∧ (w2.flag Lat.mchkNew 0 1 = false) ∧ (w2.halfState 0 x34 = 1) ∧ (w2.halfState 0 x35 = 2) ∧ ((fun h => (if h = 0 then true else true) && bit (w2.nlat Lat.hbSent 0 h) 0) 0 = true) ∧ ((fun h => (if h = 0 then true else true) && bit (w2.nlat Lat.hbSent 0 h) 0) 1 = true) ∧ (w2.treg Reg.RED_SIG 0 ≠ w2.treg Reg.RED_SIG 0 1)) :=
  ⟨sound_w2, by decide +kernel⟩
theorem witness_HalfSupervision_8 :
    w6.Sound ∧ ((Instr.lockstepMismatch = Instr.lockstepMismatch ∧ 95 = 95 ∨ Instr.lockstepMismatch = Instr.watchdogExpiry ∧ 95 = 96 ∧ w6.wdtDue = true) ∧ (w6.flag Lat.mgtFail = false) ∧ (w6.lat Lat.warmAt 2 ≠ 0 ∧ ↑w6.grain + 1 - w6.lat Lat.warmAt 2 ≤ 60000000000)) :=
  ⟨sound_w6, by decide +kernel⟩
theorem witness_HalfSupervision_9 :
    w8.Sound ∧ (w8.flag Lat.mgtFail = true) :=
  ⟨sound_w8, by decide +kernel⟩
end HalfSupervision

namespace HoldEntered
def samples : List State := [base, {base with mode := .characterise, mode0 := .static, regs0 := base.regs}, {base with mode := .static, mode0 := .characterise, regs0 := base.regs}]
def states : List State := samples.map syncS ++ samples.filter (fun s => s.regs0 ≠ [])
def w0 : State := states.getD 0 base
def w3 : State := states.getD 3 base
theorem sound_w0 : w0.Sound := sound_of (by decide +kernel)
theorem sound_w3 : w3.Sound := sound_of (by decide +kernel)
/-! States and operands that meet the hypotheses of HoldEntered, clause by clause. -/
theorem witness_HoldEntered_1 :
    w0.Sound ∧ ((w0.inRun = true) ∧ (w0.cmdBusy = false)) :=
  ⟨sound_w0, by decide +kernel⟩
theorem witness_HoldEntered_2 :
    w3.Sound ∧ ((w3.inRun = true) ∧ (w3.modeSame = true)) :=
  ⟨sound_w3, by decide +kernel⟩
end HoldEntered

namespace HoldReleased
def rel (s : State) : State := {s with mode := .hold, prior := .static, grain := 10000000} |> (L .refAt 1 · 0) |> (L .refAt 1 · 1)
def samples : List State := [{base with mode := .hold, prior := .static} |> R .MGT_HOLD_CAUSE 2, rel base, {base with mode := .boot} |> R .MGT_MODE (2^10) |> R .MGT_HOLD_CAUSE 5]
def states : List State := samples.map syncS ++ samples.filter (fun s => s.regs0 ≠ [])
def w0 : State := states.getD 0 base
def w1 : State := states.getD 1 base
def w2 : State := states.getD 2 base
theorem sound_w0 : w0.Sound := sound_of (by decide +kernel)
theorem sound_w1 : w1.Sound := sound_of (by decide +kernel)
theorem sound_w2 : w2.Sound := sound_of (by decide +kernel)
/-! States and operands that meet the hypotheses of HoldReleased, clause by clause. -/
theorem witness_HoldReleased_1 :
    w0.Sound ∧ ((w0.mode = Mode.hold) ∧ (w0.cmdBusy = false) ∧ (w0.rbit Reg.MGT_HOLD_CAUSE 2 = false ∨ (w0.unacks.all fun u => u.tile.isSome) = true ∧ w0.flag Lat.unackOvf = false)) :=
  ⟨sound_w0, by decide +kernel⟩
theorem witness_HoldReleased_2 :
    w0.Sound ∧ (w0.mode ≠ Mode.boot) :=
  ⟨sound_w0, by decide +kernel⟩
theorem witness_HoldReleased_3 :
    w0.Sound ∧ (w0.reg Reg.MGT_HOLD_CAUSE ≠ 0) :=
  ⟨sound_w0, by decide +kernel⟩
theorem witness_HoldReleased_4 :
    w1.Sound ∧ ((w1.mode = Mode.hold) ∧ (w1.prior ≠ Mode.hold) ∧ (w1.reg Reg.MGT_HOLD_CAUSE = 0) ∧ (w1.nlat Lat.relAt < w1.grain) ∧ (w1.refsSettled = true) ∧ (0 ∈ w1.tiles)) :=
  ⟨sound_w1, by decide +kernel⟩
theorem witness_HoldReleased_5 :
    w2.Sound ∧ ((w2.mode = Mode.boot) ∧ (w2.rbit Reg.MGT_MODE 10 = true) ∧ (w2.rbit Reg.MGT_HOLD_CAUSE 0 = true) ∧ (w2.rbit Reg.MGT_HOLD_CAUSE 2 = true)) :=
  ⟨sound_w2, by decide +kernel⟩
end HoldReleased

namespace IdleGrain
def samples : List State := [base]
def states : List State := samples.map syncS ++ samples.filter (fun s => s.regs0 ≠ [])
def w0 : State := states.getD 0 base
theorem sound_w0 : w0.Sound := sound_of (by decide +kernel)
/-! States and operands that meet the hypotheses of IdleGrain, clause by clause. -/
theorem witness_IdleGrain_1 :
    w0.Sound ∧ (w0.pending = []) :=
  ⟨sound_w0, by decide +kernel⟩
end IdleGrain

namespace LegsAndSlices
def samples : List State := [base,
  base |> (R .DRV_LEGA_LOST 2),
  base |> (R .DRV_LEGA_LOST 3) |> R .DRV_ACTIVE 0x123 |> R .HTR_CTRL 1,
  base |> R .HTR_CTRL 1 |> R .HTR_SPARE 0x40000005,
  base |> R .HTR_CTRL 1 |> R .HTR_SPARE 0x40000005 |> (R .HTR_SPARE 0x40000000 · 0 1),
  base |> R .HTR_CTRL 1 |> R .HTR_SPARE 0x40000005 |> (R .HTR_SPARE 0x40000000 · 0 1) |> (L .spareSince 99999 · 0 1) |> R .HTR_ACTIVE 77,
  base |> R .HTR_FAILED 3 |> (R .HTR_SPARE 0x40000005 · 0 1)|> (L .htrDead 1 · 0 1), base |> R .HTR_FAILED 3 |> M .sable |> (R .HTR_BLOCK 99 · 0 1)]
def states : List State := samples.map syncS ++ samples.filter (fun s => s.regs0 ≠ [])
def w0 : State := states.getD 0 base
def w1 : State := states.getD 1 base
def w4 : State := states.getD 4 base
def w7 : State := states.getD 7 base
def x0 : Reg := if true = true then Reg.DRV_LEGB_LOST else Reg.DRV_LEGA_LOST
def x1 : Reg := if true = true then Reg.DRV_LEGA_LOST else Reg.DRV_LEGB_LOST
def x2 : Reg := if false = true then Reg.DRV_LEGB_LOST else Reg.DRV_LEGA_LOST
def x4 : Nat := (w0.freeSpare 0).getD 0
def x44 : Nat := (w4.spareOf 0 0).getD 0
theorem sound_w0 : w0.Sound := sound_of (by decide +kernel)
theorem sound_w1 : w1.Sound := sound_of (by decide +kernel)
theorem sound_w4 : w4.Sound := sound_of (by decide +kernel)
theorem sound_w7 : w7.Sound := sound_of (by decide +kernel)
/-! States and operands that meet the hypotheses of LegsAndSlices, clause by clause. -/
theorem witness_LegsAndSlices_1 :
    w0.Sound ∧ ((0 < 176) ∧ (0 < 64) ∧ (w0.inUse 0 = true) ∧ (w0.mapBit x0 0 0 = false) ∧ (w0.mapBit x1 0 0 = false)) :=
  ⟨sound_w0, by decide +kernel⟩
theorem witness_LegsAndSlices_2 :
    w1.Sound ∧ ((0 < 176) ∧ (1 < 64) ∧ (w1.inUse 0 = true) ∧ (w1.mapBit x0 0 1 = false) ∧ (w1.mapBit x1 0 1 = true)) :=
  ⟨sound_w1, by decide +kernel⟩
theorem witness_LegsAndSlices_3 :
    w1.Sound ∧ ((0 < 176) ∧ (1 < 64) ∧ (w1.inUse 0 = true) ∧ (w1.mapBit x2 0 1 = true)) :=
  ⟨sound_w1, by decide +kernel⟩
theorem witness_LegsAndSlices_4 :
    w0.Sound ∧ (w0.freeSpare 0 = some x4) ∧ ((0 < 176) ∧ (0 < 64) ∧ (w0.inUse 0 = true) ∧ (w0.flag Lat.htrDead = false) ∧ (w0.spareOf 0 0 = none) ∧ (w0.tbit Reg.HTR_CTRL 0 0 = true)) :=
  ⟨sound_w0, some_of (by decide +kernel), by decide +kernel⟩
theorem witness_LegsAndSlices_5 :
    w0.Sound ∧ ((0 < 176) ∧ (0 < 64) ∧ (w0.inUse 0 = true) ∧ (0 < 2) ∧ (w0.tfld Reg.HTR_SPARE 0 31 30 ≠ 0 ∨ w0.mapBit Reg.HTR_FAILED 0 0 = false)) :=
  ⟨sound_w0, by decide +kernel⟩
theorem witness_LegsAndSlices_6 :
    w4.Sound ∧ (w4.spareOf 0 0 = some x44) ∧ ((0 < 176) ∧ (0 < 64) ∧ (w4.inUse 0 = true) ∧ (w4.flag Lat.htrDead = false) ∧ (↑w4.grain - w4.lat Lat.spareSince 0 x44 ≤ 1000000)) :=
  ⟨sound_w4, some_of (by decide +kernel), by decide +kernel⟩
theorem witness_LegsAndSlices_7 :
    w4.Sound ∧ ((0 < 176) ∧ (1 < 64) ∧ (w4.inUse 0 = true) ∧ (w4.flag Lat.htrDead 0 1 = false) ∧ (w4.spareOf 0 1 = none) ∧ (w4.tbit Reg.HTR_CTRL 0 0 = true) ∧ (w4.freeSpare 0 = none)) :=
  ⟨sound_w4, by decide +kernel⟩
theorem witness_LegsAndSlices_8 :
    w7.Sound ∧ ((0 < 176) ∧ (0 < 64) ∧ (w7.inUse 0 = true) ∧ (0 < 2) ∧ (w7.tfld Reg.HTR_SPARE 0 31 30 = 0) ∧ (w7.mapBit Reg.HTR_FAILED 0 0 = true) ∧ (w7.spareOf 0 0 = none) ∧ (w7.mode = Mode.sable)) :=
  ⟨sound_w7, by decide +kernel⟩
end LegsAndSlices

namespace MacLearning
def globMacEnt : List (MacEnt) := []
def A : Nat := 0x0010AABBCCDD
def e0 : MacEnt := ⟨5, A, 2, false, true, false, 0, 0, 0, 0⟩

def bs : State := base |> R .FWD_FLAP 3 |> R .FWD_AGE 300
def Pk (k : Nat) : Nat := bs.macPos 0 k 5 A
def POSS : List Nat := [Pk 0, Pk 1]
def lq (p : Nat) (s : State) : State := {s with learnQ := [⟨1, 5, A, 1⟩, ⟨0, 5, A, p⟩, ⟨0, 6, A, 3⟩]}
def me (e : MacEnt) (s : State) : State := (s.macPut 0 (Pk 1) e).macPut 0 (Pk 0) {e with vid := 99}
def full (s : State) : State := (List.range 4).foldl (fun s k => s.macPut 0 (Pk k) {e0 with vid := 77}) s
def samples : List State := [bs, lq 2 bs, lq 2 (full bs), lq 2 (full bs) |> R .FWD_STATUS 2, {lq 2 bs with learnQ := [⟨0, 5, A, 2⟩]}] ++
  [e0, {e0 with hit := false}, {e0 with hitAt := 100001}, {e0 with fixed := true}, {e0 with lock := true, lockAt := 100}, {e0 with win := 99000, moves := 7}, {e0 with win := 99000, moves := 8}, {e0 with fixed := true, hit := false, win := 1}].flatMap (fun e => [me e (lq 2 bs), me e (lq 3 bs), me e bs |> R .FWD_AGE 0, {me e bs with grain := 4000000000}, {me e bs with grain := 4000000000} |> R .FWD_ARG 0x1000000 |> L .fwdOp 5])
def states : List State := samples.map syncS ++ samples.filter (fun s => s.regs0 ≠ [])
def w0 : State := states.getD 0 base
def w1 : State := states.getD 1 base
def w2 : State := states.getD 2 base
def w5 : State := states.getD 5 base
def w6 : State := states.getD 6 base
def w15 : State := states.getD 15 base
def w20 : State := states.getD 20 base
def w21 : State := states.getD 21 base
def w28 : State := states.getD 28 base
def w33 : State := states.getD 33 base
def w36 : State := states.getD 36 base
def x10 : LearnReq := (List.find? (fun r => r.pipe == 0) w1.learnQ).getD dLearn
def x14 : Nat := (w1.macFree 0 x10.vid x10.mac).getD 0
def x28 : LearnReq := (List.find? (fun r => r.pipe == 0) w2.learnQ).getD dLearn
def x35 : MacEnt := (w2.macAt 0 6002).getD dMac
def x78 : LearnReq := (List.find? (fun r => r.pipe == 0) w5.learnQ).getD dLearn
def x80 : Nat := ((w5.macFind 0 x78.vid x78.mac).getD dNE).fst
def x81 : MacEnt := ((w5.macFind 0 x78.vid x78.mac).getD dNE).snd
def x95 : LearnReq := (List.find? (fun r => r.pipe == 0) w6.learnQ).getD dLearn
def x97 : Nat := ((w6.macFind 0 x95.vid x95.mac).getD dNE).fst
def x98 : MacEnt := ((w6.macFind 0 x95.vid x95.mac).getD dNE).snd
def x212 : MacEnt := (w15.macAt 0 6002).getD dMac
def x276 : MacEnt := (w20.macAt 0 6002).getD dMac
def x287 : LearnReq := (List.find? (fun r => r.pipe == 0) w21.learnQ).getD dLearn
def x289 : Nat := ((w21.macFind 0 x287.vid x287.mac).getD dNE).fst
def x290 : MacEnt := ((w21.macFind 0 x287.vid x287.mac).getD dNE).snd
def x381 : MacEnt := (w28.macAt 0 6002).getD dMac
def x445 : MacEnt := (w33.macAt 0 6002).getD dMac
def x458 : LearnReq := (List.find? (fun r => r.pipe == 0) w36.learnQ).getD dLearn
def x460 : Nat := ((w36.macFind 0 x458.vid x458.mac).getD dNE).fst
def x461 : MacEnt := ((w36.macFind 0 x458.vid x458.mac).getD dNE).snd
theorem sound_w0 : w0.Sound := sound_of (by decide +kernel)
theorem sound_w1 : w1.Sound := sound_of (by decide +kernel)
theorem sound_w15 : w15.Sound := sound_of (by decide +kernel)
theorem sound_w2 : w2.Sound := sound_of (by decide +kernel)
theorem sound_w20 : w20.Sound := sound_of (by decide +kernel)
theorem sound_w21 : w21.Sound := sound_of (by decide +kernel)
theorem sound_w28 : w28.Sound := sound_of (by decide +kernel)
theorem sound_w33 : w33.Sound := sound_of (by decide +kernel)
theorem sound_w36 : w36.Sound := sound_of (by decide +kernel)
theorem sound_w5 : w5.Sound := sound_of (by decide +kernel)
theorem sound_w6 : w6.Sound := sound_of (by decide +kernel)
/-! States and operands that meet the hypotheses of MacLearning, clause by clause. -/
theorem witness_MacLearning_1 :
    w0.Sound ∧ ((0 < 2) ∧ (List.find? (fun r => r.pipe == 0) w0.learnQ = none ∨ w0.replacing 0 = true)) :=
  ⟨sound_w0, by decide +kernel⟩
theorem witness_MacLearning_2 :
    w0.Sound ∧ ((0 < 2) ∧ (0 < 65536) ∧ (w0.macAt 0 0 = none ∨ w0.fld Reg.FWD_AGE 19 0 = 0)) :=
  ⟨sound_w0, by decide +kernel⟩
theorem witness_MacLearning_3 :
    w1.Sound ∧ (List.find? (fun r => r.pipe == 0) w1.learnQ = some x10) ∧ (w1.macFree 0 x10.vid x10.mac = some x14) ∧ ((0 < 2) ∧ (w1.replacing 0 = false) ∧ (x10.port < 6) ∧ (w1.macFind 0 x10.vid x10.mac = none)) :=
  ⟨sound_w1, some_of (by decide +kernel), some_of (by decide +kernel), by decide +kernel⟩
theorem witness_MacLearning_4 :
    w2.Sound ∧ (List.find? (fun r => r.pipe == 0) w2.learnQ = some x28) ∧ ((0 < 2) ∧ (w2.replacing 0 = false) ∧ (x28.port < 6) ∧ (w2.macFind 0 x28.vid x28.mac = none) ∧ (w2.macFree 0 x28.vid x28.mac = none)) :=
  ⟨sound_w2, some_of (by decide +kernel), by decide +kernel⟩
theorem witness_MacLearning_5 :
    w2.Sound ∧ (w2.macAt 0 6002 = some x35) ∧ ((0 < 2) ∧ (6002 < 65536) ∧ (¬(x35.win ≠ 0 ∧ x35.lock = false ∧ x35.win + 1000000000 ≤ w2.grain + 1))) :=
  ⟨sound_w2, some_of (by decide +kernel), by decide +kernel⟩
theorem witness_MacLearning_6 :
    w2.Sound ∧ (w2.macAt 0 6002 = some x35) ∧ ((0 < 2) ∧ (6002 < 65536) ∧ (¬(x35.lock = true ∧ x35.lockAt + 1000000000 * w2.fld Reg.FWD_FLAP 11 0 ≤ w2.grain))) :=
  ⟨sound_w2, some_of (by decide +kernel), by decide +kernel⟩
theorem witness_MacLearning_7 :
    w2.Sound ∧ (w2.macAt 0 6002 = some x35) ∧ ((0 < 2) ∧ (6002 < 65536) ∧ (w2.fld Reg.FWD_AGE 19 0 ≠ 0) ∧ (w2.replacing 0 = false) ∧ (x35.fixed = false) ∧ (x35.hit = true → x35.hitAt ≠ w2.grain + 1)) :=
  ⟨sound_w2, some_of (by decide +kernel), by decide +kernel⟩
theorem witness_MacLearning_8 :
    w5.Sound ∧ (List.find? (fun r => r.pipe == 0) w5.learnQ = some x78) ∧ ((0 < 2) ∧ (w5.replacing 0 = false) ∧ (x78.port < 6) ∧ (w5.macFind 0 x78.vid x78.mac = some (x80, x81)) ∧ (x81.port = x78.port)) :=
  ⟨sound_w5, some_of (by decide +kernel), by decide +kernel⟩
theorem witness_MacLearning_9 :
    w6.Sound ∧ (List.find? (fun r => r.pipe == 0) w6.learnQ = some x95) ∧ ((0 < 2) ∧ (w6.replacing 0 = false) ∧ (x95.port < 6) ∧ (w6.macFind 0 x95.vid x95.mac = some (x97, x98)) ∧ (x98.port ≠ x95.port) ∧ (x98.fixed = false) ∧ (x98.lock = false) ∧ (x98.win = 0 ∨ x98.moves < 8)) :=
  ⟨sound_w6, some_of (by decide +kernel), by decide +kernel⟩
theorem witness_MacLearning_10 :
    w15.Sound ∧ (w15.macAt 0 6002 = some x212) ∧ ((0 < 2) ∧ (6002 < 65536) ∧ (x212.hit = true) ∧ (x212.hitAt = w15.grain + 1)) :=
  ⟨sound_w15, some_of (by decide +kernel), by decide +kernel⟩
theorem witness_MacLearning_11 :
    w20.Sound ∧ (w20.macAt 0 6002 = some x276) ∧ ((0 < 2) ∧ (6002 < 65536) ∧ (x276.fixed = true)) :=
  ⟨sound_w20, some_of (by decide +kernel), by decide +kernel⟩
theorem witness_MacLearning_12 :
    w21.Sound ∧ (List.find? (fun r => r.pipe == 0) w21.learnQ = some x287) ∧ ((0 < 2) ∧ (w21.replacing 0 = false) ∧ (x287.port < 6) ∧ (w21.macFind 0 x287.vid x287.mac = some (x289, x290)) ∧ (x290.port ≠ x287.port) ∧ (x290.fixed = true ∨ x290.lock = true)) :=
  ⟨sound_w21, some_of (by decide +kernel), by decide +kernel⟩
theorem witness_MacLearning_13 :
    w28.Sound ∧ (w28.macAt 0 6002 = some x381) ∧ ((0 < 2) ∧ (6002 < 65536) ∧ (x381.lock = true ∧ x381.lockAt + 1000000000 * w28.fld Reg.FWD_FLAP 11 0 ≤ w28.grain)) :=
  ⟨sound_w28, some_of (by decide +kernel), by decide +kernel⟩
theorem witness_MacLearning_14 :
    w33.Sound ∧ (w33.macAt 0 6002 = some x445) ∧ ((0 < 2) ∧ (6002 < 65536) ∧ (x445.win ≠ 0 ∧ x445.lock = false ∧ x445.win + 1000000000 ≤ w33.grain + 1)) :=
  ⟨sound_w33, some_of (by decide +kernel), by decide +kernel⟩
theorem witness_MacLearning_15 :
    w36.Sound ∧ (List.find? (fun r => r.pipe == 0) w36.learnQ = some x458) ∧ ((0 < 2) ∧ (w36.replacing 0 = false) ∧ (x458.port < 6) ∧ (w36.macFind 0 x458.vid x458.mac = some (x460, x461)) ∧ (x461.port ≠ x458.port) ∧ (x461.fixed = false) ∧ (x461.lock = false) ∧ (x461.win ≠ 0) ∧ (8 ≤ x461.moves)) :=
  ⟨sound_w36, some_of (by decide +kernel), by decide +kernel⟩
end MacLearning

namespace ModeCommands
def okT (τ : Nat) (s : State) : State := s |> (R .ADC_REF 2 · τ) |> (R .ADC_STATUS 16 · τ) |> (R .MC_STATUS 1 · τ) |> (R .MC_KINDS 1 · τ)
def samples : List State := [base, okT 0 (okT 1 {base with mode := .characterise}), M .hold base]
def states : List State := samples.map syncS ++ samples.filter (fun s => s.regs0 ≠ [])
def w0 : State := states.getD 0 base
def w1 : State := states.getD 1 base
theorem sound_w0 : w0.Sound := sound_of (by decide +kernel)
theorem sound_w1 : w1.Sound := sound_of (by decide +kernel)
/-! States and operands that meet the hypotheses of ModeCommands, clause by clause. -/
theorem witness_ModeCommands_1 :
    w0.Sound ∧ ((w0.cmdBusy = false) ∧ (w0.mode = Mode.static) ∧ (w0.armedOrArming = false)) :=
  ⟨sound_w0, by decide +kernel⟩
theorem witness_ModeCommands_2 :
    w0.Sound ∧ ((w0.cmdBusy = false) ∧ (w0.mode ≠ Mode.characterise)) :=
  ⟨sound_w0, by decide +kernel⟩
theorem witness_ModeCommands_3 :
    w1.Sound ∧ ((w1.cmdBusy = false) ∧ (w1.mode = Mode.characterise) ∧ (w1.tiles.all w1.staticTileOk = true) ∧ (¬w1.swpState ∈ [1, 2, 3]) ∧ (w1.loadBusy = false)) :=
  ⟨sound_w1, by decide +kernel⟩
theorem witness_ModeCommands_4 :
    w1.Sound ∧ ((w1.cmdBusy = false) ∧ (w1.mode ≠ Mode.static)) :=
  ⟨sound_w1, by decide +kernel⟩
end ModeCommands

namespace ModeMovesOnlyByTriggers
def samples : List State := [{base with mode := .sable, sable := true}]
def states : List State := samples.map syncS ++ samples.filter (fun s => s.regs0 ≠ [])
def w0 : State := states.getD 0 base
def x0 : State := nextOf (exec Instr.ageTick w0)
theorem sound_w0 : w0.Sound := sound_of (by decide +kernel)
/-! States and operands that meet the hypotheses of ModeMovesOnlyByTriggers, clause by clause. -/
theorem witness_ModeMovesOnlyByTriggers_1 :
    w0.Sound ∧ exec Instr.ageTick w0 = Host.Outcome.next x0 ∧ ((isReset Instr.ageTick = false) ∧ (writesAny Instr.ageTick = false) ∧ (w0.mode = Mode.sable)) :=
  ⟨sound_w0, next_of (by decide +kernel), by decide +kernel⟩
theorem witness_ModeMovesOnlyByTriggers_2 :
    w0.Sound ∧ exec Instr.ageTick w0 = Host.Outcome.next x0 ∧ ((isReset Instr.ageTick = false) ∧ (writesAny Instr.ageTick = false) ∧ (w0.sable = true)) :=
  ⟨sound_w0, next_of (by decide +kernel), by decide +kernel⟩
theorem witness_ModeMovesOnlyByTriggers_3 :
    w0.Sound ∧ exec Instr.ageTick w0 = Host.Outcome.next x0 ∧ ((isReset Instr.ageTick = false) ∧ (writesAny Instr.ageTick = false) ∧ (movesMode Instr.ageTick = false)) :=
  ⟨sound_w0, next_of (by decide +kernel), by decide +kernel⟩
end ModeMovesOnlyByTriggers

namespace Monitors
def globInt : List (Int) := [-6001, -6000, 0, 1600, 16000, 20000, 20001]
def th (s : State) : State := s |> R .THM_SHUT 15000 |> R .THM_THROT 12000 |> R .THM_WARN 11000 |> (R .HLT_VFAIL 0x03e80320 · 0 0) |> (R .HLT_VFAIL 0x03e80320 · 0 7)|> (R .HLT_VWARN 0xffff0000 · 0 7) |> R .HLT_PROC_MIN 5
def samples : List State := [base, R .THM_CTRL 0 (th base) |> (R .TILE_TEMP 12500 · 0), L .bootStep 20 (M .boot base), th (R .CAP_INUSE 0 (L .imgUp 0 (M .boot base))) |> (R .TILE_TEMP 12500 · 0), th (R .CAP_INUSE 0 base),th base, th base |> L .tempOut 3 |> L .shutRun 1, th base |> L .tempOut 3 |> R .TILE_HLT_STATUS 1, th base |> R .TILE_TEMP 12500, th base |> R .TILE_TEMP 11500, th base |> R .THM_STATUS 0x80000000, th base |> (L .vOut 3 · 0 1)|> (L .vOut 3 · 7 1) |> (L .vFirst 801 · 7 1), M .sable (th base) , th (M .boot base) |> L .imgUp 0, th base |> L .procLow 7, th base |> L .procLow 7 |> L .procSent 1, th base |> R .THM_CTRL 0xffffffff, th base |> R .THM_CTRL 0xffffffff |> R .TILE_TEMP 16000|> (R .TILE_TEMP 16000 · 1), {th base with sable := true}]
def states : List State := samples.map syncS ++ samples.filter (fun s => s.regs0 ≠ [])
def w0 : State := states.getD 0 base
def w1 : State := states.getD 1 base
def w3 : State := states.getD 3 base
def w6 : State := states.getD 6 base
def w11 : State := states.getD 11 base
def w12 : State := states.getD 12 base
def w14 : State := states.getD 14 base
def x0 : Int := clampI (-6000) 20000 (-6001)
def x1 : Int := clampI (-6000) 20000 (-6000)
def x4 : Int := clampI (-6000) 20000 16000
theorem sound_w0 : w0.Sound := sound_of (by decide +kernel)
theorem sound_w1 : w1.Sound := sound_of (by decide +kernel)
theorem sound_w11 : w11.Sound := sound_of (by decide +kernel)
theorem sound_w12 : w12.Sound := sound_of (by decide +kernel)
theorem sound_w14 : w14.Sound := sound_of (by decide +kernel)
theorem sound_w3 : w3.Sound := sound_of (by decide +kernel)
theorem sound_w6 : w6.Sound := sound_of (by decide +kernel)
/-! States and operands that meet the hypotheses of Monitors, clause by clause. -/
theorem witness_Monitors_1 :
    w0.Sound ∧ ((0 < 176) ∧ (w0.lat Lat.bootStep ≠ 20) ∧ (w0.inUse 0 = true ∨ w0.tiles = [] ∧ w0.flag Lat.imgUp = false) ∧ (-6000 = x1) ∧ (w0.sensFail 0 = false) ∧ (x1 < sx 16 (w0.reg Reg.THM_SHUT))) :=
  ⟨sound_w0, by decide +kernel⟩
theorem witness_Monitors_2 :
    w0.Sound ∧ ((7 < 176) ∧ (w0.lat Lat.bootStep = 20 ∨ w0.inUse 7 = false ∧ (w0.tiles ≠ [] ∨ w0.flag Lat.imgUp = true))) :=
  ⟨sound_w0, by decide +kernel⟩
theorem witness_Monitors_3 :
    w0.Sound ∧ ((0 < 8) ∧ (0 < 65536) ∧ (w0.inWindow 0 0 0 = true) ∧ (w0.inWindow 0 1 0 = true)) :=
  ⟨sound_w0, by decide +kernel⟩
theorem witness_Monitors_4 :
    w0.Sound ∧ ((0 < 176) ∧ (0 < 2 ^ 20) ∧ (w0.inUse 0 = true) ∧ (w0.fld Reg.HLT_PROC_MIN 19 0 ≤ 0)) :=
  ⟨sound_w0, by decide +kernel⟩
theorem witness_Monitors_5 :
    w0.Sound ∧ ((7 < 176) ∧ (0 < 2 ^ 20) ∧ (w0.inUse 7 = false)) :=
  ⟨sound_w0, by decide +kernel⟩
theorem witness_Monitors_6 :
    w1.Sound ∧ ((w1.rbit Reg.THM_CTRL 0 = false) ∧ (0 < 176) ∧ (w1.inUse 0 = true)) :=
  ⟨sound_w1, by decide +kernel⟩
theorem witness_Monitors_7 :
    w1.Sound ∧ (w1.modelRuns = false) :=
  ⟨sound_w1, by decide +kernel⟩
theorem witness_Monitors_8 :
    w1.Sound ∧ ((∃ τ, τ ∈ w1.sensedTiles ∧ sx 16 (w1.reg Reg.THM_THROT) ≤ w1.sensor τ) ∧ (w1.thmLevel = 0)) :=
  ⟨sound_w1, by decide +kernel⟩
theorem witness_Monitors_9 :
    w3.Sound ∧ ((0 < 8) ∧ (0 < 65536) ∧ (w3.flag Lat.imgUp = false)) :=
  ⟨sound_w3, by decide +kernel⟩
theorem witness_Monitors_10 :
    w6.Sound ∧ ((0 < 176) ∧ (w6.lat Lat.bootStep ≠ 20) ∧ (w6.inUse 0 = true ∨ w6.tiles = [] ∧ w6.flag Lat.imgUp = false) ∧ (-6001 ≠ x0) ∧ (w6.nlat Lat.tempOut = 3) ∧ (w6.sensFail 0 = false)) :=
  ⟨sound_w6, by decide +kernel⟩
theorem witness_Monitors_11 :
    w6.Sound ∧ ((0 < 176) ∧ (w6.lat Lat.bootStep ≠ 20) ∧ (w6.inUse 0 = true ∨ w6.tiles = [] ∧ w6.flag Lat.imgUp = false) ∧ (16000 = x4) ∧ (w6.sensFail 0 = false) ∧ (sx 16 (w6.reg Reg.THM_SHUT) ≤ x4) ∧ (w6.lat Lat.shutRun = 1)) :=
  ⟨sound_w6, by decide +kernel⟩
theorem witness_Monitors_12 :
    w11.Sound ∧ ((0 < 8) ∧ (0 < 65536) ∧ (w11.flag Lat.imgUp = true) ∧ (w11.inWindow 0 1 0 = false) ∧ (w11.flag Lat.vExc 0 1 = false) ∧ (w11.nlat Lat.vOut 0 1 = 3)) :=
  ⟨sound_w11, by decide +kernel⟩
theorem witness_Monitors_13 :
    w12.Sound ∧ ((w12.modelRuns = false) ∧ (∀ (τ : Nat), τ ∈ w12.sensedTiles → w12.sensor τ < sx 16 (w12.reg Reg.THM_WARN)) ∧ (∀ (τ : Nat), τ ∈ w12.sensedTiles → w12.sensor τ < sx 16 (w12.reg Reg.THM_THROT)) ∧ (w12.thmLevel = 0)) :=
  ⟨sound_w12, by decide +kernel⟩
theorem witness_Monitors_14 :
    w14.Sound ∧ ((0 < 176) ∧ (0 < 2 ^ 20) ∧ (w14.inUse 0 = true) ∧ (0 < w14.fld Reg.HLT_PROC_MIN 19 0) ∧ (w14.nlat Lat.procLow = 7) ∧ (w14.flag Lat.procSent = false)) :=
  ⟨sound_w14, by decide +kernel⟩
end Monitors

namespace PlovomLinks
def globPlvFrame : List (PlvFrame) := []
def lup (l : Nat) (s : State) : State := s |> (R .PLV_LCTRL (2^31) · 0 l) |> (R .PLV_LSTATUS 0xF3 · 0 l) |> (L .plvLim 1000 · l 0)|> (L .plvLim 1000 · l 1)|> (L .plvLim 1000 · l 2) |> (L .plvInit 65000 · l 0)|> (L .plvTx 4095 · l)
def fr (l q r : Nat) : PlvFrame := ⟨l, some q, 8, 7, 0, 0, [1#8], 1, r⟩
def en (l v : Nat) (s : State) : State := s |> (R .PLV_LCTRL (2^31) · 0 l) |> (R .PLV_LSTATUS (0xF0+v) · 0 l)
def samples : List State := [base, en 0 0 (en 1 1 base), en 0 2 base, lup 0 base, lup 1 base, {lup 0 base with plvOut := [fr 0 4094 0, fr 0 4095 1, fr 0 0 2, fr 1 5 0]}, {lup 0 base with plvOut := [fr 0 4094 3, fr 0 4095 1, fr 0 0 2, fr 1 5 0]}, {lup 0 (lup 1 base) with plvOut := [fr 0 4094 1, {fr 0 5 0 with seq := none}, fr 1 5 0]}, {en 1 2 base with plvOut := [{fr 1 0 0 with seq := none}]}, {lup 1 base with plvOut := [fr 1 0 2]}, M .sable (lup 0 base), {lup 0 base with plvOut := [{fr 0 4 0 with seq := none}]} |> (L .plvLim 0 · 0 2)]
def states : List State := samples.map syncS ++ samples.filter (fun s => s.regs0 ≠ [])
def w0 : State := states.getD 0 base
def w1 : State := states.getD 1 base
def w2 : State := states.getD 2 base
def w3 : State := states.getD 3 base
def w5 : State := states.getD 5 base
def w6 : State := states.getD 6 base
def x0 : List PlvFrame := List.filter (fun f => !(f.link == 0 && (Option.map (coveredBy 0) f.seq).getD false)) w3.plvOut
def x1 : List PlvFrame := List.filter (fun f => f.link == 0 && f.seq.isSome) x0
theorem sound_w0 : w0.Sound := sound_of (by decide +kernel)
theorem sound_w1 : w1.Sound := sound_of (by decide +kernel)
theorem sound_w2 : w2.Sound := sound_of (by decide +kernel)
theorem sound_w3 : w3.Sound := sound_of (by decide +kernel)
theorem sound_w5 : w5.Sound := sound_of (by decide +kernel)
theorem sound_w6 : w6.Sound := sound_of (by decide +kernel)
/-! States and operands that meet the hypotheses of PlovomLinks, clause by clause. -/
theorem witness_PlovomLinks_1 :
    w0.Sound ∧ ((0 < 2) ∧ (0 < 3) ∧ (0 < 16) ∧ (w0.plvEnabled 0 = false)) :=
  ⟨sound_w0, by decide +kernel⟩
theorem witness_PlovomLinks_2 :
    w0.Sound ∧ ((0 < 2) ∧ (0 < 2 ^ 16) ∧ (0 < 2 ^ 16) ∧ (0 < 2 ^ 16) ∧ (w0.plvEnabled 0 = false ∨ w0.plvState 0 ≠ 2)) :=
  ⟨sound_w0, by decide +kernel⟩
theorem witness_PlovomLinks_3 :
    w0.Sound ∧ ((0 < 2) ∧ (w0.unacked 0 = [])) :=
  ⟨sound_w0, by decide +kernel⟩
theorem witness_PlovomLinks_4 :
    w0.Sound ∧ ((0 < 2) ∧ (w0.plvUp 0 = false) ∧ (Instr.plvAck 0 0 ∈ [Instr.plvAck 0 0, Instr.plvNak 0 0, Instr.plvReplayTimeout 0, Instr.plvBadFrame 0 true, Instr.plvCredit 0 0 0 0])) :=
  ⟨sound_w0, by decide +kernel⟩
theorem witness_PlovomLinks_5 :
    w1.Sound ∧ ((0 < 2) ∧ (1 < 3) ∧ (15 < 16) ∧ (w1.plvEnabled 0 = true) ∧ (1 = 1) ∧ (15 = 15)) :=
  ⟨sound_w1, by decide +kernel⟩
theorem witness_PlovomLinks_6 :
    w1.Sound ∧ ((1 < 2) ∧ (2 < 3) ∧ (15 < 16) ∧ (w1.plvEnabled 1 = true) ∧ (2 = 2) ∧ (15 = 15) ∧ (w1.plvState 1 = 1)) :=
  ⟨sound_w1, by decide +kernel⟩
theorem witness_PlovomLinks_7 :
    w2.Sound ∧ ((0 < 2) ∧ (0 < 2 ^ 16) ∧ (0 < 2 ^ 16) ∧ (0 < 2 ^ 16) ∧ (w2.plvEnabled 0 = true) ∧ (w2.plvState 0 = 2) ∧ ((w2.plvOut.all fun f => f.link != 0 || f.seq.isSome) = true)) :=
  ⟨sound_w2, by decide +kernel⟩
theorem witness_PlovomLinks_8 :
    w3.Sound ∧ ((0 < 2) ∧ (0 < 3) ∧ (0 < 16) ∧ (w3.plvEnabled 0 = true) ∧ (0 = 0) ∧ (0 ≠ 15) ∧ (w3.plvUp 0 = true)) :=
  ⟨sound_w3, by decide +kernel⟩
theorem witness_PlovomLinks_9 :
    w3.Sound ∧ ((0 < 2) ∧ (0 < 2 ^ 16) ∧ (0 < 2 ^ 16) ∧ (0 < 2 ^ 16) ∧ (w3.plvUp 0 = true) ∧ ((w3.plvOut.all fun f => f.link != 0 || f.seq.isSome) = true)) :=
  ⟨sound_w3, by decide +kernel⟩
theorem witness_PlovomLinks_10 :
    w3.Sound ∧ ((0 < 2) ∧ (0 < 4096) ∧ (w3.plvUp 0 = true) ∧ ((w3.plvOut.all fun f => f.link != 0 || f.seq.isSome) = true) ∧ ((x1.all fun f => Decidable.decide (f.replays < 3)) = true)) :=
  ⟨sound_w3, by decide +kernel⟩
theorem witness_PlovomLinks_11 :
    w5.Sound ∧ ((0 < 2) ∧ (w5.plvUp 0 = true) ∧ (w5.unacked 0 ≠ []) ∧ (((w5.unacked 0).all fun f => Decidable.decide (f.replays < 3)) = true)) :=
  ⟨sound_w5, by decide +kernel⟩
theorem witness_PlovomLinks_12 :
    w6.Sound ∧ ((0 < 2) ∧ (w6.plvUp 0 = true) ∧ (w6.unacked 0 ≠ []) ∧ (∃ f, f ∈ w6.unacked 0 ∧ 3 ≤ f.replays)) :=
  ⟨sound_w6, by decide +kernel⟩
end PlovomLinks

namespace PlovomTransactions
def okB : MemRes → Option (List Byte) | .ok b => some b | _ => none
def globListByte : List ((List Byte)) := [[], [1#8, 2#8, 3#8, 4#8], [9#8]]
def lup (l : Nat) (s : State) : State := s |> (R .PLV_LCTRL (2^31) · 0 l) |> (R .PLV_LSTATUS 0xF3 · 0 l) |> (L .plvLim 1000 · l 0)|> (L .plvLim 1000 · l 1)|> (L .plvLim 1000 · l 2) |> (L .plvInit 65000 · l 0)|> (L .plvTx 4095 · l)|> (L .plvRx 4095 · l)
def uh : DmaUnit := ⟨2, 64, 4, [(0x1000020000, 4)], [(0x1000020F00, 4)], true, false, 1, 16, none, false⟩
def samples : List State := [lup 0 base, lup 1 base, lup 1 base |> R .MGT_REMAP 1, lup 0 base |> R .MGT_REMAP 1] ++ [{lup 1 base with dmaUnits := [uh], mbox := [⟨1, 2⟩]}, base, {lup 1 base with mbox := List.replicate 16 ⟨1, 2⟩}]
def states : List State := samples.map syncS ++ samples.filter (fun s => s.regs0 ≠ [])
def w0 : State := states.getD 0 base
def w1 : State := states.getD 1 base
def w4 : State := states.getD 4 base
def w6 : State := states.getD 6 base
def x0 : List Byte := okBytes ((w0.plvAccept 0 1 0).memGet Port.plv 0 1).fst
def x1 : State := ((w0.plvAccept 0 1 0).memGet Port.plv 0 1).snd
def x36 : Nat := ((w0.target 1048576).getD dTN).snd
def x37 : Nat := ((w0.target (1048576 + [1#8, 2#8, 3#8, 4#8].length - 1)).getD dTN).snd
def x39 : State := (w0.plvAccept 0 1 0).busRead (plvIni 0) 4259856
def x80 : PlvMsg := w4.mbox.headD dPlvMsg
def x81 : List PlvMsg := w4.mbox.tail
def x88 : DmaUnit := (w4.tagUnit 1 16).getD dUnit
theorem sound_w0 : w0.Sound := sound_of (by decide +kernel)
theorem sound_w1 : w1.Sound := sound_of (by decide +kernel)
theorem sound_w4 : w4.Sound := sound_of (by decide +kernel)
theorem sound_w6 : w6.Sound := sound_of (by decide +kernel)
/-! States and operands that meet the hypotheses of PlovomTransactions, clause by clause. -/
theorem witness_PlovomTransactions_1 :
    w0.Sound ∧ ((w0.plvAccept 0 1 0).memGet Port.plv 0 1 = (MemRes.ok x0, x1)) ∧ ((0 < 2) ∧ (0 < 256) ∧ (0 < 2 ^ 40) ∧ (w0.plvUp 0 = true) ∧ (1 ≤ 1) ∧ (1 ≤ 256) ∧ (w0.burstOk 0 1 = true) ∧ (w0.atReg 0 = false)) :=
  ⟨sound_w0, by delta x0 x1; exact pair_of (ok_of (by decide +kernel)), by decide +kernel⟩
theorem witness_PlovomTransactions_2 :
    w0.Sound ∧ ((0 < 2) ∧ (0 < 256) ∧ (0 < 2 ^ 40) ∧ (0 < 256) ∧ (0 < 2 ^ 32) ∧ (w0.plvUp 0 = true) ∧ (w0.mbox.length < 16)) :=
  ⟨sound_w0, by decide +kernel⟩
theorem witness_PlovomTransactions_3 :
    w0.Sound ∧ ((0 < 2) ∧ (0 < 256) ∧ (0 < 2 ^ 40) ∧ (w0.mbox = [])) :=
  ⟨sound_w0, by decide +kernel⟩
theorem witness_PlovomTransactions_4 :
    w0.Sound ∧ ((0 < 2) ∧ (0 < 256) ∧ (1048576 < 2 ^ 40) ∧ (w0.plvUp 0 = true) ∧ (1 ≤ [1#8, 2#8, 3#8, 4#8].length) ∧ ([1#8, 2#8, 3#8, 4#8].length ≤ 256) ∧ (w0.burstOk 1048576 [1#8, 2#8, 3#8, 4#8].length = true) ∧ (w0.target 1048576 = some (Target.sram, x36)) ∧ (w0.target (1048576 + [1#8, 2#8, 3#8, 4#8].length - 1) = some (Target.sram, x37)) ∧ (4 < x36 ∨ x36 + [1#8, 2#8, 3#8, 4#8].length ≤ 4)) :=
  ⟨sound_w0, by decide +kernel⟩
theorem witness_PlovomTransactions_5 :
    w0.Sound ∧ ((0 < 2) ∧ (0 < 256) ∧ (4259856 < 2 ^ 40) ∧ (w0.plvUp 0 = true) ∧ (1 ≤ 1) ∧ (1 ≤ 256) ∧ (w0.burstOk 4259856 1 = false)) :=
  ⟨sound_w0, by decide +kernel⟩
theorem witness_PlovomTransactions_6 :
    w0.Sound ∧ ((0 < 2) ∧ (0 < 256) ∧ (4259856 < 2 ^ 40) ∧ (w0.plvUp 0 = true) ∧ (1 ≤ 4) ∧ (4 ≤ 256) ∧ (w0.burstOk 4259856 4 = true) ∧ (w0.atReg 4259856 = true) ∧ ((w0.plvAccept 0 1 0).busRead (plvIni 0) 4259856 = x39) ∧ (x39.resp.err = false)) :=
  ⟨sound_w0, by decide +kernel⟩
theorem witness_PlovomTransactions_7 :
    w0.Sound ∧ ((0 < 2) ∧ (0 < 256) ∧ (4259856 < 2 ^ 40) ∧ (w0.plvUp 0 = true) ∧ (1 ≤ [9#8].length) ∧ ([9#8].length ≤ 256) ∧ (w0.burstOk 4259856 [9#8].length = false)) :=
  ⟨sound_w0, by decide +kernel⟩
theorem witness_PlovomTransactions_8 :
    w1.Sound ∧ ((0 < 2) ∧ (0 < 256) ∧ (0 < 2 ^ 40) ∧ (w1.plvUp 0 = false) ∧ (Instr.plvWrite 0 0 0 [0] ∈ [Instr.plvRead 0 0 0 4, Instr.plvWrite 0 0 0 [0], Instr.plvPwrite 0 0 [0], Instr.plvMsg 0 0 0, Instr.plvCpl 0 0 0 []])) :=
  ⟨sound_w1, by decide +kernel⟩
theorem witness_PlovomTransactions_9 :
    w4.Sound ∧ ((0 < 2) ∧ (0 < 256) ∧ (0 < 2 ^ 40) ∧ (w4.mbox = x80 :: x81)) :=
  ⟨sound_w4, by decide +kernel⟩
theorem witness_PlovomTransactions_10 :
    w4.Sound ∧ (w4.tagUnit 1 16 = some x88) ∧ ((1 < 2) ∧ (16 < 256) ∧ (0 < 2 ^ 40) ∧ (w4.plvUp 1 = true) ∧ (0 < 256) ∧ (([] : List Byte).length ≤ 256) ∧ (0 ≠ 0 ∨ ([] : List Byte).length ≠ x88.len) ∧ (x88.ch < 16) ∧ (x88.stray = false) ∧ (w4.flag Lat.dmaAbort x88.ch = false)) :=
  ⟨sound_w4, some_of (by decide +kernel), by decide +kernel⟩
theorem witness_PlovomTransactions_11 :
    w4.Sound ∧ (w4.tagUnit 1 16 = some x88) ∧ ((1 < 2) ∧ (16 < 256) ∧ (0 < 2 ^ 40) ∧ (w4.plvUp 1 = true) ∧ (0 < 256) ∧ ([1#8, 2#8, 3#8, 4#8].length ≤ 256) ∧ (0 = 0) ∧ ([1#8, 2#8, 3#8, 4#8].length = x88.len)) :=
  ⟨sound_w4, some_of (by decide +kernel), by decide +kernel⟩
theorem witness_PlovomTransactions_12 :
    w6.Sound ∧ ((1 < 2) ∧ (0 < 256) ∧ (0 < 2 ^ 40) ∧ (0 < 256) ∧ (0 < 2 ^ 32) ∧ (w6.plvUp 1 = true) ∧ (16 ≤ w6.mbox.length)) :=
  ⟨sound_w6, by decide +kernel⟩
end PlovomTransactions

namespace ProgramGrain
def prog (h w : Nat) (x : Nat) (s : State) : State := s.setCs 0 h w (withParity x)
def ru (s : State) : State := s |> L .spanUp 1 |> R .RED_TSTATE 0x0201 |> (R .MC_CYCLES 3000) |> (L .engSig 0x12345678) |> (L .engSig 5 · 0 1)
def alu (op wr b a : Nat) : Nat := 2^27*op + 2^16*wr + 2^10*b + 2^4*a
def samples : List State := [base, ru base, ru base |> prog 0 5 (2^32 * alu 1 5 1 2 + 2^64 * alu 4 7 3 4) |> prog 0 1 (2^32 * alu 0x0c 5 1 2 + 2^64 * alu 0x0d 7 3 4)|> prog 1 0 (2^32 * alu 0x0c 5 1 2 + 2^64 * alu 1 7 3 4) |> (L .engG 7 · 0 0 1) , ru base |> (fun s => s.setCs 0 0 5 (2^257)), M .hold (ru base), ru base |> R .MC_CYCLES 5, ru base |> R .MC_STATUS 8, {ru base with pipe := [⟨0,0,1,0,3,77⟩, ⟨0,0,3900,0,4,78⟩, ⟨0,1,5,1,3,1⟩]}, {ru base with pipe := [⟨0,0,1,0,3,77⟩, ⟨0,0,3840,0,4,78⟩, ⟨0,1,5,1,3,1⟩]} |> R .MC_CYCLES 1]
def states : List State := samples.map syncS ++ samples.filter (fun s => s.regs0 ≠ [])
def w1 : State := states.getD 1 base
def w2 : State := states.getD 2 base
def w5 : State := states.getD 5 base
def w6 : State := states.getD 6 base
def x0 : Nat := w1.csWord 0 0 0
def x9 : Nat := x0 / 2 ^ 256 ^^^ parityBits x0 ^^^ 1
def x37 : Nat := w1.csWord 0 0 3840
def x38 : Nat := x37 / 2 ^ 256 ^^^ parityBits x37 ^^^ 0
def x167 : Nat := w2.csWord 0 0 1
def x168 : Nat := x167 / 2 ^ 256 ^^^ parityBits x167 ^^^ 0
def x179 : Nat := w2.csWord 0 0 5
def x180 : Nat := x179 / 2 ^ 256 ^^^ parityBits x179 ^^^ 0
def x203 : Nat := bits x167 (32 * 1 + 31) (32 * 1)
def x207 : Nat := bits x167 (32 * 2 + 31) (32 * 2)
def x217 : Nat := bits x179 (32 * 1 + 31) (32 * 1)
def x221 : Nat := bits x179 (32 * 2 + 31) (32 * 2)
def x518 : Nat := w6.csWord 0 0 0
def x519 : Nat := x518 / 2 ^ 256 ^^^ parityBits x518 ^^^ 0
theorem sound_w1 : w1.Sound := sound_of (by decide +kernel)
theorem sound_w2 : w2.Sound := sound_of (by decide +kernel)
theorem sound_w5 : w5.Sound := sound_of (by decide +kernel)
theorem sound_w6 : w6.Sound := sound_of (by decide +kernel)
/-! States and operands that meet the hypotheses of ProgramGrain, clause by clause. -/
theorem witness_ProgramGrain_1 :
    w1.Sound ∧ ((0 < 176) ∧ (0 < 2) ∧ (0 < 3968) ∧ (0 < 4096) ∧ (0 < 256) ∧ (w1.inUse 0 = true) ∧ (w1.flag Lat.spanUp = true) ∧ (w1.executes 0 0 = true)) :=
  ⟨sound_w1, by decide +kernel⟩
theorem witness_ProgramGrain_2 :
    w1.Sound ∧ ((0 < 176) ∧ (0 < 2) ∧ (0 < 3968) ∧ (0 < 4096) ∧ (1 < 256) ∧ (w1.inUse 0 = true) ∧ (w1.flag Lat.spanUp = true) ∧ (w1.executes 0 0 = true) ∧ (3840 ≤ 0 ∨ 0 < w1.cycles 0) ∧ (w1.tbit Reg.MC_STATUS 0 3 = false) ∧ (x9 ≠ 0 ∨ 0 ≠ 0)) :=
  ⟨sound_w1, by decide +kernel⟩
theorem witness_ProgramGrain_3 :
    w1.Sound ∧ ((0 < 176) ∧ (0 < 2) ∧ (3840 < 3968) ∧ (3840 < 4096) ∧ (0 < 256) ∧ (w1.inUse 0 = true) ∧ (w1.flag Lat.spanUp = true) ∧ (w1.executes 0 0 = true) ∧ (3840 ≤ 3840) ∧ (w1.cycles 0 ≤ 3840) ∧ (x38 = 0) ∧ (3840 = 3840)) :=
  ⟨sound_w1, by decide +kernel⟩
theorem witness_ProgramGrain_4 :
    w2.Sound ∧ ((0 < 176) ∧ (0 < 2) ∧ (1 < 3968) ∧ (1 < 4096) ∧ (0 < 256) ∧ (w2.inUse 0 = true) ∧ (w2.flag Lat.spanUp = true) ∧ (w2.executes 0 0 = true) ∧ (1 + 1 < w2.cycles 0) ∧ (w2.cycles 0 ≤ 3840) ∧ (w2.tbit Reg.MC_STATUS 0 3 = false) ∧ (x168 = 0) ∧ (1 = 1) ∧ (1 = 1 ∨ 1 = 2) ∧ (bits x203 26 22 = 0) ∧ (bits x203 21 16 < 48) ∧ (bits x203 31 27 = 12)) :=
  ⟨sound_w2, by decide +kernel⟩
theorem witness_ProgramGrain_5 :
    w2.Sound ∧ ((0 < 176) ∧ (0 < 2) ∧ (1 < 3968) ∧ (1 < 4096) ∧ (0 < 256) ∧ (w2.inUse 0 = true) ∧ (w2.flag Lat.spanUp = true) ∧ (w2.executes 0 0 = true) ∧ (1 + 1 < w2.cycles 0) ∧ (w2.cycles 0 ≤ 3840) ∧ (w2.tbit Reg.MC_STATUS 0 3 = false) ∧ (x168 = 0) ∧ (1 = 1) ∧ (2 = 1 ∨ 2 = 2) ∧ (bits x207 26 22 = 0) ∧ (bits x207 21 16 < 48) ∧ (bits x207 31 27 = 13)) :=
  ⟨sound_w2, by decide +kernel⟩
theorem witness_ProgramGrain_6 :
    w2.Sound ∧ ((0 < 176) ∧ (0 < 2) ∧ (5 < 3968) ∧ (5 < 4096) ∧ (0 < 256) ∧ (w2.inUse 0 = true) ∧ (w2.flag Lat.spanUp = true) ∧ (w2.executes 0 0 = true) ∧ (5 + 1 < w2.cycles 0) ∧ (w2.cycles 0 ≤ 3840) ∧ (w2.tbit Reg.MC_STATUS 0 3 = false) ∧ (x180 = 0) ∧ (5 = 5) ∧ (1 = 1 ∨ 1 = 2) ∧ (bits x217 26 22 = 0) ∧ (bits x217 21 16 < 48) ∧ (bits x217 31 27 = 1)) :=
  ⟨sound_w2, by decide +kernel⟩
theorem witness_ProgramGrain_7 :
    w2.Sound ∧ ((0 < 176) ∧ (0 < 2) ∧ (5 < 3968) ∧ (5 < 4096) ∧ (0 < 256) ∧ (w2.inUse 0 = true) ∧ (w2.flag Lat.spanUp = true) ∧ (w2.executes 0 0 = true) ∧ (5 + 1 < w2.cycles 0) ∧ (w2.cycles 0 ≤ 3840) ∧ (w2.tbit Reg.MC_STATUS 0 3 = false) ∧ (x180 = 0) ∧ (5 = 5) ∧ (2 = 1 ∨ 2 = 2) ∧ (bits x221 26 22 = 0) ∧ (bits x221 21 16 < 48) ∧ (bits x221 31 27 = 4)) :=
  ⟨sound_w2, by decide +kernel⟩
theorem witness_ProgramGrain_8 :
    w5.Sound ∧ ((0 < 176) ∧ (0 < 2) ∧ (5 < 3968) ∧ (0 < 4096) ∧ (0 < 256) ∧ (w5.inUse 0 = true) ∧ (w5.flag Lat.spanUp = true) ∧ (w5.executes 0 0 = true) ∧ (w5.cycles 0 ≤ 5) ∧ (5 < 3840) ∧ (w5.tbit Reg.MC_STATUS 0 3 = false) ∧ (5 ≠ 0)) :=
  ⟨sound_w5, by decide +kernel⟩
theorem witness_ProgramGrain_9 :
    w6.Sound ∧ ((0 < 176) ∧ (0 < 2) ∧ (0 < 3968) ∧ (0 < 4096) ∧ (0 < 256) ∧ (w6.inUse 0 = true) ∧ (w6.flag Lat.spanUp = true) ∧ (w6.executes 0 0 = true) ∧ (w6.tbit Reg.MC_STATUS 0 3 = true) ∧ (0 < 128) ∧ (x519 ≠ 0 ∨ 0 ≠ 3968 + 0)) :=
  ⟨sound_w6, by decide +kernel⟩
theorem witness_ProgramGrain_10 :
    w6.Sound ∧ ((0 < 176) ∧ (0 < 2) ∧ (200 < 3968) ∧ (0 < 4096) ∧ (0 < 256) ∧ (w6.inUse 0 = true) ∧ (w6.flag Lat.spanUp = true) ∧ (w6.executes 0 0 = true) ∧ (w6.tbit Reg.MC_STATUS 0 3 = true) ∧ (128 ≤ 200) ∧ (200 < 3840)) :=
  ⟨sound_w6, by decide +kernel⟩
end ProgramGrain

namespace ProgramLoads
def prog : List Byte := 
  let body := leBytes 32 (2^255)
  leBytes 4 0x54434D4C ++ leBytes 4 0x0101 ++ leBytes 4 1 ++ leBytes 4 0 ++ leBytes 4 7 ++ leBytes 4 0 ++ leBytes 4 0 ++ leBytes 4 (crc32 body) ++ List.replicate 32 0 ++ (List.range 64).flatMap (fun _ => leBytes 4 0x0FFF0FFF) ++ body
def ld (s : State) : State := { s with dram := prog.zipIdx.map (fun x => (0x4000 + x.2, x.1)) } |> R .MC_LOAD_ADDR_HI 0x10 |> R .MC_LOAD_ADDR_LO 0x4000 |> R .MC_LOAD_TILES 3
def busy (s : State) : State := s |> R .MC_LOAD_STATUS (2^31)
def samples : List State := [base, ld base, M .hold (ld base) |> R .MC_LOAD_FAIL 2, M .characterise (ld base), busy (ld base), ld base |> R .MC_LOAD_CTRL 1 |> R .MC_STATUS 2 |> (R .MC_STATUS 2 · 1), ld base |> R .MC_LOAD_CTRL 2|> L .mcHalf 2 |> busy |> R .MC_STATUS 4, busy (ld base) |> R .MC_LOAD_ADDR_LO 0x4001, busy base, ld base |> (fun s => s.setCs 0 1 5 (2^257+77)) |> (R .MC_CS_ADDR 0x10005), busy (ld base) |> (R .CFG_FMAP (2^30) · 0 5)]
def states : List State := samples.map syncS ++ samples.filter (fun s => s.regs0 ≠ [])
def w0 : State := states.getD 0 base
def w1 : State := states.getD 1 base
def w4 : State := states.getD 4 base
def w7 : State := states.getD 7 base
def w8 : State := states.getD 8 base
def x0 : Nat := w0.fld Reg.MC_LOAD_CTRL 1 0
def x3 : Nat := w1.fld Reg.MC_LOAD_CTRL 1 0
def x10 : Nat := (w4.dramOff (2 ^ 32 * w4.fld Reg.MC_LOAD_ADDR_HI 7 0 + w4.reg Reg.MC_LOAD_ADDR_LO)).getD 0
def x11 : Nat := 320 + 32 * imgCycles fun k => w4.dramByte (x10 + k)
def x12 : Nat := w4.programCheck (fun k => w4.dramByte (x10 + k)) w4.loadTargets
def x20 : Nat := (w7.dramOff (2 ^ 32 * w7.fld Reg.MC_LOAD_ADDR_HI 7 0 + w7.reg Reg.MC_LOAD_ADDR_LO)).getD 0
def x21 : Nat := 320 + 32 * imgCycles fun k => w7.dramByte (x20 + k)
def x22 : Nat := w7.programCheck (fun k => w7.dramByte (x20 + k)) w7.loadTargets
theorem sound_w0 : w0.Sound := sound_of (by decide +kernel)
theorem sound_w1 : w1.Sound := sound_of (by decide +kernel)
theorem sound_w4 : w4.Sound := sound_of (by decide +kernel)
theorem sound_w7 : w7.Sound := sound_of (by decide +kernel)
theorem sound_w8 : w8.Sound := sound_of (by decide +kernel)
/-! States and operands that meet the hypotheses of ProgramLoads, clause by clause. -/
theorem witness_ProgramLoads_1 :
    w0.Sound ∧ ((w0.loadBusy = false) ∧ ((w0.loadTargets.all fun τ => w0.loadAllowed τ x0) = true)) :=
  ⟨sound_w0, by decide +kernel⟩
theorem witness_ProgramLoads_2 :
    w0.Sound ∧ ((0 < 176) ∧ (w0.inUse 0 = true)) :=
  ⟨sound_w0, by decide +kernel⟩
theorem witness_ProgramLoads_3 :
    w1.Sound ∧ (w1.loadBusy = true ∨ (w1.loadTargets.all fun τ => w1.loadAllowed τ x3) = false) :=
  ⟨sound_w1, by decide +kernel⟩
theorem witness_ProgramLoads_4 :
    w4.Sound ∧ (w4.dramOff (2 ^ 32 * w4.fld Reg.MC_LOAD_ADDR_HI 7 0 + w4.reg Reg.MC_LOAD_ADDR_LO) = some x10) ∧ ((([].all fun τ => Decidable.decide (τ < 176)) = true) ∧ (w4.loadBusy = true) ∧ (x10 + x11 ≤ w4.dramSize) ∧ (w4.dramBad x10 x11 = none) ∧ (w4.dramFresh x10 x11 = []) ∧ (x12 = 0) ∧ (0 ∈ w4.loadTargets) ∧ (0 < 2) ∧ (halfNamed (w4.nlat Lat.mcHalf) 0 = true) ∧ (0 < imgCycles fun k => w4.dramByte (x10 + k))) :=
  ⟨sound_w4, some_of (by decide +kernel), by decide +kernel⟩
theorem witness_ProgramLoads_5 :
    w7.Sound ∧ (w7.dramOff (2 ^ 32 * w7.fld Reg.MC_LOAD_ADDR_HI 7 0 + w7.reg Reg.MC_LOAD_ADDR_LO) = some x20) ∧ ((([].all fun τ => Decidable.decide (τ < 176)) = true) ∧ (w7.loadBusy = true) ∧ (x20 + x21 ≤ w7.dramSize) ∧ (w7.dramBad x20 x21 = none) ∧ (w7.dramFresh x20 x21 = []) ∧ (x22 ≠ 0)) :=
  ⟨sound_w7, some_of (by decide +kernel), by decide +kernel⟩
theorem witness_ProgramLoads_6 :
    w8.Sound ∧ ((w8.loadBusy = true) ∧ (w8.dramOff (2 ^ 32 * w8.fld Reg.MC_LOAD_ADDR_HI 7 0 + w8.reg Reg.MC_LOAD_ADDR_LO) = none)) :=
  ⟨sound_w8, by decide +kernel⟩
end ProgramLoads

namespace RegisterReads
def samples : List State := [base]
def states : List State := samples.map syncS ++ samples.filter (fun s => s.regs0 ≠ [])
def w0 : State := states.getD 0 base
theorem sound_w0 : w0.Sound := sound_of (by decide +kernel)
/-! States and operands that meet the hypotheses of RegisterReads, clause by clause. -/
theorem witness_RegisterReads_1 :
    w0.Sound ∧ w0.reaches Initiator.core 4653120 Reg.CAL_DONE_TILE 0 0 0 false ∧ ((¬Reg.CAL_DONE_TILE ∈ actingReads) ∧ (w0.evtHidden Initiator.core Reg.CAL_DONE_TILE 0 = false)) :=
  ⟨sound_w0, reaches_of (by decide +kernel), by decide +kernel⟩
end RegisterReads

namespace RegisterWrites
def samples : List State := [base, base |> R .CAL_STATUS (2^31)]
def states : List State := samples.map syncS ++ samples.filter (fun s => s.regs0 ≠ [])
def w0 : State := states.getD 0 base
def x0 : Nat := w0.treg Reg.CAL_CTRL 0
theorem sound_w0 : w0.Sound := sound_of (by decide +kernel)
/-! States and operands that meet the hypotheses of RegisterWrites, clause by clause. -/
theorem witness_RegisterWrites_1 :
    w0.Sound ∧ w0.reaches Initiator.core 4653056 Reg.CAL_CTRL 0 0 0 true ∧ ((0 < 2 ^ 32) ∧ (¬Reg.CAL_CTRL ∈ actingRegs) ∧ (coreOnly Reg.CAL_CTRL = true → isCore Initiator.core = true) ∧ (Reg.CAL_CTRL.desc.rwl ≠ 0 ∧ (Reg.CAL_CTRL.desc.rwl = Reg.CAL_CTRL.desc.rw ∨ (x0 ^^^ 0) &&& Reg.CAL_CTRL.desc.rwl ≠ 0) ∧ w0.idle Reg.CAL_CTRL.desc.lock 0 0 = false ∨ w0.valueOk Reg.CAL_CTRL 0 0 = false)) :=
  ⟨sound_w0, reaches_of (by decide +kernel), by decide +kernel⟩
theorem witness_RegisterWrites_2 :
    w0.Sound ∧ w0.reaches Initiator.core 4653056 Reg.CAL_CTRL 0 0 0 true ∧ ((65636 < 2 ^ 32) ∧ (¬Reg.CAL_CTRL ∈ actingRegs) ∧ (coreOnly Reg.CAL_CTRL = true → isCore Initiator.core = true) ∧ (¬(Reg.CAL_CTRL.desc.rwl ≠ 0 ∧ (Reg.CAL_CTRL.desc.rwl = Reg.CAL_CTRL.desc.rw ∨ (x0 ^^^ 65636) &&& Reg.CAL_CTRL.desc.rwl ≠ 0) ∧ w0.idle Reg.CAL_CTRL.desc.lock 0 0 = false)) ∧ (w0.valueOk Reg.CAL_CTRL 0 65636 = true)) :=
  ⟨sound_w0, reaches_of (by decide +kernel), by decide +kernel⟩
end RegisterWrites

namespace Remap
def samples : List State := [base, R .MGT_REMAP 1 base]
def states : List State := samples.map syncS ++ samples.filter (fun s => s.regs0 ≠ [])
def w0 : State := states.getD 0 base
theorem sound_w0 : w0.Sound := sound_of (by decide +kernel)
/-! States and operands that meet the hypotheses of Remap, clause by clause. -/
theorem witness_Remap_1 :
    w0.Sound ∧ ((0 < 2 ^ 32) ∧ (Initiator.plv0 = Initiator.plv0 ∨ Initiator.plv0 = Initiator.plv1)) :=
  ⟨sound_w0, by decide +kernel⟩
end Remap

namespace Resets
def globListByte : List ((List Byte)) := [[], b8 [1,2,3]]
def trimming (s : State) : State := s |> L .trimRun 1 |> L .pulseCh 1
def samples : List State := [base, base |> R .FLT_REC_STATUS (2^31), base |> L .bootStep 20, {base with mode := .sable, grain := 100000000000} |> L .shutSable 1 |> R .THM_CTRL (2^31), trimming base, { trimming base with wearQ := [⟨0,0,0,0⟩]}]
def states : List State := samples.map syncS ++ samples.filter (fun s => s.regs0 ≠ [])
def w0 : State := states.getD 0 base
def w1 : State := states.getD 1 base
def w2 : State := states.getD 2 base
def w3 : State := states.getD 3 base
theorem sound_w0 : w0.Sound := sound_of (by decide +kernel)
theorem sound_w1 : w1.Sound := sound_of (by decide +kernel)
theorem sound_w2 : w2.Sound := sound_of (by decide +kernel)
theorem sound_w3 : w3.Sound := sound_of (by decide +kernel)
/-! States and operands that meet the hypotheses of Resets, clause by clause. -/
theorem witness_Resets_1 :
    w0.Sound ∧ ((([] : List Byte).length ≤ 8) ∧ (w0.wearQ = [] ∨ 0 < w0.logAddr (w0.nlat Lat.logUse) + w0.reg Reg.WEAR_LOG_FILL ∨ w0.logAddr (w0.nlat Lat.logUse) + w0.reg Reg.WEAR_LOG_FILL + ([] : List Byte).length ≤ 0)) :=
  ⟨sound_w0, by decide +kernel⟩
theorem witness_Resets_2 :
    w0.Sound ∧ ((w0.cmdBusy = false) ∧ (0 < w0.bootArea)) :=
  ⟨sound_w0, by decide +kernel⟩
theorem witness_Resets_3 :
    w1.Sound ∧ ((w1.cmdBusy = false) ∧ (w1.frozen = true)) :=
  ⟨sound_w1, by decide +kernel⟩
theorem witness_Resets_4 :
    w0.Sound ∧ ((0 < 32) ∧ (w0.lat Lat.bootStep ≠ 20)) :=
  ⟨sound_w0, by decide +kernel⟩
theorem witness_Resets_5 :
    w0.Sound ∧ (w0.restartDue = false) :=
  ⟨sound_w0, by decide +kernel⟩
theorem witness_Resets_6 :
    w0.Sound ∧ (0 < 6) :=
  ⟨sound_w0, by decide +kernel⟩
theorem witness_Resets_7 :
    w2.Sound ∧ ((0 < 32) ∧ (w2.lat Lat.bootStep = 20)) :=
  ⟨sound_w2, by decide +kernel⟩
theorem witness_Resets_8 :
    w3.Sound ∧ (w3.restartDue = true) :=
  ⟨sound_w3, by decide +kernel⟩
end Resets

namespace RouteSolver
def globInstr : List (Instr) := [.rteSolve, .rteAdd, .rteDrop, .rteShutmask, .rteTrace, .rteExtract, .rteMark]
def cfm : State := passBank 7 (fun j => j != 2 && j != 9) (passBank 6 (fun _ => true) (fab base))
def op (k : Int) (s : State) : State := s |> L .rteOp (k+1) |> R .RTE_STATUS (2^31)
def samples : List State := [base, op 3 cfm |> L .rteCode 5, M .boot cfm, armedS (goodBank 5 cfm), op 7 (cfm |> R .RTE_ARG2 77 |> R .RTE_FAULT 5), op 1 (base |> (R .RTE_PERM (2^31+4) · 0 3)|> (R .RTE_PERM (2^31+4) · 0 15)),
 op 2 (cfm |> R .RTE_ARG0 7 |> R .RTE_ARG1 8 |> R .RTE_ARG2 (2^16*9+4)), op 5 (cfm |> R .RTE_ARG0 7 |> R .RTE_ARG2 3), op 5 (cfm |> R .RTE_ARG0 6 |> R .RTE_ARG2 3), op 6 (cfm |> R .RTE_ARG0 7 |> (R .RTE_PERM 9 · 0 3)), cfm |> R .RTE_ARG0 7 |> R .RTE_ARG1 8 |> R .RTE_ARG2 16]
def states : List State := samples.map syncS ++ samples.filter (fun s => s.regs0 ≠ [])
def w0 : State := states.getD 0 base
def w1 : State := states.getD 1 base
def w4 : State := states.getD 4 base
def w5 : State := states.getD 5 base
def w6 : State := states.getD 6 base
def w7 : State := states.getD 7 base
def w9 : State := states.getD 9 base
def x6 : Bool × Nat := cfgArg (w6.reg Reg.RTE_ARG0)
def x7 : Bool × Nat := cfgArg (w7.reg Reg.RTE_ARG0)
def x9 : Bool × Nat := cfgArg (w9.reg Reg.RTE_ARG0)
theorem sound_w0 : w0.Sound := sound_of (by decide +kernel)
theorem sound_w1 : w1.Sound := sound_of (by decide +kernel)
theorem sound_w4 : w4.Sound := sound_of (by decide +kernel)
theorem sound_w5 : w5.Sound := sound_of (by decide +kernel)
theorem sound_w6 : w6.Sound := sound_of (by decide +kernel)
theorem sound_w7 : w7.Sound := sound_of (by decide +kernel)
theorem sound_w9 : w9.Sound := sound_of (by decide +kernel)
/-! States and operands that meet the hypotheses of RouteSolver, clause by clause. -/
theorem witness_RouteSolver_1 :
    w0.Sound ∧ (((Instr.rteSolve, 1) ∈ [(Instr.rteSolve, 1), (Instr.rteAdd, 2), (Instr.rteDrop, 3), (Instr.rteShutmask, 4), (Instr.rteTrace, 5), (Instr.rteExtract, 6), (Instr.rteMark, 7)]) ∧ (w0.rbit Reg.RTE_STATUS 31 = false)) :=
  ⟨sound_w0, by decide +kernel⟩
theorem witness_RouteSolver_2 :
    w0.Sound ∧ ((0 < 2 ^ 32) ∧ (w0.lat Lat.rteOp = 0)) :=
  ⟨sound_w0, by decide +kernel⟩
theorem witness_RouteSolver_3 :
    w1.Sound ∧ (((Instr.rteSolve, 1) ∈ [(Instr.rteSolve, 1), (Instr.rteAdd, 2), (Instr.rteDrop, 3), (Instr.rteShutmask, 4), (Instr.rteTrace, 5), (Instr.rteExtract, 6), (Instr.rteMark, 7)]) ∧ (w1.rbit Reg.RTE_STATUS 31 = true)) :=
  ⟨sound_w1, by decide +kernel⟩
theorem witness_RouteSolver_4 :
    w1.Sound ∧ ((0 < 2 ^ 32) ∧ (w1.lat Lat.rteOp ≠ 0) ∧ (0 < w1.lat Lat.rteCode) ∧ (w1.lat Lat.rteCode < 8)) :=
  ⟨sound_w1, by decide +kernel⟩
theorem witness_RouteSolver_5 :
    w4.Sound ∧ ((0 < 2 ^ 32) ∧ ((fun op => w4.lat Lat.rteOp = op + 1 ∧ w4.lat Lat.rteCode = 0) 7) ∧ (0 < 16384) ∧ (0 ≠ w4.fld Reg.RTE_ARG2 13 0)) :=
  ⟨sound_w4, by decide +kernel⟩
theorem witness_RouteSolver_6 :
    w5.Sound ∧ ((0 < 2 ^ 32) ∧ ((fun op => w5.lat Lat.rteOp = op + 1 ∧ w5.lat Lat.rteCode = 0) 1) ∧ (w5.order ≤ 10) ∧ (∃ i j p, i < 1024 ∧ j < 1024 ∧ i ≠ j ∧ p < w5.ports ∧ w5.reg Reg.RTE_PERM i = 2 ^ 31 + p ∧ w5.reg Reg.RTE_PERM j = 2 ^ 31 + p) ∧ (∀ (i : Nat), i < 1024 → w5.rbit Reg.RTE_PERM 31 i = true → i < w5.ports ∧ w5.fld Reg.RTE_PERM 9 0 i < w5.ports)) :=
  ⟨sound_w5, by decide, by decide +kernel, by decide +kernel, ⟨3, 15, 4, by decide +kernel⟩, by decide +kernel⟩
theorem witness_RouteSolver_7 :
    w6.Sound ∧ ((0 < 2 ^ 32) ∧ (w6.checkCfg x6 = (true, w6)) ∧ (w6.order ≤ 10) ∧ ((fun op => w6.lat Lat.rteOp = op + 1 ∧ w6.lat Lat.rteCode = 0) 2) ∧ (((w6.liveCircuits x6).any fun c => c.fst == w6.fld Reg.RTE_ARG2 9 0 || c.snd.fst == w6.fld Reg.RTE_ARG2 25 16) = true)) :=
  ⟨sound_w6, by decide +kernel⟩
theorem witness_RouteSolver_8 :
    w7.Sound ∧ ((0 < 2 ^ 32) ∧ (w7.checkCfg x7 = (true, w7)) ∧ (w7.order ≤ 10) ∧ ((fun op => w7.lat Lat.rteOp = op + 1 ∧ w7.lat Lat.rteCode = 0) 5) ∧ ((tracePath w7.order (w7.cfgStates w7.cellTable x7.fst x7.snd) (w7.fld Reg.RTE_ARG2 9 0)).snd < 1024)) :=
  ⟨sound_w7, by decide +kernel⟩
theorem witness_RouteSolver_9 :
    w9.Sound ∧ ((0 < 2 ^ 32) ∧ (w9.checkCfg x9 = (true, w9)) ∧ (w9.order ≤ 10) ∧ ((fun op => w9.lat Lat.rteOp = op + 1 ∧ w9.lat Lat.rteCode = 0) 6) ∧ (0 < w9.ports)) :=
  ⟨sound_w9, by decide +kernel⟩
end RouteSolver

namespace SableAndRecord
def sb (s : State) : State := {s with sable := true}
def samples : List State := [base, sb base, sb base |> L .mgtFail 1, sb (M .slotted base) |> (R .DRV_BLOCK 77 · 0 1) |> (R .HTR_BLOCK 0x8088 · 0 1) |> (R .DRV_ACTIVE 0xfff · 0 0) |> L .ppsOut 1, sb (M .slotted base) |> (R .DRV_BLOCK 77 · 0 1) |> (R .HTR_BLOCK 0x8088 · 0 1) |> (L .drvDead 1 · 0 1)|> (L .htrDead 1 · 0 1), sb (M .sable base) |> L .flightRun 1 |> R .FLT_REC_STATUS (2^31+5) , sb (M .hold base) |> R .DRV_STATUS 0x700 , sb (M .boot base),sb (M .characterise base) |> (R .HTR_SPARE 0x40000001)]
def states : List State := samples.map syncS ++ samples.filter (fun s => s.regs0 ≠ [])
def w0 : State := states.getD 0 base
def w1 : State := states.getD 1 base
def w5 : State := states.getD 5 base
theorem sound_w0 : w0.Sound := sound_of (by decide +kernel)
theorem sound_w1 : w1.Sound := sound_of (by decide +kernel)
theorem sound_w5 : w5.Sound := sound_of (by decide +kernel)
/-! States and operands that meet the hypotheses of SableAndRecord, clause by clause. -/
theorem witness_SableAndRecord_1 :
    w0.Sound ∧ (w0.sable = false ∨ w0.mode = Mode.sable) :=
  ⟨sound_w0, by decide +kernel⟩
theorem witness_SableAndRecord_2 :
    w0.Sound ∧ (w0.flag Lat.flightRun = false ∨ w0.flag Lat.mgtFail = true) :=
  ⟨sound_w0, by decide +kernel⟩
theorem witness_SableAndRecord_3 :
    w1.Sound ∧ ((w1.sable = true) ∧ (w1.mode ≠ Mode.sable) ∧ (w1.flag Lat.imgUp = true) ∧ (0 < 176) ∧ (0 < 64) ∧ (w1.inUse 0 = true)) :=
  ⟨sound_w1, by decide +kernel⟩
theorem witness_SableAndRecord_4 :
    w5.Sound ∧ ((w5.flag Lat.flightRun = true) ∧ (w5.flag Lat.mgtFail = false) ∧ (w5.rbit Reg.FLT_CTRL 1 = false) ∧ (w5.recBase = 0)) :=
  ⟨sound_w5, by decide +kernel⟩
/-- The routine runs with a record region in DRAM. -/
def recS : State := syncS (sb (M .sable base) |> L .flightRun 1 |> R .FLT_REC_BASE_HI 0x10)
theorem recS_off : recS.dramOff recS.recBase = some 0 := by decide +kernel
theorem witness_SableAndRecord_record :
    recS.Sound ∧ (recS.flag .flightRun = true ∧ recS.flag .mgtFail = false ∧ recS.rbit .FLT_CTRL 1 = false ∧ recS.recBase ≠ 0) ∧
      recS.dramOff recS.recBase = some 0 ∧
      0 + ((recS.flightSecs globalRuns).2.flightRecord (2 ^ 40) (recS.flightSecs globalRuns).1).length ≤ recS.dramSize := by
  refine ⟨sound_of (by decide +kernel), by decide +kernel, recS_off, ?_⟩
  rw [Nat.zero_add]
  exact Nat.le_trans (State.flightRecord_bound _ _ _) (by decide +kernel)
end SableAndRecord

namespace ServoAndPps
def globTxStamp : List (TxStamp) := [⟨0, 1, 77, 2^70+5⟩, ⟨1, 3, 78, 9⟩]
def sv (s : State) : State := s |> R .PTP_CTRL 1 |> R .PTP_SERVO_LIM 50000 |> R .PTP_SERVO_KP 1000 |> R .PTP_SERVO_KI 70 |> R .PTP_SERVO_SH 0x0503 |> R .PTP_SERVO_LOCK 100
def samples : List State := [base, sv base, sv base |> R .PTP_STATUS 4, sv base |> R .PTP_STATUS 8, sv base |> L .lockN 15, sv base |> R .PTP_CTRL 3 |> R .PTP_PPSIN_CTRL (2^31) |> R .PTP_PPSIN_DLY 1000, sv base |> L .silAt 10 |> R .PTP_SERVO_HOLD 0,sv base |> L .silAt 99000 |> R .PTP_SERVO_HOLD 1, {sv base with grain := 1600000000} |> R .PTP_CTRL 3 |> R .PTP_PPSIN_CTRL (2^31) |> L .ppsAt 100000001, {sv base with grain := 1600000000} |> R .PTP_PPSIN_CTRL (2^31) |> L .ppsAt 100000002,
  base |> R .PTP_PPSOUT_CTRL (2^31), {base with time := ⟨7,999999999,2^31⟩} |> R .PTP_PPSOUT_CTRL (2^31+5), {base with time := ⟨8,999,2^32-1⟩} |> R .PTP_PPSOUT_CTRL (2^31) |> R .PTP_PPSOUT_DLY 1000000, base |> L .ppsEnd 100000 |> L .ppsOut 1, {sv base with time := ⟨30,0,0⟩} |> R .PTP_CTRL 3 |> R .PTP_PPSIN_CTRL (2^31), {sv base with time := ⟨30,400000000,0⟩} |> R .PTP_CTRL 3 |> R .PTP_PPSIN_CTRL (3*2^30),sv base |> L .silAt 10 |> R .PTP_SERVO_HOLD 0 |> R .PTP_CTRL 3 |> R .PTP_PPSIN_CTRL (2^31), M .sable base |> R .PTP_PPSOUT_CTRL (2^31) |> L .ppsOut 1, {base with txts := globTxStamp}, {base with txts := globTxStamp ++ globTxStamp}]
def states : List State := samples.map syncS ++ samples.filter (fun s => s.regs0 ≠ [])
def w0 : State := states.getD 0 base
def w1 : State := states.getD 1 base
def w2 : State := states.getD 2 base
def w3 : State := states.getD 3 base
def w5 : State := states.getD 5 base
def w6 : State := states.getD 6 base
def w8 : State := states.getD 8 base
def w11 : State := states.getD 11 base
def w13 : State := states.getD 13 base
def w15 : State := states.getD 15 base
def w18 : State := states.getD 18 base
def x22 : Nat := w5.ppsStamp 0
def x23 : Int := ppsError x22 (sx 32 (w5.reg Reg.PTP_PPSIN_DLY))
def x116 : Nat := w15.ppsStamp 0
def x117 : Int := ppsError x116 (sx 32 (w15.reg Reg.PTP_PPSIN_DLY))
def x127 : TxStamp := (List.find? (fun e => e.port == 0) w18.txts).getD dStamp
theorem sound_w0 : w0.Sound := sound_of (by decide +kernel)
theorem sound_w1 : w1.Sound := sound_of (by decide +kernel)
theorem sound_w11 : w11.Sound := sound_of (by decide +kernel)
theorem sound_w13 : w13.Sound := sound_of (by decide +kernel)
theorem sound_w15 : w15.Sound := sound_of (by decide +kernel)
theorem sound_w18 : w18.Sound := sound_of (by decide +kernel)
theorem sound_w2 : w2.Sound := sound_of (by decide +kernel)
theorem sound_w3 : w3.Sound := sound_of (by decide +kernel)
theorem sound_w5 : w5.Sound := sound_of (by decide +kernel)
theorem sound_w6 : w6.Sound := sound_of (by decide +kernel)
theorem sound_w8 : w8.Sound := sound_of (by decide +kernel)
/-! States and operands that meet the hypotheses of ServoAndPps, clause by clause. -/
theorem witness_ServoAndPps_1 :
    w0.Sound ∧ ((0 < 2 ^ 32) ∧ (w0.rbit Reg.PTP_CTRL 0 = false ∨ w0.fld Reg.PTP_CTRL 2 1 ≠ 0)) :=
  ⟨sound_w0, by decide +kernel⟩
theorem witness_ServoAndPps_2 :
    w0.Sound ∧ (w0.silent = false) :=
  ⟨sound_w0, by decide +kernel⟩
theorem witness_ServoAndPps_3 :
    w0.Sound ∧ ((0 < 2 ^ 112) ∧ (0 < 2 ^ 32) ∧ (w0.rbit Reg.PTP_PPSIN_CTRL 31 = false ∨ true ≠ w0.rbit Reg.PTP_PPSIN_CTRL 30 ∨ 0 < 100)) :=
  ⟨sound_w0, by decide +kernel⟩
theorem witness_ServoAndPps_4 :
    w0.Sound ∧ (¬(w0.rbit Reg.PTP_PPSIN_CTRL 31 = true ∧ w0.flag Lat.ppsLost = false ∧ w0.nlat Lat.ppsAt + 1500000000 ≤ w0.grain + 1)) :=
  ⟨sound_w0, by decide +kernel⟩
theorem witness_ServoAndPps_5 :
    w0.Sound ∧ (w0.rbit Reg.PTP_PPSOUT_CTRL 31 = false ∨ w0.mode = Mode.sable ∨ w0.ppsOutDue = false) :=
  ⟨sound_w0, by decide +kernel⟩
theorem witness_ServoAndPps_6 :
    w0.Sound ∧ (w0.nlat Lat.ppsEnd ≠ w0.grain) :=
  ⟨sound_w0, by decide +kernel⟩
theorem witness_ServoAndPps_7 :
    w0.Sound ∧ ((0 < 8) ∧ (List.find? (fun e => e.port == 0) w0.txts = none)) :=
  ⟨sound_w0, by decide +kernel⟩
theorem witness_ServoAndPps_8 :
    w1.Sound ∧ ((0 < 2 ^ 32) ∧ (w1.rbit Reg.PTP_CTRL 0 = true) ∧ (w1.fld Reg.PTP_CTRL 2 1 = 0) ∧ (w1.silent = false) ∧ (w1.rbit Reg.PTP_STATUS 3 = false) ∧ (w1.rbit Reg.PTP_STATUS 2 = false)) :=
  ⟨sound_w1, by decide +kernel⟩
theorem witness_ServoAndPps_9 :
    w2.Sound ∧ ((0 < 2 ^ 32) ∧ (w2.rbit Reg.PTP_CTRL 0 = true) ∧ (w2.fld Reg.PTP_CTRL 2 1 = 0) ∧ (w2.silent = false) ∧ (w2.rbit Reg.PTP_STATUS 3 = false) ∧ (w2.rbit Reg.PTP_STATUS 2 = true)) :=
  ⟨sound_w2, by decide +kernel⟩
theorem witness_ServoAndPps_10 :
    w3.Sound ∧ ((0 < 2 ^ 32) ∧ (w3.rbit Reg.PTP_CTRL 0 = true) ∧ (w3.fld Reg.PTP_CTRL 2 1 = 0) ∧ (w3.rbit Reg.PTP_STATUS 3 = true ∨ w3.silent = true)) :=
  ⟨sound_w3, by decide +kernel⟩
theorem witness_ServoAndPps_11 :
    w5.Sound ∧ ((0 < 2 ^ 112) ∧ (100 < 2 ^ 32) ∧ (w5.rbit Reg.PTP_PPSIN_CTRL 31 = true) ∧ (false = w5.rbit Reg.PTP_PPSIN_CTRL 30) ∧ (100 ≤ 100) ∧ (w5.silent = false)) :=
  ⟨sound_w5, by decide +kernel⟩
theorem witness_ServoAndPps_12 :
    w5.Sound ∧ ((0 < 2 ^ 112) ∧ (100 < 2 ^ 32) ∧ (w5.rbit Reg.PTP_PPSIN_CTRL 31 = true) ∧ (false = w5.rbit Reg.PTP_PPSIN_CTRL 30) ∧ (100 ≤ 100) ∧ (x23.natAbs < 2 ^ 23 * 1000 * 2 ^ 32) ∧ (w5.rbit Reg.PTP_CTRL 0 = true) ∧ (w5.fld Reg.PTP_CTRL 2 1 = 1)) :=
  ⟨sound_w5, by decide +kernel⟩
theorem witness_ServoAndPps_13 :
    w6.Sound ∧ (w6.silent = true) :=
  ⟨sound_w6, by decide +kernel⟩
theorem witness_ServoAndPps_14 :
    w8.Sound ∧ (w8.rbit Reg.PTP_PPSIN_CTRL 31 = true ∧ w8.flag Lat.ppsLost = false ∧ w8.nlat Lat.ppsAt + 1500000000 ≤ w8.grain + 1) :=
  ⟨sound_w8, by decide +kernel⟩
theorem witness_ServoAndPps_15 :
    w11.Sound ∧ ((w11.rbit Reg.PTP_PPSOUT_CTRL 31 = true) ∧ (w11.mode ≠ Mode.sable) ∧ (w11.ppsOutDue = true)) :=
  ⟨sound_w11, by decide +kernel⟩
theorem witness_ServoAndPps_16 :
    w13.Sound ∧ (w13.nlat Lat.ppsEnd = w13.grain) :=
  ⟨sound_w13, by decide +kernel⟩
theorem witness_ServoAndPps_17 :
    w15.Sound ∧ ((0 < 2 ^ 112) ∧ (100 < 2 ^ 32) ∧ (w15.rbit Reg.PTP_PPSIN_CTRL 31 = true) ∧ (true = w15.rbit Reg.PTP_PPSIN_CTRL 30) ∧ (100 ≤ 100) ∧ (2 ^ 23 * 1000 * 2 ^ 32 ≤ x117.natAbs)) :=
  ⟨sound_w15, by decide +kernel⟩
theorem witness_ServoAndPps_18 :
    w18.Sound ∧ (List.find? (fun e => e.port == 0) w18.txts = some x127) ∧ (0 < 8) :=
  ⟨sound_w18, some_of (by decide +kernel), by decide +kernel⟩
end ServoAndPps

namespace SignallingPorts
def D : Nat := 0x0010AABBCCDD
def S : Nat := 0x0010AABBCCEE
def mkf (d s et n : Nat) : List Byte := beBytes 6 d ++ beBytes 6 s ++ beBytes 2 et ++ List.replicate n 3#8
def globListByte : List ((List Byte)) := [mkf D S 0x0800 20, mkf D S 0x0800 100, mkf D S 0x8808 100, mkf D S 0x0800 2000, mkf 0xFFFFFFFFFFFF S 0x0800 100]
def up (p : Nat) (s : State) : State := s |> (R .SIG_PORT_STATUS 3 · 0 p) |> (R .SIG_PORT_CFG (2^31+2^30+1522 + 2^14*5) · 0 p)
def cfgd (p : Nat) (s : State) : State := s |> (R .SIG_PORT_CFG (2^31+2^30+1522) · 0 p)
def lim (s : State) : State := (List.range 64).foldl (fun s k => R .SHP_QLIM 256 s 0 (k/8) (k%8)) s
def pt (vid port : Nat) (s : State) : State := s.macPut 0 (s.macPos 0 0 vid D) ⟨vid, D, port, false, true, false, 0, 0, 0, 0⟩
def ups : State := lim (up 0 (up 1 (up 5 base)))
def tx (s : State) : State := {s with txq := [⟨0, 3, mkf D S 0x0800 100⟩, ⟨0, 5, mkf D S 0x0800 200⟩, ⟨1, 0, mkf D S 0x0800 60⟩]}
def samples : List State := [base, cfgd 0 (cfgd 1 base), cfgd 0 base |> (R .SIG_PORT_CFG (2^31+2^28) · 0 1) |> (R .SIG_PORT_CFG (2^31+2^27) · 0 2) , M .boot (cfgd 0 base), ups, tx ups, pt ((ups).fld .SIG_PORT_CFG 25 14 0) 1 ups, pt 0 1 ups, pt 5 1 ups, pt 1 1 ups, pt 5 0 ups, tx ups |> (L .shpQ (2^31) · 0 5)|> (L .shpC 100 · 0 5), tx ups |> (L .shpQ (2^31) · 0 5)|> (L .shpC (-100) · 0 5), ups |> R .SIG_M_TX_CTRL (2^31+1), ups |> R .SIG_M_TX_CTRL (2^31+1)|> R .SIG_M_TX_BASE_HI 0x10]
def globBool : List (Bool) := [true, false]
def states : List State := samples.map syncS ++ samples.filter (fun s => s.regs0 ≠ [])
def w0 : State := states.getD 0 base
def w1 : State := states.getD 1 base
def w4 : State := states.getD 4 base
def w5 : State := states.getD 5 base
def w6 : State := states.getD 6 base
def w11 : State := states.getD 11 base
def w13 : State := states.getD 13 base
def x5032 : Nat := 0 / 4
def x5347 : Nat := (w5.nextQueue 0).getD 0
def x5348 : TxFrame := (List.find? (fun f => f.port == 0 && f.queue == x5347) w5.txq).getD dTx
def x5507 : Nat := w6.frameVid { code := 0 % 4, orig := some 0 } (mkf D S 2048 100)
def x5508 : State := ((w6.fecCount 0 0 0).bulkAdvance x5032).learn x5032 x5507 (srcMac (mkf D S 2048 100)) (0 % 4)
def x5509 : Nat := ((x5508.macFind x5032 x5507 (dstMac (mkf D S 2048 100))).getD dNE).fst
def x5510 : MacEnt := ((x5508.macFind x5032 x5507 (dstMac (mkf D S 2048 100))).getD dNE).snd
def x5511 : Nat := 4 * x5032 + x5510.port
def x5512 : Nat := w6.queueOf x5511 (mkf D S 2048 100)
def x5553 : Nat := (w11.nextQueue 0).getD 0
def x5554 : TxFrame := (List.find? (fun f => f.port == 0 && f.queue == x5553) w11.txq).getD dTx
theorem sound_w0 : w0.Sound := sound_of (by decide +kernel)
theorem sound_w1 : w1.Sound := sound_of (by decide +kernel)
theorem sound_w11 : w11.Sound := sound_of (by decide +kernel)
theorem sound_w13 : w13.Sound := sound_of (by decide +kernel)
theorem sound_w4 : w4.Sound := sound_of (by decide +kernel)
theorem sound_w5 : w5.Sound := sound_of (by decide +kernel)
theorem sound_w6 : w6.Sound := sound_of (by decide +kernel)
/-! States and operands that meet the hypotheses of SignallingPorts, clause by clause. -/
theorem witness_SignallingPorts_1 :
    w0.Sound ∧ ((0 < 8) ∧ (0 ≤ 10240) ∧ (w0.linkUp 0 = false)) :=
  ⟨sound_w0, by decide +kernel⟩
theorem witness_SignallingPorts_2 :
    w0.Sound ∧ ((0 < 8) ∧ (0 ≤ 10240) ∧ (w0.rbit Reg.SIG_PORT_CFG 31 = false ∨ w0.mode = Mode.boot ∨ w0.mode = Mode.sable ∨ w0.linkUp 0 = true)) :=
  ⟨sound_w0, by decide +kernel⟩
theorem witness_SignallingPorts_3 :
    w0.Sound ∧ ((0 < 8) ∧ (14 ≤ (mkf D S 2048 20).length) ∧ ((mkf D S 2048 20).length ≤ 16384) ∧ (0 < 2 ^ 112) ∧ (w0.linkUp 0 = false)) :=
  ⟨sound_w0, by decide +kernel⟩
theorem witness_SignallingPorts_4 :
    w0.Sound ∧ ((0 < 8) ∧ (0 < 2 ^ 112) ∧ (w0.nextQueue 0 = none)) :=
  ⟨sound_w0, by decide +kernel⟩
theorem witness_SignallingPorts_5 :
    w0.Sound ∧ ((0 < 8) ∧ (0 < 64) ∧ (w0.rbit Reg.SIG_M_TX_CTRL 31 = false)) :=
  ⟨sound_w0, by decide +kernel⟩
theorem witness_SignallingPorts_6 :
    w1.Sound ∧ ((0 < 8) ∧ (0 ≤ 10240) ∧ (w1.linkUp 0 = false) ∧ (w1.rbit Reg.SIG_PORT_CFG 31 = true) ∧ (w1.mode ≠ Mode.boot) ∧ (w1.mode ≠ Mode.sable)) :=
  ⟨sound_w1, by decide +kernel⟩
theorem witness_SignallingPorts_7 :
    w4.Sound ∧ ((0 < 8) ∧ (0 ≤ 10240) ∧ (w4.linkUp 0 = true)) :=
  ⟨sound_w4, by decide +kernel⟩
theorem witness_SignallingPorts_8 :
    w4.Sound ∧ ((0 < 8) ∧ (14 ≤ (mkf D S 2048 20).length) ∧ ((mkf D S 2048 20).length ≤ 16384) ∧ (0 < 2 ^ 112) ∧ (w4.linkUp 0 = true) ∧ (true = false ∨ frameLen (mkf D S 2048 20) < 64 ∨ w4.fld Reg.SIG_PORT_CFG 13 0 < frameLen (mkf D S 2048 20) ∨ etherType (mkf D S 2048 20) = 34824)) :=
  ⟨sound_w4, by decide +kernel⟩
theorem witness_SignallingPorts_9 :
    w5.Sound ∧ (w5.nextQueue 0 = some x5347) ∧ (List.find? (fun f => f.port == 0 && f.queue == x5347) w5.txq = some x5348) ∧ ((0 < 8) ∧ (0 < 2 ^ 112) ∧ (ptpEvent x5348.bytes = none) ∧ (bit (w5.nlat Lat.shpQ 0 x5347) 31 = false)) :=
  ⟨sound_w5, some_of (by decide +kernel), some_of (by decide +kernel), by decide +kernel⟩
theorem witness_SignallingPorts_10 :
    w6.Sound ∧ ((0 < 8) ∧ (14 ≤ (mkf D S 2048 100).length) ∧ ((mkf D S 2048 100).length ≤ 16384) ∧ (0 < 2 ^ 112) ∧ (true = true) ∧ (w6.linkUp 0 = true) ∧ (64 ≤ frameLen (mkf D S 2048 100)) ∧ (frameLen (mkf D S 2048 100) ≤ w6.fld Reg.SIG_PORT_CFG 13 0) ∧ (etherType (mkf D S 2048 100) ≠ 34824) ∧ (w6.rbit Reg.POL_MAP 31 0 (w6.frameClass (mkf D S 2048 100)) = false) ∧ (isPtp (mkf D S 2048 100) = false) ∧ (dstMac (mkf D S 2048 100) ≠ w6.selfMac) ∧ (dstMac (mkf D S 2048 100) < 1652522221568 ∨ 1652522221583 < dstMac (mkf D S 2048 100)) ∧ (isGroup (srcMac (mkf D S 2048 100)) = false) ∧ (w6.rbit Reg.SIG_PORT_CFG 30 = true) ∧ (isGroup (dstMac (mkf D S 2048 100)) = false) ∧ (x5508.macFind x5032 x5507 (dstMac (mkf D S 2048 100)) = some (x5509, x5510)) ∧ (x5510.port < 4) ∧ (x5510.port ≠ 0 % 4) ∧ (w6.rbit Reg.SIG_PORT_CFG 30 x5511 = true) ∧ (w6.linkUp x5511 = true) ∧ (bytesHeld (List.filter (fun f => f.queue == x5512) (List.filter (fun f => f.port == x5511) w6.txq)) + frameLen (mkf D S 2048 100) ≤ 1024 * w6.fld Reg.SHP_QLIM 8 0 x5511 x5512) ∧ (bytesHeld (List.filter (fun f => f.port == x5511) w6.txq) + frameLen (mkf D S 2048 100) ≤ 384 * 1024)) :=
  ⟨sound_w6, by decide +kernel⟩
theorem witness_SignallingPorts_11 :
    w11.Sound ∧ (w11.nextQueue 0 = some x5553) ∧ (List.find? (fun f => f.port == 0 && f.queue == x5553) w11.txq = some x5554) ∧ ((0 < 8) ∧ (0 < 2 ^ 112) ∧ (ptpEvent x5554.bytes = none) ∧ (bit (w11.nlat Lat.shpQ 0 x5553) 31 = true)) :=
  ⟨sound_w11, some_of (by decide +kernel), some_of (by decide +kernel), by decide +kernel⟩
theorem witness_SignallingPorts_12 :
    w13.Sound ∧ ((0 < 8) ∧ (0 < 64) ∧ (w13.rbit Reg.SIG_M_TX_CTRL 31 = true) ∧ (w13.fld Reg.SIG_M_TX_CTRL 2 0 ≤ 6)) :=
  ⟨sound_w13, by decide +kernel⟩
end SignallingPorts

namespace SlotBoundaries
def samples : List State := [base, armedS base, armedS base |> L .fixG 100001, runS base, runS base |> L .fixG 100001 |> L .relDone 100001, runS base |> L .fixG 100001, runS base |> L .fixG 100001 |> L .opNextPos 0, stopS base |> L .fixG 100001, stopS base |> M .hold, runS base |> L .fixG 100002, 
 armedS base |> L .fixG 100001 |> L .pendMem 1 , runS base |> L .fixG 100001 |> M .hold]
def states : List State := samples.map syncS ++ samples.filter (fun s => s.regs0 ≠ [])
def w0 : State := states.getD 0 base
def w2 : State := states.getD 2 base
def w4 : State := states.getD 4 base
def w7 : State := states.getD 7 base
def x2 : Nat := (w2.nextSlot.getD dNB).fst
def x4 : Nat := (w4.nextSlot.getD dNB).fst
def x7 : Nat := (w7.nextSlot.getD dNB).fst
theorem sound_w0 : w0.Sound := sound_of (by decide +kernel)
theorem sound_w2 : w2.Sound := sound_of (by decide +kernel)
theorem sound_w4 : w4.Sound := sound_of (by decide +kernel)
theorem sound_w7 : w7.Sound := sound_of (by decide +kernel)
/-! States and operands that meet the hypotheses of SlotBoundaries, clause by clause. -/
theorem witness_SlotBoundaries_1 :
    w0.Sound ∧ (w0.nlat Lat.fixG ≠ w0.grain + 1) :=
  ⟨sound_w0, by decide +kernel⟩
theorem witness_SlotBoundaries_2 :
    w2.Sound ∧ ((w2.nlat Lat.fixG = w2.grain + 1) ∧ (w2.nextSlot = some (x2, true)) ∧ (w2.mode = Mode.static)) :=
  ⟨sound_w2, by decide +kernel⟩
theorem witness_SlotBoundaries_3 :
    w4.Sound ∧ ((w4.nlat Lat.fixG = w4.grain + 1) ∧ (w4.nextSlot = some (x4, false)) ∧ (w4.stopHere x4 = false) ∧ (w4.nlat Lat.opNextPos < 1024)) :=
  ⟨sound_w4, by decide +kernel⟩
theorem witness_SlotBoundaries_4 :
    w7.Sound ∧ ((w7.nlat Lat.fixG = w7.grain + 1) ∧ (w7.nextSlot = some (x7, false)) ∧ (w7.stopHere x7 = true) ∧ (w7.mode = Mode.slotted)) :=
  ⟨sound_w7, by decide +kernel⟩
end SlotBoundaries

namespace SlotLists
def g := goodBank 5 base 1
def cfg (s : State) : State := s |> R .CFG_DRAM_BASE_HI 0x10 |> R .CFG_DRAM_BASE_LO 0x1000 |> R .CFG_DRAM_COUNT 10
def dcfg (s : State) : State := { cfg s with dram := (List.range 2048).map (fun k => (0x1800 + k, BitVec.ofNat 8 (g.bankWord 5 (k / 4) / 256 ^ (k % 4)))) }
def samples : List State := [base, slist 0 base, slist 0 g, slist 1 g |> runS |> (slist 1), armedS g, armedS g |> L .pendS 7000005100 , slist 0 g |> L .armBusy 1, slist 0 base |> L .armBusy 1, slist 0 g |> L .armBusy 1 |> R .SLOT_BASE_S_LO 7 |> R .SLOT_BASE_NS 6000, slist 0 g |> L .armBusy 1 |> R .SLOT_BASE_S_LO 8 |> R .SLOT_BASE_NS 6000,
  slist 0 g |> L .armBusy 1 |> R .SLOT_BASE_NS 1000000000, (slist 1 (runS g)) |> L .armBusy 2,  base |> L .armBusy 1,
  runS g, stopS g, runS g |> L .fixG 100100, runS g |> L .opNext 7000009000, 
  dcfg g |> (L .ringSt 1 · 1 2) |> (L .ringCfg 1 · 1 2), cfg g |> (L .ringSt 1 · 0 5) |> (L .ringCfg 1 · 0 5), {armedS g with time0 := ⟨7, 4000, 0⟩} |> L .pendS 7000005100, {runS g with time0 := ⟨7, 4500, 9⟩, occs := [⟨1,2,true,true,false,false,false,0⟩,⟨2,2,false,true,false,false,false,0⟩], blocks := [⟨0,2,none,[],false,[1],[]⟩,⟨0,3,none,[],false,[1,2],[]⟩]}, {armedS g with occs := [⟨1,2,true,true,false,false,false,0⟩,⟨2,2,false,true,false,false,false,0⟩], blocks := [⟨0,2,none,[],false,[1],[]⟩,⟨0,3,none,[],false,[1,2],[]⟩]},  base |> (R .SLOT_ENTRY1 0x80000005) |> (R .SLOT_ENTRY0 3000) |> L .armBusy 1, slist 0 g |> L .cfgReq 6 |> R .CFG_STATUS 16]
def states : List State := samples.map syncS ++ samples.filter (fun s => s.regs0 ≠ [])
def w0 : State := states.getD 0 base
def w3 : State := states.getD 3 base
def w4 : State := states.getD 4 base
def w6 : State := states.getD 6 base
def w7 : State := states.getD 7 base
def w9 : State := states.getD 9 base
def w19 : State := states.getD 19 base
def x0 : Nat := if w0.running = true then 1 - w0.opMem else 0
def x319 : State := (w3.checkBank 5).snd
def x320 : Nat := (w3.nextSlot.getD dNB).fst
def x321 : Bool := (w3.nextSlot.getD dNB).snd
def x394 : Nat := if w4.running = true then 1 - w4.opMem else 0
def x581 : Nat := ((w6.setLat Lat.armBusy 0).listCode 0).fst
def x582 : Nat := ((w6.setLat Lat.armBusy 0).listCode 0).snd.fst
def x583 : State := ((w6.setLat Lat.armBusy 0).listCode 0).snd.snd
def x676 : Nat := ((w7.setLat Lat.armBusy 0).listCode 0).fst
def x677 : Nat := ((w7.setLat Lat.armBusy 0).listCode 0).snd.fst
def x678 : State := ((w7.setLat Lat.armBusy 0).listCode 0).snd.snd
def x864 : Nat := ((w9.setLat Lat.armBusy 0).listCode 0).fst
def x865 : Nat := ((w9.setLat Lat.armBusy 0).listCode 0).snd.fst
def x866 : State := ((w9.setLat Lat.armBusy 0).listCode 0).snd.snd
def x1493 : Nat := (w19.nextSlot.getD dNB).fst
def x1494 : Bool := (w19.nextSlot.getD dNB).snd
theorem sound_w0 : w0.Sound := sound_of (by decide +kernel)
theorem sound_w19 : w19.Sound := sound_of (by decide +kernel)
theorem sound_w3 : w3.Sound := sound_of (by decide +kernel)
theorem sound_w4 : w4.Sound := sound_of (by decide +kernel)
theorem sound_w6 : w6.Sound := sound_of (by decide +kernel)
theorem sound_w7 : w7.Sound := sound_of (by decide +kernel)
theorem sound_w9 : w9.Sound := sound_of (by decide +kernel)
/-! States and operands that meet the hypotheses of SlotLists, clause by clause. -/
theorem witness_SlotLists_1 :
    w0.Sound ∧ ((w0.under = Mode.static ∨ w0.under = Mode.slotted) ∧ w0.armed = false ∧ w0.lat Lat.armBusy = 0 ∧ w0.stopping = false ∧ w0.armClash x0 = false) :=
  ⟨sound_w0, by decide +kernel⟩
theorem witness_SlotLists_2 :
    w0.Sound ∧ (w0.lat Lat.armBusy = 0) :=
  ⟨sound_w0, by decide +kernel⟩
theorem witness_SlotLists_3 :
    w0.Sound ∧ (¬(w0.armed = true ∧ w0.nowCeil + 2000 ≤ w0.nlat Lat.pendS)) :=
  ⟨sound_w0, by decide +kernel⟩
theorem witness_SlotLists_4 :
    w0.Sound ∧ ((0 < 512) ∧ (¬(w0.mode = Mode.slotted ∧ w0.armed = false ∧ w0.lat Lat.armBusy = 0 ∧ w0.stopping = false ∧ w0.running = true))) :=
  ⟨sound_w0, by decide +kernel⟩
theorem witness_SlotLists_5 :
    w0.Sound ∧ (w0.nextSlot = none ∨ w0.lat Lat.fixG ≠ 0) :=
  ⟨sound_w0, by decide +kernel⟩
theorem witness_SlotLists_6 :
    w0.Sound ∧ ((0 < 2) ∧ (0 < 16) ∧ (w0.lat Lat.ringSt ≠ 1)) :=
  ⟨sound_w0, by decide +kernel⟩
theorem witness_SlotLists_7 :
    w3.Sound ∧ (w3.checkBank 5 = (true, x319)) ∧ ((5 < 512) ∧ (w3.mode = Mode.slotted ∧ w3.armed = false ∧ w3.lat Lat.armBusy = 0 ∧ w3.stopping = false ∧ w3.running = true)) :=
  ⟨sound_w3, by delta x319; exact pair_of (by decide +kernel), by decide +kernel⟩
theorem witness_SlotLists_8 :
    w3.Sound ∧ ((w3.nextSlot = some (x320, x321)) ∧ (w3.time.total + 512 * 2 ^ 32 < 2 ^ 32 * x320 ∨ 2 ^ 32 * x320 ≤ w3.time0.total + 512 * 2 ^ 32)) :=
  ⟨sound_w3, by decide +kernel⟩
theorem witness_SlotLists_9 :
    w4.Sound ∧ (¬((w4.under = Mode.static ∨ w4.under = Mode.slotted) ∧ w4.armed = false ∧ w4.lat Lat.armBusy = 0 ∧ w4.stopping = false ∧ w4.armClash x394 = false)) :=
  ⟨sound_w4, by decide +kernel⟩
theorem witness_SlotLists_10 :
    w4.Sound ∧ (w4.armed = true ∧ w4.nowCeil + 2000 ≤ w4.nlat Lat.pendS) :=
  ⟨sound_w4, by decide +kernel⟩
theorem witness_SlotLists_11 :
    w6.Sound ∧ ((w6.setLat Lat.armBusy 0).listCode 0 = (x581, x582, x583)) ∧ ((w6.lat Lat.armBusy = ↑0 + 1) ∧ (x581 = 0) ∧ (w6.slotBase < w6.nowCeil + 2000)) :=
  ⟨sound_w6, by delta x581 x582 x583; exact eta3 _, by decide +kernel⟩
theorem witness_SlotLists_12 :
    w7.Sound ∧ ((w7.setLat Lat.armBusy 0).listCode 0 = (x676, x677, x678)) ∧ ((w7.lat Lat.armBusy = ↑0 + 1) ∧ (x676 ≠ 0)) :=
  ⟨sound_w7, by delta x676 x677 x678; exact eta3 _, by decide +kernel⟩
theorem witness_SlotLists_13 :
    w9.Sound ∧ ((w9.setLat Lat.armBusy 0).listCode 0 = (x864, x865, x866)) ∧ ((w9.lat Lat.armBusy = ↑0 + 1) ∧ (x864 = 0) ∧ (w9.nowCeil + 2000 ≤ w9.slotBase)) :=
  ⟨sound_w9, by delta x864 x865 x866; exact eta3 _, by decide +kernel⟩
/-- Byte k of a valid configuration in DRAM. -/
def tableByte (k : Nat) : Byte := BitVec.ofNat 8 (g.bankWord 5 (k / 4) / 256 ^ (k % 4))

/-- The DRAM that holds it. -/
def table : List Host.Cell := (List.range 2048).map (fun k => (0x1800 + k, tableByte k))

/-- A DRAM table whose configuration 1 is valid, asked for by slot 2 of the ring of list memory 1. -/
def ringS : State :=
  { syncS (cfg g |> (L .ringSt 1 · 1 2) |> (L .ringCfg 1 · 1 2)) with dram := table }

theorem spFind_range (o : Nat) (f : Nat → Byte) (n : Nat) : ∀ a k, a ≤ k → k < a + n →
    spFind ((List.range' a n).map (fun k => (o + k, f k))) (o + k) = some (f k) := by
  induction n with
  | zero => intro a k h1 h2; omega
  | succ n ih =>
    intro a k h1 h2
    rw [List.range'_succ, List.map_cons]
    simp only [spFind]
    by_cases h : k = a
    · subst h; rw [if_neg (by omega), if_pos rfl]
    · rw [if_pos (by omega)]; exact ih (a + 1) k (by omega) (by omega)

theorem ringS_dram : ringS.dram = (List.range' 0 2048).map (fun k => (0x1800 + k, tableByte k)) := by
  simp only [ringS, table, List.range_eq_range']

theorem ringS_byte (k : Nat) (h : k < 2048) : ringS.dramByte (0x1800 + k) = tableByte k := by
  simp only [State.dramByte, ringS_dram, spFind_range 0x1800 tableByte 2048 0 k (by omega) (by omega)]

theorem ringS_off : ringS.dramCfgOff 1 = some 0x1800 := by decide +kernel

theorem ringS_word : (fun w => ringS.cfgWord true 1 w) =
    fun w => if w < 512 then leVal [tableByte (4 * w), tableByte (4 * w + 1), tableByte (4 * w + 2), tableByte (4 * w + 3)]
      else ringS.cfgWord true 1 w := by
  funext w
  split
  · rename_i h
    have e : (List.range 4) = [0, 1, 2, 3] := rfl
    simp only [State.cfgWord, if_true, ringS_off, State.dramVal, State.dramBytes, e, List.map_cons, List.map_nil, Nat.add_assoc, Nat.add_zero]
    rw [ringS_byte _ (by omega), ringS_byte _ (by omega), ringS_byte _ (by omega), ringS_byte _ (by omega)]
  · rfl

theorem ringS_valid : ringS.cfgValid true 1 = true := by
  unfold State.cfgValid
  rw [ringS_word]
  decide +kernel

theorem ringS_ok : (ringS.checkDramCfg 1).1 = true := by
  have hb : ringS.dramBad 0x1800 2048 = none := by decide +kernel
  have hf : ringS.dramFresh 0x1800 2048 = [] := by decide +kernel
  have hm : ringS.dramMeet 0x1800 2048 = ringS := by simp only [State.dramMeet, hf, List.foldl_nil]
  have hc : decide (1 < ringS.fld .CFG_DRAM_COUNT 16 0) = true := by decide +kernel
  simp only [State.checkDramCfg, ringS_off, hb, hm, hc, ringS_valid, Bool.and_self]

theorem witness_SlotLists_stage :
    ringS.Sound ∧ ringS.dramCfgOff (ringS.nlat .ringCfg 1 2) = some 0x1800 ∧
      ringS.checkDramCfg (ringS.nlat .ringCfg 1 2) = (true, (ringS.checkDramCfg 1).2) ∧ ringS.lat .ringSt 1 2 = 1 := by
  have e : ringS.nlat .ringCfg 1 2 = 1 := by decide +kernel
  rw [e]
  exact ⟨sound_of (by decide +kernel), ringS_off, pair_of ringS_ok, by decide +kernel⟩

theorem witness_SlotLists_15 :
    w19.Sound ∧ ((w19.nextSlot = some (x1493, x1494)) ∧ (w19.lat Lat.fixG = 0) ∧ (2 ^ 32 * x1493 ≤ w19.time.total + 512 * 2 ^ 32) ∧ (w19.time0.total + 512 * 2 ^ 32 < 2 ^ 32 * x1493)) :=
  ⟨sound_w19, by decide +kernel⟩
end SlotLists

namespace SpanBoundary
def rcs (s : State) : State := s |> R .SLOT_RC_CTRL 1 |> R .SLOT_RC_BASE0_HI 0x10 |> R .SLOT_RC_BASE0_LO 0x200000 |> L .occN 9
def blk : Block := ⟨0, 1, some 0x200080, [], false, [7], []⟩
def blkp : Block := ⟨1, 0, some (0x200000+1024*128), [], false, [5, 7], [5]⟩
def oc : Occ := ⟨7, 1, false, true, false, false, false, 0⟩
def globBlock : List (Block) := [blk, blkp, {blk with occs := [3]}, {blk with late := [7]}, {blk with tile := 1, addr := none}]
def wb (bs : List Block) (os : List Occ) (s : State) : State := { s with blocks := bs, occs := os, dram := (List.range 128).map (fun k => (0x200080 + k, BitVec.ofNat 8 (k*37))) ++ (List.range 128).map (fun k => (0x220000 + k, BitVec.ofNat 8 (k*31))) }
def sp (s : State) : State := { s with time0 := ⟨7, 3999, 9⟩, time := ⟨7, 4000, 8⟩ } |> L .spanReady 1 |> R .RED_SLOT_STATE 0x0201
def sq (s : State) : State := s |> L .spanReady 1 |> R .RED_SLOT_STATE 0x0201 |> L .spanUp 1 |> L .spanAt 96000
def samples : List State := [base, runS base, runS (rcs base), armedS (rcs base), runS (rcs base) |> wb [blk] [oc], runS (rcs base) |> wb [{blk with occs := [3]}, {blk with late := [7]}] [oc, {oc with no := 3, began := true}], armedS (rcs base) |> wb [blkp] [{oc with pos := 0, forPend := true}], runS (rcs base) |> wb [{blk with late := [7]}, {blk with tile := 1, occs := [7]}] [oc],
  runS (rcs base) |> wb [{blk with arrived := true, entries := [5]}] [oc], runS (rcs base) |> wb [{blk with arrived := true, addr := some 0x200080, entries := [5]},blkp] [oc, {oc with no := 5}],
  sp base, M .characterise (sp base), M .hold (sq base) |> L .span 0xFFFFFFFF, M .boot (sq base), runS (sq base), M .characterise (sq base) |> R .ADC_STATUS 0x20, M .sable (sp base), M .static (sq base) |> L .spanLong 1]
def states : List State := samples.map syncS ++ samples.filter (fun s => s.regs0 ≠ [])
def w0 : State := states.getD 0 base
def w1 : State := states.getD 1 base
def w4 : State := states.getD 4 base
def w5 : State := states.getD 5 base
def w11 : State := states.getD 11 base
def x159 : Nat := (w1.rcList false).getD 0
def x491 : Block := (w4.blockWaiting false 0 1).getD dBlock
def x492 : Nat := x491.addr.getD 0
def x493 : Occ := (w4.nextOcc false 1).getD dOcc
def x494 : Block := (w4.occBlock 0 x493.no).getD dBlock
def x504 : Occ := (w5.nextOcc false 1).getD dOcc
theorem sound_w0 : w0.Sound := sound_of (by decide +kernel)
theorem sound_w1 : w1.Sound := sound_of (by decide +kernel)
theorem sound_w11 : w11.Sound := sound_of (by decide +kernel)
theorem sound_w4 : w4.Sound := sound_of (by decide +kernel)
theorem sound_w5 : w5.Sound := sound_of (by decide +kernel)
/-! States and operands that meet the hypotheses of SpanBoundary, clause by clause. -/
theorem witness_SpanBoundary_1 :
    w0.Sound ∧ ((0 < 1024) ∧ (w0.rcList true = none)) :=
  ⟨sound_w0, by decide +kernel⟩
theorem witness_SpanBoundary_2 :
    w0.Sound ∧ ((0 < 1024) ∧ (w0.nextOcc true 0 = none)) :=
  ⟨sound_w0, by decide +kernel⟩
theorem witness_SpanBoundary_3 :
    w1.Sound ∧ (w1.rcList false = some x159) ∧ ((0 < 1024) ∧ (0 < w1.listSpan x159) ∧ (w1.rbit Reg.SLOT_RC_CTRL 0 = false)) :=
  ⟨sound_w1, some_of (by decide +kernel), by decide +kernel⟩
theorem witness_SpanBoundary_4 :
    w4.Sound ∧ (w4.blockWaiting false 0 1 = some x491) ∧ (x491.addr = some x492) ∧ ((1 < 1024) ∧ (0 < 176) ∧ (w4.dramBad x492 128 = none) ∧ (w4.dramFresh x492 128 = [])) :=
  ⟨sound_w4, some_of (by decide +kernel), some_of (by decide +kernel), by decide +kernel⟩
theorem witness_SpanBoundary_5 :
    w4.Sound ∧ (w4.nextOcc false 1 = some x493) ∧ (w4.occBlock 0 x493.no = some x494) ∧ ((1 < 1024) ∧ (0 < 176) ∧ (w4.inUse 0 = true) ∧ (x494.arrived = false) ∧ (¬x493.no ∈ x494.late)) :=
  ⟨sound_w4, some_of (by decide +kernel), some_of (by decide +kernel), by decide +kernel⟩
theorem witness_SpanBoundary_6 :
    w5.Sound ∧ (w5.nextOcc false 1 = some x504) ∧ ((1 < 1024) ∧ (∀ (τ : Nat) (b : Block), w5.inUse τ = true → w5.occBlock τ x504.no = some b → b.arrived = true ∨ x504.no ∈ b.late)) :=
  ⟨sound_w5, some_of (by decide +kernel), by decide, fun τ b _ h => by
    have h' : w5.blocks.find? (fun b => b.tile == τ && b.occs.contains x504.no) = some b := h
    have hp := List.find?_some h'
    simp only [Bool.and_eq_true] at hp
    exact (by decide +kernel : ∀ b ∈ w5.blocks, b.occs.contains x504.no = true → b.arrived = true ∨ x504.no ∈ b.late) b
      (List.mem_of_find?_eq_some h') hp.2⟩
theorem witness_SpanBoundary_7 :
    w0.Sound ∧ ((0 < 4) ∧ (0 < 4) ∧ (w0.spanDue = false ∨ w0.slotHalf 0 = 0 ∧ w0.slotHalf 1 = 0)) :=
  ⟨sound_w0, by decide +kernel⟩
theorem witness_SpanBoundary_8 :
    w11.Sound ∧ ((0 < 4) ∧ (0 < 4) ∧ (w11.spanDue = true) ∧ (w11.slotHalf 0 ≠ 0 ∨ w11.slotHalf 1 ≠ 0) ∧ (w11.boundaryMode ≠ Mode.static) ∧ (w11.boundaryMode ≠ Mode.slotted) ∧ (0 < 176) ∧ (0 < 64) ∧ (w11.inUse 0 = true) ∧ (w11.tbit Reg.ADC_STATUS 0 5 = false) ∧ (w11.tbit Reg.ADC_STATUS 0 6 = false) ∧ (w11.fallback 0 = false)) :=
  ⟨sound_w11, by decide +kernel⟩
end SpanBoundary

namespace StaticCommits
def g := goodBank 5 base 1
def samples : List State := [base, g, M .characterise g, g |> R .CFG_STATUS 0x10 |> L .cfgReq 6, armedS g, runS g, {g with bankEcc := [(256*5+3, 4*1)]}, {g with bankEcc := [(256*5+3, 4*2)]}, {g with bankEcc := [(256*5+3, 4*1)]} |> M .hold]
def states : List State := samples.map syncS ++ samples.filter (fun s => s.regs0 ≠ [])
def w0 : State := states.getD 0 base
def w1 : State := states.getD 1 base
def w3 : State := states.getD 3 base
theorem sound_w0 : w0.Sound := sound_of (by decide +kernel)
theorem sound_w1 : w1.Sound := sound_of (by decide +kernel)
theorem sound_w3 : w3.Sound := sound_of (by decide +kernel)
/-! States and operands that meet the hypotheses of StaticCommits, clause by clause. -/
theorem witness_StaticCommits_1 :
    w0.Sound ∧ ((0 < 512) ∧ (w0.checkBank 0 = (false, w0))) :=
  ⟨sound_w0, by decide +kernel⟩
theorem witness_StaticCommits_2 :
    w1.Sound ∧ ((5 < 512) ∧ (w1.checkBank 5 = (true, w1)) ∧ (w1.mode = Mode.characterise ∨ w1.mode = Mode.static ∧ w1.armed = false) ∧ (w1.rbit Reg.CFG_STATUS 4 = false)) :=
  ⟨sound_w1, by decide +kernel⟩
theorem witness_StaticCommits_3 :
    w3.Sound ∧ ((5 < 512) ∧ (w3.checkBank 5 = (true, w3)) ∧ (w3.mode ≠ Mode.characterise ∧ (w3.mode ≠ Mode.static ∨ w3.armed = true) ∨ w3.rbit Reg.CFG_STATUS 4 = true)) :=
  ⟨sound_w3, by decide +kernel⟩
end StaticCommits

namespace StepKeepsSound
def samples : List State := [{base with pending := [.ageTick]}]
def states : List State := samples.map syncS ++ samples.filter (fun s => s.regs0 ≠ [])
def w0 : State := states.getD 0 base
def x0 : State := nextOf (step w0)
theorem sound_w0 : w0.Sound := sound_of (by decide +kernel)
/-! States and operands that meet the hypotheses of StepKeepsSound, clause by clause. -/
theorem witness_StepKeepsSound_1 :
    w0.Sound ∧ step w0 = Host.Outcome.next x0 :=
  ⟨sound_w0, next_of (by decide +kernel)⟩
end StepKeepsSound

namespace StrobeEdge
def cm : Commit := ⟨.staticCommit, false, 5, 5, false, none, false, none, none, 100000, false⟩
def globCommit : List (Commit) := [cm, {cm with launched := some true}, {cm with launched := some true, guard := true}, {cm with edge := true, guard := true, launched := some true}, {cm with launched := some false}, {cm with edge := true, guard := true, launched := some true, edgeAt := 99992},{cm with edge := true, guard := true, launched := some true, edgeAt := 99984},{cm with edge := true, guard := true, launched := some true, edgeAt := 99976},{cm with launched := some true, edgeAt := 99999}, {cm with idx := 300, bank := 490, dram := true, launched := some true},{cm with kind := .slot, pos := some 3, launched := some true}, {cm with kind := .stop, launched := some true}]
def bb := goodBank 5 (base |> (R .DRV_SHADOW (2^31+2^28 + 0x111*4096+0x222)) |> (R .DRV_SHADOW (2^31 + 2^29 + 0x333) · 0 1) |> (R .DRV_SHADOW (2^31 + 3*2^29 + 2^28+ 0x444) · 0 2)|> (R .DRV_SHADOW (2^31 + 0x555) · 1 0) |> (R .DRV_ACTIVE 0x777 · 1 0) |> (L .took 1 · 0) |> R .HTR_ACTIVE 300 |> R .TILE_COMMIT_COUNT 0xFFFFFFFF) 1
def samples : List State := globCommit.flatMap (fun c => [{bb with commit := some c}, {bb with commit := some c} |> M .characterise, {bb with commit := some c} |> M .slotted |> runS, {bb with commit := some c} |> M .slotted |> runS |> (R .MGT_TILE_HOLD 2),
   {bb with commit := some c} |> M .hold|> (R .MGT_TILE_HOLD 1), {bb with commit := some c} |> M .characterise |> (L .drvDead 1)])
def states : List State := samples.map syncS ++ samples.filter (fun s => s.regs0 ≠ [])
def w0 : State := states.getD 0 base
def w7 : State := states.getD 7 base
def w9 : State := states.getD 9 base
def w30 : State := states.getD 30 base
def x0 : Commit := w0.commit.getD dCommit
def x7 : Commit := w7.commit.getD dCommit
def x9 : Commit := w9.commit.getD dCommit
def x30 : Commit := w30.commit.getD dCommit
theorem sound_w0 : w0.Sound := sound_of (by decide +kernel)
theorem sound_w30 : w30.Sound := sound_of (by decide +kernel)
theorem sound_w7 : w7.Sound := sound_of (by decide +kernel)
theorem sound_w9 : w9.Sound := sound_of (by decide +kernel)
/-! States and operands that meet the hypotheses of StrobeEdge, clause by clause. -/
theorem witness_StrobeEdge_1 :
    w0.Sound ∧ (w0.commit = some x0) ∧ ((w0.sable = false) ∧ (([].all fun t => Decidable.decide (t < 176)) = true) ∧ (([].all fun t => Decidable.decide (t < 176)) = true) ∧ (x0.edge = true ∨ x0.launched ≠ some true ∨ x0.edgeAt ≠ w0.grain)) :=
  ⟨sound_w0, some_of (by decide +kernel), by decide +kernel⟩
theorem witness_StrobeEdge_2 :
    w0.Sound ∧ (w0.commit = some x0) ∧ ((w0.sable = false) ∧ (1 ≤ 1) ∧ (1 ≤ 3) ∧ (x0.edge = false ∨ x0.edgeAt + 8 * 1 ≠ w0.grain)) :=
  ⟨sound_w0, some_of (by decide +kernel), by decide +kernel⟩
theorem witness_StrobeEdge_3 :
    w7.Sound ∧ (w7.commit = some x7) ∧ ((w7.sable = false) ∧ (x7.edge = false) ∧ (x7.edgeAt = w7.grain) ∧ (x7.launched = some true) ∧ ((x7.kind.isStatic && w7.under == Mode.static) = false) ∧ (0 ∈ w7.tiles) ∧ (w7.tileHold 0 = false) ∧ (0 < 64) ∧ (w7.chRole 0 0 ≠ 0) ∧ (w7.flag Lat.drvDead = false) ∧ (w7.flag Lat.shut = false) ∧ (w7.tfld Reg.DRV_SHADOW 0 30 29 = 0)) :=
  ⟨sound_w7, some_of (by decide +kernel), by decide +kernel⟩
theorem witness_StrobeEdge_4 :
    w9.Sound ∧ (w9.commit = some x9) ∧ ((w9.sable = false) ∧ (x9.edge = false) ∧ (x9.edgeAt = w9.grain) ∧ (x9.launched = some true) ∧ ((x9.kind.isStatic && w9.under == Mode.static) = false) ∧ (1 < 176) ∧ (w9.tileHold 1 = true)) :=
  ⟨sound_w9, some_of (by decide +kernel), by decide +kernel⟩
theorem witness_StrobeEdge_5 :
    w30.Sound ∧ (w30.commit = some x30) ∧ ((w30.sable = false) ∧ (1 ≤ 1) ∧ (1 ≤ 3) ∧ (x30.edge = true) ∧ (x30.guard = true) ∧ (x30.edgeAt + 8 * 1 = w30.grain) ∧ (0 ∈ w30.tiles) ∧ (1 < 64) ∧ (w30.flag Lat.took = true) ∧ (w30.chRole 0 1 ≠ 0) ∧ (w30.flag Lat.drvDead 0 1 = false) ∧ (w30.tfld Reg.DRV_SHADOW 0 30 29 1 = 1)) :=
  ⟨sound_w30, some_of (by decide +kernel), by decide +kernel⟩
theorem witness_StrobeEdge_6 :
    w30.Sound ∧ (w30.commit = some x30) ∧ ((w30.sable = false) ∧ (1 ≤ 1) ∧ (1 ≤ 3) ∧ (x30.edge = true) ∧ (x30.guard = true) ∧ (x30.edgeAt + 8 * 1 = w30.grain) ∧ (0 < 176) ∧ (0 < 64) ∧ (w30.tfld Reg.DRV_SHADOW 0 30 29 ≠ 1)) :=
  ⟨sound_w30, some_of (by decide +kernel), by decide +kernel⟩
end StrobeEdge

namespace SweepPlayer
def okB : MemRes → Option (List Byte) | .ok b => some b | _ => none
def fr (i : Nat) : SwpFrame := ⟨1, i, (List.range 64).map (fun p => 100*p+i)⟩
def mp (s : State) : State := s |> (R .SWP_MAP (2^31) · 0 0) |> (R .SWP_MAP (2^31+64) · 0 3) |> (L .swpOut 501 · 0) |> (L .swpOut 65536 · 3) |> (R .SWP_SEG_LEN 3 · 0 1) |> (R .SWP_SEG_LO 0x10000 · 0 1)|> R .SWP_STEP 0x400000
def runW (s : State) : State := { mp s with swpX := (List.range 16).map (fun i => (fr i).codes), tlb := [⟨24, 0x10000, 4096, 0x1000020000, true, true⟩] } |> M .characterise |> (R .SWP_STATUS 1) |> R .SWP_POS (2^24) |> (R .MMU_STREAM (2^31) · 0 24)
def samples : List State := [base, { runW base with dram := (List.range 600).map (fun k => (0x20000 + k, BitVec.ofNat 8 k)) } |> R .SWP_SEG_LEN 9 |> (R .SWP_SEG_LEN 9 · 0 1),  base |> (R .DDS_STATUS 7), M .characterise base, runW base, { runW base with swpBuf := [fr 0]}, runW base |> R .SWP_FRAC 0xE00000, {runW base with swpBuf := [fr 1]} |> R .SWP_FRAC 0xE00000, runW base |> R .SWP_FRAC 0xE00000 |> L .swpTail 3, runW base |> R .SWP_STATUS 2, runW base |> R .SWP_STATUS 3, (runW base).dramWrite 0x20000 (List.range 600 |>.map (BitVec.ofNat 8)), runW base |> R .SWP_STATUS 3 |> M .hold,
 runW base |> L .swpFirst 1, runW base |> R .MGT_TILE_HOLD 2, {runW base with swpBuf := [fr 1, fr 0]} |> R .SWP_FRAC 0xE00000]
def states : List State := samples.map syncS ++ samples.filter (fun s => s.regs0 ≠ [])
def w0 : State := states.getD 0 base
def w1 : State := states.getD 1 base
def w2 : State := states.getD 2 base
def w3 : State := states.getD 3 base
def w6 : State := states.getD 6 base
def w7 : State := states.getD 7 base
def w10 : State := states.getD 10 base
def w14 : State := states.getD 14 base
def x84 : Nat := (w1.translate 24 ((2 ^ 32 * w1.fld Reg.SWP_SEG_HI 7 0 1 + w1.reg Reg.SWP_SEG_LO 1 + 128 * 1) % 2 ^ 39) false).fst.getRight?.getD 0
def x85 : State := (w1.translate 24 ((2 ^ 32 * w1.fld Reg.SWP_SEG_HI 7 0 1 + w1.reg Reg.SWP_SEG_LO 1 + 128 * 1) % 2 ^ 39) false).snd
def x86 : List Byte := okBytes (x85.memGet Port.swp x84 128).fst
def x87 : State := (x85.memGet Port.swp x84 128).snd
def x88 : Nat := w1.fld Reg.SWP_FRAC 23 0 + w1.reg Reg.SWP_STEP
def x94 : Nat := w6.fld Reg.SWP_FRAC 23 0 + w6.reg Reg.SWP_STEP
def x95 : Nat := w6.swpIx + 1
def x96 : Nat := w7.fld Reg.SWP_FRAC 23 0 + w7.reg Reg.SWP_STEP
def x97 : Nat := w7.swpIx + 1
def x102 : Nat := w14.fld Reg.SWP_FRAC 23 0 + w14.reg Reg.SWP_STEP
theorem sound_w0 : w0.Sound := sound_of (by decide +kernel)
theorem sound_w1 : w1.Sound := sound_of (by decide +kernel)
theorem sound_w10 : w10.Sound := sound_of (by decide +kernel)
theorem sound_w14 : w14.Sound := sound_of (by decide +kernel)
theorem sound_w2 : w2.Sound := sound_of (by decide +kernel)
theorem sound_w3 : w3.Sound := sound_of (by decide +kernel)
theorem sound_w6 : w6.Sound := sound_of (by decide +kernel)
theorem sound_w7 : w7.Sound := sound_of (by decide +kernel)
/-! States and operands that meet the hypotheses of SweepPlayer, clause by clause. -/
theorem witness_SweepPlayer_1 :
    w0.Sound ∧ ((0 < 176) ∧ (w0.inUse 0 = true) ∧ (w0.tbit Reg.DDS_STATUS 0 2 = false)) :=
  ⟨sound_w0, by decide +kernel⟩
theorem witness_SweepPlayer_2 :
    w2.Sound ∧ ((0 < 176) ∧ (w2.inUse 0 = true) ∧ (w2.tbit Reg.DDS_STATUS 0 2 = true)) :=
  ⟨sound_w2, by decide +kernel⟩
theorem witness_SweepPlayer_3 :
    w3.Sound ∧ ((0 < 256) ∧ (w3.mode = Mode.characterise) ∧ (w3.swpBusy = false)) :=
  ⟨sound_w3, by decide +kernel⟩
theorem witness_SweepPlayer_4 :
    w1.Sound ∧ ((0 < 256) ∧ (w1.swpBusy = true) ∧ (0 < 64) ∧ (w1.rbit Reg.SWP_MAP 31 = true) ∧ (0 < w1.lat Lat.swpOut) ∧ (w1.lat Lat.swpOut ≤ 65536) ∧ (∀ (q : Nat), q < 64 → q ≠ 0 → w1.rbit Reg.SWP_MAP 31 q = true → w1.fld Reg.SWP_MAP 13 0 q ≠ w1.fld Reg.SWP_MAP 13 0)) :=
  ⟨sound_w1, by decide +kernel⟩
theorem witness_SweepPlayer_5 :
    w10.Sound ∧ ((0 < 256) ∧ (w10.mode = Mode.characterise) ∧ (w10.swpState = 3)) :=
  ⟨sound_w10, by decide +kernel⟩
theorem witness_SweepPlayer_6 :
    w0.Sound ∧ ((0 < 256) ∧ (Instr.swpCmdStart 0 = Instr.swpCmdStart 0 ∧ (w0.mode ≠ Mode.characterise ∨ w0.swpBusy = true) ∨ Instr.swpCmdStart 0 = Instr.swpCmdStop 0 ∧ w0.swpBusy = false ∨ Instr.swpCmdStart 0 = Instr.swpCmdResume 0 ∧ (w0.mode ≠ Mode.characterise ∨ w0.swpState ≠ 3))) :=
  ⟨sound_w0, by decide +kernel⟩
theorem witness_SweepPlayer_7 :
    w0.Sound ∧ ((0 < 256) ∧ (0 < 2 ^ 24) ∧ (0 ≤ 256) ∧ (0 = 0 ∨ w0.swpBusy = false)) :=
  ⟨sound_w0, by decide +kernel⟩
theorem witness_SweepPlayer_8 :
    w1.Sound ∧ (w1.translate 24 ((2 ^ 32 * w1.fld Reg.SWP_SEG_HI 7 0 1 + w1.reg Reg.SWP_SEG_LO 1 + 128 * 1) % 2 ^ 39) false = (Sum.inr x84, x85)) ∧ (x85.memGet Port.swp x84 128 = (MemRes.ok x86, x87)) ∧ ((1 < 256) ∧ (1 < 2 ^ 24) ∧ (w1.swpWants 1 1 = true)) :=
  ⟨sound_w1, by delta x84 x85; exact pair_of (inr_of (by decide +kernel)), by delta x86 x87; exact pair_of (ok_of (by decide +kernel)), by decide +kernel⟩
theorem witness_SweepPlayer_9 :
    w1.Sound ∧ ((w1.mode = Mode.characterise) ∧ (w1.swpState = 1) ∧ (w1.flag Lat.swpFirst = false) ∧ (x88 < 2 ^ 24) ∧ (0 < 64) ∧ (w1.rbit Reg.SWP_MAP 31 = true)) :=
  ⟨sound_w1, by decide +kernel⟩
theorem witness_SweepPlayer_10 :
    w6.Sound ∧ ((w6.mode = Mode.characterise) ∧ (w6.swpState = 1) ∧ (w6.flag Lat.swpFirst = false) ∧ (2 ^ 24 ≤ x94) ∧ (x94 < 2 ^ 25) ∧ (w6.lat Lat.swpTail = 0) ∧ (x95 ≠ w6.fld Reg.SWP_SEG_LEN 23 0 w6.swpCur) ∧ (w6.swpHas w6.swpCur x95 = false)) :=
  ⟨sound_w6, by decide +kernel⟩
theorem witness_SweepPlayer_11 :
    w7.Sound ∧ ((w7.mode = Mode.characterise) ∧ (w7.swpState = 1) ∧ (w7.flag Lat.swpFirst = false) ∧ (2 ^ 24 ≤ x96) ∧ (x96 < 2 ^ 25) ∧ (w7.lat Lat.swpTail = 0) ∧ (x97 ≠ w7.fld Reg.SWP_SEG_LEN 23 0 w7.swpCur) ∧ (w7.swpHas w7.swpCur x97 = true)) :=
  ⟨sound_w7, by decide +kernel⟩
theorem witness_SweepPlayer_12 :
    w14.Sound ∧ ((w14.mode = Mode.characterise) ∧ (w14.swpState = 1) ∧ (w14.flag Lat.swpFirst = false) ∧ (x102 < 2 ^ 24) ∧ (1 < 256) ∧ (0 < 64) ∧ (w14.tileHold 1 = true)) :=
  ⟨sound_w14, by decide +kernel⟩
theorem witness_SweepPlayer_13 :
    w0.Sound ∧ (w0.mode ≠ Mode.characterise ∨ w0.swpState ≠ 1 ∧ w0.swpState ≠ 2) :=
  ⟨sound_w0, by decide +kernel⟩
end SweepPlayer

namespace SystemCalibration
def sums (a b : Int) (s : State) : State := (List.range 2).foldl (fun s k => (List.range 4).foldl (fun s r => L .sysSum (if r = 2 ∧ k = 0 then b else a) s 0 (k*64) r) s) s
def dn (s : State) : State := s |> R .ADC_STATUS 0x110 |> L .sysOp 1 |> (L .sysRound 100 · 0 0) |> (L .sysRound 100 · 0 1) |> L .sysN 2
def samples : List State := [base, M .characterise base, M .characterise base |> R .ADC_STATUS 0x111 |> (R .ADC_BAD 0xffffffff), base |> dn, base |> dn |> sums 200 201 |> (R .ADC_OFS 5 · 0 64 0) , base |> dn |> sums 111 1313 |> (R .ADC_OFS 5), base |> dn |> (L .convLong 1 · 0 1) |> L .sysN 1 |> sums 656 56 ,
 base |> R .ADC_OWT 0x80000000, base |> R .ADC_OWT 0x80000000 |> L .owtNext 3, base |> R .ADC_OWT 0x80000000 |> L .owtNext 255, base |> R .ADC_OWT 0x80000000 |> L .owtPhase 1, M .boot base |> R .ADC_REF 1, {base with grain := 3000000} |> R .ADC_REF 1 |> L .refAt 5, {base with grain := 3000000} |> R .ADC_REF 3 |> L .refAt 5, base |> R .ADC_OWT 0x80000100, base |> R .ADC_REF 1, M .sable base |> L .owtCmd 1]
def states : List State := samples.map syncS ++ samples.filter (fun s => s.regs0 ≠ [])
def w0 : State := states.getD 0 base
def w1 : State := states.getD 1 base
def w2 : State := states.getD 2 base
def w3 : State := states.getD 3 base
def w4 : State := states.getD 4 base
def w7 : State := states.getD 7 base
def w12 : State := states.getD 12 base
def w14 : State := states.getD 14 base
def x1 : Bool := w0.flag Lat.owtPhase || w0.flag Lat.owtCmd || w0.sysBusy 0 || w0.mode == Mode.boot || w0.mode == Mode.sable
def x9 : Bool := w2.flag Lat.owtPhase || w2.flag Lat.owtCmd || w2.sysBusy 0 || w2.mode == Mode.boot || w2.mode == Mode.sable
def x19 : Nat := (w7.owtNextTest 0).getD 0
theorem sound_w0 : w0.Sound := sound_of (by decide +kernel)
theorem sound_w1 : w1.Sound := sound_of (by decide +kernel)
theorem sound_w12 : w12.Sound := sound_of (by decide +kernel)
theorem sound_w14 : w14.Sound := sound_of (by decide +kernel)
theorem sound_w2 : w2.Sound := sound_of (by decide +kernel)
theorem sound_w3 : w3.Sound := sound_of (by decide +kernel)
theorem sound_w4 : w4.Sound := sound_of (by decide +kernel)
theorem sound_w7 : w7.Sound := sound_of (by decide +kernel)
/-! States and operands that meet the hypotheses of SystemCalibration, clause by clause. -/
theorem witness_SystemCalibration_1 :
    w0.Sound ∧ ((0 < 176) ∧ (0 < 16) ∧ (w0.inUse 0 = true) ∧ (w0.mode ≠ Mode.characterise ∨ w0.sysBusy 0 = true ∨ 8 < 0)) :=
  ⟨sound_w0, by decide +kernel⟩
theorem witness_SystemCalibration_2 :
    w0.Sound ∧ ((0 < 176) ∧ (0 < 16) ∧ (w0.inUse 0 = true) ∧ (w0.sysBusy 0 = false ∨ w0.sysComplete 0 = false)) :=
  ⟨sound_w0, by decide +kernel⟩
theorem witness_SystemCalibration_3 :
    w1.Sound ∧ ((0 < 176) ∧ (0 < 16) ∧ (w1.inUse 0 = true) ∧ (w1.mode = Mode.characterise) ∧ (w1.sysBusy 0 = false) ∧ (0 ≤ 8)) :=
  ⟨sound_w1, by decide +kernel⟩
theorem witness_SystemCalibration_4 :
    w3.Sound ∧ ((0 < 176) ∧ (0 < 16) ∧ (w3.inUse 0 = true) ∧ (w3.sysBusy 0 = true) ∧ (w3.sysComplete 0 = true) ∧ (w3.lat Lat.sysOp = 1) ∧ (0 < w3.nlat Lat.sysN) ∧ (0 < 128) ∧ (w3.chRole 0 (0 % 64) ≠ 0) ∧ (∃ r, r < 4 ∧ ((fun r => (w3.nlat Lat.sysSum 0 0 r + w3.nlat Lat.sysN / 2) / w3.nlat Lat.sysN) r < 56 ∨ 656 < (fun r => (w3.nlat Lat.sysSum 0 0 r + w3.nlat Lat.sysN / 2) / w3.nlat Lat.sysN) r))) :=
  ⟨sound_w3, by decide +kernel⟩
theorem witness_SystemCalibration_5 :
    w4.Sound ∧ ((0 < 176) ∧ (0 < 16) ∧ (w4.inUse 0 = true) ∧ (w4.sysBusy 0 = true) ∧ (w4.sysComplete 0 = true) ∧ (w4.lat Lat.sysOp = 1) ∧ (0 < w4.nlat Lat.sysN) ∧ (0 < 128) ∧ (w4.chRole 0 (0 % 64) ≠ 0) ∧ (∀ (r : Nat), r < 4 → 56 ≤ (fun r => (w4.nlat Lat.sysSum 0 0 r + w4.nlat Lat.sysN / 2) / w4.nlat Lat.sysN) r ∧ (fun r => (w4.nlat Lat.sysSum 0 0 r + w4.nlat Lat.sysN / 2) / w4.nlat Lat.sysN) r ≤ 656)) :=
  ⟨sound_w4, by decide +kernel⟩
theorem witness_SystemCalibration_6 :
    w0.Sound ∧ ((0 < 176) ∧ (w0.inUse 0 = true) ∧ (0 < 128) ∧ (x1 = false)) :=
  ⟨sound_w0, by decide +kernel⟩
theorem witness_SystemCalibration_7 :
    w0.Sound ∧ ((0 < 176) ∧ (w0.inUse 0 = true) ∧ (w0.tbit Reg.ADC_REF 0 0 = false ∨ w0.tbit Reg.ADC_REF 0 1 = true ∨ w0.refSettled 0 = false)) :=
  ⟨sound_w0, by decide +kernel⟩
theorem witness_SystemCalibration_8 :
    w2.Sound ∧ ((0 < 176) ∧ (w2.inUse 0 = true) ∧ (0 < 128) ∧ (x9 = true)) :=
  ⟨sound_w2, by decide +kernel⟩
theorem witness_SystemCalibration_9 :
    w7.Sound ∧ (w7.owtNextTest 0 = some x19) ∧ ((0 < 176) ∧ (w7.inUse 0 = true) ∧ (w7.tbit Reg.ADC_OWT 0 31 = true) ∧ (w7.flag Lat.owtPhase = false) ∧ (w7.flag Lat.owtCmd = false) ∧ (w7.sysBusy 0 = false) ∧ (w7.nlat Lat.owtAt + w7.tfld Reg.ADC_OWT 0 15 0 ≤ w7.tileN 0)) :=
  ⟨sound_w7, some_of (by decide +kernel), by decide +kernel⟩
theorem witness_SystemCalibration_10 :
    w12.Sound ∧ ((0 < 176) ∧ (w12.inUse 0 = true) ∧ (w12.tbit Reg.ADC_REF 0 0 = true) ∧ (w12.tbit Reg.ADC_REF 0 1 = false) ∧ (w12.refSettled 0 = true)) :=
  ⟨sound_w12, by decide +kernel⟩
theorem witness_SystemCalibration_11 :
    w14.Sound ∧ ((0 < 176) ∧ (w14.inUse 0 = true) ∧ (w14.tileN 0 < w14.nlat Lat.owtAt + w14.tfld Reg.ADC_OWT 0 15 0)) :=
  ⟨sound_w14, by decide +kernel⟩
end SystemCalibration

namespace TableCommands
def A : Nat := 0x0010AABBCCDD
def e0 : MacEnt := ⟨5, A, 2, false, true, false, 0, 0, 0, 0⟩
def key0 : Nat := 0xAB * 2^136
def bsy (q : Nat) (op : Int) (s : State) : State := s |> (R .FWD_STATUS (2^31) · 0 q) |> (L .fwdOp (op+1) · q)
def argS (s : State) : State := s |> (R .FWD_ARG 0xAABBCCDD · 0 0 0) |> (R .FWD_ARG (2^16*5 + 0x0010) · 0 0 1) |> (R .FWD_ARG 2 · 0 0 2)
def tb (s : State) : State := (s.macPut 0 (base.macPos 0 0 5 A) e0).macPut 0 (base.macPos 0 1 5 A) {e0 with fixed := true, vid := 9} |> (State.macPut · 1 77 e0)
def lk (len : Nat) (s : State) : State := s |> R .LPM_LEN len |> (R .LPM_KEY 0xAB00 · 0 4) |> R .LPM_DATA 300
def lb (op : Int) (s : State) : State := s |> R .LPM_STATUS (2^31) |> L .lpmOp op
def ls : List LpmEnt := [⟨key0, 20, 6⟩, ⟨key0, 8, 7⟩, ⟨0, 0, 9⟩]
def samples : List State := [base, bsy 0 1 (tb (argS base)), bsy 0 1 (argS base), bsy 0 3 (tb (argS base)), bsy 0 3 (tb (argS base)) |> (R .FWD_ARG 258 · 0 0 2), bsy 0 3 (tb (argS base)) |> (R .FWD_ARG 6 · 0 0 2), bsy 1 3 (tb (base)) |> (R .FWD_ARG 2 · 0 1 2), bsy 0 2 (tb base), argS base |> (R .FWD_ARG (2^24) · 0 0 2)] ++ [1,2,3].flatMap (fun op => [lb op base, lb op (lk 8 base), lb op (lk 9 {base with lpm := ls}), lb op (lk 8 {base with lpm := ls}), lb op (lk 7 {base with lpm := ls}), lb op (lk 145 base), lb op (lk 8 {base with lpm := ls}) |> (R .LPM_GROUP (2^31) · 0 6),  lb op (lk 9 {base with lpm := (List.range 4096).map (fun k => ⟨2^20*k, 124, 0⟩)}), lb op (lk 144 {base with lpm := []})])
def states : List State := samples.map syncS ++ samples.filter (fun s => s.regs0 ≠ [])
def w0 : State := states.getD 0 base
def w1 : State := states.getD 1 base
def w2 : State := states.getD 2 base
def w3 : State := states.getD 3 base
def w5 : State := states.getD 5 base
def w9 : State := states.getD 9 base
def w12 : State := states.getD 12 base
def w13 : State := states.getD 13 base
def w18 : State := states.getD 18 base
def w21 : State := states.getD 21 base
def w27 : State := states.getD 27 base
def w33 : State := states.getD 33 base
def x13 : Nat := 2 ^ 32 * (w1.reg Reg.FWD_ARG 0 1 % 2 ^ 16) + w1.reg Reg.FWD_ARG
def x14 : Nat := bits (w1.reg Reg.FWD_ARG 0 1) 27 16
def x16 : Nat := ((w1.macFind 0 x14 x13).getD dNE).fst
def x17 : MacEnt := ((w1.macFind 0 x14 x13).getD dNE).snd
def x25 : Nat := 2 ^ 32 * (w2.reg Reg.FWD_ARG 0 1 % 2 ^ 16) + w2.reg Reg.FWD_ARG
def x26 : Nat := bits (w2.reg Reg.FWD_ARG 0 1) 27 16
def x38 : Nat := bits (w3.reg Reg.FWD_ARG 0 2) 2 0
def x60 : Nat := bits (w5.reg Reg.FWD_ARG 0 2) 2 0
def x74 : Nat := w9.lpmKey
def x75 : Nat := w9.fld Reg.LPM_LEN 7 0
def x83 : Nat := w12.lpmKey
def x84 : Nat := w12.fld Reg.LPM_LEN 7 0
def x86 : Nat := w13.lpmKey
def x87 : Nat := w13.fld Reg.LPM_LEN 7 0
def x101 : Nat := w18.lpmKey
def x102 : Nat := w18.fld Reg.LPM_LEN 7 0
def x110 : Nat := w21.lpmKey
def x111 : Nat := w21.fld Reg.LPM_LEN 7 0
def x128 : Nat := w27.lpmKey
def x146 : Nat := w33.lpmKey
def x148 : LpmEnt := (w33.lpmLookup x146).getD dLpm
theorem sound_w0 : w0.Sound := sound_of (by decide +kernel)
theorem sound_w1 : w1.Sound := sound_of (by decide +kernel)
theorem sound_w12 : w12.Sound := sound_of (by decide +kernel)
theorem sound_w13 : w13.Sound := sound_of (by decide +kernel)
theorem sound_w18 : w18.Sound := sound_of (by decide +kernel)
theorem sound_w2 : w2.Sound := sound_of (by decide +kernel)
theorem sound_w21 : w21.Sound := sound_of (by decide +kernel)
theorem sound_w27 : w27.Sound := sound_of (by decide +kernel)
theorem sound_w3 : w3.Sound := sound_of (by decide +kernel)
theorem sound_w33 : w33.Sound := sound_of (by decide +kernel)
theorem sound_w5 : w5.Sound := sound_of (by decide +kernel)
theorem sound_w9 : w9.Sound := sound_of (by decide +kernel)
/-! States and operands that meet the hypotheses of TableCommands, clause by clause. -/
theorem witness_TableCommands_1 :
    w0.Sound ∧ ((0 < 2) ∧ ((Instr.fwdSearch 0, 1) ∈ [(Instr.fwdSearch 0, 1), (Instr.fwdNext 0, 2), (Instr.fwdFlushPort 0, 3), (Instr.fwdBulkLoad 0, 4)]) ∧ (w0.rbit Reg.FWD_STATUS 31 = false) ∧ (1 ≠ 4 ∨ w0.rbit Reg.FWD_ARG 24 0 2 = false)) :=
  ⟨sound_w0, by decide +kernel⟩
theorem witness_TableCommands_2 :
    w0.Sound ∧ ((0 < 2) ∧ (w0.lat Lat.fwdOp = 0)) :=
  ⟨sound_w0, by decide +kernel⟩
theorem witness_TableCommands_3 :
    w0.Sound ∧ (((Instr.lpmInsert, 1) ∈ [(Instr.lpmInsert, 1), (Instr.lpmDelete, 2), (Instr.lpmLookup, 3)]) ∧ (w0.rbit Reg.LPM_STATUS 31 = false)) :=
  ⟨sound_w0, by decide +kernel⟩
theorem witness_TableCommands_4 :
    w0.Sound ∧ (w0.lat Lat.lpmOp = 0) :=
  ⟨sound_w0, by decide +kernel⟩
theorem witness_TableCommands_5 :
    w1.Sound ∧ ((0 < 2) ∧ ((Instr.fwdSearch 0, 1) ∈ [(Instr.fwdSearch 0, 1), (Instr.fwdNext 0, 2), (Instr.fwdFlushPort 0, 3), (Instr.fwdBulkLoad 0, 4)]) ∧ (w1.rbit Reg.FWD_STATUS 31 = true)) :=
  ⟨sound_w1, by decide +kernel⟩
theorem witness_TableCommands_6 :
    w1.Sound ∧ ((0 < 2) ∧ (w1.lat Lat.fwdOp = 2) ∧ (w1.macFind 0 x14 x13 = some (x16, x17)) ∧ (x17.mac < 2 ^ 48) ∧ (x17.vid < 4096) ∧ (x17.port < 8)) :=
  ⟨sound_w1, by decide +kernel⟩
theorem witness_TableCommands_7 :
    w2.Sound ∧ ((0 < 2) ∧ (w2.lat Lat.fwdOp = 2) ∧ (w2.macFind 0 x26 x25 = none)) :=
  ⟨sound_w2, by decide +kernel⟩
theorem witness_TableCommands_8 :
    w3.Sound ∧ ((0 < 2) ∧ (w3.lat Lat.fwdOp = 4) ∧ (x38 < 6)) :=
  ⟨sound_w3, by decide +kernel⟩
theorem witness_TableCommands_9 :
    w5.Sound ∧ ((0 < 2) ∧ (w5.lat Lat.fwdOp = 4) ∧ (6 ≤ x60)) :=
  ⟨sound_w5, by decide +kernel⟩
theorem witness_TableCommands_10 :
    w9.Sound ∧ (((Instr.lpmInsert, 1) ∈ [(Instr.lpmInsert, 1), (Instr.lpmDelete, 2), (Instr.lpmLookup, 3)]) ∧ (w9.rbit Reg.LPM_STATUS 31 = true)) :=
  ⟨sound_w9, by decide +kernel⟩
theorem witness_TableCommands_11 :
    w9.Sound ∧ ((w9.lat Lat.lpmOp = 1) ∧ (x75 ≤ 144 ∧ x74 % 2 ^ (144 - x75) = 0) ∧ (¬∃ e, e ∈ w9.lpm ∧ e.key = x74 ∧ e.len = x75) ∧ (w9.lpm.length < 4096)) :=
  ⟨sound_w9, by decide +kernel⟩
theorem witness_TableCommands_12 :
    w12.Sound ∧ ((w12.lat Lat.lpmOp = 1) ∧ (x84 ≤ 144 ∧ x83 % 2 ^ (144 - x84) = 0) ∧ (∃ e, e ∈ w12.lpm ∧ e.key = x83 ∧ e.len = x84)) :=
  ⟨sound_w12, by decide +kernel⟩
theorem witness_TableCommands_13 :
    w13.Sound ∧ ((w13.lat Lat.lpmOp = 1 ∨ w13.lat Lat.lpmOp = 2) ∧ (¬(x87 ≤ 144 ∧ x86 % 2 ^ (144 - x87) = 0))) :=
  ⟨sound_w13, by decide +kernel⟩
/-- A route memory that is full, as an insertion finds it. -/
def routes : List LpmEnt := (List.range 4096).map (fun k => ⟨2 ^ 20 * k, 124, 0⟩)
def fullS : State := { syncS (lb 1 (lk 9 base)) with lpm := routes }
theorem fullS_lpm : fullS.lpm = (List.range 4096).map (fun k => ⟨2 ^ 20 * k, 124, 0⟩) := by simp only [fullS, routes]
theorem witness_TableCommands_14 :
    fullS.Sound ∧ fullS.lat .lpmOp = 1 ∧ (fullS.fld .LPM_LEN 7 0 ≤ 144 ∧ fullS.lpmKey % 2 ^ (144 - fullS.fld .LPM_LEN 7 0) = 0) ∧
      (¬∃ e, e ∈ fullS.lpm ∧ e.key = fullS.lpmKey ∧ e.len = fullS.fld .LPM_LEN 7 0) ∧ 4096 ≤ fullS.lpm.length := by
  have hl : fullS.fld .LPM_LEN 7 0 = 9 := by decide +kernel
  refine ⟨sound_of (by decide +kernel), by decide +kernel, by decide +kernel, ?_, ?_⟩
  · rw [hl, fullS_lpm]
    rintro ⟨e, h, -, h2⟩
    obtain ⟨k, -, rfl⟩ := List.mem_map.mp h
    exact absurd (show (124 : Nat) = 9 from h2) (by decide)
  · rw [fullS_lpm]
    exact Nat.le_of_eq (by rw [List.length_map, List.length_range])
theorem witness_TableCommands_15 :
    w18.Sound ∧ ((w18.lat Lat.lpmOp = 2) ∧ (x102 ≤ 144 ∧ x101 % 2 ^ (144 - x102) = 0) ∧ (¬∃ e, e ∈ w18.lpm ∧ e.key = x101 ∧ e.len = x102)) :=
  ⟨sound_w18, by decide +kernel⟩
theorem witness_TableCommands_16 :
    w21.Sound ∧ ((w21.lat Lat.lpmOp = 2) ∧ (x111 ≤ 144 ∧ x110 % 2 ^ (144 - x111) = 0) ∧ (∃ e, e ∈ w21.lpm ∧ e.key = x110 ∧ e.len = x111)) :=
  ⟨sound_w21, by decide +kernel⟩
theorem witness_TableCommands_17 :
    w27.Sound ∧ ((w27.lat Lat.lpmOp = 3) ∧ (w27.lpmLookup x128 = none)) :=
  ⟨sound_w27, by decide +kernel⟩
theorem witness_TableCommands_18 :
    w33.Sound ∧ (w33.lpmLookup x146 = some x148) ∧ ((w33.lat Lat.lpmOp = 3) ∧ (x148.len ≤ 144) ∧ (x148.group < 1024)) :=
  ⟨sound_w33, some_of (by decide +kernel), by decide +kernel⟩
end TableCommands

namespace TrafficMeters
def mtr (s : State) : State := s |> (R .POL_CFG 0xC0000000 · 0 0) |> (R .POL_CFG 0xC0000000 · 0 1) |> (L .polNew 1 · 1) |> (R .POL_CIR 5000 · 0 0)|> (R .POL_PIR 70000 · 0 0)|> (R .POL_CBS 100 · 0 0)|> (R .POL_PBS 300 · 0 0) |> (R .POL_CBS 2 · 0 1)|> (R .POL_PBS 3 · 0 1) |> (L .polTc 6550000 · 0) |> (L .polTp 1 · 0) |> (R .SHP_Q 0x80000005 · 0 1 1) |> (R .POL_CBS 2 · 0 7)|> (R .POL_PBS 3 · 0 7)
def mv (k : Nat) (s : State) : State := s |> (R .MOVE_PORT k · 0 0) |> (L .moveProf k · 0) |> (R .MOVE_CIR 9 · 0 k)|> (R .MOVE_PIR 70000 · 0 k) |> (R .MOVE_CBS 2 · 0 k)|> (R .MOVE_PBS 3 · 0 k)
def samples : List State := [base, mtr base, mv 7 base, mv 7 base |> (R .MOVE_TC 131069 · 0 0) |> (R .MOVE_TP 196600 · 0 0), mv 7 base |> (R .MOVE_TC 65535 · 0 0) |> (R .MOVE_TP 65536 · 0 0) |> R .MOVE_CNT_Y 0xFFFFFFFF, mv 7 base |> (R .MOVE_TC 65535 · 0 0) |> (R .MOVE_TP 65536 · 0 0) |> R .THM_STATUS 0x80000000, mv 7 base |> (R .MOVE_TC 65536 · 0 0) |> (R .MOVE_TP 65536 · 0 0), mtr base |> (R .POL_CIR 400 · 0 7), mv 0 base |> (R .MOVE_TC 65536 · 0 1), base |> R .SHP_CREDIT 5 ]
def states : List State := samples.map syncS ++ samples.filter (fun s => s.regs0 ≠ [])
def w0 : State := states.getD 0 base
def w1 : State := states.getD 1 base
def w2 : State := states.getD 2 base
def w3 : State := states.getD 3 base
def w4 : State := states.getD 4 base
def x1 : Nat := 2147483679 &&& 4278190111
def x5 : Nat := w0.reg Reg.MOVE_TP
def x16 : Nat := 0 % 16
def x18 : Nat := 7 % 16
def x46 : Nat := w3.reg Reg.MOVE_TC
def x47 : Nat := w3.reg Reg.MOVE_TP
def x58 : Nat := w4.reg Reg.MOVE_TC
def x59 : Nat := w4.reg Reg.MOVE_TP
theorem sound_w0 : w0.Sound := sound_of (by decide +kernel)
theorem sound_w1 : w1.Sound := sound_of (by decide +kernel)
theorem sound_w2 : w2.Sound := sound_of (by decide +kernel)
theorem sound_w3 : w3.Sound := sound_of (by decide +kernel)
theorem sound_w4 : w4.Sound := sound_of (by decide +kernel)
/-! States and operands that meet the hypotheses of TrafficMeters, clause by clause. -/
theorem witness_TrafficMeters_1 :
    w0.Sound ∧ ((0 < 8) ∧ (0 < 8) ∧ (w0.rbit Reg.SHP_Q 31 = false)) :=
  ⟨sound_w0, by decide +kernel⟩
theorem witness_TrafficMeters_2 :
    w0.Sound ∧ ((0 < 1024) ∧ (w0.nlat Lat.moveProf = w0.fld Reg.MOVE_PORT 3 0)) :=
  ⟨sound_w0, by decide +kernel⟩
theorem witness_TrafficMeters_3 :
    w0.Sound ∧ ((0 < 256) ∧ (2 ^ 31 ≤ 2147483679) ∧ (2147483679 < 2 ^ 32) ∧ (w0.rbit Reg.POL_CFG 31 = false) ∧ (¬(bits x1 27 26 < 2 ∧ bits x1 25 24 < 2 ∧ w0.meterOk 0 x1 = true))) :=
  ⟨sound_w0, by decide +kernel⟩
theorem witness_TrafficMeters_4 :
    w0.Sound ∧ ((0 < 8) ∧ (0 < 8) ∧ (0 < 2 ^ 32)) :=
  ⟨sound_w0, by decide +kernel⟩
theorem witness_TrafficMeters_5 :
    w0.Sound ∧ ((0 < 1024) ∧ (x5 < 2 ^ 16)) :=
  ⟨sound_w0, by decide +kernel⟩
theorem witness_TrafficMeters_6 :
    w0.Sound ∧ ((0 < 1024) ∧ (0 < 2 ^ 32) ∧ (¬(w0.reg Reg.MOVE_CIR x16 ≤ w0.reg Reg.MOVE_PIR x16 ∧ w0.fld Reg.MOVE_CBS 15 0 x16 ≠ 0 ∧ w0.fld Reg.MOVE_PBS 15 0 x16 ≠ 0))) :=
  ⟨sound_w0, by decide +kernel⟩
theorem witness_TrafficMeters_7 :
    w1.Sound ∧ ((1 < 256) ∧ (w1.rbit Reg.POL_CFG 31 1 = true) ∧ (w1.flag Lat.polNew 1 = true)) :=
  ⟨sound_w1, by decide +kernel⟩
theorem witness_TrafficMeters_8 :
    w1.Sound ∧ ((0 < 256) ∧ (w1.rbit Reg.POL_CFG 31 = true) ∧ (w1.flag Lat.polNew = false) ∧ (w1.rbit Reg.POL_CFG 30 = true)) :=
  ⟨sound_w1, by decide +kernel⟩
theorem witness_TrafficMeters_9 :
    w1.Sound ∧ ((7 < 256) ∧ (2 ^ 31 ≤ 2147483679) ∧ (2147483679 < 2 ^ 32) ∧ (w1.rbit Reg.POL_CFG 31 7 = false) ∧ (bits x1 27 26 < 2 ∧ bits x1 25 24 < 2 ∧ w1.meterOk 7 x1 = true)) :=
  ⟨sound_w1, by decide +kernel⟩
theorem witness_TrafficMeters_10 :
    w2.Sound ∧ ((0 < 1024) ∧ (7 < 2 ^ 32) ∧ (w2.reg Reg.MOVE_CIR x18 ≤ w2.reg Reg.MOVE_PIR x18 ∧ w2.fld Reg.MOVE_CBS 15 0 x18 ≠ 0 ∧ w2.fld Reg.MOVE_PBS 15 0 x18 ≠ 0)) :=
  ⟨sound_w2, by decide +kernel⟩
theorem witness_TrafficMeters_11 :
    w3.Sound ∧ ((0 < 1024) ∧ (2 ^ 16 ≤ x46 ∧ 2 ^ 16 ≤ x47)) :=
  ⟨sound_w3, by decide +kernel⟩
theorem witness_TrafficMeters_12 :
    w4.Sound ∧ ((0 < 1024) ∧ (x58 < 2 ^ 16 ∧ 2 ^ 16 ≤ x59) ∧ (2 ^ 16 ≤ x58 ∧ 2 ^ 16 ≤ x59 ∨ (x58 < 2 ^ 16 ∧ 2 ^ 16 ≤ x59) ∧ true = true ∧ w4.throttled = false)) :=
  ⟨sound_w4, by decide +kernel⟩
end TrafficMeters

namespace TrimCommands
def bb := base |> R .WEAR_BASE_HI 0x10 |> R .WEAR_BASE_LO 0x10000 |> R .WEAR_AGE_S 77 |> (R .TRIM_TAP (5 + 2^6 + 2^12) · 0 0) |> (R .TRIM_TAP 63 · 0 1) |> L .ledgerUp 1
def samples : List State := [base, bb, M .characterise bb, M .hold bb, M .characterise bb |> (R .TRIM_TAP (5 + 2^6 + 2^12+2^17) · 0 0)|> (R .TRIM_TAP (63+2^17) · 0 1) , bb |> (L .trimCmd 5), bb |> R .TRIM_BUSY (2^31+3), M .characterise bb |> (L .wearStop 1), M .characterise bb |> (R .TRIM_TAP (0+2^15) · 0 0) |> (R .TRIM_TAP (0+2^14) · 1 0)]
def states : List State := samples.map syncS ++ samples.filter (fun s => s.regs0 ≠ [])
def w0 : State := states.getD 0 base
def w2 : State := states.getD 2 base
theorem sound_w0 : w0.Sound := sound_of (by decide +kernel)
theorem sound_w2 : w2.Sound := sound_of (by decide +kernel)
/-! States and operands that meet the hypotheses of TrimCommands, clause by clause. -/
theorem witness_TrimCommands_1 :
    w0.Sound ∧ ((0 < 176) ∧ (0 < 64) ∧ (0 < 8) ∧ (w0.inUse 0 = true) ∧ (w0.trimCmdRefused 0 0 = false) ∧ ((w0.trainTarget 0 0 true).isSome = true)) :=
  ⟨sound_w0, by decide +kernel⟩
theorem witness_TrimCommands_2 :
    w0.Sound ∧ ((0 < 176) ∧ (0 < 64) ∧ (0 < 8) ∧ (w0.inUse 0 = true) ∧ (w0.trimCmdRefused 0 0 = false) ∧ (0 < 64) ∧ (w0.mode ≠ Mode.characterise)) :=
  ⟨sound_w0, by decide +kernel⟩
theorem witness_TrimCommands_3 :
    w0.Sound ∧ ((0 < 176) ∧ (0 < 64) ∧ (0 < 8) ∧ (w0.inUse 0 = true) ∧ (w0.trimCmdRefused 0 0 = false) ∧ (w0.trainTarget 0 0 false = none)) :=
  ⟨sound_w0, by decide +kernel⟩
theorem witness_TrimCommands_4 :
    w0.Sound ∧ ((0 < 176) ∧ (7 < 64) ∧ (0 < 8) ∧ (w0.inUse 0 = true) ∧ (w0.trimCmdRefused 0 7 = true) ∧ (0 < 64)) :=
  ⟨sound_w0, by decide +kernel⟩
theorem witness_TrimCommands_5 :
    w2.Sound ∧ ((0 < 176) ∧ (0 < 64) ∧ (0 < 8) ∧ (w2.inUse 0 = true) ∧ (w2.trimCmdRefused 0 0 = false) ∧ (0 < 64) ∧ (w2.mode = Mode.characterise) ∧ (0 < w2.ledgerOff (64 * 0 + 0) + 8 ∨ w2.ledgerOff (64 * 0 + 0) + 12 ≤ 0)) :=
  ⟨sound_w2, by decide +kernel⟩
end TrimCommands

namespace TrimPulses
def bb := base |> R .WEAR_BASE_HI 0x10 |> R .WEAR_BASE_LO 0x10000 |> R .WEAR_AGE_S 77 |> (R .TRIM_TAP (5 + 2^6 + 2^12+2^16) · 0 0) |> (R .TRIM_TAP (63+2^16) · 0 1) |> L .ledgerUp 1 |> (L .suspSet 2 · 0 1)
def ts (s : State) : State := s |> (R .TRIM_TSET 0x64 · 0 0 0) |> (R .TRIM_TSET 0x10032 · 0 0 1)|> (R .TRIM_TSET 0x20000 · 0 0 2) |> (R .TRIM_TSET 0xFFFF00C8 · 0 1 7)
def ledX (s : State) : State := s.dramWrite 0x10000 ((List.range 64).map (fun k => BitVec.ofNat 8 (k+250)))
def chosen (s : State) : State := s |> L .trimChosen 1 |> R .TRIM_BUSY (2^31 + 0) |> L .trainUp 1 |> L .trainTarget 6
def run (s : State) : State := ledX s |> L .trimRun 1 |> L .pulseCh 0 |> R .TRIM_STATUS 4
def samples0 : List State := [base, bb, ts bb, ts bb |> chosen, bb |> chosen, M .hold bb |> chosen, run bb, run bb |> L .pulseTrain 1 |> chosen |> L .trimChosen 0 |> R .TRIM_BUSY (2^31+2^6*3) |> R .TRIM_DWELL (4*2^16+1), run bb |> L .pulseTrain 1 |> chosen |> R .TRIM_BUSY (2^31+2^6*3) |> R .TRIM_DWELL (0*2^16+1), M .hold bb |> chosen |> L .trimChosen 2,
 run bb |> L .pulseTrain 1 |> L .pulseCh 1 |> (R .TRIM_BUSY (2^31+1+ 2^6*15)) |> L .trainTarget 62 , ts bb |> chosen |> R .MGT_TILE_HOLD 1]

def ledY (s : State) : State := [0,1,2,64].foldl (fun s c => s.dramWrite (s.ledgerOff c) (leBytes 4 (5000*c) ++ leBytes 4 9000 ++ leBytes 4 7 ++ leBytes 4 99)) s
def samples : List State := samples0.map ledY
def states : List State := samples.map syncS ++ samples.filter (fun s => s.regs0 ≠ [])
def w0 : State := states.getD 0 base
def w3 : State := states.getD 3 base
def w4 : State := states.getD 4 base
def w5 : State := states.getD 5 base
def w6 : State := states.getD 6 base
def w7 : State := states.getD 7 base
def x0 : Nat := w3.tfld Reg.TRIM_BUSY 0 5 0
def x1 : Nat := if w3.flag Lat.trainUp = true then w3.tfld Reg.TRIM_CHSET 0 2 0 x0 else w3.tfld Reg.TRIM_CHSET 0 6 4 x0
def x2 : Nat := w4.tfld Reg.TRIM_BUSY 0 5 0
def x3 : Nat := if w4.flag Lat.trainUp = true then w4.tfld Reg.TRIM_CHSET 0 2 0 x2 else w4.tfld Reg.TRIM_CHSET 0 6 4 x2
def x4 : Nat := w6.nlat Lat.pulseCh
def x5 : Nat := 64 * 0 + x4
def x6 : Nat := w7.nlat Lat.pulseCh
def x7 : Nat := 64 * 0 + x6
theorem sound_w0 : w0.Sound := sound_of (by decide +kernel)
theorem sound_w3 : w3.Sound := sound_of (by decide +kernel)
theorem sound_w4 : w4.Sound := sound_of (by decide +kernel)
theorem sound_w5 : w5.Sound := sound_of (by decide +kernel)
theorem sound_w6 : w6.Sound := sound_of (by decide +kernel)
theorem sound_w7 : w7.Sound := sound_of (by decide +kernel)
/-! States and operands that meet the hypotheses of TrimPulses, clause by clause. -/
theorem witness_TrimPulses_1 :
    w0.Sound ∧ ((0 < 176) ∧ (0 < 8) ∧ (0 < 8) ∧ (0 < 2 ^ 32) ∧ (w0.inUse 0 = true)) :=
  ⟨sound_w0, by decide +kernel⟩
theorem witness_TrimPulses_2 :
    w3.Sound ∧ ((0 < 176) ∧ (w3.inUse 0 = true) ∧ (w3.nlat Lat.trimChosen = 1) ∧ ((w3.inHold || w3.tileHold 0 || w3.sable || w3.flag Lat.wearStop) = false) ∧ (w3.tsetOk 0 x1 = true)) :=
  ⟨sound_w3, by decide +kernel⟩
theorem witness_TrimPulses_3 :
    w4.Sound ∧ ((0 < 176) ∧ (w4.inUse 0 = true) ∧ (w4.nlat Lat.trimChosen = 1) ∧ ((w4.inHold || w4.tileHold 0 || w4.sable || w4.flag Lat.wearStop) = false) ∧ (w4.tsetOk 0 x3 = false)) :=
  ⟨sound_w4, by decide +kernel⟩
theorem witness_TrimPulses_4 :
    w5.Sound ∧ ((0 < 176) ∧ (w5.inUse 0 = true) ∧ ((w5.inHold || w5.tileHold 0 || w5.sable || w5.flag Lat.wearStop) = true)) :=
  ⟨sound_w5, by decide +kernel⟩
theorem witness_TrimPulses_5 :
    w6.Sound ∧ ((0 < 176) ∧ (w6.inUse 0 = true) ∧ (w6.flag Lat.trimRun = true) ∧ (x4 < 64) ∧ (w6.dramBad (w6.ledgerOff x5) 16 = none) ∧ (w6.dramFresh (w6.ledgerOff x5) 16 = []) ∧ (0 < w6.ledgerOff x5 ∨ w6.ledgerOff x5 + 16 ≤ 0)) :=
  ⟨sound_w6, by decide +kernel⟩
theorem witness_TrimPulses_6 :
    w7.Sound ∧ ((0 < 176) ∧ (w7.inUse 0 = true) ∧ (w7.flag Lat.trimRun = true) ∧ (x6 < 64) ∧ (w7.dramBad (w7.ledgerOff x7) 16 = none) ∧ (w7.dramFresh (w7.ledgerOff x7) 16 = []) ∧ (w7.flag Lat.pulseTrain = true) ∧ (w7.pulsesPerTap 0 ≤ w7.tfld Reg.TRIM_BUSY 0 9 6 + 1)) :=
  ⟨sound_w7, by decide +kernel⟩
end TrimPulses

namespace WearLog
def bb := base |> R .WEAR_BASE_HI 0x10 |> R .WEAR_BASE_LO 0x10000 |> R .WEAR_AGE_S 77 |> L .ledgerUp 1 |> L .logBytes 524288 |> L .logBase 0x4000000 |> R .WEAR_LOG_FILL 64 |> R .WEAR_LIFE_S 788940000
def ledX (s : State) : State := s.dramWrite 0x10000 ((List.range 64).map (fun k => BitVec.ofNat 8 (k+250)))
def q (s : State) : State := { s with wearQ := [⟨65, 2, 6, 77⟩, ⟨1, 1, 0, 78⟩] }
def samples0 : List State := [base, bb, q bb, q bb |> R .WEAR_LOG_FILL 262136, q bb |> R .WEAR_LOG_FILL 262120, q bb |> R .WEAR_STATUS 2 |> L .snapAge 77, ledX bb |> R .WEAR_STATUS 2 |> L .logUse 1 |> L .logGen 0xFFFFFFFF, bb |> R .WEAR_AGE_S 3599, bb |> R .WEAR_AGE_S 0xFFFFFFFF, ledX bb |> L .wearQueryCell 1, ledX bb |> L .wearQueryCell 2 |> R .WEAR_LIFE_S 1, {ledX bb with dramUe := [0x10000/32]} |> L .wearQueryCell 6 ]

def ledY (s : State) : State := [0,1,2,64].foldl (fun s c => s.dramWrite (s.ledgerOff c) (leBytes 4 (5000*c) ++ leBytes 4 9000 ++ leBytes 4 7 ++ leBytes 4 99)) s
def samples : List State := samples0.map ledY
def states : List State := samples.map syncS ++ samples.filter (fun s => s.regs0 ≠ [])
def w0 : State := states.getD 0 base
def w2 : State := states.getD 2 base
def w5 : State := states.getD 5 base
def w7 : State := states.getD 7 base
def w9 : State := states.getD 9 base
def x4 : WearRec := w2.wearQ.headD dWear
def x5 : List WearRec := w2.wearQ.tail
theorem sound_w0 : w0.Sound := sound_of (by decide +kernel)
theorem sound_w2 : w2.Sound := sound_of (by decide +kernel)
theorem sound_w5 : w5.Sound := sound_of (by decide +kernel)
theorem sound_w7 : w7.Sound := sound_of (by decide +kernel)
theorem sound_w9 : w9.Sound := sound_of (by decide +kernel)
/-! States and operands that meet the hypotheses of WearLog, clause by clause. -/
theorem witness_WearLog_1 :
    w0.Sound ∧ (w0.wearQ = []) :=
  ⟨sound_w0, by decide +kernel⟩
theorem witness_WearLog_2 :
    w0.Sound ∧ ((w0.reg Reg.WEAR_AGE_S + 1) % 3600 ≠ 0) :=
  ⟨sound_w0, by decide +kernel⟩
theorem witness_WearLog_3 :
    w2.Sound ∧ ((w2.wearQ = x4 :: x5) ∧ (w2.reg Reg.WEAR_LOG_FILL + 16 ≤ w2.logHalf) ∧ (w2.reg Reg.WEAR_LOG_FILL + 8 < 2 ^ 32) ∧ (0 < w2.logAddr (w2.nlat Lat.logUse) + w2.reg Reg.WEAR_LOG_FILL ∨ w2.logAddr (w2.nlat Lat.logUse) + w2.reg Reg.WEAR_LOG_FILL + 8 ≤ 0)) :=
  ⟨sound_w2, by decide +kernel⟩
theorem witness_WearLog_4 :
    w5.Sound ∧ ((w5.rbit Reg.WEAR_STATUS 1 = true) ∧ (w5.nlat Lat.logUse < 2) ∧ (16 ≤ w5.logHalf) ∧ (0 < w5.logHalf)) :=
  ⟨sound_w5, by decide +kernel⟩
theorem witness_WearLog_5 :
    w7.Sound ∧ ((w7.flag Lat.ledgerUp = true) ∧ ((w7.reg Reg.WEAR_AGE_S + 1) % 3600 = 0) ∧ (w7.reg Reg.WEAR_AGE_S + 1 < 2 ^ 32)) :=
  ⟨sound_w7, by decide +kernel⟩
theorem witness_WearLog_6 :
    w0.Sound ∧ (0 ≤ 11263) :=
  ⟨sound_w0, by decide +kernel⟩
theorem witness_WearLog_7 :
    w0.Sound ∧ ((11263 < 11264) ∧ (11264 < 2 ^ 14)) :=
  ⟨sound_w0, by decide +kernel⟩
theorem witness_WearLog_8 :
    w9.Sound ∧ ((w9.lat Lat.wearQueryCell = ↑(0 + 1)) ∧ (w9.dramBad (w9.ledgerOff 0) 16 = none) ∧ (w9.dramFresh (w9.ledgerOff 0) 16 = [])) :=
  ⟨sound_w9, by decide +kernel⟩
end WearLog

namespace WellFormedGoesOn
def samples : List State := [base]
def states : List State := samples.map syncS ++ samples.filter (fun s => s.regs0 ≠ [])
/-! States and operands that meet the hypotheses of WellFormedGoesOn, clause by clause. -/
theorem witness_WellFormedGoesOn_1 :
    (Instr.ageTick.wf = true) :=
  by decide +kernel
end WellFormedGoesOn

end Sys2Proof.Tests
end

section
/-! PROOFS. Words and stores: the bits of a word that software writes, what the sparse stores read after runs of writes,
and the bytes of a value. -/
set_option Elab.async false
namespace Sys2Proof.Machine

/-! ### Bits of a written word -/

theorem bit_andNot (n m b : Nat) : bit (andNot n m) b = (bit n b && !bit m b) := by
  unfold bit andNot
  induction b generalizing n m with
  | zero =>
    have h := @Nat.and_mod_two_eq_one n m
    have hle := Nat.and_le_left (n := n) (m := m)
    rw [Nat.testBit_zero, Nat.testBit_zero, Nat.testBit_zero, ← decide_not, ← Bool.decide_and]
    exact decide_eq_decide.mpr (by omega)
  | succ b ih =>
    have half : (n - (n &&& m)) / 2 = n / 2 - (n / 2 &&& m / 2) := by
      have h := @Nat.and_mod_two_eq_one n m
      have hle := Nat.and_le_left (n := n) (m := m)
      rw [← Nat.and_div_two]
      omega
    rw [Nat.testBit_succ, Nat.testBit_succ, Nat.testBit_succ, half, ih]

/-- The word that a write leaves, bit by bit (R9, R10). -/
theorem bit_writtenWord (d : RegDesc) (was old v b : Nat) (hv : v < 2 ^ 32) :
    bit (writtenWord d was old v) b =
      (!(bit v b && bit d.w1c b && bit was b) && if bit d.rw b then bit v b else bit old b) := by
  have or_bit (x y : Nat) : bit (x ||| y) b = (bit x b || bit y b) := Nat.testBit_or ..
  have and_bit (x y : Nat) : bit (x &&& y) b = (bit x b && bit y b) := Nat.testBit_and ..
  unfold writtenWord
  dsimp only
  rw [Nat.mod_eq_of_lt hv, bit_andNot, or_bit, bit_andNot, and_bit, and_bit, and_bit, Bool.and_comm]
  cases bit d.rw b <;> simp

/-! ### Stores whose unlisted keys have no value -/

section
variable {α : Type}

theorem spFind_drop {l : List (Nat × α)} {j k : Nat} (h : j < k) : spFind (spDrop l j) k = spFind l k := by
  induction l with
  | nil => rfl
  | cons x r ih =>
    obtain ⟨k0, v0⟩ := x
    simp only [spDrop]
    split
    · rw [ih]; simp only [spFind]; rw [if_pos (by omega)]
    · rfl

/-- A key reads what was stored there, and the others what they read before. -/
theorem spFind_set (l : List (Nat × α)) (k : Nat) (v : α) (j : Nat) :
    spFind (spSet l k v) j = if j = k then some v else spFind l j := by
  induction l with
  | nil => simp only [spSet, spFind]; grind
  | cons x r ih =>
    obtain ⟨k0, v0⟩ := x
    simp only [spSet]
    split
    · simp only [spFind, ih]; grind
    · rw [show spFind ((k, v) :: spDrop ((k0, v0) :: r) k) j =
        (if k < j then spFind (spDrop ((k0, v0) :: r) k) j else if k = j then some v else none) from rfl]
      by_cases lt : k < j
      · rw [if_pos lt, spFind_drop lt, if_neg (by omega)]
      · simp only [spFind]; grind

/-- A key stored by a run of writes reads its value, when no two of the writes disagree. -/
theorem spFind_foldl_set {β : Type} {key : β → Nat} {val : β → α} {b : β} {l : List β} {m : List (Nat × α)}
    (agree : ∀ c ∈ l, key c = key b → val c = val b) (h : b ∈ l ∨ spFind m (key b) = some (val b)) :
    spFind (l.foldl (fun m c => spSet m (key c) (val c)) m) (key b) = some (val b) := by
  induction l generalizing m with
  | nil => exact h.resolve_left List.not_mem_nil
  | cons c l ih =>
    refine ih (fun x hx => agree x (List.mem_cons_of_mem c hx)) ?_
    by_cases hk : key b = key c
    · right
      rw [spFind_set, if_pos hk, agree c List.mem_cons_self hk.symm]
    · rw [spFind_set, if_neg hk]
      rcases h with h | h
      · exact .inl ((List.mem_cons.mp h).resolve_left fun e => hk (e ▸ rfl))
      · exact .inr h

theorem spFind_below {l : List (Nat × α)} {lo k : Nat} (h : spRisingFrom lo l = true) (hk : k < lo) : spFind l k = none := by
  cases l with
  | nil => rfl
  | cons x r =>
    simp only [spRisingFrom, Bool.and_eq_true, decide_eq_true_eq] at h
    simp only [spFind]
    rw [if_neg (by omega), if_neg (by omega)]

/-- Leaving out the entry of one key leaves what the others read. -/
theorem spFind_filter_ne {l : List (Nat × α)} {j k : Nat} (h : spRising l = true) (hk : k ≠ j) :
    spFind (l.filter (fun e => e.1 != j)) k = spFind l k := by
  suffices H : ∀ lo, spRisingFrom lo l = true → spFind (l.filter (fun e => e.1 != j)) k = spFind l k from H 0 h
  clear h
  induction l with
  | nil => intro _ _; rfl
  | cons x r ih =>
    intro lo h
    obtain ⟨k0, v0⟩ := x
    simp only [spRisingFrom, Bool.and_eq_true, decide_eq_true_eq] at h
    have ihr := ih _ h.2
    by_cases e : k0 = j
    · subst e
      rw [List.filter_cons_of_neg (by simp), ihr]
      simp only [spFind]
      by_cases lt : k0 < k
      · rw [if_pos lt]
      · rw [if_neg lt, if_neg (Ne.symm hk)]
        exact spFind_below h.2 (by omega)
    · rw [List.filter_cons_of_pos (by simpa using e)]
      simp only [spFind, ihr]

/-- A key within a run of consecutive writes reads what the run put there, and any other what it read. -/
theorem spGet_foldl_put [DecidableEq α] {d : α} (o : Nat) (f : Nat → α) (b : Nat) {m : List (Nat × α)} (h : spWf d m = true)
    (n : Nat) :
    spGet d ((List.range n).foldl (fun m k => spPut d m (o + k) (f k)) m) b =
      if o ≤ b ∧ b < o + n then f (b - o) else spGet d m b := by
  induction n with
  | zero => rw [if_neg (by omega)]; rfl
  | succ n ih =>
    have hw : spWf d ((List.range n).foldl (fun m k => spPut d m (o + k) (f k)) m) = true := foldl_put_wf _ h
    rw [List.range_succ, List.foldl_append, List.foldl_cons, List.foldl_nil]
    by_cases e : b = o + n
    · rw [e, spGet_put_same _ _ hw, if_pos (by omega), Nat.add_sub_cancel_left]
    · rw [spGet_put_other _ hw e, ih]
      have same : (o ≤ b ∧ b < o + (n + 1)) ↔ (o ≤ b ∧ b < o + n) := by omega
      simp only [same]

end

theorem leBytes_getD (n v k : Nat) (h : k < n) : (leBytes n v).getD k 0 = BitVec.ofNat 8 (v / 256 ^ k) := by
  induction n generalizing v k with
  | zero => omega
  | succ n ih =>
    cases k with
    | zero => simp [leBytes]
    | succ k =>
      rw [leBytes, List.getD_cons_succ, ih _ _ (by omega), Nat.div_div_eq_div_mul, Nat.pow_succ']

end Sys2Proof.Machine
end

section
/-! PROOFS. Accesses over the bus matrix (R5 to R11, R428): when one is an address fault, and what a write and a read
of a register element do. -/
set_option Elab.async false
namespace Sys2Proof.Machine

variable {s : State}

/-! ### Well-formed accesses go on -/

theorem exec_registerWrite {a v : Nat} (ha : a < 2 ^ 40) (hal : a % 4 = 0) (hv : v < 2 ^ 32) (ini : Initiator) :
    exec (.registerWrite ini a v) s = .next (s.busWrite ini a v) := if_pos (decide_eq_true ⟨ha, hal, hv⟩)

theorem exec_rsRead {a : Nat} (ha : a < 2 ^ 40) (hal : a % 4 = 0) (ini : Initiator) :
    exec (.rsRead ini a) s = .next (s.busRead ini a) := if_pos (decide_eq_true ⟨ha, hal⟩)

theorem exec_snapshotRead {a : Nat} (ha : a < 2 ^ 40) (hal : a % 4 = 0) (ini : Initiator) :
    exec (.snapshotRead ini a) s = .next (s.busRead ini a) := if_pos (decide_eq_true ⟨ha, hal⟩)

theorem exec_misalignedAccess {a n : Nat} (ha : a < 2 ^ 40) (hn : n ∈ [1, 2, 4, 8, 16]) (hodd : ¬(n = 4 ∧ a % 4 = 0))
    (ini : Initiator) (write : Bool) (v : Nat) :
    exec (.misalignedAccess ini write a n v) s = .next (s.oddAccess ini write a n v) := if_pos (decide_eq_true ⟨ha, hn, hodd⟩)

theorem exec_undefinedAddressAccess {a v : Nat} (ha : a < 2 ^ 40) (hal : a % 4 = 0) (hv : v < 2 ^ 32) (ini : Initiator)
    (write : Bool) : exec (.undefinedAddressAccess ini write a v) s = .next (s.busAccess ini write a v) :=
  if_pos (decide_eq_true ⟨ha, hal, hv⟩)

/-! ### Address faults -/

/-- The address fault of the bus matrix is what R6 says of it. -/
theorem State.addrFault_addrFaulted (a : Nat) : (s.addrFault a).addrFaulted s a := ⟨rfl, rfl, rfl⟩

theorem State.busAccess_no_target {a : Nat} (h : s.target a = none) (ini : Initiator) (write : Bool) (v : Nat) :
    s.busAccess ini write a v = s.addrFault a := by
  cases write <;> simp [State.busAccess, State.busRead, State.busWrite, h]

theorem State.busAccess_no_path {a o : Nat} {tg : Target} {ini : Initiator} {write : Bool} (h : s.target a = some (tg, o))
    (hp : pathOk (busPort ini) tg write = false) (v : Nat) : s.busAccess ini write a v = s.addrFault a := by
  cases write <;> simp [State.busAccess, State.busRead, State.busWrite, h, hp]

/-- In the register space an address with neither a register nor a word of the capability list has nothing (R6),
whatever the path. -/
theorem State.busAccess_no_register {a o : Nat} {tg : Target} (h : s.target a = some (tg, o)) (ht : tg = .reg ∨ tg = .tile)
    (hr : s.regOf a = none) (hc : s.capWord a = none) (ini : Initiator) (write : Bool) (v : Nat) :
    s.busAccess ini write a v = s.addrFault a := by
  cases write <;> rcases ht with rfl | rfl <;> simp [State.busAccess, State.busRead, State.busWrite, h, hr, hc]

theorem State.oddAccess_outside {ini : Initiator} {write : Bool} {a : Nat} (h : s.inMemory ini write a = false) (n v : Nat) :
    s.oddAccess ini write a n v = s.addrFault a := by
  simp [State.oddAccess, h]

/-! ### Writes of working SRAM -/

theorem State.sramByte_sramWrite (h : spWf 0#8 s.sram = true) (o : Nat) (bs : List Byte) (b : Nat) :
    (s.sramWrite o bs).sramByte b = if o ≤ b ∧ b < o + bs.length then bs.getD (b - o) 0 else s.sramByte b :=
  spGet_foldl_put o (fun k => bs.getD k 0) b h bs.length

/-- Every initiator of the bus reaches working SRAM (R428). -/
theorem pathOk_sram (ini : Initiator) (write : Bool) : pathOk (busPort ini) .sram write = true := by
  cases ini <;> rfl

/-- A write whose bytes all lie in working SRAM stores them, whatever its width. -/
theorem State.oddAccess_sram {a n o o' : Nat} (h : s.target a = some (.sram, o)) (h' : s.target (a + n - 1) = some (.sram, o'))
    (ini : Initiator) (v : Nat) : s.oddAccess ini true a n v = (s.sramWrite o (leBytes n v)).respond false 0 := by
  have hp := pathOk_sram ini true
  have hm : s.inMemory ini true a = true := by simp [State.inMemory, h, hp]
  simp [State.oddAccess, hm, State.memPut, leBytes_length, h, h', hp]

/-! ### Registers that a write only loads -/

theorem State.regWrite_loads {ini : Initiator} {r : Reg} (hr : r ∉ actingRegs) (hc : coreOnly r = true → isCore ini = true)
    (t i j v : Nat) (img : Bool) : s.regWrite ini r t i j v img = s.plainWrite r t i j v img := by
  unfold State.regWrite
  rw [if_neg (by simpa using hc)]
  split
  case h_58 => rfl
  all_goals exact absurd (by decide) hr

/-- A write of `v` meets a lock: the block is not idle, and RWL bits would change or the register has no others (R11). -/
def State.writeLocked (s : State) (r : Reg) (t i j v : Nat) : Prop :=
  r.desc.rwl ≠ 0 ∧ (r.desc.rwl = r.desc.rw ∨ (s.treg r t i j ^^^ v) &&& r.desc.rwl ≠ 0) ∧ s.idle r.desc.lock t i = false

/-- A register that is locked, or that does not take the value, refuses the write (R11). -/
theorem State.plainWrite_refused {r : Reg} {t i j v : Nat} (h : s.writeLocked r t i j v ∨ s.valueOk r i v = false) :
    s.plainWrite r t i j v false = s.refuse r t i j := by
  unfold State.plainWrite
  rcases h with ⟨hrwl, hit, busy⟩ | h
  · rw [if_pos (by simpa [hrwl, busy] using hit)]
  · simp [h]

theorem State.plainWrite_taken {r : Reg} {t i j v : Nat} (h : ¬s.writeLocked r t i j v) (hv : s.valueOk r i v = true) :
    s.plainWrite r t i j v false = s.putWord r t i j v := by
  unfold State.plainWrite
  rw [if_neg fun c => h (by simpa [State.writeLocked, and_assoc] using c), if_pos hv]

/-- A write that software makes changes the register element and what it counts as having been (R10). -/
theorem State.putWord_frame (r : Reg) (t i j v : Nat) :
    s.putWord r t i j v = { s with regs := (s.putWord r t i j v).regs, regs0 := (s.putWord r t i j v).regs0 } := by
  unfold State.putWord
  dsimp only
  split <;> rfl

theorem State.treg_putWord (r : Reg) (t i j v : Nat) (q : Reg) (t' i' j' : Nat) :
    (s.putWord r t i j v).treg q t' i' j' =
      (s.setTreg r t (writtenWord r.desc (s.before.treg r t i j) (s.treg r t i j) v) i j).treg q t' i' j' := by
  unfold State.putWord
  dsimp only
  split <;> rfl

/-- A refusal sends REFUSE with the address, and besides it changes registers alone (R11). -/
theorem State.refuseAddr_frame (a : Nat) :
    s.refuseAddr a = { s with regs := (s.refuseAddr a).regs, faults := s.faults ++ [s.msg (ownerOf a) 0x02 a] } := by
  unfold State.refuseAddr
  dsimp only
  split
  · rfl
  · split <;> rfl

/-- A refusal sets a bit of the block's status register and of no other register (R11). -/
theorem State.treg_refuseAddr (h : spWf 0#32 s.regs = true) {a : Nat} {q : Reg} (hq : ∀ b, refusedFlag a ≠ some (q, b))
    (t i j : Nat) : (s.refuseAddr a).treg q t i j = s.treg q t i j := by
  unfold State.refuseAddr
  dsimp only
  split
  · rfl
  · next r b e =>
    have ne : q ≠ r := fun eq => hq b (eq ▸ e)
    split <;> exact State.treg_setTreg_ne _ h _ _ _ _ _ _ _ ne

@[simp] theorem State.treg_snapDrop (r : Reg) (t i j : Nat) (q : Reg) (t' i' j' : Nat) :
    (s.snapDrop r t i j).treg q t' i' j' = s.treg q t' i' j' := rfl

/-- A write that reaches a register element is a write of that element, and ends its snapshot. -/
theorem State.busWrite_reaches {ini : Initiator} {a v : Nat} {r : Reg} {τ i j : Nat} (h : s.reaches ini a r τ i j true)
    (hv : v < 2 ^ 32) : s.busWrite ini a v = ((s.regWrite ini r τ i j v false).snapDrop r τ i j).respond false 0 := by
  obtain ⟨-, -, hreg, tg, ht, htg, hp⟩ := h
  rcases htg with rfl | rfl <;> simp only [State.busWrite, ht, hp, hreg, Nat.mod_eq_of_lt hv] <;> rfl

/-! ### Reads -/

/-- A read that reaches a register element which only reads: the higher words are captured, RS bits clear (R8, R9). -/
theorem State.busRead_reaches {ini : Initiator} {a : Nat} {r : Reg} {τ i j : Nat} (h : s.reaches ini a r τ i j false)
    (hr : r ∉ actingReads) (hidden : s.evtHidden ini r i = false) :
    s.busRead ini a = ((s.snapWords r τ i).clearRead r τ i j).respond false (s.readBefore r τ i j) := by
  obtain ⟨-, -, hreg, tg, ht, htg, hp⟩ := h
  have read : s.regRead ini r τ i j = ((s.snapWords r τ i).clearRead r τ i j).respond false (s.readBefore r τ i j) := by
    unfold State.regRead
    rw [if_neg (by simp [hidden])]
    split
    case h_4 => rfl
    all_goals exact absurd (by decide) hr
  rw [← read]
  rcases htg with rfl | rfl <;> simp only [State.busRead, ht, hp, hreg] <;> rfl

/-- A register without an index lies at one element. -/
theorem Reg.locate_single {r : Reg} {a t i j : Nat} (h1 : r.desc.n1 = 1) (h2 : r.desc.n2 = 1) (h : r.locate a = some (t, i, j)) :
    i = 0 ∧ j = 0 := by
  unfold Reg.locate at h
  simp only [h1, h2, if_true] at h
  obtain ⟨-, h⟩ := Option.ite_none_left_eq_some.mp h
  obtain ⟨-, h⟩ := Option.ite_none_right_eq_some.mp h
  obtain ⟨-, h⟩ := Option.ite_none_right_eq_some.mp h
  simp only [Option.some.injEq, Prod.mk.injEq] at h
  exact ⟨h.2.1.symm, h.2.2.symm⟩

theorem State.locate_of_regOf {a : Nat} {r : Reg} {t i j : Nat} (h : s.regOf a = some (r, t, i, j)) :
    r.locate a = some (t, i, j) := by
  unfold State.regOf at h
  split at h
  · next q t' i' j' e =>
    obtain ⟨p, hp, e⟩ := List.exists_of_findSome?_eq_some e
    obtain ⟨x, hx, e⟩ := Option.map_eq_some_iff.mp e
    obtain ⟨-, h⟩ := Option.ite_none_left_eq_some.mp h
    simp only [Option.some.injEq, Prod.mk.injEq] at h e
    obtain ⟨rfl, rfl, rfl, rfl⟩ := h
    obtain ⟨rfl, rfl, rfl, rfl⟩ := e
    exact hx
  · exact nomatch h

theorem State.clearRead_frame (r : Reg) (t i j : Nat) :
    s.clearRead r t i j = { s with
      regs := (s.clearRead r t i j).regs, lats := (s.clearRead r t i j).lats, regs0 := (s.clearRead r t i j).regs0,
      lats0 := (s.clearRead r t i j).lats0 } := by
  unfold State.clearRead
  by_cases hrs : r.desc.rs = 0
  · rw [if_pos hrs]
  · rw [if_neg hrs]
    by_cases hr : r = .TILE_TEMP_MAX
    · rw [if_pos hr, if_pos hr]
      split <;> rfl
    · rw [if_neg hr, if_neg hr]
      rfl

/-- A register that is not RS keeps its word when it is read. -/
theorem State.clearRead_keeps {r : Reg} (h : r.desc.rs = 0) (t i j : Nat) : s.clearRead r t i j = s := if_pos h

/-- An RS register keeps what hardware has added in the present grain (R9, R10). -/
theorem State.treg_clearRead_same (h : spWf 0#32 s.regs = true) {r : Reg} (hrs : r.desc.rs ≠ 0) (hr : r ≠ .TILE_TEMP_MAX)
    (t i j : Nat) : (s.clearRead r t i j).treg r t i j = s.treg r t i j - s.before.treg r t i j := by
  unfold State.clearRead
  rw [if_neg hrs, if_neg hr, if_neg hr]
  refine (State.treg_setTreg_same s h r t _ i j).trans (Nat.mod_eq_of_lt ?_)
  exact Nat.lt_of_le_of_lt (Nat.sub_le ..) (treg_lt s r t i j)

/-- TILE_TEMP_MAX clears unless a reading has raised it in the present grain (R10). -/
theorem State.treg_clearRead_max (h : spWf 0#32 s.regs = true) (t : Nat) :
    (s.clearRead .TILE_TEMP_MAX t 0 0).treg .TILE_TEMP_MAX t = if s.maxRaised t then s.treg .TILE_TEMP_MAX t else 0 := by
  unfold State.clearRead
  rw [if_neg (by decide), if_pos rfl, if_pos rfl]
  split
  · rfl
  · exact State.treg_setTreg_same s h .TILE_TEMP_MAX t 0 0 0

/-- A read clears no other element; TILE_TEMP_MAX has no index. -/
theorem State.treg_clearRead_other (h : spWf 0#32 s.regs = true) {r : Reg} {t i j : Nat}
    (single : r = .TILE_TEMP_MAX → i = 0 ∧ j = 0) {q : Reg} {t' i' j' : Nat} (hk : q.key t' i' j' ≠ r.key t i j) :
    (s.clearRead r t i j).treg q t' i' j' = s.treg q t' i' j' := by
  unfold State.clearRead
  by_cases hrs : r.desc.rs = 0
  · rw [if_pos hrs]
  · rw [if_neg hrs]
    by_cases hr : r = .TILE_TEMP_MAX
    · obtain ⟨rfl, rfl⟩ := single hr
      rw [if_pos hr, if_pos hr]
      split
      · rfl
      · exact State.treg_setTreg_other s h 0 hk
    · rw [if_neg hr, if_neg hr]
      exact State.treg_setTreg_other s h _ hk

/-! ### Snapshots of wide values (R8) -/

/-- The higher words of a value are other registers at the same element, or further elements of its register. -/
theorem of_mem_higherWords {r : Reg} {i : Nat} {x : Reg × Nat} (h : x ∈ higherWords r i) :
    (∃ e, wideRegs.find? (fun e => e.1 == r) = some e ∧ x.1 ∈ e.2 ∧ x.2 = i) ∨
      (wideRegs.find? (fun e => e.1 == r) = none ∧ x.1 = r ∧ 0 < x.2 ∧ x.2 < wideElems r) := by
  unfold higherWords at h
  split at h
  · next e he =>
    obtain ⟨q, hq, rfl⟩ := List.mem_map.mp h
    exact .inl ⟨e, he, hq, rfl⟩
  · next he =>
    split at h
    · obtain ⟨k, hk, rfl⟩ := List.mem_map.mp h
      have := List.mem_range.mp hk
      exact .inr ⟨he, rfl, Nat.succ_pos k, by dsimp only; omega⟩
    · exact absurd h List.not_mem_nil

theorem isHigher_of_mem_higherWords {r : Reg} {i : Nat} {x : Reg × Nat} (h : x ∈ higherWords r i) :
    isHigher x.1 x.2 = true := by
  unfold isHigher
  rcases of_mem_higherWords h with ⟨e, he, hx, -⟩ | ⟨-, rfl, pos, lt⟩
  · have wide : wideRegs.any (fun e => e.2.contains x.1) = true :=
      List.any_eq_true.mpr ⟨e, List.mem_of_find?_eq_some he, List.contains_iff_mem.mpr hx⟩
    rw [wide, Bool.true_or]
  · have further : (x.2 != 0 && wideElems x.1 != 0) = true :=
      Bool.and_eq_true_iff.mpr ⟨bne_iff_ne.mpr (by omega), bne_iff_ne.mpr (by omega)⟩
    rw [further, Bool.or_true]

/-- The higher words of one value lie at different places. -/
theorem higherWords_apart {r : Reg} {i : Nat} {x y : Reg × Nat} (hx : x ∈ higherWords r i) (hy : y ∈ higherWords r i)
    (hr : x.1 = y.1) (hi : x.2 % 16384 = y.2 % 16384) : x = y := by
  have few : wideElems r ≤ 5 := by unfold wideElems; split <;> decide
  refine Prod.ext hr ?_
  rcases of_mem_higherWords hx with ⟨e, he, -, xi⟩ | ⟨he, -, -, xlt⟩ <;>
    rcases of_mem_higherWords hy with ⟨f, hf, -, yi⟩ | ⟨hf, -, -, ylt⟩
  · rw [xi, yi]
  · exact nomatch he.symm.trans hf
  · exact nomatch he.symm.trans hf
  · omega

/-- A captured word reads as it was at the capture, in any state that keeps the snapshots. -/
theorem State.readWord_captured {u : State} {r : Reg} {t i : Nat} (hu : u.snap = (s.snapWords r t i).snap) {x : Reg × Nat}
    (hx : x ∈ higherWords r i) : u.readWord x.1 t x.2 0 = s.regValue x.1 t x.2 0 % 2 ^ 32 := by
  have captured : spFind u.snap (x.1.key t x.2 0) = some (BitVec.ofNat 32 (s.regValue x.1 t x.2 0)) := by
    rw [hu]
    refine spFind_foldl_set (key := fun q : Reg × Nat => q.1.key t q.2 0)
      (val := fun q => BitVec.ofNat 32 (s.regValue q.1 t q.2 0)) (b := x) (fun y hy hk => ?_) (.inl hx)
    obtain ⟨hr, -, hi, -⟩ := Reg.key_inj hk
    rw [higherWords_apart hy hx hr hi]
  unfold State.readWord
  rw [if_pos (isHigher_of_mem_higherWords hx), captured]
  exact BitVec.toNat_ofNat ..

end Sys2Proof.Machine
end

section
/-! PROOFS. The statements about the scope and the conventions: well-formed commands, and accesses to registers and
to addresses without one. -/
set_option Elab.async false
namespace Sys2Proof.Machine

/-- A guard may be replaced by an equal one. -/
theorem okIf_guard {o : Host.Outcome State Fault Refusal} {b c : Bool} {t : State} (e : o = okIf c t) (h : c = b) :
    ∃ u, o = okIf b u := ⟨t, h ▸ e⟩

/-- Every command is guarded by the well-formedness of its operands and by nothing else (log entry 5): case by
case, the guard of its meaning is its line of `Instr.wf`. -/
theorem exec_eq_okIf (c : Instr) (s : State) : ∃ t, exec c s = okIf c.wf t := by
  cases c
  all_goals
    refine okIf_guard (by unfold exec; rfl) ?_
    simp only [Instr.wf, Bool.decide_and, Bool.and_assoc, decide_not, Bool.beq_eq_decide_eq]

/-- Settles O5: the guard of a command's meaning is its well-formedness. -/
theorem wellFormedGoesOn : Obligations.WellFormedGoesOn := by
  unfold Obligations.WellFormedGoesOn
  intro c s
  obtain ⟨t, e⟩ := exec_eq_okIf c s
  exact ⟨fun h => ⟨t, by rw [e, h]; rfl⟩, fun h => by rw [e, h]; rfl⟩

/-- Settles O18: a loading register takes `writtenWord` or refuses; nothing else moves but the snapshot of its element. -/
theorem registerWrites : Obligations.RegisterWrites := by
  unfold Obligations.RegisterWrites
  intro s ini a v r τ i j hs hv reach hr hc old locked
  have ⟨ha, hal, _⟩ := reach
  have run := exec_registerWrite (s := s) ha hal hv ini
  rw [State.busWrite_reaches reach hv, State.regWrite_loads hr hc] at run
  refine ⟨fun unlocked ok => ?_, fun refused => ?_⟩
  · rw [State.plainWrite_taken unlocked ok] at run
    refine ⟨_, run, ?_, fun q τ' i' j' hq => ?_, fun k hk => ?_, fun b hb => ?_⟩
    · rw [State.putWord_frame]; rfl
    · rw [State.treg_respond, State.treg_snapDrop, State.treg_putWord]
      exact State.treg_setTreg_other s hs.regs _ (by simpa using hq)
    · rw [State.putWord_frame]
      exact spFind_filter_ne hs.snap hk
    · rw [State.treg_respond, State.treg_snapDrop, State.treg_putWord, State.treg_setTreg_same s hs.regs, bit_mod _ _ _ hb,
        bit_writtenWord _ _ _ _ _ hv]
  · rw [State.plainWrite_refused refused] at run
    refine ⟨_, run, ?_, ?_, fun q hq τ' i' j' => ?_⟩
    · rw [State.refuse, State.refuseAddr_frame]; rfl
    · rw [State.refuse, State.refuseAddr_frame]; rfl
    · rw [State.treg_respond, State.treg_snapDrop, State.refuse, State.treg_refuseAddr hs.regs hq]

/-- Settles O19: both commands read the element on the bus; what it clears and captures is said register by register. -/
theorem registerReads : Obligations.RegisterReads := by
  unfold Obligations.RegisterReads
  intro s ini a r τ i j hs reach hr hidden read
  have ⟨ha, hal, hreg, _⟩ := reach
  suffices H : ∀ c, exec c s = .next (s.busRead ini a) → read c from
    ⟨H _ (exec_rsRead ha hal ini), H _ (exec_snapshotRead ha hal ini)⟩
  intro c run
  rw [State.busRead_reaches reach hr hidden] at run
  have single : r = .TILE_TEMP_MAX → i = 0 ∧ j = 0 := fun e => by
    have loc := State.locate_of_regOf hreg
    subst e
    exact Reg.locate_single rfl rfl loc
  have wf : spWf 0#32 (s.snapWords r τ i).regs = true := hs.regs
  refine ⟨_, run, rfl, ?_, fun q τ' i' j' hq => ?_, fun h0 => ?_, fun h0 hmax => ?_, fun hmax => ?_, fun q i' hq u hu => ?_⟩
  · rw [State.clearRead_frame]; rfl
  · exact State.treg_clearRead_other wf single (by simpa using hq)
  · rw [State.clearRead_keeps h0]; rfl
  · exact State.treg_clearRead_same wf h0 hmax τ i j
  · obtain ⟨rfl, rfl⟩ := single hmax
    subst hmax
    exact State.treg_clearRead_max wf τ
  · rw [State.clearRead_frame] at hu
    exact State.readWord_captured (x := (q, i')) hu hq

/-- Settles O20: wrong widths, empty addresses and missing paths end in the one address fault; a write in SRAM
stores its bytes. -/
theorem accessFaults : Obligations.AccessFaults := by
  unfold Obligations.AccessFaults
  intro s ini write a v hs ha hv
  refine ⟨fun n hn hodd hout => ?_, fun n o o' hn hodd h h' => ?_, fun hal hnone => ?_⟩
  · refine ⟨s.addrFault a, ?_, State.addrFault_addrFaulted a⟩
    rw [exec_misalignedAccess ha hn hodd, State.oddAccess_outside hout]
  · refine ⟨(s.sramWrite o (leBytes n v)).respond false 0, ?_, rfl, fun k hk => ?_, fun b hb => ?_⟩
    · rw [exec_misalignedAccess ha hn hodd, State.oddAccess_sram h h']
    · show (s.sramWrite o (leBytes n v)).sramByte (o + k) = _
      rw [State.sramByte_sramWrite hs.sram, leBytes_length, if_pos (by omega), Nat.add_sub_cancel_left, leBytes_getD n v k hk]
    · show (s.sramWrite o (leBytes n v)).sramByte b = _
      rw [State.sramByte_sramWrite hs.sram, leBytes_length, if_neg (by omega)]
  · refine ⟨s.addrFault a, ?_, State.addrFault_addrFaulted a⟩
    rw [exec_undefinedAddressAccess ha hal hv]
    rcases hnone with ht | ⟨hr, hc, tg, o, ht, hreg⟩ | ⟨tg, o, ht, hp⟩
    · rw [State.busAccess_no_target ht]
    · rw [State.busAccess_no_register ht hreg hr hc]
    · rw [State.busAccess_no_path ht hp]

end Sys2Proof.Machine
end

section
/-! PROOFS. What a read keeps (R8, R9, R413, R447): no register changes but those of `readRegs`, and by the flight routine
its status and the flags of a refusal. -/
set_option Elab.async false
namespace Sys2Proof.Machine

variable {Q : Kit} {s : State}

/-! ### What a read may change -/

/-- The registers that a read may change: those that it clears (R9), the words that a read captures, and the counts and
flags of what a memory meets. -/
def readRegs : List Reg :=
  Reg.all.filter (fun r => r.desc.rs != 0) ++
    [.MC_CS_DATA, .MC_CS_PAR, .PTP_TXTS_FRAC, .PTP_TXTS_NS, .PTP_TXTS_S_LO, .PTP_TXTS_S_HI, .PLV_MBOX_DATA, .PLV_STATUS,
      .CFG_STATUS, .DRAM_CE_CNT, .DRAM_UE_CNT, .DRAM_ERR_ADDR]

/-- The internal words and the fields of the state, as a set of bits. -/
def innerMask : Nat := 2 ^ 1071 - 2 ^ 512

/-- All that a read may change, as a set of bits; of internal words and fields it says nothing. -/
def readMask : Nat := regMask readRegs ||| innerMask

/-- A register that a read clears is one of them. -/
theorem readMask_of_rs {r : Reg} (h : r.desc.rs ≠ 0) : readMask.testBit r.ctorIdx = true := by
  have all : ∀ n < 512, (Reg.ofNat n).desc.rs ≠ 0 → readMask.testBit n = true := by decide +kernel
  exact all r.ctorIdx (Reg.ctorIdx_lt r) (by rwa [Reg.ofNat_ctorIdx])

theorem State.clearRead_keeps_of_readMask (h : s.Ok Q) (r : Reg) (t i j : Nat) (hw : Q.mask &&& readMask = 0) :
    (s.clearRead r t i j).Ok Q := by
  by_cases hrs : r.desc.rs = 0
  · rw [State.clearRead_keeps hrs]
    exact h
  · exact State.clearRead_ok h r t i j (Kit.bit hw (readMask_of_rs hrs)) (Kit.sub hw (by decide +kernel))

/-- An answer is the response of a read. -/
theorem State.respond_keeps (h : s.Ok Q) (e : Bool) (d : Nat) (hw : Q.mask &&& readMask = 0) : (s.respond e d).Ok Q :=
  State.respond_ok h e d (Kit.sub hw (by decide +kernel))

/-- A read of a register element changes no more than `readMask`. -/
theorem State.regRead_keeps (h : s.Ok Q) (ini : Initiator) (r : Reg) (t i j : Nat) (hw : Q.mask &&& readMask = 0) :
    (s.regRead ini r t i j).Ok Q := by
  unfold State.regRead
  split
  · exact State.respond_keeps h _ _ hw
  · split
    · split
      · exact State.csRead_ok h t (Kit.sub hw (by decide +kernel))
      · exact State.respond_keeps h _ _ hw
    · exact State.txtsRead_ok h i (Kit.sub hw (by decide +kernel))
    · exact State.mboxRead_ok h (Kit.sub hw (by decide +kernel))
    · have captured := State.snapWords_ok h r t i (Kit.bit hw (by decide +kernel))
      exact State.respond_keeps (State.clearRead_keeps_of_readMask captured r t i j hw) _ _ hw

/-- An aligned read of 32 bits changes no more than `readMask`, whatever it meets. -/
theorem State.busRead_keeps (h : s.Ok Q) (ini : Initiator) (a : Nat) (hw : Q.mask &&& readMask = 0) :
    (s.busRead ini a).Ok Q := by
  have fault : (s.addrFault a).Ok Q := State.addrFault_ok h a (Kit.sub hw (by decide +kernel))
  unfold State.busRead
  split
  · exact fault
  · next tg o _ =>
    refine ok_ite (fun _ => fault) (fun _ => ?_)
    cases tg with
    | rom | sram => exact State.respond_keeps h _ _ hw
    | dram =>
      dsimp only
      split
      · exact State.respond_keeps (State.dramError_ok h _ (Kit.sub hw (by decide +kernel))) _ _ hw
      · have met := State.dramMeet_ok h o 4 (Kit.sub hw (by decide +kernel))
        exact State.respond_keeps (ok_freeCtr met (Kit.bit hw (by decide +kernel))) _ _ hw
    | cfgb =>
      have read := State.bankRead_ok h o (Kit.sub hw (by decide +kernel))
      dsimp only
      split
      · exact State.respond_keeps read _ _ hw
      · exact State.respond_keeps read _ _ hw
    | reg | tile =>
      dsimp only
      split
      · split
        · exact State.respond_keeps h _ _ hw
        · exact fault
      · exact State.regRead_keeps h ini _ _ _ _ hw

/-! ### Commands that read -/

theorem execRsRead_keeps (h : s.Ok Q) (ini : Initiator) (a : Nat) (hw : Q.mask &&& readMask = 0) :
    OutOk Q (execRsRead ini a s) := okIf_ok (State.busRead_keeps h ini a hw)

theorem execSnapshotRead_keeps (h : s.Ok Q) (ini : Initiator) (a : Nat) (hw : Q.mask &&& readMask = 0) :
    OutOk Q (execSnapshotRead ini a s) := okIf_ok (State.busRead_keeps h ini a hw)

/-- A burst that reads (R447) reads a register or memory, or is turned away. -/
theorem State.burstRead_keeps (h : s.Ok Q) (l a n : Nat) (hw : Q.mask &&& readMask = 0) :
    (s.burstRead l a n).2.2.Ok Q := by
  have register := State.busRead_keeps h (plvIni l) a hw
  have memory := State.memGet_ok h .plv a n (Kit.sub hw (by decide +kernel))
  unfold State.burstRead
  refine ok_ite_thd (fun _ => State.burstBad_ok h a n (Kit.sub hw (by decide +kernel))) (fun _ => ?_)
  refine ok_ite_thd (fun _ => ok_ite_thd (fun _ => register) (fun _ => register)) (fun _ => ?_)
  split
  · next e => exact ok_snd e memory
  · next e => exact ok_snd e memory

theorem execPlvRead_keeps (h : s.Ok Q) (l tag a n : Nat) (hw : Q.mask &&& readMask = 0) :
    OutOk Q (execPlvRead l tag a n s) := by
  have accepted := State.plvAccept_ok h l 1 0 (Kit.sub hw (by decide +kernel))
  have read := State.burstRead_keeps accepted l a n hw
  exact okIf_ok (ok_ite (fun _ => State.complete_ok read l tag _ _ (Kit.sub hw (by decide +kernel))) (fun _ => h))

/-! ### The flight routine (R413) -/

theorem State.flightWord_keeps (h : s.Ok Q) (a : Nat) (hw : Q.mask &&& readMask = 0) : (s.flightWord a).2.Ok Q := by
  unfold State.flightWord
  split
  · split
    · exact h
    · exact State.addrLog_ok h a (Kit.sub hw (by decide +kernel))
  · exact ok_resp (State.regRead_keeps h .core _ _ _ _ hw) (Kit.bit hw (by decide +kernel))

theorem State.flightWords_keeps (h : s.Ok Q) (a n : Nat) (hw : Q.mask &&& readMask = 0) : (s.flightWords a n).2.Ok Q := by
  induction n generalizing s a with
  | zero => exact h
  | succ n ih => exact ih (State.flightWord_keeps h a hw) (a + 4)

theorem State.flightRuns_keeps (h : s.Ok Q) (runs : List (Nat × Nat)) (hw : Q.mask &&& readMask = 0) :
    (s.flightRuns runs).2.Ok Q := by
  induction runs generalizing s with
  | nil => exact h
  | cons run runs ih => exact ih (State.flightWords_keeps h run.1 run.2 hw)

theorem State.flightSecs_keeps (h : s.Ok Q) (runs : List (Nat × Nat)) (hw : Q.mask &&& readMask = 0) :
    (s.flightSecs runs).2.Ok Q := State.flightRuns_keeps (State.flightRuns_keeps h runs hw) _ hw

/-- The flight routine reads registers, and at its end writes FLT_REC_CMD, which may be refused. -/
def flightMask : Nat := readMask ||| regMask
  [.FLT_REC_STATUS, .DRV_STATUS, .HTR_STATUS, .TRIM_STATUS, .WEAR_STATUS, .ADC_STATUS, .LOOP_STATUS, .PRF_STATUS,
    .DDS_STATUS, .SWP_STATUS, .SLOT_STATUS, .PTP_STATUS, .SIG_REQ_STATUS, .FWD_STATUS, .LPM_STATUS, .POL_STATUS,
    .MOVE_STATUS, .CAL_STATUS, .THM_STATUS, .RED_TSTATUS, .RED_STATUS, .FLT_STATUS, .EVT_STATUS, .MMU_STATUS]

theorem State.flightDone_keeps (h : s.Ok Q) (hw : Q.mask &&& flightMask = 0) : s.flightDone.Ok Q := by
  have read := State.flightSecs_keeps h globalRuns (Kit.sub hw (by decide +kernel))
  have dram := State.flightDram_ok read (s.flightSecs globalRuns).1 (Kit.sub hw (by decide +kernel))
  have flash := State.flightNvm_ok dram (s.flightSecs globalRuns).1 (Kit.sub hw (by decide +kernel))
  have ended := State.setFlag_ok flash .flightRun false 0 0 0 (Kit.bit hw (by decide +kernel))
  exact ok_ite (fun _ => State.recCmdWrite_ok ended 1 (Kit.sub hw (by decide +kernel))) (fun _ => ended)

theorem execFltRecDone_keeps (h : s.Ok Q) (hw : Q.mask &&& flightMask = 0) : OutOk Q (execFltRecDone s) :=
  okIf_ok (ok_ite (fun _ => State.flightDone_keeps h hw) (fun _ => h))

end Sys2Proof.Machine
end

section
/-! PROOFS. What every command keeps: one law for the dispatch, from the laws of the commands. -/
set_option Elab.async false
namespace Sys2Proof.Machine

variable {Q : Kit} {s : State}

/-- Everything but the map of the fabric, as a set of bits. -/
def offMapMask : Nat := otherMask [.CFG_FMAP] ||| innerMask

/-- Every command keeps soundness and the queue; a command that is no reset, applies no image and writes no register of
someone's choice keeps the map of the fabric as well. -/
theorem exec_ok (h : s.Ok Q) (hm : Q.anyMode) (ht : Q.anyTime) (hw : Q.mask &&& offMapMask = 0) (c : Instr)
    (hg : isReset c = true → Q.g = none) (hr : (isReset c || writesAny c) = true → Q.bare)
    (hz : (isReset c || bootApplies c || writesAny c) = true → Q.mask = 0) : OutOk Q (exec c s) := by
  cases c with
  | powerOnReset straps low => exact execPowerOnReset_ok h (hr rfl) (hg rfl) straps low (hz rfl)
  | powerLoss cut => exact execPowerLoss_ok h (hr rfl) (hg rfl) cut (hz rfl)
  | resetNAsserted => exact execResetNAsserted_ok h (hr rfl) (hz rfl)
  | resetNReleased straps => exact execResetNReleased_ok h ht straps (Kit.sub hw (by decide +kernel))
  | resetCmd ini => exact execResetCmd_ok h (hr rfl) ini (hz rfl)
  | thermalRestart => exact execThermalRestart_ok h (hr rfl) (hz rfl)
  | flashDiscoveryDone found errA errB =>
    exact execFlashDiscoveryDone_ok h found errA errB (Kit.sub hw (by decide +kernel))
  | dramTrainingDone mask err => exact execDramTrainingDone_ok h mask err (hz rfl)
  | imageStreamDone err => exact execImageStreamDone_ok h err (hz rfl)
  | ledgerRebuildDone ok bad => exact execLedgerRebuildDone_ok h (hr rfl) ok bad (hz rfl)
  | selfTestDone ok failU failO skew =>
    exact execSelfTestDone_ok h hm ok failU failO skew (Kit.sub hw (by decide +kernel))
  | bootArm => exact execBootArm_ok h (Kit.sub hw (by decide +kernel))
  | holdReqNAsserted => exact execHoldReqNAsserted_ok h hm (Kit.sub hw (by decide +kernel))
  | holdReqNDeasserted => exact execHoldReqNDeasserted_ok h hm (Kit.sub hw (by decide +kernel))
  | holdReleaseBoundary => exact execHoldReleaseBoundary_ok h hm (Kit.sub hw (by decide +kernel))
  | modeCmdCharacterise ini => exact execModeCmdCharacterise_ok h (hr rfl) ini (hz rfl)
  | modeCmdStatic ini => exact execModeCmdStatic_ok h (hr rfl) ini (hz rfl)
  | deviceHoldCmd ini => exact execDeviceHoldCmd_ok h (hr rfl) ini (hz rfl)
  | deviceReleaseCmd ini => exact execDeviceReleaseCmd_ok h (hr rfl) ini (hz rfl)
  | bootSlot ini slot => exact execBootSlot_ok h (hr rfl) ini slot (hz rfl)
  | nvmRead ini off n lo hi => exact execNvmRead_ok h (hr rfl) ini off n lo hi (hz rfl)
  | nvmWrite ini off n lo hi => exact execNvmWrite_ok h (hr rfl) ini off n lo hi (hz rfl)
  | nvmErase ini off n => exact execNvmErase_ok h (hr rfl) ini off n (hz rfl)
  | imgCheck ini slot => exact execImgCheck_ok h (hr rfl) ini slot (hz rfl)
  | fuseSvn ini => exact execFuseSvn_ok h (hr rfl) ini (hz rfl)
  | fuseRevoke0 ini => exact execFuseRevoke0_ok h (hr rfl) ini (hz rfl)
  | deviceCommandDone done err => exact execDeviceCommandDone_ok h done err (Kit.sub hw (by decide +kernel))
  | mgtCmdBusyWrite ini value => exact execMgtCmdBusyWrite_ok h (hr rfl) ini value (hz rfl)
  | mgmtCommandFrame port frame => exact execMgmtCommandFrame_ok h (hr rfl) port frame (hz rfl)
  | registerWrite ini addr value => exact execRegisterWrite_ok h (hr rfl) ini addr value (hz rfl)
  | misalignedAccess ini write addr width value =>
    exact execMisalignedAccess_ok h ini write addr width value (Kit.sub hw (by decide +kernel))
  | undefinedAddressAccess ini write addr value =>
    exact execUndefinedAddressAccess_ok h (hr rfl) ini write addr value (hz rfl)
  | rsRead ini addr => exact execRsRead_keeps h ini addr (Kit.sub hw (by decide +kernel))
  | snapshotRead ini addr => exact execSnapshotRead_keeps h ini addr (Kit.sub hw (by decide +kernel))
  | spanBoundary hbU hbO => exact execSpanBoundary_ok h hbU hbO (Kit.sub hw (by decide +kernel))
  | programGrain tile half g ix perr => exact execProgramGrain_ok h tile half g ix perr (Kit.sub hw (by decide +kernel))
  | heartbeatReceived tile half second =>
    exact execHeartbeatReceived_ok h tile half second (Kit.sub hw (by decide +kernel))
  | tokenDecision tile ilkU ilkO verdict =>
    exact execTokenDecision_ok h tile ilkU ilkO verdict (Kit.sub hw (by decide +kernel))
  | conversionComplete tile conv slot code ok done volt =>
    exact execConversionComplete_ok h tile conv slot code ok done volt (Kit.sub hw (by decide +kernel))
  | sampleDelivered tile conv => exact execSampleDelivered_ok h tile conv (Kit.sub hw (by decide +kernel))
  | refReady tile => exact execRefReady_ok h tile (Kit.sub hw (by decide +kernel))
  | syscalDark tile avg => exact execSyscalDark_ok h tile avg (Kit.sub hw (by decide +kernel))
  | syscalGainInject tile avg => exact execSyscalGainInject_ok h tile avg (Kit.sub hw (by decide +kernel))
  | syscalGainIllum tile avg => exact execSyscalGainIllum_ok h tile avg (Kit.sub hw (by decide +kernel))
  | syscalAccept tile avg => exact execSyscalAccept_ok h tile avg (Kit.sub hw (by decide +kernel))
  | syscalDone tile => exact execSyscalDone_ok h tile (Kit.sub hw (by decide +kernel))
  | owtAutoStart tile => exact execOwtAutoStart_ok h tile (Kit.sub hw (by decide +kernel))
  | adcOwtCmd tile input down => exact execAdcOwtCmd_ok h tile input down (Kit.sub hw (by decide +kernel))
  | captureRecordWritten ring => exact execCaptureRecordWritten_ok h ring (Kit.sub hw (by decide +kernel))
  | captureRingEnable ring => exact execCaptureRingEnable_ok h ring (Kit.sub hw (by decide +kernel))
  | configBroadcast ce ue => exact execConfigBroadcast_ok h ce ue (Kit.sub hw (by decide +kernel))
  | shadowDeadline bad => exact execShadowDeadline_ok h bad (Kit.sub hw (by decide +kernel))
  | commitDecisionPoint agree => exact execCommitDecisionPoint_ok h agree (Kit.sub hw (by decide +kernel))
  | commitStrobeEdge missU missO => exact execCommitStrobeEdge_ok h missU missO (Kit.sub hw (by decide +kernel))
  | guardedGroupLoad group => exact execGuardedGroupLoad_ok h group (Kit.sub hw (by decide +kernel))
  | legDeparture tile ch legB => exact execLegDeparture_ok h tile ch legB (Kit.sub hw (by decide +kernel))
  | heaterSliceFail tile ch => exact execHeaterSliceFail_ok h tile ch (Kit.sub hw (by decide +kernel))
  | htrSwap tile spare ch => exact execHtrSwap_ok h tile spare ch (Kit.sub hw (by decide +kernel))
  | currentMeasurement tile k current volt =>
    exact execCurrentMeasurement_ok h tile k current volt (Kit.sub hw (by decide +kernel))
  | monitorScanEnd tile => exact execMonitorScanEnd_ok h tile (Kit.sub hw (by decide +kernel))
  | slotSkewApplyWrite value => exact execSlotSkewApplyWrite_ok h value (Kit.sub hw (by decide +kernel))
  | trimPulseStart tile => exact execTrimPulseStart_ok h tile (Kit.sub hw (by decide +kernel))
  | trimPulseEnd tile => exact execTrimPulseEnd_ok h tile (Kit.sub hw (by decide +kernel))
  | trimCmdPulse tile ch up set => exact execTrimCmdPulse_ok h tile ch up set (Kit.sub hw (by decide +kernel))
  | trimCmdTrain tile ch up => exact execTrimCmdTrain_ok h tile ch up (Kit.sub hw (by decide +kernel))
  | trimCmdAssign tile ch tap => exact execTrimCmdAssign_ok h tile ch tap (Kit.sub hw (by decide +kernel))
  | trimTsetWrite tile set edge value =>
    exact execTrimTsetWrite_ok h tile set edge value (Kit.sub hw (by decide +kernel))
  | wearRecordDurable ok => exact execWearRecordDurable_ok h ok (Kit.sub hw (by decide +kernel))
  | logCompactionDone => exact execLogCompactionDone_ok h (Kit.sub hw (by decide +kernel))
  | ageTick => exact execAgeTick_ok h (Kit.sub hw (by decide +kernel))
  | wearQuery cell => exact execWearQuery_ok h cell (Kit.sub hw (by decide +kernel))
  | wearQueryDone => exact execWearQueryDone_ok h (Kit.sub hw (by decide +kernel))
  | correctionBlockFetch pend pos => exact execCorrectionBlockFetch_ok h pend pos (Kit.sub hw (by decide +kernel))
  | correctionBlockArrival pend tile pos =>
    exact execCorrectionBlockArrival_ok h pend tile pos (Kit.sub hw (by decide +kernel))
  | correctionBlockDeadline pend pos => exact execCorrectionBlockDeadline_ok h pend pos (Kit.sub hw (by decide +kernel))
  | ddsSwap tile => exact execDdsSwap_ok h tile (Kit.sub hw (by decide +kernel))
  | swpCmdStart seg => exact execSwpCmdStart_ok h seg (Kit.sub hw (by decide +kernel))
  | swpCmdStop seg => exact execSwpCmdStop_ok h seg (Kit.sub hw (by decide +kernel))
  | swpCmdResume seg => exact execSwpCmdResume_ok h seg (Kit.sub hw (by decide +kernel))
  | swpJumpWrite seg => exact execSwpJumpWrite_ok h seg (Kit.sub hw (by decide +kernel))
  | outputInstant => exact execOutputInstant_ok h (Kit.sub hw (by decide +kernel))
  | sweepFrameArrival seg first n => exact execSweepFrameArrival_ok h seg first n (Kit.sub hw (by decide +kernel))
  | mcLoadStart => exact execMcLoadStart_ok h (Kit.sub hw (by decide +kernel))
  | mcLoadDone bad => exact execMcLoadDone_ok h bad (Kit.sub hw (by decide +kernel))
  | controlStoreRead tile => exact execControlStoreRead_ok h tile (Kit.sub hw (by decide +kernel))
  | cfgCommit bank guard => exact execCfgCommit_ok h bank guard (Kit.sub hw (by decide +kernel))
  | slotArm => exact execSlotArm_ok h (Kit.sub hw (by decide +kernel))
  | armValidationDone => exact execArmValidationDone_ok h (Kit.sub hw (by decide +kernel))
  | slotDisarm => exact execSlotDisarm_ok h (Kit.sub hw (by decide +kernel))
  | slotStop bank guard atEnd => exact execSlotStop_ok h bank guard atEnd (Kit.sub hw (by decide +kernel))
  | boundaryFixGrain => exact execBoundaryFixGrain_ok h (Kit.sub hw (by decide +kernel))
  | slotBoundary => exact execSlotBoundary_ok h hm (Kit.sub hw (by decide +kernel))
  | stagingCopyArrival mem place => exact execStagingCopyArrival_ok h mem place (Kit.sub hw (by decide +kernel))
  | rteSolve => exact execRteSolve_ok h (Kit.sub hw (by decide +kernel))
  | rteAdd => exact execRteAdd_ok h (Kit.sub hw (by decide +kernel))
  | rteDrop => exact execRteDrop_ok h (Kit.sub hw (by decide +kernel))
  | rteShutmask => exact execRteShutmask_ok h (Kit.sub hw (by decide +kernel))
  | rteTrace => exact execRteTrace_ok h (Kit.sub hw (by decide +kernel))
  | rteExtract => exact execRteExtract_ok h (Kit.sub hw (by decide +kernel))
  | rteMark => exact execRteMark_ok h (Kit.sub hw (by decide +kernel))
  | routeSolverDone cycles => exact execRouteSolverDone_ok h cycles (Kit.sub hw (by decide +kernel))
  | ptpStep => exact execPtpStep_ok h ht (Kit.sub hw (by decide +kernel))
  | ptpAdj => exact execPtpAdj_ok h ht (Kit.sub hw (by decide +kernel))
  | macTimeSettled => exact execMacTimeSettled_ok h (Kit.sub hw (by decide +kernel))
  | ptpIncrFracWrite value => exact execPtpIncrFracWrite_ok h value (Kit.sub hw (by decide +kernel))
  | ptpIncrNsWrite value => exact execPtpIncrNsWrite_ok h value (Kit.sub hw (by decide +kernel))
  | servoOffsetWrite value => exact execServoOffsetWrite_ok h value (Kit.sub hw (by decide +kernel))
  | servoSilence => exact execServoSilence_ok h (Kit.sub hw (by decide +kernel))
  | ppsInEdge edge => exact execPpsInEdge_ok h edge (Kit.sub hw (by decide +kernel))
  | ppsLoss => exact execPpsLoss_ok h (Kit.sub hw (by decide +kernel))
  | ppsOutRise => exact execPpsOutRise_ok h (Kit.sub hw (by decide +kernel))
  | ppsOutFall => exact execPpsOutFall_ok h (Kit.sub hw (by decide +kernel))
  | txtsFifoRead port => exact execTxtsFifoRead_ok h port (Kit.sub hw (by decide +kernel))
  | portLinkChange port up var => exact execPortLinkChange_ok h port up var (Kit.sub hw (by decide +kernel))
  | frameReceive port frame stamp cw unc =>
    exact execFrameReceive_ok h port frame stamp cw unc (Kit.sub hw (by decide +kernel))
  | egressFrameStart port stamp => exact execEgressFrameStart_ok h port stamp (Kit.sub hw (by decide +kernel))
  | portMTxSubmit wp => exact execPortMTxSubmit_ok h wp (Kit.sub hw (by decide +kernel))
  | learnRequestApply pipe => exact execLearnRequestApply_ok h pipe (Kit.sub hw (by decide +kernel))
  | flapWindowClose pipe pos => exact execFlapWindowClose_ok h pipe pos (Kit.sub hw (by decide +kernel))
  | flapHoldExpiry pipe pos => exact execFlapHoldExpiry_ok h pipe pos (Kit.sub hw (by decide +kernel))
  | ageSweep pipe pos => exact execAgeSweep_ok h pipe pos (Kit.sub hw (by decide +kernel))
  | fwdSearch pipe => exact execFwdSearch_ok h pipe (Kit.sub hw (by decide +kernel))
  | fwdNext pipe => exact execFwdNext_ok h pipe (Kit.sub hw (by decide +kernel))
  | fwdFlushPort pipe => exact execFwdFlushPort_ok h pipe (Kit.sub hw (by decide +kernel))
  | fwdBulkLoad pipe => exact execFwdBulkLoad_ok h pipe (Kit.sub hw (by decide +kernel))
  | fwdCmdDone pipe => exact execFwdCmdDone_ok h pipe (Kit.sub hw (by decide +kernel))
  | lpmInsert => exact execLpmInsert_ok h (Kit.sub hw (by decide +kernel))
  | lpmDelete => exact execLpmDelete_ok h (Kit.sub hw (by decide +kernel))
  | lpmLookup => exact execLpmLookup_ok h (Kit.sub hw (by decide +kernel))
  | lpmCmdDone => exact execLpmCmdDone_ok h (Kit.sub hw (by decide +kernel))
  | circuitSetup => exact execCircuitSetup_ok h (Kit.sub hw (by decide +kernel))
  | circuitRelease => exact execCircuitRelease_ok h (Kit.sub hw (by decide +kernel))
  | circuitQuery => exact execCircuitQuery_ok h (Kit.sub hw (by decide +kernel))
  | engineCommitRetry => exact execEngineCommitRetry_ok h (Kit.sub hw (by decide +kernel))
  | trafficTick => exact execTrafficTick_ok h (Kit.sub hw (by decide +kernel))
  | moveTick => exact execMoveTick_ok h (Kit.sub hw (by decide +kernel))
  | meterEnable meter value => exact execMeterEnable_ok h meter value (Kit.sub hw (by decide +kernel))
  | shaperUpdate port queue value => exact execShaperUpdate_ok h port queue value (Kit.sub hw (by decide +kernel))
  | moveCharge port wearok => exact execMoveCharge_ok h port wearok (Kit.sub hw (by decide +kernel))
  | movePeek port wearok => exact execMovePeek_ok h port wearok (Kit.sub hw (by decide +kernel))
  | movePortWrite port value => exact execMovePortWrite_ok h port value (Kit.sub hw (by decide +kernel))
  | calStart => exact execCalStart_ok h (Kit.sub hw (by decide +kernel))
  | calAbort => exact execCalAbort_ok h (Kit.sub hw (by decide +kernel))
  | calTriggerCheck => exact execCalTriggerCheck_ok h (Kit.sub hw (by decide +kernel))
  | campaignPendingStart => exact execCampaignPendingStart_ok h (Kit.sub hw (by decide +kernel))
  | comparatorBlockDone tile conv ones =>
    exact execComparatorBlockDone_ok h tile conv ones (Kit.sub hw (by decide +kernel))
  | probeMarker tile tree late => exact execProbeMarker_ok h tile tree late (Kit.sub hw (by decide +kernel))
  | measureTimeout tile => exact execMeasureTimeout_ok h tile (Kit.sub hw (by decide +kernel))
  | tempReading tile raw => exact execTempReading_ok h tile raw (Kit.sub hw (by decide +kernel))
  | modelStep => exact execModelStep_ok h (Kit.sub hw (by decide +kernel))
  | railSample rail mv => exact execRailSample_ok h rail mv (Kit.sub hw (by decide +kernel))
  | ringOscCount tile count => exact execRingOscCount_ok h tile count (Kit.sub hw (by decide +kernel))
  | tileHoldCmd tile => exact execTileHoldCmd_ok h tile (Kit.sub hw (by decide +kernel))
  | tileReleaseCmd tile => exact execTileReleaseCmd_ok h tile (Kit.sub hw (by decide +kernel))
  | tileRejoin tile halves => exact execTileRejoin_ok h tile halves (Kit.sub hw (by decide +kernel))
  | tileRestart tile halves => exact execTileRestart_ok h tile halves (Kit.sub hw (by decide +kernel))
  | tileDisable tile halves => exact execTileDisable_ok h tile halves (Kit.sub hw (by decide +kernel))
  | tileSwap tile => exact execTileSwap_ok h tile (Kit.sub hw (by decide +kernel))
  | slotTimerRejoin halves => exact execSlotTimerRejoin_ok h halves (Kit.sub hw (by decide +kernel))
  | slotTimerSwap => exact execSlotTimerSwap_ok h (Kit.sub hw (by decide +kernel))
  | lockstepMismatch => exact execLockstepMismatch_ok h (Kit.sub hw (by decide +kernel))
  | watchdogExpiry => exact execWatchdogExpiry_ok h (Kit.sub hw (by decide +kernel))
  | mgtHeartbeatWrite => exact execMgtHeartbeatWrite_ok h (Kit.sub hw (by decide +kernel))
  | faultMessageAccept => exact execFaultMessageAccept_ok h hm (Kit.sub hw (by decide +kernel))
  | fltAckOne seq => exact execFltAckOne_ok h seq (Kit.sub hw (by decide +kernel))
  | fltAckAll => exact execFltAckAll_ok h (Kit.sub hw (by decide +kernel))
  | sableEntry => exact execSableEntry_ok h hm (Kit.sub hw (by decide +kernel))
  | fltRecDone => exact execFltRecDone_keeps h (Kit.sub hw (by decide +kernel))
  | fltRecUnfreeze => exact execFltRecUnfreeze_ok h (Kit.sub hw (by decide +kernel))
  | eventRouting => exact execEventRouting_ok h (Kit.sub hw (by decide +kernel))
  | relayInput relay => exact execRelayInput_ok h relay (Kit.sub hw (by decide +kernel))
  | swpStartInput => exact execSwpStartInput_ok h (Kit.sub hw (by decide +kernel))
  | swpStopInput => exact execSwpStopInput_ok h (Kit.sub hw (by decide +kernel))
  | calStartInput => exact execCalStartInput_ok h (Kit.sub hw (by decide +kernel))
  | dmaTrigInput ch => exact execDmaTrigInput_ok h ch (Kit.sub hw (by decide +kernel))
  | hostMessageInput k => exact execHostMessageInput_ok h k (Kit.sub hw (by decide +kernel))
  | interruptTake irq => exact execInterruptTake_ok h irq (Kit.sub hw (by decide +kernel))
  | softwarePublish ini k => exact execSoftwarePublish_ok h ini k (Kit.sub hw (by decide +kernel))
  | eventEntryWrite ini input index value =>
    exact execEventEntryWrite_ok h ini input index value (Kit.sub hw (by decide +kernel))
  | mgtRemapWrite ini value => exact execMgtRemapWrite_ok h (hr rfl) ini value (hz rfl)
  | dmaStart ch => exact execDmaStart_ok h ch (Kit.sub hw (by decide +kernel))
  | dmaResume ch => exact execDmaResume_ok h ch (Kit.sub hw (by decide +kernel))
  | dmaAbort ch => exact execDmaAbort_ok h ch (Kit.sub hw (by decide +kernel))
  | dmaUnitIssue => exact execDmaUnitIssue_ok h (Kit.sub hw (by decide +kernel))
  | dmaUnitComplete ch => exact execDmaUnitComplete_ok h ch (Kit.sub hw (by decide +kernel))
  | mmuInvAll => exact execMmuInvAll_ok h (Kit.sub hw (by decide +kernel))
  | mmuInvStream stream => exact execMmuInvStream_ok h stream (Kit.sub hw (by decide +kernel))
  | mmuInvPage stream => exact execMmuInvPage_ok h stream (Kit.sub hw (by decide +kernel))
  | dqsTracking => exact execDqsTracking_ok h
  | patrolScrub word err => exact execPatrolScrub_ok h word err (Kit.sub hw (by decide +kernel))
  | plovomLinkState link v lanes => exact execPlovomLinkState_ok h link v lanes (Kit.sub hw (by decide +kernel))
  | plvRead link tag addr len => exact execPlvRead_keeps h link tag addr len (Kit.sub hw (by decide +kernel))
  | plvWrite link tag addr data => exact execPlvWrite_ok h (hr rfl) link tag addr data (hz rfl)
  | plvPwrite link addr data => exact execPlvPwrite_ok h (hr rfl) link addr data (hz rfl)
  | plvMsg link index data => exact execPlvMsg_ok h link index data (Kit.sub hw (by decide +kernel))
  | plvCpl link tag status data => exact execPlvCpl_ok h link tag status data (Kit.sub hw (by decide +kernel))
  | plvAck link seq => exact execPlvAck_ok h link seq (Kit.sub hw (by decide +kernel))
  | plvNak link seq => exact execPlvNak_ok h link seq (Kit.sub hw (by decide +kernel))
  | plvCredit link p np cpl => exact execPlvCredit_ok h link p np cpl (Kit.sub hw (by decide +kernel))
  | plvInit link p np cpl => exact execPlvInit_ok h link p np cpl (Kit.sub hw (by decide +kernel))
  | plvBadFrame link crc => exact execPlvBadFrame_ok h link crc (Kit.sub hw (by decide +kernel))
  | plvReplayTimeout link => exact execPlvReplayTimeout_ok h link (Kit.sub hw (by decide +kernel))
  | dmaRdTimeout link tag => exact execDmaRdTimeout_ok h link tag (Kit.sub hw (by decide +kernel))
  | plvMboxRead => exact execPlvMboxRead_ok h (Kit.sub hw (by decide +kernel))
  | tapInstruction ir => exact execTapInstruction_ok h ir (Kit.sub hw (by decide +kernel))

end Sys2Proof.Machine
end

section
/-! PROOFS. The statement about the map of the fabric (R65): what keeps CFG_FMAP, and writes of a register that has only
read-only bits. -/
set_option Elab.async false
namespace Sys2Proof.Machine

variable {s : State}

/-- A write leaves a word of which no bit is writable and none clears by a 1 (R9). -/
theorem writtenWord_readOnly {d : RegDesc} (hrw : d.rw = 0) (hw1c : d.w1c = 0) (was old v : Nat) :
    writtenWord d was old v = old := by
  simp [writtenWord, andNot, hrw, hw1c]

/-- Writing to a register element what it holds leaves every register. -/
theorem State.treg_setTreg_self (h : spWf 0#32 s.regs = true) (r : Reg) (t i j : Nat) (q : Reg) (t' i' j' : Nat) :
    (s.setTreg r t (s.treg r t i j) i j).treg q t' i' j' = s.treg q t' i' j' := by
  rw [State.treg_setTreg s h]
  split
  · next e =>
    obtain ⟨rfl, ht, hi, hj⟩ := e
    have place : q.key t' i' j' = q.key t i j := by unfold Reg.key; rw [ht, hi, hj]
    rw [treg_mod, State.treg, State.treg, place]
  · rfl

/-- A write that reaches a read-only register changes no register: none of its bits is locked, and none takes a value. -/
theorem State.treg_busWrite_readOnly (h : spWf 0#32 s.regs = true) {ini : Initiator} {a v : Nat} {r : Reg} {τ i j : Nat}
    (reach : s.reaches ini a r τ i j true) (hv : v < 2 ^ 32) (hacts : r ∉ actingRegs) (hcore : coreOnly r = false)
    (hrw : r.desc.rw = 0) (hrwl : r.desc.rwl = 0) (hw1c : r.desc.w1c = 0) (hok : s.valueOk r i v = true)
    (q : Reg) (t' i' j' : Nat) : (s.busWrite ini a v).treg q t' i' j' = s.treg q t' i' j' := by
  have unlocked : ¬s.writeLocked r τ i j v := fun locked => locked.1 hrwl
  rw [State.busWrite_reaches reach hv, State.treg_respond, State.treg_snapDrop,
    State.regWrite_loads hacts (fun c => nomatch hcore.symm.trans c), State.plainWrite_taken unlocked hok,
    State.treg_putWord, writtenWord_readOnly hrw hw1c, State.treg_setTreg_self h]

/-- Settles O22: a kit that names CFG_FMAP alone, kept by every command but the excluded ones; CFG_FMAP has only
read-only bits. -/
theorem fabricMapStands : Obligations.FabricMapStands := by
  unfold Obligations.FabricMapStands
  refine ⟨fun c s t hs run hreset hboot hany n => ?_, fun s ini a v n hs hv reach => ?_⟩
  · have free : regMask [.CFG_FMAP] &&& offMapMask = 0 := by decide +kernel
    have kept := exec_ok (State.ok_self hs (regMask [.CFG_FMAP])) (.inl rfl) rfl free c (fun _ => rfl)
      (fun _ => ⟨rfl, rfl, rfl⟩) (fun e => by simp [hreset, hboot, hany] at e) t run
    have named : (regMask [.CFG_FMAP]).testBit Reg.CFG_FMAP.ctorIdx = true := by decide +kernel
    exact kept.1.kregs .CFG_FMAP named 0 n 0
  · have ⟨ha, hal, _⟩ := reach
    exact ⟨_, exec_registerWrite ha hal hv ini, fun k => State.treg_busWrite_readOnly hs.regs reach hv
      (by decide) rfl rfl rfl rfl rfl .CFG_FMAP 0 k 0⟩

end Sys2Proof.Machine
end

section
/-! PROOFS. The sweep player and the swap of dither lists (R188, R190 to R196): what each of the player's operations
leaves, and the statement about them. -/
set_option Elab.async false
namespace Sys2Proof.Machine

variable {s t : State}

/-! ### Fields of a register after a write -/

/-- A word is written back whole when one of its fields is replaced. -/
theorem State.treg_setField (h : spWf 0#32 s.regs = true) (r : Reg) {τ hi lo v i j : Nat} (hlo : lo ≤ hi + 1) (hhi : hi < 32) :
    (s.setTreg r τ (setBits (s.treg r τ i j) hi lo v) i j).treg r τ i j = setBits (s.treg r τ i j) hi lo v := by
  rw [State.treg_setTreg_same s h, Nat.mod_eq_of_lt (setBits_lt (treg_lt s r τ i j) hlo hhi)]

/-- The bit written reads what was written, and the other bits of the word read what they read. -/
theorem State.tbit_setTbit (h : spWf 0#32 s.regs = true) (r : Reg) {τ b : Nat} (hb : b < 32) (v : Bool) (k : Nat) :
    (s.setTbit r τ b v).tbit r τ k = if k = b then v else s.tbit r τ k := by
  unfold State.tbit State.setTbit State.setTfld
  rw [State.treg_setField h r (by omega) hb]
  exact bit_setBit _ _ _ _

/-- A field below the one that is replaced reads what it read. -/
theorem bits_setBits_above {n hi lo hi' lo' v : Nat} (h : lo' ≤ hi' + 1) (apart : hi < lo') :
    bits (setBits n hi' lo' v) hi lo = bits n hi lo := by
  apply Nat.eq_of_testBit_eq
  intro k
  unfold bits
  rw [Nat.testBit_mod_two_pow, Nat.testBit_mod_two_pow, Nat.testBit_shiftRight, Nat.testBit_shiftRight,
    testBit_setBits _ _ _ _ _ h]
  by_cases inside : k < hi + 1 - lo
  · rw [if_pos (by omega)]
  · simp [inside]

/-- What two states in turn leave alone. -/
theorem State.otherRegs.trans {u : State} {rs qs : List Reg} (h : t.otherRegs u rs) (h' : u.otherRegs s qs) :
    t.otherRegs s (qs ++ rs) := fun r hr τ i j => by
  rw [List.mem_append, not_or] at hr
  exact (h r hr.2 τ i j).trans (h' r hr.1 τ i j)

/-- A register write stays within a list of registers that names it. -/
theorem State.otherRegs.setTreg {rs : List Reg} (h : t.otherRegs s rs) (wf : spWf 0#32 t.regs = true) {r : Reg} (hr : r ∈ rs)
    (τ v i j : Nat) : (t.setTreg r τ v i j).otherRegs s rs := fun q hq τ' i' j' =>
  (State.treg_setTreg_ne t wf _ _ _ _ _ _ _ fun e => hq (by rw [e]; exact hr)).trans (h q hq τ' i' j')

/-- A register write changes one place. -/
theorem State.regsAs_setTreg (h : spWf 0#32 s.regs = true) (r : Reg) (τ v i j : Nat) :
    (s.setTreg r τ v i j).regsAs s [r.key τ i j] := fun _ _ _ _ hk =>
  State.treg_setTreg_other s h v (fun e => hk (by rw [e]; exact List.mem_cons_self))

/-! ### Folds over 0..n-1 -/

theorem forUpto_succ {σ : Type} (n : Nat) (a : σ) (f : Nat → σ → σ) : forUpto (n + 1) a f = f n (forUpto n a f) := by
  unfold forUpto
  rw [List.range_succ, List.foldl_append]
  rfl

/-- What holds at the start and is kept by every pass holds at the end. -/
theorem forUpto_induct {σ : Type} {n : Nat} {a : σ} {f : Nat → σ → σ} (P : Nat → σ → Prop) (start : P 0 a)
    (pass : ∀ i b, i < n → P i b → P (i + 1) (f i b)) : P n (forUpto n a f) := by
  induction n with
  | zero => exact start
  | succ n ih =>
    rw [forUpto_succ]
    exact pass n _ n.lt_succ_self (ih fun i b hi => pass i b (Nat.lt_succ_of_lt hi))

/-- Passes that write registers alone. -/
theorem forUpto_regs {f : Nat → State → State} (hf : ∀ i u, f i u = { u with regs := (f i u).regs }) (n : Nat) (s : State) :
    forUpto n s f = { s with regs := (forUpto n s f).regs } :=
  forUpto_induct (fun _ (u : State) => u = { s with regs := u.regs }) rfl fun i u _ hu => by
    have e := hf i u
    rw [hu] at e ⊢
    exact e

/-- Passes that write internal words alone. -/
theorem forUpto_lats {f : Nat → State → State} (hf : ∀ i u, f i u = { u with lats := (f i u).lats }) (n : Nat) (s : State) :
    forUpto n s f = { s with lats := (forUpto n s f).lats } :=
  forUpto_induct (fun _ (u : State) => u = { s with lats := u.lats }) rfl fun i u _ hu => by
    have e := hf i u
    rw [hu] at e ⊢
    exact e

/-! ### Refusals (R11) -/

/-- A refusal at a register whose block has a flag, in its tile or a single one for the device. -/
theorem State.refuse_refusedAt (hs : s.Sound) {r st : Reg} {τ b : Nat} (hb : b < 32)
    (flag : refusedFlag (r.addr τ 0 0) = some (st, b))
    (place : (st.desc.tiled = true ∧ (r.addr τ 0 0 - 0x01000000) / 0x10000 = τ) ∨
      (st.desc.tiled = false ∧ st.desc.n1 ≠ 2 ∧ τ = 0)) :
    (s.refuse r τ).refusedAt s r τ st b := by
  have e : s.refuse r τ = (s.setTbit st τ b true).send (ownerOf (r.addr τ 0 0)) 0x02 (r.addr τ 0 0) := by
    unfold State.refuse State.refuseAddr
    rw [flag]
    dsimp only
    rcases place with ⟨tiled, at_tile⟩ | ⟨global, single, rfl⟩
    · rw [if_pos tiled, at_tile]
    · rw [if_neg (by simp [global]), if_neg single]
      rfl
  rw [e]
  refine ⟨rfl, ?_, fun k hk => ?_, rfl, State.regsAs_setTreg hs.regs _ _ _ _ _⟩
  · exact (State.tbit_setTbit hs.regs st hb true b).trans (if_pos rfl)
  · exact (State.tbit_setTbit hs.regs st hb true k).trans (if_neg hk)

/-- DDS_SWAP of a tile lies in the page of DDS_STATUS. -/
theorem refusedFlag_ddsSwap {τ : Nat} (hτ : τ < 176) : refusedFlag (0x1005004 + τ * 0x10000) = some (.DDS_STATUS, 0) := by
  have page : (0x1005004 + τ * 0x10000) % 0x10000 / 0x1000 = 5 := by omega
  unfold refusedFlag
  rw [if_neg (by omega), if_pos (by omega)]
  simp only [page]

/-- A refusal at DDS_SWAP sets the tile's DDS_STATUS.REFUSED. -/
theorem State.refuse_ddsSwap (hs : s.Sound) {τ : Nat} (hτ : τ < 176) :
    (s.refuse .DDS_SWAP τ).refusedAt s .DDS_SWAP τ .DDS_STATUS 0 := by
  have base : Reg.DDS_SWAP.desc.base = 0x1005004 := rfl
  have tiled : Reg.DDS_SWAP.desc.tiled = true := rfl
  have addr : Reg.DDS_SWAP.addr τ 0 0 = 0x1005004 + τ * 0x10000 := by
    rw [Reg.addr, base, if_pos tiled]
    omega
  have tile : (0x1005004 + τ * 0x10000 - 0x01000000) / 0x10000 = τ := by omega
  exact State.refuse_refusedAt hs (by decide) (addr ▸ refusedFlag_ddsSwap hτ) (.inl ⟨rfl, addr ▸ tile⟩)

/-- A refusal at SWP_CMD sets SWP_STATUS.REFUSED. -/
theorem State.refuse_swpCmd (hs : s.Sound) : (s.refuse .SWP_CMD).refusedAt s .SWP_CMD 0 .SWP_STATUS 7 :=
  State.refuse_refusedAt hs (by decide) (by decide) (.inr (by decide))

/-! ### Dither lists (R188) -/

theorem exec_ddsSwap {τ : Nat} (hτ : τ < 176) (hu : s.inUse τ = true) : exec (.ddsSwap τ) s = .next (s.ddsSwap τ) := by
  show execDdsSwap τ s = _
  unfold execDdsSwap
  rw [decide_eq_true hτ, if_pos hu]
  rfl

theorem State.ddsSwap_pending {τ : Nat} (free : s.tbit .DDS_STATUS τ 2 = false) :
    s.ddsSwap τ = s.setTbit .DDS_STATUS τ 2 true := by
  unfold State.ddsSwap
  rw [if_neg (by rw [free]; decide)]

theorem State.ddsSwap_refused {τ : Nat} (pend : s.tbit .DDS_STATUS τ 2 = true) :
    s.ddsSwap τ = s.refuse .DDS_SWAP τ := if_pos pend

/-! ### Commands of the player (R193, R196) -/

theorem exec_swpCmdStart {g : Nat} (hg : g < 256) : exec (.swpCmdStart g) s = .next ((s.setLat .swpSeg g).swpStart g 0) :=
  if_pos (decide_eq_true hg)

theorem exec_swpCmdStop {g : Nat} (hg : g < 256) : exec (.swpCmdStop g) s = .next (s.setLat .swpSeg g).swpStop :=
  if_pos (decide_eq_true hg)

theorem exec_swpCmdResume {g : Nat} (hg : g < 256) : exec (.swpCmdResume g) s = .next (s.setLat .swpSeg g).swpResume :=
  if_pos (decide_eq_true hg)

theorem exec_swpJumpWrite {g : Nat} (hg : g < 256) : exec (.swpJumpWrite g) s = .next (s.swpJumpWrite g) :=
  if_pos (decide_eq_true hg)

/-- The state that is set is the state that reads; the player has five. -/
theorem State.swpState_setSwpState (h : spWf 0#32 s.regs = true) {v : Nat} (hv : v < 8) : (s.setSwpState v).swpState = v := by
  show bits ((s.setTreg .SWP_STATUS 0 (setBits (s.treg .SWP_STATUS 0 0 0) 2 0 v)).treg .SWP_STATUS 0 0 0) 2 0 = v
  rw [State.treg_setField h _ (by decide) (by decide), bits_setBits _ _ _ _ (by decide)]
  exact Nat.mod_eq_of_lt hv

/-- START: STATE, the position and its fraction, internal words, and empty buffers; nothing else. -/
theorem State.swpStart_begins (hm : s.mode = .characterise) (idle : s.swpBusy = false) (g hop : Nat) :
    ∃ l, s.swpStart g hop =
      { s with regs := (((s.setSwpState 1).setReg .SWP_POS (2 ^ 24 * g)).setReg .SWP_FRAC 0).regs, lats := l,
               swpBuf := [], swpX := [] } := by
  unfold State.swpStart
  rw [if_pos ⟨hm, idle⟩]
  dsimp only
  rw [forUpto_lats (fun _ _ => rfl)]
  simp only [State.setFlag_eq, State.setSwpState, State.setFld_eq, State.setReg_eq, State.setTreg, State.setLat]
  exact ⟨_, rfl⟩

theorem State.swpStart_refused (h : s.mode ≠ .characterise ∨ s.swpBusy = true) (g hop : Nat) :
    s.swpStart g hop = s.refuse .SWP_CMD := by
  unfold State.swpStart
  exact if_neg fun ⟨hm, idle⟩ => h.elim (· hm) (fun busy => nomatch idle.symm.trans busy)

theorem State.swpResume_runs (hm : s.mode = .characterise) (paused : s.swpState = 3) : s.swpResume = s.setSwpState 1 :=
  if_pos ⟨hm, paused⟩

theorem State.swpResume_refused (h : s.mode ≠ .characterise ∨ s.swpState ≠ 3) : s.swpResume = s.refuse .SWP_CMD :=
  if_neg fun ⟨hm, paused⟩ => h.elim (· hm) (· paused)

theorem State.swpStop_refused (idle : s.swpBusy = false) : s.swpStop = s.refuse .SWP_CMD := by
  unfold State.swpStop
  rw [if_neg (by simp [idle])]

/-- Which of the commands of the player are refused (R196), each after SEG of the word is kept. -/
theorem exec_swpCmd_refused {g : Nat} (hg : g < 256) {c : Instr}
    (hc : (c = .swpCmdStart g ∧ (s.mode ≠ .characterise ∨ s.swpBusy = true)) ∨ (c = .swpCmdStop g ∧ s.swpBusy = false) ∨
      (c = .swpCmdResume g ∧ (s.mode ≠ .characterise ∨ s.swpState ≠ 3))) :
    exec c s = .next ((s.setLat .swpSeg g).refuse .SWP_CMD) := by
  rcases hc with ⟨rfl, no⟩ | ⟨rfl, no⟩ | ⟨rfl, no⟩
  · rw [exec_swpCmdStart hg, State.swpStart_refused (s := s.setLat .swpSeg g) no]
  · rw [exec_swpCmdStop hg, State.swpStop_refused (s := s.setLat .swpSeg g) no]
  · rw [exec_swpCmdResume hg, State.swpResume_refused (s := s.setLat .swpSeg g) no]

/-! ### The last outputs in HTR_MAN (R196) -/

/-- The last outputs go to registers alone. -/
theorem State.swpCopy_frame (s : State) : s.swpCopy = { s with regs := s.swpCopy.regs } :=
  forUpto_regs (fun p u => by dsimp only; split <;> rfl) 64 s

/-- STOP: the last outputs, STATE and the pending jump, and empty buffers; nothing else. -/
theorem State.swpStop_ends (busy : s.swpBusy = true) :
    s.swpStop = { s with regs := ((s.swpCopy.setSwpState 0).setRbit .SWP_JUMP 31 false).regs, swpBuf := [], swpX := [] } := by
  unfold State.swpStop
  rw [if_pos busy]
  dsimp only
  rw [State.swpCopy_frame]
  generalize s.swpCopy.regs = copied
  rfl

/-- HTR_MAN of the cell that one player channel maps, and no other, holds the last output of that channel. -/
theorem State.treg_swpCopy (hs : s.Sound) {p : Nat} (hp : p < 64) (mapped : s.rbit .SWP_MAP 31 p = true)
    (out : s.lat .swpOut p ≠ 0)
    (alone : ∀ q, q < 64 → q ≠ p → s.rbit .SWP_MAP 31 q = true → s.fld .SWP_MAP 13 0 q ≠ s.fld .SWP_MAP 13 0 p) :
    s.swpCopy.treg .HTR_MAN (s.fld .SWP_MAP 13 0 p / 64) (s.fld .SWP_MAP 13 0 p % 64) = (s.nlat .swpOut p - 1) % 2 ^ 32 := by
  refine (forUpto_induct (fun i (u : State) => spWf 0#32 u.regs = true ∧ u.lats = s.lats ∧
    (∀ q, u.reg .SWP_MAP q = s.reg .SWP_MAP q) ∧ (p < i → u.treg .HTR_MAN (s.fld .SWP_MAP 13 0 p / 64)
      (s.fld .SWP_MAP 13 0 p % 64) = (s.nlat .swpOut p - 1) % 2 ^ 32)) ⟨hs.regs, rfl, fun _ => rfl, nofun⟩ ?_).2.2.2 hp
  intro i u hi ⟨wf, lats, maps, done⟩
  have lat_i : u.lat .swpOut i = s.lat .swpOut i := congrArg (spGet 0 · _) lats
  have nlat_i : u.nlat .swpOut i = s.nlat .swpOut i := congrArg Int.toNat lat_i
  dsimp only
  rw [maps i, lat_i, nlat_i]
  split
  · next copied =>
    refine ⟨State.setTreg_regs_wf u wf .., lats, fun q => ?_, fun hpi => ?_⟩
    · exact (State.treg_setTreg_ne u wf _ _ _ _ _ _ _ (by decide)).trans (maps q)
    · by_cases e : i = p
      · rw [e]
        exact State.treg_setTreg_same u wf ..
      · refine (State.treg_setTreg_other u wf _ fun same => ?_).trans (done (by omega))
        obtain ⟨-, tile, channel, -⟩ := Reg.key_inj same
        have wide (q : Nat) : s.fld .SWP_MAP 13 0 q < 16384 := fld_lt s .SWP_MAP 13 0 q 0
        have wp := wide p
        have wi := wide i
        have ne := alone i hi e copied.1
        unfold State.fld at tile channel wi wp ne
        omega
  · next skipped =>
    refine ⟨wf, lats, maps, fun hpi => done (Nat.lt_of_le_of_ne (Nat.le_of_lt_succ hpi) fun e => skipped ?_)⟩
    subst e
    exact ⟨mapped, out⟩

/-! ### The outputs of a position (R192, R28) -/

/-- A kit that names a register keeps its elements. -/
theorem State.Ok.treg_eq {s0 : State} {q g m tm sb mask} (h : t.Ok ⟨q, g, m, tm, sb, s0, mask⟩) {r : Reg}
    (named : mask.testBit r.ctorIdx = true) (τ i j : Nat) : t.treg r τ i j = s0.treg r τ i j := h.1.kregs r named τ i j

/-- A heater that loads its CHARACTERISE code leaves the codes of the other tiles. -/
theorem State.treg_active_htrForm (hs : s.Sound) {t τ : Nat} (ht : τ % 256 ≠ t % 256) (c i j : Nat) :
    (s.htrForm t c).treg .HTR_ACTIVE τ i j = s.treg .HTR_ACTIVE τ i j := by
  have sat (b : Bool) : (s.htrSat t c b).Sound ∧ (s.htrSat t c b).treg .HTR_ACTIVE τ i j = s.treg .HTR_ACTIVE τ i j := by
    have kept := State.htrSat_ok (State.ok_self hs (regMask [.HTR_ACTIVE])) t c b (by dsimp only; decide +kernel)
    exact ⟨kept.2, kept.treg_eq (by decide +kernel) τ i j⟩
  unfold State.htrForm
  dsimp only
  split <;> exact (State.treg_setTreg_tile _ (sat _).1.regs _ _ _ _ _ _ _ ht).trans (sat _).2

theorem State.treg_active_loadMan (hs : s.Sound) {t τ : Nat} (ht : τ % 256 ≠ t % 256) (c v i j : Nat) :
    (s.loadMan t c v).treg .HTR_ACTIVE τ i j = s.treg .HTR_ACTIVE τ i j := by
  unfold State.loadMan
  split
  · rfl
  · have wf : (s.setLoopAct t c v v).Sound := (hs.setLat ..).setLat ..
    rw [State.treg_active_htrForm (wf.setTreg ..) ht]
    exact State.treg_setTreg_ne _ wf.regs _ _ _ _ _ _ _ (by decide)

theorem State.lat_swpOut_loadMan (hs : s.Sound) (t c v p : Nat) : (s.loadMan t c v).lat .swpOut p = s.lat .swpOut p :=
  (State.loadMan_ok (State.ok_self hs (2 ^ (512 + Lat.swpOut.ctorIdx))) t c v (by dsimp only; decide +kernel)).1.klats .swpOut
    (by dsimp only; decide +kernel) p 0 0

/-- The output of one player channel at a phase. -/
def State.swpOutput (ph p : Nat) (s : State) : State :=
  let m := s.reg .SWP_MAP p
  if bit m 31 then
    let v := resample s.swpX ph p
    let s := s.setLat .swpOut (v + 1) p
    if s.tileHold (bits m 13 0 / 64) then s else s.loadMan (bits m 13 0 / 64) (bits m 13 0 % 64) v
  else s

/-- The outputs of a position are those of the 64 channels in turn. -/
theorem State.swpOutputs_eq (s : State) : s.swpOutputs = forUpto 64 s (State.swpOutput (s.fld .SWP_FRAC 23 19)) := rfl

/-- The registers that an output may change. -/
def outputRegs : List Reg := [.HTR_ACTIVE, .HTR_PARTS, .HTR_STATUS]

/-- What no output changes: the other registers, and every field besides registers and internal words. -/
def outputKeeps : Nat := otherMask outputRegs ||| (2 ^ 1071 - 2 ^ 1024)

theorem State.swpOutput_ok {s0 : State} {l : List Instr} (h : s.Ok ⟨l, none, none, none, false, s0, outputKeeps⟩) (ph p : Nat) :
    (s.swpOutput ph p).Ok ⟨l, none, none, none, false, s0, outputKeeps⟩ := by
  have put : ∀ v : Int, (s.setLat .swpOut v p).Ok _ := fun v =>
    State.setLat_ok h .swpOut v p 0 0 (by dsimp only; decide +kernel)
  unfold State.swpOutput
  refine ok_ite (fun _ => ok_ite (fun _ => put _) fun _ => ?_) fun _ => h
  exact State.loadMan_ok (put _) _ _ _ (by dsimp only; decide +kernel)

/-- The outputs change the heater codes and their flags, and internal words. -/
theorem State.swpOutputs_keeps (hs : s.Sound) :
    s.swpOutputs.Ok ⟨s.pending, none, none, none, false, s, outputKeeps⟩ :=
  forUpto_ok (State.ok_self hs outputKeeps) fun p _ h => State.swpOutput_ok h _ p

/-- The outputs leave the memories and the registers but those of the heaters. -/
theorem State.swpOutputs_otherRegs (hs : s.Sound) : s.swpOutputs.otherRegs s outputRegs :=
  (State.swpOutputs_keeps hs).others outputRegs (by decide +kernel)

theorem State.swpOutputs_memAs (hs : s.Sound) : s.swpOutputs.memAs s := (State.swpOutputs_keeps hs).mem (by decide +kernel)

theorem State.swpOutputs_swpBuf (hs : s.Sound) : s.swpOutputs.swpBuf = s.swpBuf :=
  (State.swpOutputs_keeps hs).1.kswpBuf (by dsimp only; decide +kernel)

theorem State.swpOutputs_swpX (hs : s.Sound) : s.swpOutputs.swpX = s.swpX :=
  (State.swpOutputs_keeps hs).1.kswpX (by dsimp only; decide +kernel)

theorem State.lat_swpOut_swpOutput (hs : s.Sound) (ph p q : Nat) (hp : p < 64) (hq : q < 64) :
    (s.swpOutput ph p).lat .swpOut q =
      if q = p ∧ s.rbit .SWP_MAP 31 p = true then (resample s.swpX ph p : Int) + 1 else s.lat .swpOut q := by
  have put (v : Int) : (s.setLat .swpOut v p).lat .swpOut q = if q = p then v else s.lat .swpOut q := by
    rw [State.lat_setLat s hs.lats]
    have same : (Lat.swpOut = Lat.swpOut ∧ q % 256 = p % 256 ∧ 0 % 16384 = 0 % 16384 ∧ 0 % 2048 = 0 % 2048) ↔ q = p :=
      ⟨fun ⟨_, e, _⟩ => by omega, fun e => e ▸ ⟨rfl, rfl, rfl, rfl⟩⟩
    exact ite_congr (propext same) (fun _ => rfl) (fun _ => rfl)
  unfold State.swpOutput State.rbit
  dsimp only
  split
  · next mapped =>
    have both : (q = p) = (q = p ∧ bit (s.reg .SWP_MAP p) 31 = true) := propext ⟨fun e => ⟨e, mapped⟩, And.left⟩
    have taken (v : Int) : (s.setLat .swpOut v p).lat .swpOut q =
        if q = p ∧ bit (s.reg .SWP_MAP p) 31 = true then v else s.lat .swpOut q :=
      (put v).trans (ite_congr both (fun _ => rfl) (fun _ => rfl))
    split
    · exact taken _
    · exact (State.lat_swpOut_loadMan (hs.setLat ..) _ _ _ _).trans (taken _)
  · next free => exact (if_neg fun e => free e.2).symm

/-- A mapped channel takes its resampled value. -/
theorem State.nlat_swpOut_swpOutputs (hs : s.Sound) {p : Nat} (hp : p < 64) (mapped : s.rbit .SWP_MAP 31 p = true) :
    s.swpOutputs.nlat .swpOut p = resample s.swpX (s.fld .SWP_FRAC 23 19) p + 1 := by
  have val : s.swpOutputs.lat .swpOut p = (resample s.swpX (s.fld .SWP_FRAC 23 19) p : Int) + 1 := by
    rw [State.swpOutputs_eq]
    refine (forUpto_induct (fun i (u : State) => u.Ok ⟨s.pending, none, none, none, false, s, outputKeeps⟩ ∧
      (p < i → u.lat .swpOut p = (resample s.swpX (s.fld .SWP_FRAC 23 19) p : Int) + 1)) ⟨State.ok_self hs _, nofun⟩ ?_).2 hp
    intro i u hi ⟨kept, done⟩
    refine ⟨State.swpOutput_ok kept _ i, fun hpi => ?_⟩
    have maps : u.rbit .SWP_MAP 31 i = s.rbit .SWP_MAP 31 i :=
      congrArg (bit · 31) (kept.treg_eq (by decide +kernel) 0 i 0)
    rw [State.lat_swpOut_swpOutput kept.2 _ _ _ hi hp, maps, kept.1.kswpX (by dsimp only; decide +kernel)]
    split
    · next e => rw [e.1]
    · next e => exact done (by grind)
  show (s.swpOutputs.lat .swpOut p).toNat = _
  rw [val]
  rfl

/-- A tile in HOLD keeps its heater codes (R28). -/
theorem State.treg_active_swpOutputs (hs : s.Sound) {τ : Nat} (hτ : τ < 256) (held : s.tileHold τ = true) (c : Nat) :
    s.swpOutputs.treg .HTR_ACTIVE τ c = s.treg .HTR_ACTIVE τ c := by
  rw [State.swpOutputs_eq]
  refine (forUpto_induct (fun _ (u : State) => u.Ok ⟨s.pending, none, none, none, false, s, outputKeeps⟩ ∧
    u.treg .HTR_ACTIVE τ c = s.treg .HTR_ACTIVE τ c) ⟨State.ok_self hs _, rfl⟩ ?_).2
  intro i u hi ⟨kept, same⟩
  refine ⟨State.swpOutput_ok kept _ i, ?_⟩
  have hold : u.tileHold τ = true :=
    (congrArg (bit · (τ % 32)) (kept.treg_eq (by decide +kernel) 0 (τ / 32) 0)).trans held
  unfold State.swpOutput
  dsimp only
  split
  · split
    · exact same
    · next free =>
      have narrow := bits_lt (u.reg .SWP_MAP i) 13 0
      have other : τ ≠ bits (u.reg .SWP_MAP i) 13 0 / 64 := fun e => free (e ▸ hold)
      rw [State.treg_active_loadMan (kept.2.setLat ..) (by omega)]
      exact same
  · exact same

/-! ### Prefetch (R194, R195) -/

theorem exec_sweepFrameArrival {g i n : Nat} (hg : g < 256) (hi : i < 2 ^ 24) (hn : n ≤ 256) :
    exec (.sweepFrameArrival g i n) s = .next (forUpto n s fun k u => u.swpFetch g (i + k)) :=
  if_pos (decide_eq_true ⟨hg, hi, hn⟩)

/-- A player without a current sample fetches nothing. -/
theorem State.swpFetch_idle (idle : s.swpBusy = false) (g i : Nat) : s.swpFetch g i = s := by
  unfold State.swpFetch State.swpWants
  rw [idle]
  rfl

/-- Frames that arrive leave the mode and the resampler. -/
theorem State.swpFetches_keep (hs : s.Sound) (g i n : Nat) :
    (forUpto n s fun k u => u.swpFetch g (i + k)).Ok ⟨s.pending, none, none, none, false, s, 2 ^ 1038 + 2 ^ 1059⟩ :=
  forUpto_ok (State.ok_self hs _) fun k _ h => State.swpFetch_ok h g (i + k) (by dsimp only; decide +kernel)

/-- A frame that is wanted joins the buffer, when neither its translation nor its read meets an error. -/
theorem State.swpFetch_arrives {g i pa : Nat} {s1 s2 : State} {bs : List Byte} (wants : s.swpWants g i = true)
    (translated : s.translate 24 ((2 ^ 32 * s.fld .SWP_SEG_HI 7 0 g + s.reg .SWP_SEG_LO g + 128 * i) % 2 ^ 39) false =
      (.inr pa, s1)) (read : s1.memGet .swp pa 128 = (.ok bs, s2)) :
    s.swpFetch g i =
      { s2 with swpBuf := s2.swpBuf ++ [⟨g, i, (List.range 64).map (fun p => leVal (slice bs (2 * p) 2))⟩] } := by
  unfold State.swpFetch
  rw [if_pos wants]
  dsimp only
  rw [translated]
  dsimp only
  rw [read]

/-- Translation and read leave the buffer of the player. -/
theorem State.swpBuf_translate_memGet {stream iova pa n : Nat} {w : Bool} {p : Port} {s1 s2 : State}
    {x : Sum XCause Nat} {y : MemRes} (hs : s.Sound) (translated : s.translate stream iova w = (x, s1))
    (read : s1.memGet p pa n = (y, s2)) :
    s2.swpBuf = s.swpBuf := by
  have h1 := ok_snd translated (State.translate_ok (State.ok_self hs (2 ^ 1058)) stream iova w (by dsimp only; decide +kernel))
  have h2 := ok_snd read (State.memGet_ok h1 p pa n (by dsimp only; decide +kernel))
  exact h2.1.kswpBuf (by dsimp only; decide +kernel)

/-! ### The output instant (R192, R193, R195) -/

theorem exec_outputInstant : exec .outputInstant s = .next s.swpInstant := rfl

/-- The player plays in CHARACTERISE, and while STATE is RUN or UNDERRUN (R190). -/
theorem State.swpInstant_off (h : s.mode ≠ .characterise ∨ (s.swpState ≠ 1 ∧ s.swpState ≠ 2)) : s.swpInstant = s :=
  if_neg fun ⟨hm, plays⟩ => h.elim (· hm) fun ⟨no1, no2⟩ => plays.elim no1 no2

theorem State.swpInstant_plays (hm : s.mode = .characterise) (run : s.swpState = 1) (later : s.flag .swpFirst = false) :
    s.swpInstant = s.swpStep := by
  unfold State.swpInstant
  rw [if_pos ⟨hm, .inl run⟩, if_neg (by rw [later]; decide)]

theorem State.swpStride_run (run : s.swpState = 1) : s.swpStride = s.reg .SWP_STEP := if_neg (by rw [run]; decide)

/-- Outside an underrun a step that is made ends none. -/
theorem State.swpBack_run (hs : s.Sound) (run : s.swpState = 1) (f : Nat) :
    (s.setReg .SWP_FRAC f).swpBack = s.setReg .SWP_FRAC f := by
  have same : (s.setReg .SWP_FRAC f).swpState = s.swpState :=
    congrArg (bits · 2 0) (State.treg_setTreg_ne s hs.regs _ _ _ _ _ _ _ (by decide))
  exact if_neg (by rw [same, run]; decide)

/-- Between frames the fraction moves on. -/
theorem State.swpStep_between (hs : s.Sound) (run : s.swpState = 1) (within : s.fld .SWP_FRAC 23 0 + s.reg .SWP_STEP < 2 ^ 24) :
    s.swpStep = (s.setReg .SWP_FRAC (s.fld .SWP_FRAC 23 0 + s.reg .SWP_STEP)).swpOutputs := by
  unfold State.swpStep
  dsimp only
  rw [State.swpStride_run run, if_pos within, State.swpBack_run hs run]

/-- Past the end of a frame inside its segment: the next frame, or an underrun. -/
theorem State.swpStep_past (hs : s.Sound) (run : s.swpState = 1) (past : 2 ^ 24 ≤ s.fld .SWP_FRAC 23 0 + s.reg .SWP_STEP)
    (tail : s.lat .swpTail = 0) (inside : s.swpIx + 1 ≠ s.fld .SWP_SEG_LEN 23 0 s.swpCur) :
    s.swpStep = if s.swpHas s.swpCur (s.swpIx + 1) then
        ((s.setReg .SWP_FRAC (s.fld .SWP_FRAC 23 0 + s.reg .SWP_STEP - 2 ^ 24)).swpEnter s.swpCur (s.swpIx + 1) false).swpOutputs
      else s.swpUnder := by
  have last : (s.swpIx + 1 == s.fld .SWP_SEG_LEN 23 0 s.swpCur) = false := beq_eq_false_iff_ne.mpr inside
  have none_left : s.nlat .swpTail = 0 := congrArg Int.toNat tail
  unfold State.swpStep
  dsimp only
  rw [State.swpStride_run run, if_neg (Nat.not_lt.mpr past), last, none_left, if_neg (by simp)]
  unfold less
  rw [State.swpBack_run hs run]
  rfl

/-- A frame leaves the buffer for the resampler. -/
def State.swpTaken (s : State) (g i : Nat) : State :=
  { s.swpPush (s.swpCodes g i) with swpBuf := s.swpBuf.filter (fun f => !(f.seg == g && f.ix == i)) }

theorem State.Sound.swpTaken (hs : s.Sound) (g i : Nat) : (s.swpTaken g i).Sound := by
  unfold State.swpTaken State.swpPush
  exact { hs with }

theorem State.swpHas_swpTaken (s : State) (g i : Nat) : (s.swpTaken g i).swpHas g i = false := by
  refine List.any_eq_false.mpr fun f hf has => ?_
  have other := (List.mem_filter.mp hf).2
  rw [has] at other
  exact nomatch other

/-- A frame inside the segment becomes the current one. -/
theorem State.swpEnter_inside (g : Nat) {i : Nat} (hi : i ≠ 0) :
    s.swpEnter g i false = (s.swpTaken g i).setReg .SWP_POS (2 ^ 24 * g + i) := by
  unfold State.swpEnter
  dsimp only
  rw [if_neg hi]
  rfl

/-- STATE, the sticky flag and the count of underruns, where one begins. -/
def State.underBegun (s : State) : State := ((s.setSwpState 2).satAdd .SWP_UNDER_N).setRbit .SWP_STATUS 8 true

theorem State.treg_swpUnder (run : s.swpState = 1) (r : Reg) (τ i j : Nat) :
    s.swpUnder.treg r τ i j = (s.underBegun.satAdd .SWP_UNDER_CNT).treg r τ i j := by
  unfold State.swpUnder
  dsimp only
  rw [if_pos run, State.publish_eq]
  rfl

/-! ### The clauses -/

/-- START begins a segment (R196). -/
theorem swpCmdStart_begins (hs : s.Sound) {g : Nat} (hg : g < 256) (hm : s.mode = .characterise) (idle : s.swpBusy = false) :
    ∃ t, exec (.swpCmdStart g) s = .next t ∧ t.swpState = 1 ∧ t.reg .SWP_POS = 2 ^ 24 * g ∧ t.reg .SWP_FRAC = 0 ∧
      t.swpBuf = [] ∧ t.swpX = [] ∧ t = { s with regs := t.regs, lats := t.lats, swpBuf := [], swpX := [] } ∧
      t.otherRegs s [.SWP_STATUS, .SWP_POS, .SWP_FRAC] := by
  obtain ⟨l, begun⟩ := State.swpStart_begins (s := s.setLat .swpSeg g) hm idle g 0
  have run := exec_swpCmdStart (s := s) hg
  rw [begun] at run
  have h1 : spWf 0#32 (s.setSwpState 1).regs = true := spPut_wf _ _ hs.regs
  have h2 : spWf 0#32 ((s.setSwpState 1).setReg .SWP_POS (2 ^ 24 * g)).regs = true := spPut_wf _ _ h1
  refine ⟨_, run, ?_, ?_, ?_, rfl, rfl, rfl, fun q hq τ i j => ?_⟩
  · refine Eq.trans ?_ (State.swpState_setSwpState hs.regs (by decide : 1 < 8))
    exact congrArg (bits · 2 0) ((State.treg_setTreg_ne _ h2 _ _ _ _ _ _ _ (by decide)).trans
      (State.treg_setTreg_ne _ h1 _ _ _ _ _ _ _ (by decide)))
  · refine ((State.treg_setTreg_ne _ h2 _ _ _ _ _ _ _ (by decide)).trans (State.treg_setTreg_same _ h1 _ _ _ _ _)).trans ?_
    exact Nat.mod_eq_of_lt (by omega)
  · exact State.treg_setTreg_same _ h2 _ _ _ _ _
  · have within : (s.setSwpState 1).otherRegs s [.SWP_STATUS, .SWP_POS, .SWP_FRAC] :=
      State.otherRegs.setTreg (fun _ _ _ _ _ => rfl) hs.regs (by decide) _ _ _ _
    exact ((within.setTreg h1 (by decide) _ _ _ _).setTreg h2 (by decide) _ _ _ _) q hq τ i j

/-- STOP ends the segment, and the last outputs stand in HTR_MAN (R196). -/
theorem swpCmdStop_ends (hs : s.Sound) {g : Nat} (hg : g < 256) (busy : s.swpBusy = true) :
    ∃ t, exec (.swpCmdStop g) s = .next t ∧ t.swpState = 0 ∧ t.swpJump = false ∧
      t = { s with regs := t.regs, lats := t.lats, swpBuf := [], swpX := [] } ∧
      t.otherRegs s [.SWP_STATUS, .SWP_JUMP, .HTR_MAN] ∧
      ∀ p, p < 64 → s.rbit .SWP_MAP 31 p = true → 0 < s.lat .swpOut p → s.lat .swpOut p ≤ 65536 →
        (∀ q, q < 64 → q ≠ p → s.rbit .SWP_MAP 31 q = true → s.fld .SWP_MAP 13 0 q ≠ s.fld .SWP_MAP 13 0 p) →
        t.treg .HTR_MAN (s.fld .SWP_MAP 13 0 p / 64) (s.fld .SWP_MAP 13 0 p % 64) = s.nlat .swpOut p - 1 := by
  have hs' : (s.setLat .swpSeg g).Sound := hs.setLat ..
  have run := exec_swpCmdStop (s := s) hg
  rw [State.swpStop_ends (s := s.setLat .swpSeg g) busy] at run
  have copied := State.swpCopy_ok (State.ok_self hs' (otherMask [.HTR_MAN])) (by dsimp only; decide +kernel)
  have h1 : spWf 0#32 ((s.setLat .swpSeg g).swpCopy.setSwpState 0).regs = true := spPut_wf _ _ copied.2.regs
  refine ⟨_, run, ?_, ?_, rfl, fun q hq τ i j => ?_, fun p hp mapped pos top alone => ?_⟩
  · refine Eq.trans ?_ (State.swpState_setSwpState copied.2.regs (by decide : 0 < 8))
    exact congrArg (bits · 2 0) (State.treg_setTreg_ne _ h1 _ _ _ _ _ _ _ (by decide))
  · exact (State.tbit_setTbit h1 .SWP_JUMP (by decide) false 31).trans (if_pos rfl)
  · have copy : (s.setLat .swpSeg g).swpCopy.otherRegs s [.SWP_STATUS, .SWP_JUMP, .HTR_MAN] := fun r hr =>
      copied.others [.HTR_MAN] (Nat.and_self _) r (fun e => hr (by simp only [List.mem_singleton] at e; simp [e]))
    exact ((copy.setTreg copied.2.regs (by decide) _ _ _ _).setTreg h1 (by decide) _ _ _ _) q hq τ i j
  · have nout : s.nlat .swpOut p = (s.lat .swpOut p).toNat := rfl
    have kept : (s.setLat .swpSeg g).lat .swpOut p = s.lat .swpOut p := State.lat_setLat_ne s hs.lats _ _ _ _ _ _ _ (by decide)
    have knout : (s.setLat .swpSeg g).nlat .swpOut p = s.nlat .swpOut p := congrArg Int.toNat kept
    have value := (State.treg_swpCopy hs' hp mapped (by omega) alone).trans (Nat.mod_eq_of_lt (by omega))
    exact (State.treg_setTreg_ne _ h1 _ _ _ _ _ _ _ (by decide)).trans
      ((State.treg_setTreg_ne _ copied.2.regs _ _ _ _ _ _ _ (by decide)).trans (value.trans (congrArg (· - 1) knout)))

/-- RESUME ends a pause (R196). -/
theorem swpCmdResume_runs (hs : s.Sound) {g : Nat} (hg : g < 256) (hm : s.mode = .characterise) (paused : s.swpState = 3) :
    ∃ t, exec (.swpCmdResume g) s = .next t ∧ t.swpState = 1 ∧ t = { s with regs := t.regs, lats := t.lats } ∧
      t.regsAs s [Reg.key .SWP_STATUS 0 0 0] := by
  refine ⟨_, (exec_swpCmdResume hg).trans (congrArg _ (State.swpResume_runs (s := s.setLat .swpSeg g) hm paused)), ?_, rfl, ?_⟩
  · exact State.swpState_setSwpState (s := s.setLat .swpSeg g) hs.regs (by decide)
  · exact State.regsAs_setTreg hs.regs _ _ _ _ _

/-- A frame that the player wants arrives (R195). -/
theorem sweepFrameArrival_arrives (hs : s.Sound) {g i pa : Nat} (hg : g < 256) (hi : i < 2 ^ 24) {s1 s2 : State} {bs : List Byte}
    (wants : s.swpWants g i = true)
    (translated : s.translate 24 ((2 ^ 32 * s.fld .SWP_SEG_HI 7 0 g + s.reg .SWP_SEG_LO g + 128 * i) % 2 ^ 39) false =
      (.inr pa, s1)) (read : s1.memGet .swp pa 128 = (.ok bs, s2)) :
    ∃ (t : State) (f : SwpFrame), exec (.sweepFrameArrival g i 1) s = .next t ∧ t.swpBuf = s.swpBuf ++ [f] ∧
      f.seg = g ∧ f.ix = i ∧ (∀ p, p < 64 → f.codes.getD p 0 = leVal (slice bs (2 * p) 2)) ∧
      t = { s2 with swpBuf := t.swpBuf } ∧ t.memAs s2 := by
  have arrived := State.swpFetch_arrives wants translated read
  refine ⟨_, ⟨g, i, (List.range 64).map (fun p => leVal (slice bs (2 * p) 2))⟩,
    (exec_sweepFrameArrival hg hi (by decide)).trans (congrArg _ arrived), ?_, rfl, rfl, fun p hp => ?_, rfl, ?_⟩
  · rw [State.swpBuf_translate_memGet hs translated read]
  · simp [List.getD, hp]
  · exact ⟨fun _ => rfl, fun _ => rfl, fun _ => rfl, fun _ _ => rfl, fun _ => rfl, fun _ => rfl⟩

/-- Frames arrive in the buffer alone of the player, and none where none is fetched (R194, R195). -/
theorem sweepFrameArrival_keeps (hs : s.Sound) {g i n : Nat} (hg : g < 256) (hi : i < 2 ^ 24) (hn : n ≤ 256) :
    ∃ t, exec (.sweepFrameArrival g i n) s = .next t ∧ t.mode = s.mode ∧ t.swpX = s.swpX ∧
      (n = 0 ∨ s.swpBusy = false → t = s) := by
  have kept := State.swpFetches_keep hs g i n
  refine ⟨_, exec_sweepFrameArrival hg hi hn, kept.1.kmode (by dsimp only; decide +kernel),
    kept.1.kswpX (by dsimp only; decide +kernel), fun none => ?_⟩
  rcases none with rfl | idle
  · rfl
  · exact forUpto_induct (fun _ u => u = s) rfl fun k u _ e => by rw [e]; exact State.swpFetch_idle idle g _

/-- An instant between frames (R192). -/
theorem outputInstant_between (hs : s.Sound) (hm : s.mode = .characterise) (run : s.swpState = 1)
    (later : s.flag .swpFirst = false)
    {f : Nat} (hf : s.fld .SWP_FRAC 23 0 + s.reg .SWP_STEP = f) (within : f < 2 ^ 24) :
    ∃ t, exec .outputInstant s = .next t ∧ t.reg .SWP_FRAC = f ∧ t.reg .SWP_POS = s.reg .SWP_POS ∧ t.swpBuf = s.swpBuf ∧
      (∀ p, p < 64 → s.rbit .SWP_MAP 31 p = true → t.nlat .swpOut p = resample s.swpX (bits f 23 19) p + 1) ∧
      (∀ τ c, τ < 256 → c < 64 → s.tileHold τ = true → t.treg .HTR_ACTIVE τ c = s.treg .HTR_ACTIVE τ c) ∧
      t.otherRegs s [.SWP_FRAC, .HTR_ACTIVE, .HTR_PARTS, .HTR_STATUS] ∧ t.memAs s := by
  have hs' : (s.setReg .SWP_FRAC f).Sound := hs.setTreg ..
  have moved : (s.setReg .SWP_FRAC f).otherRegs s [.SWP_FRAC] :=
    State.otherRegs.setTreg (fun _ _ _ _ _ => rfl) hs.regs (by decide) _ _ _ _
  have frac : (s.setReg .SWP_FRAC f).reg .SWP_FRAC = f :=
    (State.treg_setTreg_same s hs.regs _ _ _ _ _).trans (Nat.mod_eq_of_lt (by omega))
  have outputs := State.swpOutputs_otherRegs hs'
  have all := State.otherRegs.trans outputs moved
  have step := (State.swpInstant_plays hm run later).trans (State.swpStep_between hs run (hf ▸ within))
  rw [hf] at step
  refine ⟨_, exec_outputInstant.trans (congrArg _ step), ?_, ?_, State.swpOutputs_swpBuf hs', fun p hp mapped => ?_,
    fun τ c hτ _ held => ?_, all, State.swpOutputs_memAs hs'⟩
  · exact (outputs .SWP_FRAC (by decide) 0 0 0).trans frac
  · exact all .SWP_POS (by decide) 0 0 0
  · have phase : (s.setReg .SWP_FRAC f).fld .SWP_FRAC 23 19 = bits f 23 19 := congrArg (bits · 23 19) frac
    rw [State.nlat_swpOut_swpOutputs hs' hp ((congrArg (bit · 31) (moved .SWP_MAP (by decide) 0 p 0)).trans mapped), phase]
    rfl
  · rw [State.treg_active_swpOutputs hs' hτ
      ((congrArg (bit · (τ % 32)) (moved .MGT_TILE_HOLD (by decide) 0 (τ / 32) 0)).trans held)]
    exact moved .HTR_ACTIVE (by decide) τ c 0

/-- An instant at the end of a frame, the next one being in the buffer (R192). -/
theorem outputInstant_enters (hs : s.Sound) (hm : s.mode = .characterise) (run : s.swpState = 1)
    (later : s.flag .swpFirst = false)
    {f next : Nat} (hf : s.fld .SWP_FRAC 23 0 + s.reg .SWP_STEP = f) (hnext : s.swpIx + 1 = next) (past : 2 ^ 24 ≤ f)
    (once : f < 2 ^ 25) (tail : s.lat .swpTail = 0) (inside : next ≠ s.fld .SWP_SEG_LEN 23 0 s.swpCur)
    (has : s.swpHas s.swpCur next = true) :
    ∃ t, exec .outputInstant s = .next t ∧ t.reg .SWP_FRAC = f - 2 ^ 24 ∧ t.swpState = 1 ∧
      t.reg .SWP_POS = (2 ^ 24 * s.swpCur + next) % 2 ^ 32 ∧ t.swpHas s.swpCur next = false ∧
      t.swpX = s.swpX.drop (s.swpX.length - 15) ++ [s.swpCodes s.swpCur next] ∧
      t.otherRegs s [.SWP_FRAC, .SWP_POS, .HTR_ACTIVE, .HTR_PARTS, .HTR_STATUS] ∧ t.memAs s := by
  have taken : ((s.setReg .SWP_FRAC (f - 2 ^ 24)).swpTaken s.swpCur next).Sound := (hs.setTreg ..).swpTaken ..
  have entered := taken.setTreg .SWP_POS 0 (2 ^ 24 * s.swpCur + next) 0 0
  have step := (State.swpInstant_plays hm run later).trans (State.swpStep_past hs run (hf ▸ past) tail (hnext ▸ inside))
  rw [hf, hnext, if_pos has, State.swpEnter_inside _ (by omega)] at step
  have frac : ((s.setReg .SWP_FRAC (f - 2 ^ 24)).swpTaken s.swpCur next).otherRegs s [.SWP_FRAC, .SWP_POS] :=
    State.otherRegs.setTreg (fun _ _ _ _ _ => rfl) hs.regs (by decide) _ _ _ _
  have outputs := State.swpOutputs_otherRegs entered
  have all := State.otherRegs.trans outputs (frac.setTreg taken.regs (by decide) _ _ _ _)
  refine ⟨_, exec_outputInstant.trans (congrArg _ step), ?_, ?_, ?_, ?_, State.swpOutputs_swpX entered, all,
    State.swpOutputs_memAs entered⟩
  · refine (outputs .SWP_FRAC (by decide) 0 0 0).trans ((State.treg_setTreg_ne _ taken.regs _ _ _ _ _ _ _ (by decide)).trans ?_)
    exact (State.treg_setTreg_same s hs.regs _ _ _ _ _).trans (Nat.mod_eq_of_lt (by omega))
  · exact (congrArg (bits · 2 0) (all .SWP_STATUS (by decide) 0 0 0)).trans run
  · exact (outputs .SWP_POS (by decide) 0 0 0).trans (State.treg_setTreg_same _ taken.regs _ _ _ _ _)
  · unfold State.swpHas
    rw [State.setReg_eq, State.swpOutputs_swpBuf entered]
    exact State.swpHas_swpTaken ..

/-- An instant at the end of a frame, the next one being missing (R195). -/
theorem outputInstant_underruns (hs : s.Sound) (hm : s.mode = .characterise) (run : s.swpState = 1)
    (later : s.flag .swpFirst = false)
    {next : Nat} (past : 2 ^ 24 ≤ s.fld .SWP_FRAC 23 0 + s.reg .SWP_STEP) (hnext : s.swpIx + 1 = next)
    (tail : s.lat .swpTail = 0) (inside : next ≠ s.fld .SWP_SEG_LEN 23 0 s.swpCur) (has : s.swpHas s.swpCur next = false) :
    ∃ t, exec .outputInstant s = .next t ∧ t.swpState = 2 ∧ t.rbit .SWP_STATUS 8 = true ∧
      t.reg .SWP_UNDER_CNT = min (s.reg .SWP_UNDER_CNT + 1) (2 ^ 32 - 1) ∧ t.reg .SWP_FRAC = s.reg .SWP_FRAC ∧
      t.otherRegs s [.SWP_STATUS, .SWP_UNDER_N, .SWP_UNDER_CNT] ∧ t.memAs s := by
  have step := (State.swpInstant_plays hm run later).trans (State.swpStep_past hs run past tail (hnext ▸ inside))
  rw [hnext, if_neg (by rw [has]; decide)] at step
  have kept := State.swpUnder_ok (State.ok_self hs (otherMask [.SWP_STATUS, .SWP_UNDER_N, .SWP_UNDER_CNT] ||| memMask))
    (by dsimp only; decide +kernel)
  have others := kept.others [.SWP_STATUS, .SWP_UNDER_N, .SWP_UNDER_CNT] (by decide +kernel)
  have h1 : (s.setSwpState 2).Sound := hs.setTreg ..
  have h2 : ((s.setSwpState 2).satAdd .SWP_UNDER_N).Sound := h1.setTreg ..
  have h3 : s.underBegun.Sound := h2.setTreg ..
  have status : s.swpUnder.reg .SWP_STATUS = s.underBegun.reg .SWP_STATUS :=
    (State.treg_swpUnder run ..).trans (State.treg_setTreg_ne _ h3.regs _ _ _ _ _ _ _ (by decide))
  refine ⟨_, exec_outputInstant.trans (congrArg _ step), ?_, ?_, ?_, others .SWP_FRAC (by decide) 0 0 0, others,
    kept.mem (by decide +kernel)⟩
  · show bits (s.swpUnder.reg .SWP_STATUS) 2 0 = 2
    have flagged : s.underBegun.reg .SWP_STATUS = setBit (((s.setSwpState 2).satAdd .SWP_UNDER_N).reg .SWP_STATUS) 8 true :=
      State.treg_setField h2.regs .SWP_STATUS (by decide) (by decide)
    rw [status, flagged, setBit, bits_setBits_above (by decide) (by decide)]
    refine Eq.trans ?_ (State.swpState_setSwpState hs.regs (by decide : 2 < 8))
    exact congrArg (bits · 2 0) (State.treg_setTreg_ne _ h1.regs _ _ _ _ _ _ _ (by decide))
  · show bit (s.swpUnder.reg .SWP_STATUS) 8 = true
    rw [status]
    exact (State.tbit_setTbit h2.regs .SWP_STATUS (by decide) true 8).trans (if_pos rfl)
  · have count : s.underBegun.treg .SWP_UNDER_CNT 0 = s.reg .SWP_UNDER_CNT :=
      (State.treg_setTreg_ne _ h2.regs _ _ _ _ _ _ _ (by decide)).trans
        ((State.treg_setTreg_ne _ h1.regs _ _ _ _ _ _ _ (by decide)).trans
          (State.treg_setTreg_ne _ hs.regs _ _ _ _ _ _ _ (by decide)))
    have counted := (State.treg_swpUnder run .SWP_UNDER_CNT 0 0 0).trans
      (State.treg_setTreg_same _ h3.regs .SWP_UNDER_CNT 0 _ 0 0)
    rw [count] at counted
    exact counted.trans (Nat.mod_eq_of_lt (Nat.lt_of_le_of_lt (Nat.min_le_right _ _) (by decide)))

/-- Settles O38: the commands and events of the player one by one, each with what it reads afterwards and its frame. -/
theorem sweepPlayer : Obligations.SweepPlayer := by
  unfold Obligations.SweepPlayer
  refine ⟨fun s τ hs hτ hu free => ?_, fun s τ hs hτ hu pend => ?_, fun _ _ hs => swpCmdStart_begins hs,
    fun _ _ hs => swpCmdStop_ends hs, fun _ _ hs => swpCmdResume_runs hs, fun s g hs hg c hc => ?_, fun s g hs hg => ?_,
    fun _ _ _ _ hs => sweepFrameArrival_keeps hs, fun _ _ hs hg _ _ _ _ _ hi => sweepFrameArrival_arrives hs hg hi,
    fun s hs hm run later => ⟨fun within => ?_, fun past once tail inside has => ?_, fun past _ tail inside has => ?_⟩,
    fun s _ off => ?_⟩
  · refine ⟨_, (exec_ddsSwap hτ hu).trans (congrArg _ (State.ddsSwap_pending free)), ?_, fun k hk => ?_, rfl,
      State.regsAs_setTreg hs.regs _ _ _ _ _⟩
    · exact (State.tbit_setTbit hs.regs .DDS_STATUS (by decide) true 2).trans (if_pos rfl)
    · exact (State.tbit_setTbit hs.regs .DDS_STATUS (by decide) true k).trans (if_neg hk)
  · exact ⟨_, (exec_ddsSwap hτ hu).trans (congrArg _ (State.ddsSwap_refused pend)), State.refuse_ddsSwap hs hτ⟩
  · exact ⟨_, exec_swpCmd_refused hg hc, State.refuse_swpCmd (hs.setLat ..)⟩
  · refine ⟨_, exec_swpJumpWrite hg, ?_, rfl, State.regsAs_setTreg hs.regs _ _ _ _ _⟩
    exact (State.treg_setTreg_same s hs.regs _ _ _ _ _).trans (by omega)
  · exact outputInstant_between hs hm run later rfl within
  · exact outputInstant_enters hs hm run later rfl rfl past once tail inside has
  · exact outputInstant_underruns hs hm run later past rfl tail inside has
  · rw [exec_outputInstant, State.swpInstant_off off]

end Sys2Proof.Machine
end

section
/-! PROOFS. A grain of a loop program (R202, R213): results of the span before are written at program grain 0, where the
statement reads its operands without them. -/
set_option Elab.async false
namespace Sys2Proof.Machine

/-- ADDS of G1 and G2 into G5 in ALU slot 1, and no other operation: a word 0 with more words after it. -/
def addsWord : Nat := 2 ^ 32 * (1 * 2 ^ 27 + 5 * 2 ^ 16 + 1 * 2 ^ 10 + 2 * 2 ^ 4)

/-- Half 0 of tile 0 is ACTIVE at the start of a span with `addsWord` as word 0 of a program without I/O operations, and
the result 77 of a divider operation issued at grain 3,839 of the span before, due at grain 3,905, is still on its way to
G1. -/
def lateResultState : State :=
  let s := { State.reset with mode := .static, pipe := [⟨0, 0, 3905, 0, 1, 77⟩] }
  let s := ((s.setReg .CAP_INUSE 1).setTreg .RED_TSTATE 0 2).setFlag .spanUp true
  let s := forUpto 64 (s.setTreg .MC_CYCLES 0 3840) fun c s => s.setTreg .MC_REC 0 0x0FFF0FFF c
  s.setCs 0 0 0 (withParity addsWord)

theorem lateResultState_sound : lateResultState.Sound := by
  constructor
  all_goals decide +kernel

/-- What a command leaves on the way to the registers of the engines, where it goes on. -/
def pipeAfter : Host.Outcome State Fault Refusal → List PipeW
  | .next t => t.pipe
  | _ => []

/-- At grain 0 the late result is written before word 0 executes (R213): the sum is 77. -/
theorem pipeAfter_lateResult : pipeAfter (exec (.programGrain 0 0 0 0 0) lateResultState) = [⟨0, 0, 1, 0, 5, 77⟩] := by
  decide +kernel

/-- Refutes O36: the third clause takes the operands of word 0 from `landUpto` of grain 0, which writes only what is due
by grain 0 of this span. All results of the span before are written there, so ADDS of `lateResultState` delivers 77,
not the 0 of the clause. -/
theorem not_programGrain : ¬ Obligations.ProgramGrain := by
  unfold Obligations.ProgramGrain
  intro holds
  obtain ⟨-, -, executed, -⟩ := holds lateResultState 0 0 0 0 0 lateResultState_sound (by decide) (by decide) (by decide)
    (by decide) (by decide) (by decide +kernel) (by decide +kernel) (by decide +kernel)
  obtain ⟨t, run, -, -, delivers⟩ := executed (by decide +kernel) (by decide +kernel) (by decide +kernel) (by decide +kernel)
    rfl
  have delivered := (delivers 1 (.inl rfl) (by decide +kernel) (by decide +kernel)).1 (by decide +kernel)
  have pipe : t.pipe = [⟨0, 0, 1, 0, 5, 77⟩] := (congrArg pipeAfter run).symm.trans pipeAfter_lateResult
  rw [pipe] at delivered
  exact absurd delivered (by decide +kernel)

end Sys2Proof.Machine
end

section
/-! PROOFS. Loading and reading loop programs (R206, R219 to R221, R230): rows of registers, words of a control store,
and what a tile holds after the pass of the loader over it. -/
set_option Elab.async false
namespace Sys2Proof.Machine

variable {s : State}

/-! ### Rows of a register -/

/-- The elements 0..n-1 of a register of a tile are written. -/
def State.setRow (s : State) (r : Reg) (τ n : Nat) (f : Nat → Nat) : State :=
  forUpto n s fun k u => u.setTreg r τ (f k) k

theorem State.Sound.setRow (hs : s.Sound) (r : Reg) (τ n : Nat) (f : Nat → Nat) : (s.setRow r τ n f).Sound :=
  forUpto_induct (fun _ (u : State) => u.Sound) hs fun _ _ _ hu => hu.setTreg ..

theorem State.setRow_frame (s : State) (r : Reg) (τ n : Nat) (f : Nat → Nat) :
    s.setRow r τ n f = { s with regs := (s.setRow r τ n f).regs } := forUpto_regs (fun _ _ => rfl) n s

/-- An element of the row reads what was written to it. -/
theorem State.treg_setRow_same (hs : s.Sound) (r : Reg) (τ : Nat) {n k : Nat} (f : Nat → Nat) (hk : k < n) (hn : n ≤ 16384) :
    (s.setRow r τ n f).treg r τ k = f k % 2 ^ 32 := by
  refine (forUpto_induct (fun i (u : State) => u.Sound ∧ (k < i → u.treg r τ k = f k % 2 ^ 32)) ⟨hs, nofun⟩ ?_).2 hk
  intro i u hi ⟨hu, done⟩
  refine ⟨hu.setTreg .., fun below => ?_⟩
  by_cases e : k = i
  · rw [e]
    exact State.treg_setTreg_same u hu.regs ..
  · exact (State.treg_setTreg_ix u hu.regs _ _ _ _ _ _ (by omega)).trans (done (by omega))

theorem State.treg_setRow_ne (hs : s.Sound) {r q : Reg} (hq : q ≠ r) (τ n : Nat) (f : Nat → Nat) (τ' i j : Nat) :
    (s.setRow r τ n f).treg q τ' i j = s.treg q τ' i j :=
  (forUpto_induct (fun _ (u : State) => u.Sound ∧ u.treg q τ' i j = s.treg q τ' i j) ⟨hs, rfl⟩ fun _ u _ ⟨hu, same⟩ =>
    ⟨hu.setTreg .., (State.treg_setTreg_ne u hu.regs _ _ _ _ _ _ _ hq).trans same⟩).2

/-! ### Words of a control store (R206) -/

theorem parityBits_lt (w : Nat) : parityBits w < 2 ^ 8 := by
  have one (k : Nat) : parity32 (bits w (32 * k + 31) (32 * k)) < 2 := Nat.mod_lt _ (by decide)
  have := one 0
  have := one 1
  have := one 2
  have := one 3
  have := one 4
  have := one 5
  have := one 6
  have := one 7
  simp only [parityBits, List.range, List.range.loop, List.foldl]
  omega

/-- A word and its parity bits have the width of a control-store word. -/
theorem withParity_lt (w : Nat) : withParity w < 2 ^ 264 := by
  have := parityBits_lt w
  unfold withParity
  omega

/-- Word w of a control store that has taken a program (R221). -/
def storedWord (rd : Nat → Byte) (w : Nat) : Nat :=
  withParity (if w < imgCycles rd then imgWord rd w else if w < 3840 then 0 else Config.seqWord w % 2 ^ 256)

theorem storedWord_lt (rd : Nat → Byte) (w : Nat) : storedWord rd w < 2 ^ 264 := withParity_lt _

/-- The control stores after the words 0..n-1 of the one at `o` have been stored. -/
def storedWords (rd : Nat → Byte) (o n : Nat) (m : List (Nat × BitVec 264)) : List (Nat × BitVec 264) :=
  (List.range n).foldl (fun m w => spPut 0#264 m (o + w) (BitVec.ofNat 264 (storedWord rd w))) m

theorem State.loadHalf_eq (s : State) (rd : Nat → Byte) (τ h : Nat) :
    s.loadHalf rd τ h = { s with cs := storedWords rd (4096 * (τ * 2 + h)) 4096 s.cs } :=
  forUpto_induct (fun n (u : State) => u = { s with cs := storedWords rd (4096 * (τ * 2 + h)) n s.cs }) rfl
    fun n u _ eq => by
      rw [eq, storedWords, storedWords, List.range_succ, List.foldl_append]
      rfl

theorem State.Sound.loadHalf (hs : s.Sound) (rd : Nat → Byte) (τ h : Nat) : (s.loadHalf rd τ h).Sound :=
  (State.loadHalf_ok (State.ok_self hs 0) rd τ h (Kit.subz rfl)).2

/-- The half that is loaded takes the words of the program; the other halves keep theirs. -/
theorem State.csWord_loadHalf (hs : s.Sound) (rd : Nat → Byte) {τ a h k w : Nat} (hh : h < 2) (hk : k < 2) (hw : w < 4096) :
    (s.loadHalf rd a k).csWord τ h w = if τ = a ∧ h = k then storedWord rd w else s.csWord τ h w := by
  rw [State.loadHalf_eq]
  unfold State.csWord storedWords
  dsimp only
  rw [spGet_foldl_put _ (fun w => BitVec.ofNat 264 (storedWord rd w)) _ hs.cs]
  by_cases here : τ = a ∧ h = k
  · obtain ⟨rfl, rfl⟩ := here
    rw [if_pos (by omega), if_pos ⟨rfl, rfl⟩, Nat.add_sub_cancel_left, BitVec.toNat_ofNat]
    have := storedWord_lt rd w
    omega
  · rw [if_neg (by omega), if_neg here]

/-- The halves that HALF names take a program. -/
def State.loadHalves (s : State) (rd : Nat → Byte) (τ sel : Nat) : State :=
  forUpto 2 s fun h u => if halfNamed sel h then u.loadHalf rd τ h else u

theorem State.loadHalves_regs (hs : s.Sound) (rd : Nat → Byte) (τ sel : Nat) :
    (s.loadHalves rd τ sel).Sound ∧ (s.loadHalves rd τ sel).regs = s.regs :=
  forUpto_induct (fun _ (u : State) => u.Sound ∧ u.regs = s.regs) ⟨hs, rfl⟩ fun h u _ ⟨hu, same⟩ => by
    split
    · refine ⟨hu.loadHalf .., ?_⟩
      rw [State.loadHalf_eq]
      exact same
    · exact ⟨hu, same⟩

theorem State.csWord_loadHalves (hs : s.Sound) (rd : Nat → Byte) {τ a sel h w : Nat} (hh : h < 2) (hw : w < 4096) :
    (s.loadHalves rd a sel).csWord τ h w =
      if τ = a ∧ halfNamed sel h = true then storedWord rd w else s.csWord τ h w := by
  have passes : (s.loadHalves rd a sel).Sound ∧ (s.loadHalves rd a sel).csWord τ h w =
      if τ = a ∧ halfNamed sel h = true ∧ h < 2 then storedWord rd w else s.csWord τ h w :=
    forUpto_induct (fun i (u : State) => u.Sound ∧ u.csWord τ h w =
      if τ = a ∧ halfNamed sel h = true ∧ h < i then storedWord rd w else s.csWord τ h w)
      ⟨hs, (if_neg (by omega)).symm⟩ fun k u hk ⟨hu, same⟩ => by
        split
        · refine ⟨hu.loadHalf .., ?_⟩
          rw [State.csWord_loadHalf hu rd hh hk hw, same]
          grind
        · refine ⟨hu, same.trans ?_⟩
          grind
  simpa only [hh, and_true] using passes.2

/-! ### Registers of the other tiles -/

/-- The registers of the loader with a bit for each tile. -/
def loadMaps : List Reg := [.RED_SIMPLEX_TILE, .MC_LOAD_FAIL]

/-- A sound state in which the registers of all tiles but `a` read as in `s`, the maps of the loader aside. -/
structure State.Beside (u s : State) (a : Nat) : Prop where
  sound : u.Sound
  regs : ∀ q, q ∉ loadMaps → ∀ τ, τ % 256 ≠ a % 256 → ∀ i j, u.treg q τ i j = s.treg q τ i j

theorem State.Beside.refl (hs : s.Sound) (a : Nat) : s.Beside s a := ⟨hs, fun _ _ _ _ _ _ => rfl⟩

theorem State.Beside.setTreg {u : State} {a b : Nat} {r : Reg} (hu : u.Beside s a) (own : r ∈ loadMaps ∨ b = a) (v i j : Nat) :
    (u.setTreg r b v i j).Beside s a := by
  refine ⟨hu.sound.setTreg .., fun q hq τ hτ i' j' => ?_⟩
  refine (State.treg_setTreg_other u hu.sound.regs v fun same => ?_).trans (hu.regs q hq τ hτ i' j')
  obtain ⟨reg, tile, -, -⟩ := Reg.key_inj same
  rcases own with listed | rfl
  · exact hq (reg ▸ listed)
  · exact hτ tile

theorem State.Beside.forUpto {u : State} {a n : Nat} {f : Nat → State → State} (hu : u.Beside s a)
    (hf : ∀ i v, v.Beside s a → (f i v).Beside s a) : (forUpto n u f).Beside s a :=
  forUpto_induct (fun _ (v : State) => v.Beside s a) hu fun i v _ => hf i v

theorem State.Beside.ite {c : Prop} [Decidable c] {u v : State} {a : Nat} (hu : u.Beside s a) (hv : v.Beside s a) :
    (if c then u else v).Beside s a := by
  split
  · exact hu
  · exact hv

theorem State.Beside.loadHalves {u : State} {a : Nat} (hu : u.Beside s a) (rd : Nat → Byte) (sel : Nat) :
    (u.loadHalves rd a sel).Beside s a := by
  obtain ⟨sound, regs⟩ := State.loadHalves_regs hu.sound rd a sel
  refine ⟨sound, fun q hq τ hτ i j => Eq.trans ?_ (hu.regs q hq τ hτ i j)⟩
  unfold State.treg
  rw [regs]

theorem State.Beside.loadContract {u : State} {a : Nat} (hu : u.Beside s a) (rd : Nat → Byte) :
    (u.loadContract rd a).Beside s a :=
  State.Beside.forUpto ((((((hu.setTreg (.inr rfl) _ _ _).setTreg (.inr rfl) _ _ _).setTreg (.inr rfl) _ _ _).setTreg
    (.inr rfl) _ _ _).setTreg (.inr rfl) _ _ _).setTreg (.inr rfl) _ _ _) fun _ _ hv => hv.setTreg (.inr rfl) _ _ _

theorem State.Beside.reloaded {u : State} {a : Nat} (hu : u.Beside s a) (h : Nat) : (u.reloaded a h).Beside s a := by
  have left : (u.setTbit .MC_STATUS a (1 + h) false).Beside s a := hu.setTreg (.inr rfl) _ _ _
  have out : ((u.setTbit .MC_STATUS a (1 + h) false).setHalf a h 0).Beside s a :=
    (left.setTreg (.inr rfl) _ _ _).setTreg (.inl (by decide)) _ _ _
  exact State.Beside.ite (State.Beside.ite out left) hu

/-! ### The pass of the loader over a tile (R221) -/

/-- The halves that HALF names leave machine check, unless a readback differs (R224). -/
def State.reloadHalves (s : State) (τ sel : Nat) (bad : Bool) : State :=
  if bad then s else forUpto 2 s fun h u => if halfNamed sel h then u.reloaded τ h else u

theorem State.loadTile_eq (s : State) (rd : Nat → Byte) (τ sel : Nat) (bad : Bool) :
    s.loadTile rd τ sel bad =
      (((s.loadHalves rd τ sel).loadContract rd τ).reloadHalves τ sel bad).setTbit .MC_STATUS τ 0 (!bad) := by
  cases bad <;> rfl

theorem State.Beside.loadTile {u : State} {a : Nat} (hu : u.Beside s a) (rd : Nat → Byte) (sel : Nat) (bad : Bool) :
    (u.loadTile rd a sel bad).Beside s a := by
  have contract := (hu.loadHalves rd sel).loadContract rd
  rw [State.loadTile_eq]
  exact (State.Beside.ite contract (contract.forUpto fun h _ hv => (hv.reloaded h).ite hv)).setTreg (.inr rfl) _ _ _

theorem State.reloadHalves_ok {Q : Kit} (hs : s.Ok Q) (τ sel : Nat) (bad : Bool)
    (hw : Q.mask &&& regMask [.MC_STATUS, .RED_TSTATE, .RED_SIMPLEX_TILE] = 0) : (s.reloadHalves τ sel bad).Ok Q :=
  ok_ite (fun _ => hs) fun _ => forUpto_ok hs fun h _ hu =>
    ok_ite (fun _ => State.reloaded_ok hu τ h (Kit.sub hw (by decide +kernel))) fun _ => hu

theorem leVal_lt : ∀ bs : List Byte, leVal bs < 256 ^ bs.length
  | [] => Nat.one_pos
  | b :: bs => by
    have := leVal_lt bs
    have := b.isLt
    rw [leVal, List.length_cons, Nat.pow_succ]
    omega

theorem imgW_lt (rd : Nat → Byte) (o : Nat) : imgW rd o < 2 ^ 32 := by
  have := leVal_lt ((List.range 4).map fun k => rd (o + k))
  rw [List.length_map, List.length_range] at this
  exact this

/-- CYCLES and the CRC of the contract. -/
theorem State.treg_loadContract (hs : s.Sound) (rd : Nat → Byte) (τ : Nat) :
    (s.loadContract rd τ).treg .MC_CYCLES τ = imgW rd 8 ∧ (s.loadContract rd τ).treg .MC_CRC τ = imgW rd 28 := by
  have h1 := hs.setTreg .MC_CYCLES τ (imgW rd 8) 0 0
  have h2 := h1.setTreg .MC_KINDS τ (imgW rd 12) 0 0
  have h3 := h2.setTreg .MC_CHMASK τ (imgW rd 16) 0 0
  have h4 := h3.setTreg .MC_CHMASK τ (imgW rd 20) 1 0
  have h5 := h4.setTreg .MC_DMHI τ (imgW rd 24) 0 0
  have h6 := h5.setTreg .MC_CRC τ (imgW rd 28) 0 0
  have rows {q : Reg} (hq : q ≠ .MC_REC) := State.treg_setRow_ne h6 hq τ 64 (fun c => imgW rd (64 + 4 * c)) τ 0 0
  constructor
  · calc
      _ = _ := rows (by decide)
      _ = _ := State.treg_setTreg_ne _ h5.regs _ _ _ _ _ _ _ (by decide)
      _ = _ := State.treg_setTreg_ne _ h4.regs _ _ _ _ _ _ _ (by decide)
      _ = _ := State.treg_setTreg_ne _ h3.regs _ _ _ _ _ _ _ (by decide)
      _ = _ := State.treg_setTreg_ne _ h2.regs _ _ _ _ _ _ _ (by decide)
      _ = _ := State.treg_setTreg_ne _ h1.regs _ _ _ _ _ _ _ (by decide)
      _ = imgW rd 8 % 2 ^ 32 := State.treg_setTreg_same s hs.regs ..
      _ = imgW rd 8 := Nat.mod_eq_of_lt (imgW_lt rd 8)
  · calc
      _ = _ := rows (by decide)
      _ = imgW rd 28 % 2 ^ 32 := State.treg_setTreg_same _ h5.regs ..
      _ = imgW rd 28 := Nat.mod_eq_of_lt (imgW_lt rd 28)

theorem State.cs_loadContract (s : State) (rd : Nat → Byte) (τ : Nat) : (s.loadContract rd τ).cs = s.cs := by
  unfold State.loadContract
  dsimp only
  rw [forUpto_regs fun _ _ => rfl]
  rfl

/-- The pass of the loader over a tile: the load, and its bit of MC_LOAD_FAIL where the readback differs. -/
def State.loadPass (s : State) (rd : Nat → Byte) (sel : Nat) (bad : List Nat) (τ : Nat) : State :=
  if bad.contains τ then (s.loadTile rd τ sel (bad.contains τ)).setMapBit .MC_LOAD_FAIL 0 τ true
  else s.loadTile rd τ sel (bad.contains τ)

/-- A tile has taken a program with its contract in the halves that HALF names; `bad` names the tiles whose readback
differs. -/
structure State.HasProgram (s : State) (rd : Nat → Byte) (sel : Nat) (bad : List Nat) (τ : Nat) : Prop where
  cycles : s.treg .MC_CYCLES τ = imgW rd 8
  crc : s.treg .MC_CRC τ = imgW rd 28
  valid : s.tbit .MC_STATUS τ 0 = !bad.contains τ
  failed : bad.contains τ = true → s.mapBit .MC_LOAD_FAIL 0 τ = true
  words : ∀ h w, h < 2 → halfNamed sel h = true → w < 4096 → s.csWord τ h w = storedWord rd w

theorem State.csWord_loadTile (hs : s.Sound) (rd : Nat → Byte) (sel : Nat) (bad : Bool) {τ a h w : Nat} (hh : h < 2)
    (hw : w < 4096) :
    (s.loadTile rd a sel bad).csWord τ h w =
      if τ = a ∧ halfNamed sel h = true then storedWord rd w else s.csWord τ h w := by
  have halves := (State.loadHalves_regs hs rd a sel).1
  have contract := ((State.Beside.refl halves a).loadContract rd).sound
  have reload := (State.reloadHalves_ok (State.ok_self contract (2 ^ 1030)) a sel bad (by dsimp only; decide +kernel)).1.kcs
    (by dsimp only; decide +kernel)
  have stores : (s.loadTile rd a sel bad).cs = (s.loadHalves rd a sel).cs := by
    rw [State.loadTile_eq]
    exact reload.trans (State.cs_loadContract _ rd a)
  rw [← State.csWord_loadHalves hs rd hh hw]
  unfold State.csWord
  rw [stores]

theorem State.treg_loadTile (hs : s.Sound) (rd : Nat → Byte) (τ sel : Nat) (bad : Bool) :
    (s.loadTile rd τ sel bad).treg .MC_CYCLES τ = imgW rd 8 ∧ (s.loadTile rd τ sel bad).treg .MC_CRC τ = imgW rd 28 ∧
      (s.loadTile rd τ sel bad).tbit .MC_STATUS τ 0 = !bad := by
  have halves := (State.loadHalves_regs hs rd τ sel).1
  have contract := ((State.Beside.refl halves τ).loadContract rd).sound
  obtain ⟨cycles, crc⟩ := State.treg_loadContract halves rd τ
  have reload := State.reloadHalves_ok (State.ok_self contract (regMask [.MC_CYCLES, .MC_CRC])) τ sel bad
    (by dsimp only; decide +kernel)
  rw [State.loadTile_eq]
  refine ⟨?_, ?_, ?_⟩
  · exact (State.treg_setTreg_ne _ reload.2.regs _ _ _ _ _ _ _ (by decide)).trans
      ((reload.treg_eq (by decide +kernel) τ 0 0).trans cycles)
  · exact (State.treg_setTreg_ne _ reload.2.regs _ _ _ _ _ _ _ (by decide)).trans
      ((reload.treg_eq (by decide +kernel) τ 0 0).trans crc)
  · exact (State.tbit_setTbit reload.2.regs .MC_STATUS (by decide) (!bad) 0).trans (if_pos rfl)

/-- A bit of a map after a bit of it was written. -/
theorem State.mapBit_setMapBit (hs : s.Sound) (r : Reg) {a n : Nat} (ha : a < 2 ^ 14) (hn : n < 2 ^ 14) (v : Bool) :
    (s.setMapBit r 0 n v).mapBit r 0 a = if a = n then v else s.mapBit r 0 a := by
  rw [State.mapBit_eq, State.mapBit_eq, State.setMapBit_eq]
  by_cases word : a / 32 = n / 32
  · rw [word, setBit, State.treg_setField hs.regs r (Nat.le_succ _) (Nat.mod_lt _ (by decide)), ← setBit, bit_setBit]
    exact ite_congr (propext ⟨fun e => by omega, fun e => by rw [e]⟩) (fun _ => rfl) (fun _ => rfl)
  · rw [State.treg_setTreg_ix s hs.regs _ _ _ _ _ _ (by omega), if_neg fun e => word (by rw [e])]

theorem State.Beside.loadPass {u : State} {a : Nat} (hu : u.Beside s a) (rd : Nat → Byte) (sel : Nat) (bad : List Nat) :
    (u.loadPass rd sel bad a).Beside s a :=
  State.Beside.ite ((hu.loadTile rd sel _).setTreg (.inl (by decide)) _ _ _) (hu.loadTile rd sel _)

/-- The pass over a tile gives it the program. -/
theorem State.hasProgram_loadPass (hs : s.Sound) (rd : Nat → Byte) (sel : Nat) (bad : List Nat) {τ : Nat} (hτ : τ < 256) :
    (s.loadPass rd sel bad τ).HasProgram rd sel bad τ := by
  obtain ⟨cycles, crc, valid⟩ := State.treg_loadTile hs rd τ sel (bad.contains τ)
  have words : ∀ h w, h < 2 → halfNamed sel h = true → w < 4096 →
      (s.loadTile rd τ sel (bad.contains τ)).csWord τ h w = storedWord rd w := fun h w hh named hw =>
    (State.csWord_loadTile hs rd sel (bad.contains τ) hh hw).trans (if_pos ⟨rfl, named⟩)
  have sound := ((State.Beside.refl hs τ).loadTile rd sel (bad.contains τ)).sound
  unfold State.loadPass
  split
  · have other {q : Reg} (hq : q ≠ .MC_LOAD_FAIL) := State.treg_setTreg_ne (s.loadTile rd τ sel (bad.contains τ)) sound.regs
      0 (setBit ((s.loadTile rd τ sel (bad.contains τ)).treg .MC_LOAD_FAIL 0 (τ / 32)) (τ % 32) true) (τ / 32) 0 τ 0 0 hq
    exact {
      cycles := (other (by decide)).trans cycles
      crc := (other (by decide)).trans crc
      valid := (congrArg (bit · 0) (other (by decide))).trans valid
      failed := fun _ => (State.mapBit_setMapBit sound .MC_LOAD_FAIL (by omega) (by omega) true).trans (if_pos rfl)
      words := words }
  · next good => exact ⟨cycles, crc, valid, fun failed => absurd failed good, words⟩

/-- A bit of MC_LOAD_FAIL that is set stays set. -/
theorem State.loadFail_loadPass (hs : s.Sound) (rd : Nat → Byte) (sel : Nat) (bad : List Nat) {τ a : Nat} (hτ : τ < 256)
    (ha : a < 256) (set : s.mapBit .MC_LOAD_FAIL 0 τ = true) : (s.loadPass rd sel bad a).mapBit .MC_LOAD_FAIL 0 τ = true := by
  have tile := State.loadTile_ok (State.ok_self hs (regMask [.MC_LOAD_FAIL])) rd a sel (bad.contains a)
    (by dsimp only; decide +kernel)
  have kept : (s.loadTile rd a sel (bad.contains a)).mapBit .MC_LOAD_FAIL 0 τ = true :=
    (congrArg (bit · (τ % 32)) (tile.treg_eq (by decide +kernel) 0 (τ / 32) 0)).trans set
  unfold State.loadPass
  split
  · rw [State.mapBit_setMapBit tile.2 _ (by omega) (by omega), kept, ite_self]
  · exact kept

/-- The pass over another tile leaves the program of a tile. -/
theorem State.HasProgram.loadPass {rd : Nat → Byte} {sel τ a : Nat} {bad : List Nat} (hs : s.Sound)
    (has : s.HasProgram rd sel bad τ) (hτ : τ < 256) (ha : a < 256) (apart : τ ≠ a) :
    (s.loadPass rd sel bad a).HasProgram rd sel bad τ := by
  have beside := (State.Beside.refl hs a).loadPass rd sel bad
  have other {q : Reg} (hq : q ∉ loadMaps) := beside.regs q hq τ (by omega) 0 0
  refine ⟨(other (by decide)).trans has.cycles, (other (by decide)).trans has.crc,
    (congrArg (bit · 0) (other (by decide))).trans has.valid,
    fun failed => State.loadFail_loadPass hs rd sel bad hτ ha (has.failed failed), fun h w hh named hw => ?_⟩
  have tile := (State.csWord_loadTile hs rd sel (bad.contains a) hh hw).trans (if_neg fun e => apart e.1)
  refine Eq.trans ?_ (tile.trans (has.words h w hh named hw))
  unfold State.loadPass
  split <;> rfl

/-- The passes over the targets of a load. -/
def State.loadPasses (s : State) (rd : Nat → Byte) (sel : Nat) (bad l : List Nat) : State :=
  forIn' l s fun τ u => u.loadPass rd sel bad τ

theorem State.Sound.loadPasses (hs : s.Sound) (rd : Nat → Byte) (sel : Nat) (bad l : List Nat) :
    (s.loadPasses rd sel bad l).Sound :=
  List.foldlRecOn (motive := State.Sound) l _ hs fun _ hu τ _ => ((State.Beside.refl hu τ).loadPass rd sel bad).sound

/-- Every target of a load takes the program. -/
theorem State.hasProgram_loadPasses (hs : s.Sound) (rd : Nat → Byte) (sel : Nat) (bad : List Nat) {l : List Nat} {τ : Nat}
    (hl : ∀ a ∈ l, a < 256) (hτ : τ ∈ l) : (s.loadPasses rd sel bad l).HasProgram rd sel bad τ := by
  obtain ⟨before, after, rfl⟩ := List.append_of_mem hτ
  unfold State.loadPasses forIn'
  rw [List.foldl_append, List.foldl_cons]
  have sound : (before.foldl (fun u τ => u.loadPass rd sel bad τ) s).Sound := hs.loadPasses rd sel bad before
  have taken := State.hasProgram_loadPass sound rd sel bad (hl τ hτ)
  refine (List.foldlRecOn (motive := fun u : State => u.Sound ∧ u.HasProgram rd sel bad τ) after _
    ⟨((State.Beside.refl sound τ).loadPass rd sel bad).sound, taken⟩ fun u ⟨hu, has⟩ a ha => ?_).2
  refine ⟨((State.Beside.refl hu a).loadPass rd sel bad).sound, ?_⟩
  have small := hl a (by simp [ha])
  by_cases same : τ = a
  · rw [same]
    exact State.hasProgram_loadPass hu rd sel bad small
  · exact has.loadPass hu (hl τ hτ) small same

/-- What no pass changes: the mode and the messages of faults. -/
theorem State.loadPasses_keeps (hs : s.Sound) (rd : Nat → Byte) (sel : Nat) (bad l : List Nat) :
    (s.loadPasses rd sel bad l).mode = s.mode ∧ (s.loadPasses rd sel bad l).faults = s.faults := by
  have kept : (s.loadPasses rd sel bad l).Ok ⟨s.pending, none, none, none, false, s, 2 ^ 1038 + 2 ^ 1044⟩ :=
    forIn'_ok (State.ok_self hs _) fun τ u hu => by
      have tile := State.loadTile_ok hu rd τ sel (bad.contains τ) (by dsimp only; decide +kernel)
      exact ok_ite (fun _ => State.setMapBit_ok tile _ _ _ _ (by dsimp only; decide +kernel)) fun _ => tile
  exact ⟨kept.1.kmode (by dsimp only; decide +kernel), kept.1.kfaults (by dsimp only; decide +kernel)⟩

/-! ### The commands (R220, R221, R230) -/

theorem exec_mcLoadStart : exec .mcLoadStart s = .next s.mcLoadStart := rfl

theorem exec_mcLoadDone {bad : List Nat} (hb : bad.all (fun τ => decide (τ < 176)) = true) (busy : s.loadBusy = true) :
    exec (.mcLoadDone bad) s = .next (s.mcLoadDone bad) :=
  (if_pos hb).trans (congrArg _ (if_pos busy))

theorem exec_controlStoreRead {τ : Nat} (hτ : τ < 176) (hu : s.inUse τ = true) :
    exec (.controlStoreRead τ) s = .next (s.csRead τ) :=
  (if_pos (decide_eq_true hτ)).trans (congrArg _ (if_pos hu))

theorem State.mcLoadStart_taken (idle : s.loadBusy = false)
    (allowed : s.loadTargets.all (fun τ => s.loadAllowed τ (s.fld .MC_LOAD_CTRL 1 0)) = true) :
    s.mcLoadStart = ((s.setRow .MC_LOAD_FAIL 0 6 fun _ => 0).setReg .MC_LOAD_STATUS (2 ^ 31)).setLat .mcHalf
      (s.fld .MC_LOAD_CTRL 1 0) := by
  unfold State.mcLoadStart
  dsimp only
  rw [if_neg (by rw [idle]; decide), if_neg (not_not_intro allowed)]
  rfl

/-- A load begins (R220). -/
theorem mcLoadStart_begins (hs : s.Sound) (idle : s.loadBusy = false)
    (allowed : s.loadTargets.all (fun τ => s.loadAllowed τ (s.fld .MC_LOAD_CTRL 1 0)) = true) :
    ∃ t, exec .mcLoadStart s = .next t ∧ t.reg .MC_LOAD_STATUS = 2 ^ 31 ∧ (∀ k, k < 6 → t.reg .MC_LOAD_FAIL k = 0) ∧
      t = { s with regs := t.regs, lats := t.lats } ∧ t.otherRegs s [.MC_LOAD_STATUS, .MC_LOAD_FAIL] := by
  have row := hs.setRow .MC_LOAD_FAIL 0 6 fun _ => 0
  refine ⟨_, exec_mcLoadStart.trans (congrArg _ (State.mcLoadStart_taken idle allowed)), ?_, fun k hk => ?_, ?_, ?_⟩
  · exact State.treg_setTreg_same _ row.regs ..
  · exact (State.treg_setTreg_ne _ row.regs _ _ _ _ _ _ _ (by decide)).trans
      (State.treg_setRow_same hs _ _ _ hk (by decide))
  · rw [State.setRow_frame]
    rfl
  · have cleared : (s.setRow .MC_LOAD_FAIL 0 6 fun _ => 0).otherRegs s [.MC_LOAD_STATUS, .MC_LOAD_FAIL] :=
      fun q hq τ i j => State.treg_setRow_ne hs (fun e => hq (by simp [e])) _ _ _ τ i j
    exact cleared.setTreg row.regs (by decide) _ _ _ _

/-- A refusal at MC_LOAD_CMD, whose block has no REFUSED flag, sends REFUSE and does nothing else. -/
theorem State.refuse_mcLoadCmd (s : State) : s.refuse .MC_LOAD_CMD = s.send 0x10B 0x02 (Reg.addr .MC_LOAD_CMD 0 0 0) := by
  have unflagged : refusedFlag (Reg.addr .MC_LOAD_CMD 0 0 0) = none := by decide
  unfold State.refuse State.refuseAddr
  rw [unflagged]
  rfl

/-- START is refused (R220). -/
theorem mcLoadStart_refused (hs : s.Sound) (no : s.loadBusy = true ∨
      s.loadTargets.all (fun τ => s.loadAllowed τ (s.fld .MC_LOAD_CTRL 1 0)) = false) :
    ∃ t, exec .mcLoadStart s = .next t ∧ t.faults = s.faults ++ [s.msg 0x10B 0x02 (Reg.addr .MC_LOAD_CMD 0 0 0)] ∧
      t.reg .MC_LOAD_STATUS = (if s.loadBusy then s.reg .MC_LOAD_STATUS else 2 ^ 30 + 0x0C) ∧
      t.otherRegs s [.MC_LOAD_STATUS] ∧ t.memAs s := by
  refine ⟨_, exec_mcLoadStart, ?_⟩
  unfold State.mcLoadStart
  dsimp only
  by_cases busy : s.loadBusy = true
  · rw [if_pos busy, if_pos busy, State.refuse_mcLoadCmd]
    exact ⟨rfl, rfl, fun _ _ _ _ _ => rfl, fun _ => rfl, fun _ => rfl, fun _ => rfl, fun _ _ => rfl, fun _ => rfl, fun _ => rfl⟩
  · have barred : ¬s.loadTargets.all (fun τ => s.loadAllowed τ (s.fld .MC_LOAD_CTRL 1 0)) = true := by simp_all
    rw [if_neg busy, if_neg busy, if_pos barred, State.refuse_mcLoadCmd]
    refine ⟨rfl, State.treg_setTreg_same _ hs.regs .., ?_, fun _ => rfl, fun _ => rfl, fun _ => rfl, fun _ _ => rfl,
      fun _ => rfl, fun _ => rfl⟩
    exact State.otherRegs.setTreg (fun _ _ _ _ _ => rfl) hs.regs (by decide) _ _ _ _

/-- The checks of R219 have the codes up to 0x0B. -/
theorem State.programCheck_le (s : State) (rd : Nat → Byte) (l : List Nat) : s.programCheck rd l ≤ 0x0B := by
  have either {c : Prop} [Decidable c] {a b : Nat} (ha : a ≤ 0x0B) (hb : b ≤ 0x0B) : (if c then a else b) ≤ 0x0B := by
    split
    · exact ha
    · exact hb
  unfold State.programCheck
  repeat' apply either
  all_goals decide

/-- A load whose image is read without an error: the first check that fails ends it, else every target takes the
program. -/
theorem State.mcLoadDone_read {bad : List Nat} {o : Nat}
    (place : s.dramOff (2 ^ 32 * s.fld .MC_LOAD_ADDR_HI 7 0 + s.reg .MC_LOAD_ADDR_LO) = some o) {rd : Nat → Byte}
    (hrd : (fun k => s.dramByte (o + k)) = rd) (inside : o + (320 + 32 * imgCycles rd) ≤ s.dramSize)
    (clean : s.dramBad o (320 + 32 * imgCycles rd) = none) (written : s.dramFresh o (320 + 32 * imgCycles rd) = []) :
    s.mcLoadDone bad =
      if s.programCheck rd s.loadTargets ≠ 0 then s.mcLoadEnd (s.programCheck rd s.loadTargets)
      else (s.loadPasses rd (s.nlat .mcHalf) bad s.loadTargets).mcLoadEnd
        (if s.loadTargets.any (fun τ => bad.contains τ) then 0x0D else 0) := by
  have met : s.dramMeet o (320 + 32 * imgCycles rd) = s := by
    unfold State.dramMeet
    rw [written]
    rfl
  unfold State.mcLoadDone
  dsimp only
  rw [place]
  dsimp only
  rw [hrd, if_neg (Nat.not_lt.mpr inside), clean]
  dsimp only
  rw [met]
  rfl

theorem State.mcLoadDone_noDram (outside : s.dramOff (2 ^ 32 * s.fld .MC_LOAD_ADDR_HI 7 0 + s.reg .MC_LOAD_ADDR_LO) = none)
    (bad : List Nat) : s.mcLoadDone bad = s.mcLoadEnd 0x0E := by
  unfold State.mcLoadDone
  dsimp only
  rw [outside]

theorem State.reg_mcLoadEnd (hs : s.Sound) {code : Nat} (hc : code < 2 ^ 30) :
    (s.mcLoadEnd code).reg .MC_LOAD_STATUS = 2 ^ 30 + code :=
  (State.treg_setTreg_same s hs.regs ..).trans (Nat.mod_eq_of_lt (by omega))

theorem State.otherRegs_mcLoadEnd (hs : s.Sound) (code : Nat) : (s.mcLoadEnd code).otherRegs s [.MC_LOAD_STATUS] :=
  State.otherRegs.setTreg (fun _ _ _ _ _ => rfl) hs.regs (by decide) _ _ _ _

/-- The end of a load leaves the program of a tile. -/
theorem State.HasProgram.mcLoadEnd {rd : Nat → Byte} {sel τ : Nat} {bad : List Nat} (hs : s.Sound)
    (has : s.HasProgram rd sel bad τ) (code : Nat) : (s.mcLoadEnd code).HasProgram rd sel bad τ := by
  have other {q : Reg} (hq : q ∉ [Reg.MC_LOAD_STATUS]) := State.otherRegs_mcLoadEnd hs code q hq
  exact {
    cycles := (other (by decide) τ 0 0).trans has.cycles
    crc := (other (by decide) τ 0 0).trans has.crc
    valid := (congrArg (bit · 0) (other (by decide) τ 0 0)).trans has.valid
    failed := fun failed => (congrArg (bit · (τ % 32)) (other (by decide) 0 (τ / 32) 0)).trans (has.failed failed)
    words := has.words }

theorem State.loadTargets_lt {τ : Nat} (h : τ ∈ s.loadTargets) : τ < 176 :=
  List.mem_range.mp (List.mem_filter.mp (List.mem_filter.mp h).1).1

/-- A load whose image is read without an error ends (R219, R221). -/
theorem mcLoadDone_ends (hs : s.Sound) {bad : List Nat} (hb : bad.all (fun τ => decide (τ < 176)) = true)
    (busy : s.loadBusy = true) {o : Nat}
    (place : s.dramOff (2 ^ 32 * s.fld .MC_LOAD_ADDR_HI 7 0 + s.reg .MC_LOAD_ADDR_LO) = some o) {rd : Nat → Byte}
    (hrd : (fun k => s.dramByte (o + k)) = rd) (inside : o + (320 + 32 * imgCycles rd) ≤ s.dramSize)
    (clean : s.dramBad o (320 + 32 * imgCycles rd) = none) (written : s.dramFresh o (320 + 32 * imgCycles rd) = []) :
    ∃ t, exec (.mcLoadDone bad) s = .next t ∧ t.mode = s.mode ∧ t.faults = s.faults ∧
      (s.programCheck rd s.loadTargets ≠ 0 → t.reg .MC_LOAD_STATUS = 2 ^ 30 + s.programCheck rd s.loadTargets ∧
        t.otherRegs s [.MC_LOAD_STATUS] ∧ t.memAs s) ∧
      (s.programCheck rd s.loadTargets = 0 →
        t.reg .MC_LOAD_STATUS = 2 ^ 30 + (if s.loadTargets.any (fun τ => bad.contains τ) then 0x0D else 0) ∧
        ∀ τ ∈ s.loadTargets, t.HasProgram rd (s.nlat .mcHalf) bad τ) := by
  refine ⟨_, (exec_mcLoadDone hb busy).trans (congrArg _ (State.mcLoadDone_read place hrd inside clean written)), ?_⟩
  split
  · next fails =>
    refine ⟨rfl, rfl, fun _ => ⟨?_, State.otherRegs_mcLoadEnd hs _, ?_⟩, fun passes => absurd passes fails⟩
    · exact State.reg_mcLoadEnd hs (Nat.lt_of_le_of_lt (State.programCheck_le ..) (by decide))
    · exact ⟨fun _ => rfl, fun _ => rfl, fun _ => rfl, fun _ _ => rfl, fun _ => rfl, fun _ => rfl⟩
  · next passes =>
    have sound := hs.loadPasses rd (s.nlat .mcHalf) bad s.loadTargets
    obtain ⟨mode, faults⟩ := State.loadPasses_keeps hs rd (s.nlat .mcHalf) bad s.loadTargets
    refine ⟨mode, faults, fun fails => absurd fails passes, fun _ => ⟨?_, fun τ hτ => ?_⟩⟩
    · exact State.reg_mcLoadEnd sound (by split <;> decide)
    · have small a (ha : a ∈ s.loadTargets) : a < 256 := Nat.lt_trans (State.loadTargets_lt ha) (by decide)
      exact (State.hasProgram_loadPasses hs rd _ bad small hτ).mcLoadEnd sound _

/-- The words of the program in a tile that holds it. -/
theorem State.HasProgram.csWord {rd : Nat → Byte} {sel τ h w : Nat} {bad : List Nat} (has : s.HasProgram rd sel bad τ)
    (hh : h < 2) (named : halfNamed sel h = true) (hw : w < imgCycles rd) :
    s.csWord τ h w = withParity (imgWord rd w) := by
  have wide : imgCycles rd < 2 ^ 12 := bits_lt _ _ _
  rw [has.words h w hh named (by omega), storedWord, if_pos hw]

/-- The word that MC_CS_ADDR names. -/
def State.csAddressed (s : State) (τ : Nat) : Nat := s.csWord τ (s.tfld .MC_CS_ADDR τ 16 16) (s.tfld .MC_CS_ADDR τ 11 0)

theorem State.csRead_eq (s : State) (τ : Nat) :
    s.csRead τ = ((s.setRow .MC_CS_DATA τ 8 (mwField (s.csAddressed τ))).setTreg .MC_CS_PAR τ
      (s.csAddressed τ / 2 ^ 256)).respond false (mwField (s.csAddressed τ) 0) := rfl

theorem mwField_lt (word k : Nat) : mwField word k < 2 ^ 32 := by
  have := bits_lt word (32 * k + 31) (32 * k)
  rwa [show 32 * k + 31 + 1 - 32 * k = 32 by omega] at this

theorem State.csWord_parity_lt (s : State) (τ h w : Nat) : s.csWord τ h w / 2 ^ 256 < 2 ^ 8 := by
  have := (spGet 0#264 s.cs (4096 * (τ * 2 + h) + w)).isLt
  unfold State.csWord
  omega

/-- A read of MC_CS_DATA[0] captures the word and its parity (R230). -/
theorem State.csRead_captures (hs : s.Sound) (τ : Nat) :
    (∀ k, k < 8 → (s.csRead τ).treg .MC_CS_DATA τ k = mwField (s.csAddressed τ) k) ∧
      (s.csRead τ).treg .MC_CS_PAR τ = s.csAddressed τ / 2 ^ 256 ∧
      s.csRead τ = { s with regs := (s.csRead τ).regs, resp := (s.csRead τ).resp } ∧
      (s.csRead τ).otherRegs s [.MC_CS_DATA, .MC_CS_PAR] := by
  have row := hs.setRow .MC_CS_DATA τ 8 (mwField (s.csAddressed τ))
  have parity : s.csAddressed τ / 2 ^ 256 < 2 ^ 32 := Nat.lt_trans (State.csWord_parity_lt ..) (by decide)
  rw [State.csRead_eq]
  refine ⟨fun k hk => ?_, ?_, ?_, ?_⟩
  · rw [State.treg_respond, State.treg_setTreg_ne _ row.regs _ _ _ _ _ _ _ (by decide),
      State.treg_setRow_same hs _ _ _ hk (by decide), Nat.mod_eq_of_lt (mwField_lt _ k)]
  · rw [State.treg_respond, State.treg_setTreg_same _ row.regs, Nat.mod_eq_of_lt parity]
  · rw [State.setRow_frame]
    rfl
  · have captured : (s.setRow .MC_CS_DATA τ 8 (mwField (s.csAddressed τ))).otherRegs s [.MC_CS_DATA, .MC_CS_PAR] :=
      fun q hq τ' i j => State.treg_setRow_ne hs (fun e => hq (by simp [e])) _ _ _ τ' i j
    have all := captured.setTreg row.regs (by decide : Reg.MC_CS_PAR ∈ _) τ (s.csAddressed τ / 2 ^ 256) 0 0
    exact fun q hq τ' i j => (State.treg_respond ..).trans (all q hq τ' i j)

/-- Settles O37: START, the two ends of a load and the read of a control store, clause by clause. -/
theorem programLoads : Obligations.ProgramLoads := by
  unfold Obligations.ProgramLoads
  refine fun s hs => ⟨mcLoadStart_begins hs, mcLoadStart_refused hs, fun bad o hb busy place inside clean written => ?_,
    fun busy place => ?_, fun τ hτ hu => ?_⟩
  · obtain ⟨t, run, mode, faults, fails, passes⟩ := mcLoadDone_ends hs hb busy place rfl inside clean written
    refine ⟨t, run, mode, faults, fails, fun ok => ⟨(passes ok).1, fun τ hτ => ?_⟩⟩
    have has := (passes ok).2 τ hτ
    exact ⟨has.cycles, has.crc, has.valid, has.failed, fun h w => has.csWord⟩
  · refine ⟨_, (exec_mcLoadDone rfl busy).trans (congrArg _ (State.mcLoadDone_noDram place [])), ?_, rfl,
      State.otherRegs_mcLoadEnd hs _⟩
    exact State.reg_mcLoadEnd hs (by decide)
  · obtain ⟨data, par, frame, others⟩ := State.csRead_captures hs τ
    exact ⟨_, exec_controlStoreRead hτ hu, data, par, rfl, frame, others⟩

end Sys2Proof.Machine
end

section
/-! PROOFS. The statements about the step: a grain that passes, soundness, and what time the commands take (R264). -/
set_option Elab.async false
namespace Sys2Proof.Machine

variable {Q : Kit} {s : State}

/-! ### A grain that passes (R264) -/

/-- The increment is 33 bits wide. -/
theorem State.incr_lt (s : State) : s.incr < 2 ^ 33 := by
  unfold State.incr ux
  omega

/-- The counter wraps at 2^48 s, in units of 2^-32 ns. -/
def timeWrap : Nat := 2 ^ 32 * (1000000000 * 2 ^ 48)

/-- One grain adds the increment to network time, modulo 2^48 s. -/
theorem NetTime.total_advance (t : NetTime) {i : Nat} (hi : i < 2 ^ 33) :
    (t.advance i).total % timeWrap = (t.total + i) % timeWrap := by
  unfold NetTime.advance NetTime.total timeWrap
  dsimp only
  split
  · dsimp only
    omega
  · dsimp only
    omega

/-- Settles O2: with an empty queue the step is `grainPass`, which advances network time by the increment. -/
theorem idleGrain : Obligations.IdleGrain := by
  unfold Obligations.IdleGrain
  intro s hs idle
  obtain ⟨ns, sec, frac⟩ := NetTime.advance_range s.incr hs.sec hs.ns hs.frac
  have run : step s = .next s.grainPass := by
    unfold step
    rw [idle]
  exact ⟨s.grainPass, run, rfl, ns, sec, frac, NetTime.total_advance s.time s.incr_lt⟩

/-! ### Soundness -/

/-- A command keeps soundness and the queue. -/
theorem exec_sound {c : Instr} {t : State} (hs : s.Sound) (run : exec c s = .next t) : t.Sound ∧ t.pending = s.pending := by
  have kept := exec_ok (State.ok_self hs 0) (.inl rfl) rfl (Nat.zero_and _) c (fun _ => rfl) (fun _ => ⟨rfl, rfl, rfl⟩)
    (fun _ => rfl) t run
  exact ⟨kept.2, kept.1.q⟩

/-- Settles O4: a grain that passes keeps soundness, and so does every command, which leaves the rest of the queue. -/
theorem stepKeepsSound : Obligations.StepKeepsSound := by
  unfold Obligations.StepKeepsSound
  intro s t hs run
  unfold step at run
  split at run
  · next idle =>
    cases run
    exact ⟨State.grainPass_sound hs, idle.trans (congrArg List.tail idle.symm)⟩
  · next c rest waits =>
    have rest_sound : { s with pending := rest }.Sound := { hs with }
    obtain ⟨sound, queue⟩ := exec_sound rest_sound run
    exact ⟨sound, queue.trans (congrArg List.tail waits.symm)⟩

/-! ### Commands take no time (log entry 4) -/

/-- The commands that set network time: STEP, ADJ, and the release of RESET_N. -/
def setsTime : Instr → Bool
  | .ptpStep | .ptpAdj | .resetNReleased _ => true
  | _ => false

/-- What a command keeps that neither resets nor writes a register of someone's choice: soundness, the queue, the grain
and the Sable line; the mode too unless it is a trigger of R22, and network time unless it sets it. (The kits of `exec_ok`
name neither of these two.) -/
theorem exec_keeps_modeTime (h : s.Ok Q) (hz : Q.mask = 0) (c : Instr) (hreset : isReset c = false)
    (hany : writesAny c = false) (hm : movesMode c = true → Q.anyMode) (ht : setsTime c = true → Q.anyTime) :
    OutOk Q (exec c s) := by
  cases c with
  | powerOnReset | powerLoss | resetNAsserted | thermalRestart => exact nomatch hreset
  | resetCmd | modeCmdCharacterise | modeCmdStatic | deviceHoldCmd | deviceReleaseCmd | bootSlot | nvmRead | nvmWrite
  | nvmErase | imgCheck | fuseSvn | fuseRevoke0 | mgtCmdBusyWrite | mgmtCommandFrame | registerWrite
  | undefinedAddressAccess | mgtRemapWrite | plvWrite | plvPwrite | ledgerRebuildDone => exact nomatch hany
  | resetNReleased straps => exact execResetNReleased_ok h (ht rfl) straps (Kit.subz hz)
  | flashDiscoveryDone found errA errB => exact execFlashDiscoveryDone_ok h found errA errB (Kit.subz hz)
  | selfTestDone ok failU failO skew => exact execSelfTestDone_ok h (hm rfl) ok failU failO skew (Kit.subz hz)
  | dramTrainingDone mask err => exact execDramTrainingDone_ok h mask err hz
  | imageStreamDone err => exact execImageStreamDone_ok h err hz
  | bootArm => exact execBootArm_ok h (Kit.subz hz)
  | holdReqNAsserted => exact execHoldReqNAsserted_ok h (hm rfl) (Kit.subz hz)
  | holdReqNDeasserted => exact execHoldReqNDeasserted_ok h (hm rfl) (Kit.subz hz)
  | holdReleaseBoundary => exact execHoldReleaseBoundary_ok h (hm rfl) (Kit.subz hz)
  | deviceCommandDone done err => exact execDeviceCommandDone_ok h done err (Kit.subz hz)
  | misalignedAccess ini write addr width value =>
    exact execMisalignedAccess_ok h ini write addr width value (Kit.subz hz)
  | rsRead ini addr => exact execRsRead_keeps h ini addr (Kit.subz hz)
  | snapshotRead ini addr => exact execSnapshotRead_keeps h ini addr (Kit.subz hz)
  | spanBoundary hbU hbO => exact execSpanBoundary_ok h hbU hbO (Kit.subz hz)
  | programGrain tile half g ix perr => exact execProgramGrain_ok h tile half g ix perr (Kit.subz hz)
  | heartbeatReceived tile half second => exact execHeartbeatReceived_ok h tile half second (Kit.subz hz)
  | tokenDecision tile ilkU ilkO verdict => exact execTokenDecision_ok h tile ilkU ilkO verdict (Kit.subz hz)
  | conversionComplete tile conv slot code ok done volt =>
    exact execConversionComplete_ok h tile conv slot code ok done volt (Kit.subz hz)
  | sampleDelivered tile conv => exact execSampleDelivered_ok h tile conv (Kit.subz hz)
  | refReady tile => exact execRefReady_ok h tile (Kit.subz hz)
  | syscalDark tile avg => exact execSyscalDark_ok h tile avg (Kit.subz hz)
  | syscalGainInject tile avg => exact execSyscalGainInject_ok h tile avg (Kit.subz hz)
  | syscalGainIllum tile avg => exact execSyscalGainIllum_ok h tile avg (Kit.subz hz)
  | syscalAccept tile avg => exact execSyscalAccept_ok h tile avg (Kit.subz hz)
  | syscalDone tile => exact execSyscalDone_ok h tile (Kit.subz hz)
  | owtAutoStart tile => exact execOwtAutoStart_ok h tile (Kit.subz hz)
  | adcOwtCmd tile input down => exact execAdcOwtCmd_ok h tile input down (Kit.subz hz)
  | captureRecordWritten ring => exact execCaptureRecordWritten_ok h ring (Kit.subz hz)
  | captureRingEnable ring => exact execCaptureRingEnable_ok h ring (Kit.subz hz)
  | configBroadcast ce ue => exact execConfigBroadcast_ok h ce ue (Kit.subz hz)
  | shadowDeadline bad => exact execShadowDeadline_ok h bad (Kit.subz hz)
  | commitDecisionPoint agree => exact execCommitDecisionPoint_ok h agree (Kit.subz hz)
  | commitStrobeEdge missU missO => exact execCommitStrobeEdge_ok h missU missO (Kit.subz hz)
  | guardedGroupLoad group => exact execGuardedGroupLoad_ok h group (Kit.subz hz)
  | legDeparture tile ch legB => exact execLegDeparture_ok h tile ch legB (Kit.subz hz)
  | heaterSliceFail tile ch => exact execHeaterSliceFail_ok h tile ch (Kit.subz hz)
  | htrSwap tile spare ch => exact execHtrSwap_ok h tile spare ch (Kit.subz hz)
  | currentMeasurement tile k current volt => exact execCurrentMeasurement_ok h tile k current volt (Kit.subz hz)
  | monitorScanEnd tile => exact execMonitorScanEnd_ok h tile (Kit.subz hz)
  | slotSkewApplyWrite value => exact execSlotSkewApplyWrite_ok h value (Kit.subz hz)
  | trimPulseStart tile => exact execTrimPulseStart_ok h tile (Kit.subz hz)
  | trimPulseEnd tile => exact execTrimPulseEnd_ok h tile (Kit.subz hz)
  | trimCmdPulse tile ch up set => exact execTrimCmdPulse_ok h tile ch up set (Kit.subz hz)
  | trimCmdTrain tile ch up => exact execTrimCmdTrain_ok h tile ch up (Kit.subz hz)
  | trimCmdAssign tile ch tap => exact execTrimCmdAssign_ok h tile ch tap (Kit.subz hz)
  | trimTsetWrite tile set edge value => exact execTrimTsetWrite_ok h tile set edge value (Kit.subz hz)
  | wearRecordDurable ok => exact execWearRecordDurable_ok h ok (Kit.subz hz)
  | logCompactionDone => exact execLogCompactionDone_ok h (Kit.subz hz)
  | ageTick => exact execAgeTick_ok h (Kit.subz hz)
  | wearQuery cell => exact execWearQuery_ok h cell (Kit.subz hz)
  | wearQueryDone => exact execWearQueryDone_ok h (Kit.subz hz)
  | correctionBlockFetch pend pos => exact execCorrectionBlockFetch_ok h pend pos (Kit.subz hz)
  | correctionBlockArrival pend tile pos => exact execCorrectionBlockArrival_ok h pend tile pos (Kit.subz hz)
  | correctionBlockDeadline pend pos => exact execCorrectionBlockDeadline_ok h pend pos (Kit.subz hz)
  | ddsSwap tile => exact execDdsSwap_ok h tile (Kit.subz hz)
  | swpCmdStart seg => exact execSwpCmdStart_ok h seg (Kit.subz hz)
  | swpCmdStop seg => exact execSwpCmdStop_ok h seg (Kit.subz hz)
  | swpCmdResume seg => exact execSwpCmdResume_ok h seg (Kit.subz hz)
  | swpJumpWrite seg => exact execSwpJumpWrite_ok h seg (Kit.subz hz)
  | outputInstant => exact execOutputInstant_ok h (Kit.subz hz)
  | sweepFrameArrival seg first n => exact execSweepFrameArrival_ok h seg first n (Kit.subz hz)
  | mcLoadStart => exact execMcLoadStart_ok h (Kit.subz hz)
  | mcLoadDone bad => exact execMcLoadDone_ok h bad (Kit.subz hz)
  | controlStoreRead tile => exact execControlStoreRead_ok h tile (Kit.subz hz)
  | cfgCommit bank guard => exact execCfgCommit_ok h bank guard (Kit.subz hz)
  | slotArm => exact execSlotArm_ok h (Kit.subz hz)
  | armValidationDone => exact execArmValidationDone_ok h (Kit.subz hz)
  | slotDisarm => exact execSlotDisarm_ok h (Kit.subz hz)
  | slotStop bank guard atEnd => exact execSlotStop_ok h bank guard atEnd (Kit.subz hz)
  | boundaryFixGrain => exact execBoundaryFixGrain_ok h (Kit.subz hz)
  | slotBoundary => exact execSlotBoundary_ok h (hm rfl) (Kit.subz hz)
  | stagingCopyArrival mem place => exact execStagingCopyArrival_ok h mem place (Kit.subz hz)
  | rteSolve => exact execRteSolve_ok h (Kit.subz hz)
  | rteAdd => exact execRteAdd_ok h (Kit.subz hz)
  | rteDrop => exact execRteDrop_ok h (Kit.subz hz)
  | rteShutmask => exact execRteShutmask_ok h (Kit.subz hz)
  | rteTrace => exact execRteTrace_ok h (Kit.subz hz)
  | rteExtract => exact execRteExtract_ok h (Kit.subz hz)
  | rteMark => exact execRteMark_ok h (Kit.subz hz)
  | routeSolverDone cycles => exact execRouteSolverDone_ok h cycles (Kit.subz hz)
  | ptpStep => exact execPtpStep_ok h (ht rfl) (Kit.subz hz)
  | ptpAdj => exact execPtpAdj_ok h (ht rfl) (Kit.subz hz)
  | macTimeSettled => exact execMacTimeSettled_ok h (Kit.subz hz)
  | ptpIncrFracWrite value => exact execPtpIncrFracWrite_ok h value (Kit.subz hz)
  | ptpIncrNsWrite value => exact execPtpIncrNsWrite_ok h value (Kit.subz hz)
  | servoOffsetWrite value => exact execServoOffsetWrite_ok h value (Kit.subz hz)
  | servoSilence => exact execServoSilence_ok h (Kit.subz hz)
  | ppsInEdge edge => exact execPpsInEdge_ok h edge (Kit.subz hz)
  | ppsLoss => exact execPpsLoss_ok h (Kit.subz hz)
  | ppsOutRise => exact execPpsOutRise_ok h (Kit.subz hz)
  | ppsOutFall => exact execPpsOutFall_ok h (Kit.subz hz)
  | txtsFifoRead port => exact execTxtsFifoRead_ok h port (Kit.subz hz)
  | portLinkChange port up var => exact execPortLinkChange_ok h port up var (Kit.subz hz)
  | frameReceive port frame stamp cw unc => exact execFrameReceive_ok h port frame stamp cw unc (Kit.subz hz)
  | egressFrameStart port stamp => exact execEgressFrameStart_ok h port stamp (Kit.subz hz)
  | portMTxSubmit wp => exact execPortMTxSubmit_ok h wp (Kit.subz hz)
  | learnRequestApply pipe => exact execLearnRequestApply_ok h pipe (Kit.subz hz)
  | flapWindowClose pipe pos => exact execFlapWindowClose_ok h pipe pos (Kit.subz hz)
  | flapHoldExpiry pipe pos => exact execFlapHoldExpiry_ok h pipe pos (Kit.subz hz)
  | ageSweep pipe pos => exact execAgeSweep_ok h pipe pos (Kit.subz hz)
  | fwdSearch pipe => exact execFwdSearch_ok h pipe (Kit.subz hz)
  | fwdNext pipe => exact execFwdNext_ok h pipe (Kit.subz hz)
  | fwdFlushPort pipe => exact execFwdFlushPort_ok h pipe (Kit.subz hz)
  | fwdBulkLoad pipe => exact execFwdBulkLoad_ok h pipe (Kit.subz hz)
  | fwdCmdDone pipe => exact execFwdCmdDone_ok h pipe (Kit.subz hz)
  | lpmInsert => exact execLpmInsert_ok h (Kit.subz hz)
  | lpmDelete => exact execLpmDelete_ok h (Kit.subz hz)
  | lpmLookup => exact execLpmLookup_ok h (Kit.subz hz)
  | lpmCmdDone => exact execLpmCmdDone_ok h (Kit.subz hz)
  | circuitSetup => exact execCircuitSetup_ok h (Kit.subz hz)
  | circuitRelease => exact execCircuitRelease_ok h (Kit.subz hz)
  | circuitQuery => exact execCircuitQuery_ok h (Kit.subz hz)
  | engineCommitRetry => exact execEngineCommitRetry_ok h (Kit.subz hz)
  | trafficTick => exact execTrafficTick_ok h (Kit.subz hz)
  | moveTick => exact execMoveTick_ok h (Kit.subz hz)
  | meterEnable meter value => exact execMeterEnable_ok h meter value (Kit.subz hz)
  | shaperUpdate port queue value => exact execShaperUpdate_ok h port queue value (Kit.subz hz)
  | moveCharge port wearok => exact execMoveCharge_ok h port wearok (Kit.subz hz)
  | movePeek port wearok => exact execMovePeek_ok h port wearok (Kit.subz hz)
  | movePortWrite port value => exact execMovePortWrite_ok h port value (Kit.subz hz)
  | calStart => exact execCalStart_ok h (Kit.subz hz)
  | calAbort => exact execCalAbort_ok h (Kit.subz hz)
  | calTriggerCheck => exact execCalTriggerCheck_ok h (Kit.subz hz)
  | campaignPendingStart => exact execCampaignPendingStart_ok h (Kit.subz hz)
  | comparatorBlockDone tile conv ones => exact execComparatorBlockDone_ok h tile conv ones (Kit.subz hz)
  | probeMarker tile tree late => exact execProbeMarker_ok h tile tree late (Kit.subz hz)
  | measureTimeout tile => exact execMeasureTimeout_ok h tile (Kit.subz hz)
  | tempReading tile raw => exact execTempReading_ok h tile raw (Kit.subz hz)
  | modelStep => exact execModelStep_ok h (Kit.subz hz)
  | railSample rail mv => exact execRailSample_ok h rail mv (Kit.subz hz)
  | ringOscCount tile count => exact execRingOscCount_ok h tile count (Kit.subz hz)
  | tileHoldCmd tile => exact execTileHoldCmd_ok h tile (Kit.subz hz)
  | tileReleaseCmd tile => exact execTileReleaseCmd_ok h tile (Kit.subz hz)
  | tileRejoin tile halves => exact execTileRejoin_ok h tile halves (Kit.subz hz)
  | tileRestart tile halves => exact execTileRestart_ok h tile halves (Kit.subz hz)
  | tileDisable tile halves => exact execTileDisable_ok h tile halves (Kit.subz hz)
  | tileSwap tile => exact execTileSwap_ok h tile (Kit.subz hz)
  | slotTimerRejoin halves => exact execSlotTimerRejoin_ok h halves (Kit.subz hz)
  | slotTimerSwap => exact execSlotTimerSwap_ok h (Kit.subz hz)
  | lockstepMismatch => exact execLockstepMismatch_ok h (Kit.subz hz)
  | watchdogExpiry => exact execWatchdogExpiry_ok h (Kit.subz hz)
  | mgtHeartbeatWrite => exact execMgtHeartbeatWrite_ok h (Kit.subz hz)
  | faultMessageAccept => exact execFaultMessageAccept_ok h (hm rfl) (Kit.subz hz)
  | fltAckOne seq => exact execFltAckOne_ok h seq (Kit.subz hz)
  | fltAckAll => exact execFltAckAll_ok h (Kit.subz hz)
  | sableEntry => exact execSableEntry_ok h (hm rfl) (Kit.subz hz)
  | fltRecDone => exact execFltRecDone_keeps h (Kit.subz hz)
  | fltRecUnfreeze => exact execFltRecUnfreeze_ok h (Kit.subz hz)
  | eventRouting => exact execEventRouting_ok h (Kit.subz hz)
  | relayInput relay => exact execRelayInput_ok h relay (Kit.subz hz)
  | swpStartInput => exact execSwpStartInput_ok h (Kit.subz hz)
  | swpStopInput => exact execSwpStopInput_ok h (Kit.subz hz)
  | calStartInput => exact execCalStartInput_ok h (Kit.subz hz)
  | dmaTrigInput ch => exact execDmaTrigInput_ok h ch (Kit.subz hz)
  | hostMessageInput k => exact execHostMessageInput_ok h k (Kit.subz hz)
  | interruptTake irq => exact execInterruptTake_ok h irq (Kit.subz hz)
  | softwarePublish ini k => exact execSoftwarePublish_ok h ini k (Kit.subz hz)
  | eventEntryWrite ini input index value => exact execEventEntryWrite_ok h ini input index value (Kit.subz hz)
  | dmaStart ch => exact execDmaStart_ok h ch (Kit.subz hz)
  | dmaResume ch => exact execDmaResume_ok h ch (Kit.subz hz)
  | dmaAbort ch => exact execDmaAbort_ok h ch (Kit.subz hz)
  | dmaUnitIssue => exact execDmaUnitIssue_ok h (Kit.subz hz)
  | dmaUnitComplete ch => exact execDmaUnitComplete_ok h ch (Kit.subz hz)
  | mmuInvAll => exact execMmuInvAll_ok h (Kit.subz hz)
  | mmuInvStream stream => exact execMmuInvStream_ok h stream (Kit.subz hz)
  | mmuInvPage stream => exact execMmuInvPage_ok h stream (Kit.subz hz)
  | dqsTracking => exact execDqsTracking_ok h
  | patrolScrub word err => exact execPatrolScrub_ok h word err (Kit.subz hz)
  | plovomLinkState link v lanes => exact execPlovomLinkState_ok h link v lanes (Kit.subz hz)
  | plvRead link tag addr len => exact execPlvRead_keeps h link tag addr len (Kit.subz hz)
  | plvMsg link index data => exact execPlvMsg_ok h link index data (Kit.subz hz)
  | plvCpl link tag status data => exact execPlvCpl_ok h link tag status data (Kit.subz hz)
  | plvAck link seq => exact execPlvAck_ok h link seq (Kit.subz hz)
  | plvNak link seq => exact execPlvNak_ok h link seq (Kit.subz hz)
  | plvCredit link p np cpl => exact execPlvCredit_ok h link p np cpl (Kit.subz hz)
  | plvInit link p np cpl => exact execPlvInit_ok h link p np cpl (Kit.subz hz)
  | plvBadFrame link crc => exact execPlvBadFrame_ok h link crc (Kit.subz hz)
  | plvReplayTimeout link => exact execPlvReplayTimeout_ok h link (Kit.subz hz)
  | dmaRdTimeout link tag => exact execDmaRdTimeout_ok h link tag (Kit.subz hz)
  | plvMboxRead => exact execPlvMboxRead_ok h (Kit.subz hz)
  | tapInstruction ir => exact execTapInstruction_ok h ir (Kit.subz hz)

/-- A command that neither resets nor writes a register of someone's choice nor sets network time leaves it. -/
theorem exec_time {c : Instr} {t : State} (hs : s.Sound) (run : exec c s = .next t) (hreset : isReset c = false)
    (hany : writesAny c = false) (hset : setsTime c = false) : t.time = s.time := by
  have self : s.Ok ⟨s.pending, none, none, some s.time, false, s, 0⟩ :=
    ⟨{ (State.ok_self hs 0).1 with tm := fun _ e => Option.some.inj e }, hs⟩
  have kept := exec_keeps_modeTime self rfl c hreset hany (fun _ => .inl rfl) (fun e => nomatch hset.symm.trans e) t run
  exact kept.1.tm s.time rfl

/-- A command that does not reset leaves the count of grains. -/
theorem exec_grain {c : Instr} {t : State} (hs : s.Sound) (run : exec c s = .next t) (hreset : isReset c = false) :
    t.grain = s.grain := by
  have self : s.Ok ⟨s.pending, some s.grain, none, none, false, s, 0⟩ :=
    ⟨{ (State.ok_self hs 0).1 with g := fun _ e => Option.some.inj e }, hs⟩
  have kept := exec_ok self (.inl rfl) rfl (Nat.zero_and _) c (fun e => nomatch hreset.symm.trans e)
    (fun _ => ⟨rfl, rfl, rfl⟩) (fun _ => rfl) t run
  exact kept.1.g s.grain rfl

/-- Settles O6: one kit that names the grain, and one that names network time. -/
theorem commandsTakeNoTime : Obligations.CommandsTakeNoTime := by
  unfold Obligations.CommandsTakeNoTime
  intro c s t hs run
  refine ⟨exec_grain hs run, fun hreset hany step adj release => exec_time hs run hreset hany ?_⟩
  unfold setsTime
  split
  · exact absurd rfl step
  · exact absurd rfl adj
  · exact absurd rfl (release _)
  · rfl

end Sys2Proof.Machine
end

section
/-! PROOFS. STEP, ADJ and the increment of network time (R264, R267): what each leaves, and the statement about them. -/
set_option Elab.async false
namespace Sys2Proof.Machine

variable {s t : State}

/-! ### Registers and internal words after writes -/

/-- A register write stays within a list of places that has it. -/
theorem State.regsAs.setTreg {ks : List Nat} (h : t.regsAs s ks) (wf : spWf 0#32 t.regs = true) {r : Reg} {τ i j : Nat}
    (hk : r.key τ i j ∈ ks) (v : Nat) : (t.setTreg r τ v i j).regsAs s ks := fun q τ' i' j' hq =>
  (State.treg_setTreg_other t wf v fun e => hq (by rw [e]; exact hk)).trans (h q τ' i' j' hq)

/-- A write of an internal word stays within a list of places that has it. -/
theorem State.latsAs.setLat {ks : List Nat} (h : t.latsAs s ks) (wf : spWf (0 : Int) t.lats = true) {l : Lat} {τ i j : Nat}
    (hk : l.key τ i j ∈ ks) (v : Int) : (t.setLat l v τ i j).latsAs s ks := fun m τ' i' j' hm =>
  (State.lat_setLat_other t wf v fun e => hm (by rw [e]; exact hk)).trans (h m τ' i' j' hm)

theorem State.regsAs.refl (s : State) (ks : List Nat) : s.regsAs s ks := fun _ _ _ _ _ => rfl

theorem State.latsAs.refl (s : State) (ks : List Nat) : s.latsAs s ks := fun _ _ _ _ _ => rfl

theorem State.otherRegs.refl (s : State) (rs : List Reg) : s.otherRegs s rs := fun _ _ _ _ _ => rfl

/-- The bit written of a register of the device reads what was written, and its other bits what they read. -/
theorem State.rbit_setRbit (h : spWf 0#32 s.regs = true) (r : Reg) {b : Nat} (hb : b < 32) (v : Bool) (k : Nat) :
    (s.setRbit r b v).rbit r k = if k = b then v else s.rbit r k := State.tbit_setTbit h r hb v k

/-- A count that was written to an internal word. -/
theorem State.nlat_setLat_same (h : spWf (0 : Int) s.lats = true) (l : Lat) (n : Nat) : (s.setLat l n).nlat l = n :=
  congrArg Int.toNat (State.lat_setLat_same s h l n 0 0 0)

/-- A refusal at a register of the PTP block sets PTP_STATUS.REFUSED. -/
theorem State.refuse_ptp (hs : s.Sound) {r : Reg} (hr : r ∈ [Reg.PTP_CMD, .PTP_INCR_FRAC, .PTP_INCR_NS]) :
    (s.refuse r).refusedAt s r 0 .PTP_STATUS 0 := by
  have flag : ∀ r ∈ [Reg.PTP_CMD, .PTP_INCR_FRAC, .PTP_INCR_NS], refusedFlag (r.addr 0 0 0) = some (.PTP_STATUS, 0) := by
    decide
  exact State.refuse_refusedAt hs (by decide) (flag r hr) (.inr (by decide))

/-! ### STEP and ADJ (R267) -/

/-- The time that STEP sets (log entry 40). -/
def State.stepTime (s : State) : NetTime :=
  ⟨2 ^ 32 * s.fld .PTP_SET_S_HI 15 0 + s.reg .PTP_SET_S_LO, s.fld .PTP_SET_NS 29 0 % 1000000000, 0⟩

theorem State.ptpStep_taken (ok : s.ptpCmdOk = true) :
    s.ptpStep = ({ s with time := s.stepTime }.setRbit .PTP_STATUS 1 true).setRbit .PTP_STATUS 4 true := if_pos ok

theorem State.ptpStep_refused (busy : s.ptpCmdOk = false) : s.ptpStep = s.refuse .PTP_CMD :=
  if_neg (by rw [busy]; decide)

/-- The time to which ADJ moves the counter. -/
def State.adjNs (s : State) : Int := (s.nowNs : Int) + sx 32 (s.reg .PTP_ADJ_NS)

theorem State.ptpAdj_taken (ok : s.ptpCmdOk = true) (pos : 0 ≤ s.adjNs) :
    s.ptpAdj = { s with time := NetTime.ofTotal (2 ^ 32 * s.adjNs.toNat + s.time.frac) } := if_pos ⟨ok, pos⟩

theorem State.ptpAdj_refused (no : s.ptpCmdOk = false ∨ s.adjNs < 0) : s.ptpAdj = s.refuse .PTP_CMD :=
  if_neg fun ⟨ok, pos⟩ => no.elim (fun busy => nomatch busy.symm.trans ok) (Int.not_lt.mpr pos)

/-- Whole nanoseconds on top of a fraction stand for their number modulo 2^48 s and for that fraction. -/
theorem NetTime.ofTotal_whole (n : Nat) {f : Nat} (hf : f < 2 ^ 32) :
    1000000000 * (NetTime.ofTotal (2 ^ 32 * n + f)).sec + (NetTime.ofTotal (2 ^ 32 * n + f)).ns =
        n % (1000000000 * 2 ^ 48) ∧
      (NetTime.ofTotal (2 ^ 32 * n + f)).frac = f ∧ (NetTime.ofTotal (2 ^ 32 * n + f)).ns < 1000000000 := by
  unfold NetTime.ofTotal
  dsimp only
  omega

/-- STEP sets the counter, and VALID and SETTLE of PTP_STATUS (R265, R267). -/
theorem ptpStep_sets (hs : s.Sound) (ok : s.ptpCmdOk = true) :
    ∃ t, exec .ptpStep s = .next t ∧ t.time.sec = 2 ^ 32 * s.fld .PTP_SET_S_HI 15 0 + s.reg .PTP_SET_S_LO ∧ t.time.frac = 0 ∧
      (s.fld .PTP_SET_NS 29 0 < 1000000000 → t.time.ns = s.fld .PTP_SET_NS 29 0) ∧ t.rbit .PTP_STATUS 1 = true ∧
      t.rbit .PTP_STATUS 4 = true ∧ t = { s with regs := t.regs, time := t.time } ∧
      t.regsAs s [Reg.key .PTP_STATUS 0 0 0] := by
  have run : exec .ptpStep s = .next s.ptpStep := rfl
  rw [State.ptpStep_taken ok] at run
  have wf : spWf 0#32 { s with time := s.stepTime }.regs = true := hs.regs
  have wf1 : spWf 0#32 ({ s with time := s.stepTime }.setRbit .PTP_STATUS 1 true).regs = true :=
    State.setTreg_regs_wf _ wf ..
  have kept : { s with time := s.stepTime }.regsAs s [Reg.key .PTP_STATUS 0 0 0] := State.regsAs.refl s _
  refine ⟨_, run, rfl, rfl, Nat.mod_eq_of_lt, ?_, ?_, rfl, ?_⟩
  · rw [State.rbit_setRbit wf1 _ (by decide), State.rbit_setRbit wf _ (by decide)]
    rfl
  · rw [State.rbit_setRbit wf1 _ (by decide)]
    rfl
  · exact (kept.setTreg wf List.mem_cons_self _).setTreg wf1 List.mem_cons_self _

/-- ADJ moves the counter by a signed number of nanoseconds. -/
theorem ptpAdj_moves (hs : s.Sound) (ok : s.ptpCmdOk = true) (pos : 0 ≤ s.adjNs) :
    ∃ t, exec .ptpAdj s = .next t ∧ (t.nowNs : Int) = s.adjNs % (1000000000 * 2 ^ 48) ∧ t.time.frac = s.time.frac ∧
      t.time.ns < 1000000000 ∧ t = { s with time := t.time } := by
  have run : exec .ptpAdj s = .next s.ptpAdj := rfl
  rw [State.ptpAdj_taken ok pos] at run
  obtain ⟨whole, frac, ns⟩ := NetTime.ofTotal_whole s.adjNs.toNat hs.frac
  refine ⟨_, run, ?_, frac, ns, rfl⟩
  refine (congrArg Int.ofNat whole).trans ?_
  show ((s.adjNs.toNat % (1000000000 * 2 ^ 48) : Nat) : Int) = _
  omega

/-- The MACs have taken a step over: SETTLE clears. -/
theorem macTimeSettled_clears (hs : s.Sound) :
    ∃ t, exec .macTimeSettled s = .next t ∧ t.rbit .PTP_STATUS 4 = false ∧
      (∀ b, b ≠ 4 → t.rbit .PTP_STATUS b = s.rbit .PTP_STATUS b) ∧ t = { s with regs := t.regs } ∧
      t.regsAs s [Reg.key .PTP_STATUS 0 0 0] := by
  have status := State.rbit_setRbit hs.regs .PTP_STATUS (by decide : 4 < 32) false
  exact ⟨_, rfl, (status 4).trans (if_pos rfl), fun b hb => (status b).trans (if_neg hb), rfl,
    State.regsAs_setTreg hs.regs _ _ _ _ _⟩

/-! ### The increment (R264) -/

theorem exec_ptpIncrFracWrite {v : Nat} (hv : v < 2 ^ 32) : exec (.ptpIncrFracWrite v) s = .next (s.incrFracWrite v) :=
  if_pos (decide_eq_true hv)

theorem exec_ptpIncrNsWrite {v : Nat} (hv : v < 2 ^ 32) : exec (.ptpIncrNsWrite v) s = .next (s.incrNsWrite v) :=
  if_pos (decide_eq_true hv)

/-- The fraction is staged. -/
theorem ptpIncrFracWrite_stages (hs : s.Sound) {v : Nat} (hv : v < 2 ^ 32) (quiet : s.slotsQuiet = true) :
    ∃ t, exec (.ptpIncrFracWrite v) s = .next t ∧ t.nlat .incrStage = v ∧ t = { s with lats := t.lats } ∧
      t.latsAs s [Lat.key .incrStage 0 0 0] := by
  have taken : s.incrFracWrite v = s.setLat .incrStage v := if_pos quiet
  exact ⟨_, (exec_ptpIncrFracWrite hv).trans (congrArg _ taken), State.nlat_setLat_same hs.lats .incrStage v, rfl,
    (State.latsAs.refl s _).setLat hs.lats List.mem_cons_self _⟩

/-- The pair is loaded whole. -/
theorem ptpIncrNsWrite_loads (hs : s.Sound) {v : Nat} (hv : v < 2 ^ 32) (quiet : s.slotsQuiet = true)
    (narrow : s.nlat .incrStage < 2 ^ 32)
    (range : 0xE6666666 ≤ 2 ^ 32 * (v % 2) + s.nlat .incrStage ∧ 2 ^ 32 * (v % 2) + s.nlat .incrStage ≤ 0x119999999) :
    ∃ t, exec (.ptpIncrNsWrite v) s = .next t ∧ t.reg .PTP_INCR_NS = v % 2 ∧ t.reg .PTP_INCR_FRAC = s.nlat .incrStage ∧
      t = { s with regs := t.regs } ∧ t.otherRegs s [.PTP_INCR_NS, .PTP_INCR_FRAC] := by
  have taken : s.incrNsWrite v = (s.setReg .PTP_INCR_NS (v % 2)).setReg .PTP_INCR_FRAC (s.nlat .incrStage) :=
    if_pos ⟨quiet, range⟩
  have whole : (s.setReg .PTP_INCR_NS (v % 2)).Sound := hs.setTreg ..
  refine ⟨_, (exec_ptpIncrNsWrite hv).trans (congrArg _ taken), ?_, ?_, rfl, ?_⟩
  · refine (State.treg_setTreg_ne _ whole.regs _ _ _ _ _ _ _ (by decide)).trans ?_
    exact (State.treg_setTreg_same s hs.regs ..).trans (Nat.mod_eq_of_lt (by omega))
  · exact (State.treg_setTreg_same _ whole.regs ..).trans (Nat.mod_eq_of_lt narrow)
  · exact ((State.otherRegs.refl s _).setTreg hs.regs (by decide) _ _ _ _).setTreg whole.regs (by decide) _ _ _ _

theorem State.incrFracWrite_refused (busy : s.slotsQuiet = false) (v : Nat) : s.incrFracWrite v = s.refuse .PTP_INCR_FRAC :=
  if_neg (by rw [busy]; decide)

theorem State.incrNsWrite_refused {v : Nat} (no : s.slotsQuiet = false ∨
      ¬(0xE6666666 ≤ 2 ^ 32 * (v % 2) + s.nlat .incrStage ∧ 2 ^ 32 * (v % 2) + s.nlat .incrStage ≤ 0x119999999)) :
    s.incrNsWrite v = s.refuse .PTP_INCR_NS :=
  if_neg fun ⟨quiet, range⟩ => no.elim (fun busy => nomatch busy.symm.trans quiet) (· range)

/-- Settles O42: each command and each write of the increment, taken or refused. -/
theorem clockCommands : Obligations.ClockCommands := by
  unfold Obligations.ClockCommands
  intro s hs
  refine ⟨ptpStep_sets hs, ptpAdj_moves hs, fun busy => ?_, fun no => ?_, macTimeSettled_clears hs, fun v hv =>
    ⟨ptpIncrFracWrite_stages hs hv, fun busy => ?_, ptpIncrNsWrite_loads hs hv, fun no => ?_⟩⟩
  · exact ⟨_, congrArg Host.Outcome.next (State.ptpStep_refused busy), State.refuse_ptp hs (by decide)⟩
  · exact ⟨_, congrArg Host.Outcome.next (State.ptpAdj_refused no), State.refuse_ptp hs (by decide)⟩
  · exact ⟨_, (exec_ptpIncrFracWrite hv).trans (congrArg _ (State.incrFracWrite_refused busy v)),
      State.refuse_ptp hs (by decide)⟩
  · exact ⟨_, (exec_ptpIncrNsWrite hv).trans (congrArg _ (State.incrNsWrite_refused no)), State.refuse_ptp hs (by decide)⟩

end Sys2Proof.Machine
end

section
/-! PROOFS. The servo of network time (R268 to R270): what an offset and a silence leave. -/
set_option Elab.async false
namespace Sys2Proof.Machine

variable {s t : State}

/-! ### What a state reads as another does -/

theorem State.otherRegs.rbit {rs : List Reg} (h : t.otherRegs s rs) {r : Reg} (hr : r ∉ rs) (b : Nat) :
    t.rbit r b = s.rbit r b := congrArg (bit · b) (h r hr 0 0 0)

theorem State.otherRegs.fld {rs : List Reg} (h : t.otherRegs s rs) {r : Reg} (hr : r ∉ rs) (hi lo : Nat) :
    t.fld r hi lo = s.fld r hi lo := congrArg (bits · hi lo) (h r hr 0 0 0)

theorem State.otherRegs.reg {rs : List Reg} (h : t.otherRegs s rs) {r : Reg} (hr : r ∉ rs) : t.reg r = s.reg r :=
  h r hr 0 0 0

/-- The low bits of an integer are a word of that width. -/
theorem ux_mod (w : Nat) (x : Int) : ux w x % 2 ^ w = ux w x := by
  have pos : (0 : Int) < ((2 ^ w : Nat) : Int) := Int.natCast_pos.mpr (Nat.two_pow_pos w)
  have low := Int.emod_nonneg x (Int.ne_of_gt pos)
  have high := Int.emod_lt_of_pos x pos
  refine Nat.mod_eq_of_lt ?_
  unfold ux
  omega

/-! ### The silence (R270) -/

/-- Whether the silence has run out depends on three registers, the last offset and the grain. -/
theorem State.silent_of_otherRegs {rs : List Reg} (h : t.otherRegs s rs)
    (apart : ∀ r ∈ [Reg.PTP_CTRL, .PTP_STATUS, .PTP_SERVO_HOLD], r ∉ rs) (since : t.lat .silAt = s.lat .silAt)
    (grain : t.grain = s.grain) : t.silent = s.silent := by
  have since' : t.nlat .silAt = s.nlat .silAt := congrArg Int.toNat since
  unfold State.silent State.servoOn
  rw [h.rbit (apart _ (by decide)), h.rbit (apart _ (by decide)), h.fld (apart _ (by decide)), since', grain]

/-- HOLDOVER is entered but once. -/
theorem State.not_silent_of_holdover (held : s.rbit .PTP_STATUS 3 = true) : s.silent = false := by
  unfold State.silent
  rw [held, Bool.not_true, Bool.and_false, Bool.false_and]

/-- PTP_STATUS in HOLDOVER: LOCKED is clear and HOLDOVER set. -/
def State.heldOver (s : State) : State := (s.setRbit .PTP_STATUS 2 false).setRbit .PTP_STATUS 3 true

theorem State.rbit_heldOver (hs : s.Sound) :
    s.heldOver.rbit .PTP_STATUS 2 = false ∧ s.heldOver.rbit .PTP_STATUS 3 = true := by
  have wf : spWf 0#32 (s.setRbit .PTP_STATUS 2 false).regs = true := State.setTreg_regs_wf s hs.regs ..
  have status := State.rbit_setRbit wf .PTP_STATUS (by decide : 3 < 32) true
  exact ⟨(status 2).trans ((State.rbit_setRbit hs.regs .PTP_STATUS (by decide) false 2).trans (if_pos rfl)),
    (status 3).trans (if_pos rfl)⟩

/-- A silence that has run out: PTP_STATUS, the report and the event; nothing else. -/
theorem State.holdover_silent (silent : s.silent = true) :
    s.holdover = { s with regs := s.heldOver.regs, faults := s.faults ++ [s.msg 0x10E 0x30 0],
                          events := s.holdover.events } := by
  unfold State.holdover
  rw [if_pos silent, State.publish_eq]
  rfl

theorem State.holdover_quiet (quiet : s.silent = false) : s.holdover = s := if_neg (by rw [quiet]; decide)

theorem State.rbit_holdover (hs : s.Sound) (silent : s.silent = true) :
    s.holdover.rbit .PTP_STATUS 2 = false ∧ s.holdover.rbit .PTP_STATUS 3 = true := by
  rw [State.holdover_silent silent]
  exact State.rbit_heldOver hs

theorem State.Sound.holdover (hs : s.Sound) : s.holdover.Sound :=
  (State.holdover_ok (State.ok_self hs 0) (Nat.zero_and _)).2

/-- A silence of PTP_SERVO_HOLD is reported as HOLDOVER. -/
theorem servoSilence_reports (hs : s.Sound) (silent : s.silent = true) :
    ∃ t, exec .servoSilence s = .next t ∧ t.rbit .PTP_STATUS 2 = false ∧ t.rbit .PTP_STATUS 3 = true ∧
      t.faults = s.faults ++ [s.msg 0x10E 0x30 0] ∧ t.regsAs s [Reg.key .PTP_STATUS 0 0 0] ∧
      t = { s with regs := t.regs, faults := t.faults, events := t.events } := by
  have wf : spWf 0#32 (s.setRbit .PTP_STATUS 2 false).regs = true := State.setTreg_regs_wf s hs.regs ..
  have kept : s.heldOver.regsAs s [Reg.key .PTP_STATUS 0 0 0] :=
    ((State.regsAs.refl s _).setTreg hs.regs List.mem_cons_self _).setTreg wf List.mem_cons_self _
  have bits := State.rbit_heldOver hs
  have run : exec .servoSilence s = .next s.holdover := rfl
  rw [State.holdover_silent silent] at run
  exact ⟨_, run, bits.1, bits.2, rfl, kept, rfl⟩

/-! ### The rows of R270 at an offset -/

theorem State.rbit_servoUnlock (hs : s.Sound) :
    s.servoUnlock.rbit .PTP_STATUS 3 = false ∧ s.servoUnlock.rbit .PTP_STATUS 2 = false := by
  have wf : spWf 0#32 (s.setRbit .PTP_STATUS 2 false).regs = true := State.setTreg_regs_wf s hs.regs ..
  have status := State.rbit_setRbit wf .PTP_STATUS (by decide : 3 < 32) false
  exact ⟨(status 3).trans (if_pos rfl),
    (status 2).trans ((State.rbit_setRbit hs.regs .PTP_STATUS (by decide) false 2).trans (if_pos rfl))⟩

/-- The offsets in a row within PTP_SERVO_LOCK, this one counted. -/
def State.lockRun (s : State) (ofs : Int) : Nat := if ofs.natAbs ≤ s.reg .PTP_SERVO_LOCK then s.nlat .lockN + 1 else 0

/-- A silence that has just run out is over with the offset. -/
theorem State.servoJudge_silent (hs : s.Sound) (silent : s.silent = true) (ofs : Int) :
    s.servoJudge ofs = s.holdover.servoUnlock := if_pos (State.rbit_holdover hs silent).2

theorem State.servoJudge_heldOver (held : s.rbit .PTP_STATUS 3 = true) (ofs : Int) : s.servoJudge ofs = s.servoUnlock := by
  unfold State.servoJudge
  dsimp only
  rw [State.holdover_quiet (State.not_silent_of_holdover held), if_pos held]

theorem State.servoJudge_locked (quiet : s.silent = false) (up : s.rbit .PTP_STATUS 3 = false)
    (locked : s.rbit .PTP_STATUS 2 = true) (ofs : Int) :
    s.servoJudge ofs = if 4 * s.reg .PTP_SERVO_LOCK < ofs.natAbs then s.servoUnlock else s := by
  unfold State.servoJudge
  dsimp only
  rw [State.holdover_quiet quiet, if_neg (by rw [up]; decide), if_pos locked]

theorem State.servoJudge_unlocked (quiet : s.silent = false) (up : s.rbit .PTP_STATUS 3 = false)
    (unlocked : s.rbit .PTP_STATUS 2 = false) (ofs : Int) :
    s.servoJudge ofs = if 16 ≤ s.lockRun ofs then
        ((s.setLat .lockN (s.lockRun ofs)).setRbit .PTP_STATUS 2 true).setRbit .PTP_STATUS 1 true
      else s.setLat .lockN (s.lockRun ofs) := by
  unfold State.servoJudge
  dsimp only
  rw [State.holdover_quiet quiet, if_neg (by rw [up]; decide), if_neg (by rw [unlocked]; decide)]
  rfl

/-- From HOLDOVER, also one entered just then, an offset leads to UNLOCKED. -/
theorem State.rbit_servoJudge_heldOver (hs : s.Sound) (ofs : Int) (held : s.rbit .PTP_STATUS 3 = true ∨ s.silent = true) :
    (s.servoJudge ofs).rbit .PTP_STATUS 3 = false ∧ (s.servoJudge ofs).rbit .PTP_STATUS 2 = false := by
  rcases held with held | silent
  · rw [State.servoJudge_heldOver held]
    exact State.rbit_servoUnlock hs
  · rw [State.servoJudge_silent hs silent]
    exact State.rbit_servoUnlock hs.holdover

/-- LOCKED stays up to four times PTP_SERVO_LOCK. -/
theorem State.rbit_servoJudge_locked (hs : s.Sound) (ofs : Int) (quiet : s.silent = false)
    (up : s.rbit .PTP_STATUS 3 = false) (locked : s.rbit .PTP_STATUS 2 = true) :
    (s.servoJudge ofs).rbit .PTP_STATUS 2 = true ↔ ofs.natAbs ≤ 4 * s.reg .PTP_SERVO_LOCK := by
  rw [State.servoJudge_locked quiet up locked]
  split
  · next far =>
    exact iff_of_false (fun stays => nomatch (State.rbit_servoUnlock hs).2.symm.trans stays) (Nat.not_le.mpr far)
  · next near => exact iff_of_true locked (Nat.not_lt.mp near)

/-- LOCKED is entered at the 16th offset in a row within PTP_SERVO_LOCK. -/
theorem State.rbit_servoJudge_unlocked (hs : s.Sound) (ofs : Int) (quiet : s.silent = false)
    (up : s.rbit .PTP_STATUS 3 = false) (unlocked : s.rbit .PTP_STATUS 2 = false) :
    (s.servoJudge ofs).rbit .PTP_STATUS 2 = true ↔ ofs.natAbs ≤ s.reg .PTP_SERVO_LOCK ∧ 15 ≤ s.nlat .lockN := by
  have enough : 16 ≤ s.lockRun ofs ↔ ofs.natAbs ≤ s.reg .PTP_SERVO_LOCK ∧ 15 ≤ s.nlat .lockN := by
    unfold State.lockRun
    split <;> omega
  have wf : spWf 0#32 (s.setLat .lockN (s.lockRun ofs)).regs = true := hs.regs
  have wf2 : spWf 0#32 ((s.setLat .lockN (s.lockRun ofs)).setRbit .PTP_STATUS 2 true).regs = true :=
    State.setTreg_regs_wf _ wf ..
  rw [← enough, State.servoJudge_unlocked quiet up unlocked]
  split
  · next many =>
    rw [State.rbit_setRbit wf2 _ (by decide), State.rbit_setRbit wf _ (by decide)]
    exact iff_of_true rfl many
  · next few => exact iff_of_false (fun locks => nomatch unlocked.symm.trans locks) few

/-- An offset without a silence changes registers and internal words alone. -/
theorem State.servoJudge_quiet_frame (quiet : s.silent = false) (ofs : Int) :
    ∃ r l, s.servoJudge ofs = { s with regs := r, lats := l } := by
  cases up : s.rbit .PTP_STATUS 3 with
  | true => exact ⟨_, _, State.servoJudge_heldOver up ofs⟩
  | false =>
    cases locked : s.rbit .PTP_STATUS 2 with
    | true =>
      rw [State.servoJudge_locked quiet up locked]
      split
      · exact ⟨_, _, rfl⟩
      · exact ⟨_, _, rfl⟩
    | false =>
      rw [State.servoJudge_unlocked quiet up locked]
      split
      · exact ⟨_, _, rfl⟩
      · exact ⟨_, _, rfl⟩

/-- An offset changes registers and internal words, and by a silence that it ends the messages and the events. -/
theorem State.servoJudge_frame (hs : s.Sound) (ofs : Int) :
    ∃ r l e, s.servoJudge ofs =
        { s with regs := r, lats := l, faults := s.faults ++ (if s.silent then [s.msg 0x10E 0x30 0] else []), events := e } ∧
      (s.silent = false → e = s.events) := by
  cases silent : s.silent with
  | true =>
    rw [State.servoJudge_silent hs silent, State.holdover_silent silent]
    exact ⟨_, _, _, rfl, nofun⟩
  | false =>
    obtain ⟨r, l, e⟩ := State.servoJudge_quiet_frame silent ofs
    refine ⟨r, l, s.events, ?_, fun _ => rfl⟩
    rw [e, if_neg (by decide), List.append_nil]

/-- Of the registers an offset that is judged changes PTP_STATUS. -/
theorem State.servoJudge_otherRegs (hs : s.Sound) (ofs : Int) : (s.servoJudge ofs).otherRegs s [.PTP_STATUS] :=
  (State.servoJudge_ok (State.ok_self hs (otherMask [.PTP_STATUS])) ofs (by dsimp only; decide +kernel)).others _
    (Nat.and_self _)

/-! ### Offsets offered (R268, R269) -/

/-- The integral and the trim after an offset. -/
def State.servoLoaded (s : State) (ofs : Int) : State :=
  (s.setReg .PTP_SERVO_INTEG (ux 32 (s.servoInteg ofs))).setReg .PTP_TRIM (ux 32 (s.servoTrim ofs))

theorem State.Sound.servoLoaded (hs : s.Sound) (ofs : Int) : (s.servoLoaded ofs).Sound := (hs.setTreg ..).setTreg ..

theorem State.servoLoaded_otherRegs (hs : s.Sound) (ofs : Int) :
    (s.servoLoaded ofs).otherRegs s [.PTP_SERVO_INTEG, .PTP_TRIM] :=
  ((State.otherRegs.refl s _).setTreg hs.regs (by decide) _ _ _ _).setTreg (hs.setTreg ..).regs (by decide) _ _ _ _

theorem State.silent_servoLoaded (hs : s.Sound) (ofs : Int) : (s.servoLoaded ofs).silent = s.silent :=
  State.silent_of_otherRegs (State.servoLoaded_otherRegs hs ofs) (by decide) rfl rfl

/-- An offset of the source that PTP_CTRL selects, while SERVO_EN is 1. -/
theorem State.offerOffset_accepted {k : Nat} (on : s.servoOn = true) (src : s.fld .PTP_CTRL 2 1 = k) (ofs : Int) :
    s.offerOffset k ofs = ((s.servoLoaded ofs).servoJudge ofs).setLat .silAt (s.grain + 1) :=
  if_pos ⟨on, src⟩

theorem State.offerOffset_declined {k : Nat} (no : s.servoOn = false ∨ s.fld .PTP_CTRL 2 1 ≠ k) (ofs : Int) :
    s.offerOffset k ofs = s := if_neg fun ⟨on, src⟩ => no.elim (fun off => nomatch off.symm.trans on) (· src)

/-- An accepted offset changes registers and internal words, and by a silence that it ends the messages and the events. -/
theorem State.offerOffset_frame (hs : s.Sound) {k : Nat} (on : s.servoOn = true) (src : s.fld .PTP_CTRL 2 1 = k)
    (ofs : Int) :
    ∃ r l e, s.offerOffset k ofs =
        { s with regs := r, lats := l, faults := s.faults ++ (if s.silent then [s.msg 0x10E 0x30 0] else []), events := e } ∧
      (s.silent = false → e = s.events) := by
  obtain ⟨r, l, e, frame, same⟩ := State.servoJudge_frame (hs.servoLoaded ofs) ofs
  rw [State.silent_servoLoaded hs] at frame same
  refine ⟨r, ((s.servoLoaded ofs).servoJudge ofs |>.setLat .silAt (s.grain + 1)).lats, e, ?_, same⟩
  rw [State.offerOffset_accepted on src, frame]
  rfl

/-- Of the registers an offset changes three. -/
theorem State.offerOffset_otherRegs (hs : s.Sound) (k : Nat) (ofs : Int) :
    (s.offerOffset k ofs).otherRegs s [.PTP_SERVO_INTEG, .PTP_TRIM, .PTP_STATUS] :=
  (State.offerOffset_ok (State.ok_self hs (otherMask [.PTP_SERVO_INTEG, .PTP_TRIM, .PTP_STATUS])) k ofs
    (by dsimp only; decide +kernel)).others _ (Nat.and_self _)

/-- Without a silence an offset sends nothing. -/
theorem State.offerOffset_faults (hs : s.Sound) (quiet : s.silent = false) (k : Nat) (ofs : Int) :
    (s.offerOffset k ofs).faults = s.faults := by
  by_cases taken : s.servoOn = true ∧ s.fld .PTP_CTRL 2 1 = k
  · obtain ⟨r, l, e, frame, -⟩ := State.offerOffset_frame hs taken.1 taken.2 ofs
    rw [frame, quiet]
    exact List.append_nil _
  · exact congrArg State.faults (if_neg taken)

/-- An accepted offset moves the integral (R268). -/
theorem State.offerOffset_integ (hs : s.Sound) {k : Nat} (on : s.servoOn = true) (src : s.fld .PTP_CTRL 2 1 = k)
    (ofs : Int) :
    (s.offerOffset k ofs).reg .PTP_SERVO_INTEG = ux 32 (s.servoInteg ofs) := by
  rw [State.offerOffset_accepted on src]
  calc ((s.servoLoaded ofs).servoJudge ofs).reg .PTP_SERVO_INTEG
    _ = (s.servoLoaded ofs).reg .PTP_SERVO_INTEG := (State.servoJudge_otherRegs (hs.servoLoaded ofs) ofs).reg (by decide)
    _ = (s.setReg .PTP_SERVO_INTEG (ux 32 (s.servoInteg ofs))).reg .PTP_SERVO_INTEG :=
      State.treg_setTreg_ne _ (hs.setTreg ..).regs _ _ _ _ _ _ _ (by decide)
    _ = ux 32 (s.servoInteg ofs) := (State.treg_setTreg_same s hs.regs ..).trans (ux_mod 32 _)

/-- An accepted offset moves the trim (R268). -/
theorem State.offerOffset_trim (hs : s.Sound) {k : Nat} (on : s.servoOn = true) (src : s.fld .PTP_CTRL 2 1 = k) (ofs : Int) :
    (s.offerOffset k ofs).reg .PTP_TRIM = ux 32 (s.servoTrim ofs) := by
  rw [State.offerOffset_accepted on src]
  calc ((s.servoLoaded ofs).servoJudge ofs).reg .PTP_TRIM
    _ = (s.servoLoaded ofs).reg .PTP_TRIM := (State.servoJudge_otherRegs (hs.servoLoaded ofs) ofs).reg (by decide)
    _ = ux 32 (s.servoTrim ofs) := (State.treg_setTreg_same _ (hs.setTreg ..).regs ..).trans (ux_mod 32 _)

theorem exec_servoOffsetWrite {v : Nat} (hv : v < 2 ^ 32) :
    exec (.servoOffsetWrite v) s = .next (s.offerOffset 0 (sx 32 v)) := if_pos (decide_eq_true hv)

/-- What an accepted offset makes of LOCKED and HOLDOVER (R270), as the states before it stand. -/
theorem State.rbit_offerOffset (hs : s.Sound) {k : Nat} (on : s.servoOn = true) (src : s.fld .PTP_CTRL 2 1 = k) (ofs : Int) :
    (s.rbit .PTP_STATUS 3 = true ∨ s.silent = true →
      (s.offerOffset k ofs).rbit .PTP_STATUS 3 = false ∧ (s.offerOffset k ofs).rbit .PTP_STATUS 2 = false) ∧
    (s.silent = false → s.rbit .PTP_STATUS 3 = false → s.rbit .PTP_STATUS 2 = true →
      ((s.offerOffset k ofs).rbit .PTP_STATUS 2 = true ↔ ofs.natAbs ≤ 4 * s.reg .PTP_SERVO_LOCK)) ∧
    (s.silent = false → s.rbit .PTP_STATUS 3 = false → s.rbit .PTP_STATUS 2 = false →
      ((s.offerOffset k ofs).rbit .PTP_STATUS 2 = true ↔ ofs.natAbs ≤ s.reg .PTP_SERVO_LOCK ∧ 15 ≤ s.nlat .lockN)) := by
  have loaded := hs.servoLoaded ofs
  have same := State.servoLoaded_otherRegs hs ofs
  rw [State.offerOffset_accepted on src, ← State.silent_servoLoaded hs ofs, ← same.rbit (by decide : .PTP_STATUS ∉ _),
    ← same.rbit (by decide : .PTP_STATUS ∉ _), ← same.reg (by decide : .PTP_SERVO_LOCK ∉ _)]
  exact ⟨State.rbit_servoJudge_heldOver loaded ofs, State.rbit_servoJudge_locked loaded ofs,
    State.rbit_servoJudge_unlocked loaded ofs⟩

end Sys2Proof.Machine
end

section
/-! PROOFS. 1PPS and the transmit stamps (R275 to R277), and the statement about them and the servo. -/
set_option Elab.async false
namespace Sys2Proof.Machine

variable {s t : State}

/-! ### A time in four registers (R8) -/

/-- A time in 2^-32 ns stands in the elements `i` of four registers. -/
def State.putTime (s : State) (frac ns lo hi : Reg) (x i : Nat) : State :=
  let t := NetTime.ofTotal x
  (((s.setReg frac t.frac i).setReg ns t.ns i).setReg lo t.sec i).setReg hi (t.sec / 2 ^ 32) i

theorem State.Sound.putTime (hs : s.Sound) (frac ns lo hi : Reg) (x i : Nat) : (s.putTime frac ns lo hi x i).Sound :=
  (((hs.setTreg ..).setTreg ..).setTreg ..).setTreg ..

/-- Each of the registers reads its part of the time, and no other register changes. -/
theorem State.putTime_reads (hs : s.Sound) {frac ns lo hi : Reg} (apart : [frac, ns, lo, hi].Nodup) (x i : Nat) :
    (s.putTime frac ns lo hi x i).reg frac i = x % 2 ^ 32 ∧
      (s.putTime frac ns lo hi x i).reg ns i = x / 2 ^ 32 % 1000000000 ∧
      (s.putTime frac ns lo hi x i).reg lo i = x / 2 ^ 32 / 1000000000 % 2 ^ 32 ∧
      (s.putTime frac ns lo hi x i).otherRegs s [frac, ns, lo, hi] := by
  simp only [List.nodup_cons, List.mem_cons, List.not_mem_nil, not_or, or_false, not_false_eq_true] at apart
  obtain ⟨⟨fn, fl, fh⟩, ⟨nl, nh⟩, lh, -⟩ := apart
  have h1 := hs.setTreg frac 0 (NetTime.ofTotal x).frac i 0
  have h2 := h1.setTreg ns 0 (NetTime.ofTotal x).ns i 0
  have h3 := h2.setTreg lo 0 (NetTime.ofTotal x).sec i 0
  refine ⟨?_, ?_, ?_, ?_⟩
  · refine (State.treg_setTreg_ne _ h3.regs _ _ _ _ _ _ _ fh).trans ?_
    refine (State.treg_setTreg_ne _ h2.regs _ _ _ _ _ _ _ fl).trans ?_
    refine ((State.treg_setTreg_ne _ h1.regs _ _ _ _ _ _ _ fn).trans (State.treg_setTreg_same s hs.regs ..)).trans ?_
    exact Nat.mod_mod _ _
  · refine (State.treg_setTreg_ne _ h3.regs _ _ _ _ _ _ _ nh).trans ?_
    refine (State.treg_setTreg_ne _ h2.regs _ _ _ _ _ _ _ nl).trans ?_
    refine (State.treg_setTreg_same _ h1.regs ..).trans ?_
    unfold NetTime.ofTotal
    dsimp only
    omega
  · refine ((State.treg_setTreg_ne _ h3.regs _ _ _ _ _ _ _ lh).trans (State.treg_setTreg_same _ h2.regs ..)).trans ?_
    unfold NetTime.ofTotal
    dsimp only
    omega
  · exact ((((State.otherRegs.refl s _).setTreg hs.regs (by simp) _ _ _ _).setTreg h1.regs (by simp) _ _ _ _).setTreg
      h2.regs (by simp) _ _ _ _).setTreg h3.regs (by simp) _ _ _ _

/-! ### Edges of the 1PPS input (R276) -/

/-- A stamp is a whole number of 125 ps, and lies within 250 ps of network time in the grain. -/
theorem State.ppsStamp_near (s : State) (x : Nat) :
    s.ppsStamp x % 2 ^ 29 = 0 ∧ s.time.total ≤ s.ppsStamp x + 2 ^ 30 ∧ s.ppsStamp x ≤ s.time.total + s.incr + 2 ^ 30 := by
  unfold State.ppsStamp less
  dsimp only
  omega

/-- The capture of an edge: its stamp, the time of the last edge, and the event. -/
def State.ppsTaken (s : State) (x : Nat) : State :=
  (((s.putTime .PTP_PPSIN_FRAC .PTP_PPSIN_NS .PTP_PPSIN_S_LO .PTP_PPSIN_S_HI x 0).setLat .ppsAt (s.grain + 1)).setLat
    .ppsLost 0).publish 0x204

/-- The distance of an edge from its whole second, as PTP_PPSIN_DLY shifts it. -/
def State.ppsOffset (s : State) (x : Nat) : Int := ppsError x (sx 32 (s.reg .PTP_PPSIN_DLY))

theorem State.ppsTaken_eq (s : State) (x : Nat) :
    s.ppsTaken x = { s with
      regs := (s.putTime .PTP_PPSIN_FRAC .PTP_PPSIN_NS .PTP_PPSIN_S_LO .PTP_PPSIN_S_HI x 0).regs
      lats := ((s.setLat .ppsAt (s.grain + 1)).setLat .ppsLost 0).lats
      events := (s.ppsTaken x).events } := by
  unfold State.ppsTaken
  rw [State.publish_eq]
  rfl

theorem State.Sound.ppsTaken (hs : s.Sound) (x : Nat) : (s.ppsTaken x).Sound := by
  rw [State.ppsTaken_eq]
  exact { hs with
    regs := (hs.putTime ..).regs
    lats := ((hs.setLat ..).setLat ..).lats }

theorem State.treg_ppsTaken (s : State) (x : Nat) (r : Reg) (τ i j : Nat) : (s.ppsTaken x).treg r τ i j =
    (s.putTime .PTP_PPSIN_FRAC .PTP_PPSIN_NS .PTP_PPSIN_S_LO .PTP_PPSIN_S_HI x 0).treg r τ i j := by
  rw [State.ppsTaken_eq]
  rfl

theorem State.ppsTaken_otherRegs (hs : s.Sound) (x : Nat) :
    (s.ppsTaken x).otherRegs s [.PTP_PPSIN_FRAC, .PTP_PPSIN_NS, .PTP_PPSIN_S_LO, .PTP_PPSIN_S_HI] :=
  fun r hr τ i j => (State.treg_ppsTaken s x r τ i j).trans ((State.putTime_reads hs (by decide) x 0).2.2.2 r hr τ i j)

theorem State.faults_ppsTaken (s : State) (x : Nat) : (s.ppsTaken x).faults = s.faults := by
  rw [State.ppsTaken_eq]

theorem State.silent_ppsTaken (hs : s.Sound) (x : Nat) : (s.ppsTaken x).silent = s.silent := by
  refine State.silent_of_otherRegs (State.ppsTaken_otherRegs hs x) (by decide) ?_ ?_
  · rw [State.ppsTaken_eq]
    exact (State.lat_setLat_ne _ (hs.setLat ..).lats _ _ _ _ _ _ _ (by decide)).trans
      (State.lat_setLat_ne s hs.lats _ _ _ _ _ _ _ (by decide))
  · rw [State.ppsTaken_eq]

/-- The trim that an offset gives depends on registers of the servo alone. -/
theorem State.servoTrim_ppsTaken (hs : s.Sound) (x : Nat) (ofs : Int) : (s.ppsTaken x).servoTrim ofs = s.servoTrim ofs := by
  have same := State.ppsTaken_otherRegs hs x
  unfold State.servoTrim State.servoInteg
  rw [same.reg (by decide : .PTP_SERVO_LIM ∉ _), same.reg (by decide : .PTP_SERVO_INTEG ∉ _),
    same.reg (by decide : .PTP_SERVO_KI ∉ _), same.reg (by decide : .PTP_SERVO_KP ∉ _),
    same.fld (by decide : .PTP_SERVO_SH ∉ _), same.fld (by decide : .PTP_SERVO_SH ∉ _)]

/-- An edge is captured; its offset goes to the servo, or is flagged as out of range. -/
theorem State.ppsEdge_taken (hs : s.Sound) (on : s.rbit .PTP_PPSIN_CTRL 31 = true) (x : Nat) :
    s.ppsEdge x = if (s.ppsOffset x).natAbs < 2 ^ 23 * 1000 * 2 ^ 32 then
        (s.ppsTaken x).offerOffset 1 (tdiv (s.ppsOffset x) (1000 * 2 ^ 24))
      else (s.ppsTaken x).setRbit .PTP_STATUS 6 true := by
  have dly : (s.ppsTaken x).reg .PTP_PPSIN_DLY = s.reg .PTP_PPSIN_DLY := (State.ppsTaken_otherRegs hs x).reg (by decide)
  unfold State.ppsOffset
  rw [← dly]
  exact if_pos on

/-- The registers that an edge may change. -/
def ppsEdgeRegs : List Reg :=
  [.PTP_PPSIN_FRAC, .PTP_PPSIN_NS, .PTP_PPSIN_S_LO, .PTP_PPSIN_S_HI, .PTP_STATUS, .PTP_SERVO_INTEG, .PTP_TRIM]

theorem State.ppsEdge_keeps (hs : s.Sound) (x : Nat) : (s.ppsEdge x).otherRegs s ppsEdgeRegs ∧ (s.ppsEdge x).memAs s := by
  have kept := State.ppsEdge_ok (State.ok_self hs (otherMask ppsEdgeRegs ||| memMask)) x (by dsimp only; decide +kernel)
  exact ⟨kept.others _ (by decide +kernel), kept.mem (by decide +kernel)⟩

/-- After the capture an edge changes the registers of the servo. -/
theorem State.ppsEdge_afterCapture (hs : s.Sound) (on : s.rbit .PTP_PPSIN_CTRL 31 = true) (x : Nat) :
    (s.ppsEdge x).otherRegs (s.ppsTaken x) [.PTP_SERVO_INTEG, .PTP_TRIM, .PTP_STATUS] := by
  rw [State.ppsEdge_taken hs on]
  split
  · exact State.offerOffset_otherRegs (hs.ppsTaken x) 1 _
  · exact (State.otherRegs.refl _ _).setTreg (hs.ppsTaken x).regs (by decide) _ _ _ _

/-- Without a silence an edge sends nothing. -/
theorem State.ppsEdge_faults (hs : s.Sound) (on : s.rbit .PTP_PPSIN_CTRL 31 = true) (x : Nat) (quiet : s.silent = false) :
    (s.ppsEdge x).faults = s.faults := by
  rw [State.ppsEdge_taken hs on]
  split
  · exact (State.offerOffset_faults (hs.ppsTaken x) ((State.silent_ppsTaken hs x).trans quiet) 1 _).trans
      (State.faults_ppsTaken s x)
  · exact State.faults_ppsTaken s x

theorem exec_ppsInEdge {x w : Nat} {fall : Bool} (hx : x < 2 ^ 112) (hw : w < 2 ^ 32) :
    exec (.ppsInEdge ⟨x, w, fall⟩) s =
      .next (if fall = s.rbit .PTP_PPSIN_CTRL 30 ∧ 100 ≤ w then s.ppsEdge (s.ppsStamp x) else s) :=
  if_pos (decide_eq_true ⟨hx, hw⟩)

/-- An edge of the right polarity and length is stamped, and its offset used (R276). -/
theorem ppsInEdge_stamps (hs : s.Sound) {x w : Nat} {fall : Bool} (hx : x < 2 ^ 112) (hw : w < 2 ^ 32)
    (on : s.rbit .PTP_PPSIN_CTRL 31 = true) (pol : fall = s.rbit .PTP_PPSIN_CTRL 30) (long : 100 ≤ w) {st : Nat}
    (stamp : s.ppsStamp x = st) :
    ∃ t, exec (.ppsInEdge ⟨x, w, fall⟩) s = .next t ∧ t.reg .PTP_PPSIN_FRAC = st % 2 ^ 32 ∧
      t.reg .PTP_PPSIN_NS = st / 2 ^ 32 % 1000000000 ∧ t.reg .PTP_PPSIN_S_LO = st / 2 ^ 32 / 1000000000 % 2 ^ 32 ∧
      t.otherRegs s ppsEdgeRegs ∧ (s.silent = false → t.faults = s.faults) ∧ t.memAs s ∧
      (2 ^ 23 * 1000 * 2 ^ 32 ≤ (s.ppsOffset st).natAbs →
        t.rbit .PTP_STATUS 6 = true ∧ t.reg .PTP_TRIM = s.reg .PTP_TRIM) ∧
      ((s.ppsOffset st).natAbs < 2 ^ 23 * 1000 * 2 ^ 32 → s.rbit .PTP_CTRL 0 = true → s.fld .PTP_CTRL 2 1 = 1 →
        t.reg .PTP_TRIM = ux 32 (s.servoTrim (tdiv (s.ppsOffset st) (1000 * 2 ^ 24)))) := by
  have run := exec_ppsInEdge (s := s) (fall := fall) hx hw
  rw [if_pos ⟨pol, long⟩, stamp] at run
  have taken := hs.ppsTaken st
  have others := State.ppsTaken_otherRegs hs st
  have after := State.ppsEdge_afterCapture hs on st
  obtain ⟨frac, ns, sec, -⟩ := State.putTime_reads hs
    (by decide : [Reg.PTP_PPSIN_FRAC, .PTP_PPSIN_NS, .PTP_PPSIN_S_LO, .PTP_PPSIN_S_HI].Nodup) st 0
  obtain ⟨regs, mem⟩ := State.ppsEdge_keeps hs st
  refine ⟨_, run, ?_, ?_, ?_, regs, State.ppsEdge_faults hs on st, mem, fun far => ?_, fun near servo src => ?_⟩
  · exact ((after.reg (by decide)).trans (State.treg_ppsTaken ..)).trans frac
  · exact ((after.reg (by decide)).trans (State.treg_ppsTaken ..)).trans ns
  · exact ((after.reg (by decide)).trans (State.treg_ppsTaken ..)).trans sec
  · rw [State.ppsEdge_taken hs on, if_neg (Nat.not_lt.mpr far)]
    exact ⟨(State.rbit_setRbit taken.regs .PTP_STATUS (by decide) true 6).trans (if_pos rfl),
      (State.treg_setTreg_ne _ taken.regs _ _ _ _ _ _ _ (by decide)).trans (others.reg (by decide))⟩
  · rw [State.ppsEdge_taken hs on, if_pos near,
      State.offerOffset_trim taken ((others.rbit (by decide) 0).trans servo) ((others.fld (by decide) 2 1).trans src),
      State.servoTrim_ppsTaken hs]

/-- Another edge is ignored. -/
theorem ppsInEdge_ignored {x w : Nat} {fall : Bool} (hx : x < 2 ^ 112) (hw : w < 2 ^ 32)
    (no : s.rbit .PTP_PPSIN_CTRL 31 = false ∨ fall ≠ s.rbit .PTP_PPSIN_CTRL 30 ∨ w < 100) :
    exec (.ppsInEdge ⟨x, w, fall⟩) s = .next s := by
  rw [exec_ppsInEdge hx hw]
  split
  · next fits =>
    have off : s.rbit .PTP_PPSIN_CTRL 31 = false :=
      no.resolve_right fun bad => bad.elim (· fits.1) (Nat.not_lt.mpr fits.2)
    exact congrArg _ (if_neg (by rw [off]; decide))
  · rfl

/-! ### The loss of the input and the output (R276, R277) -/

/-- No edge for 1.5 s, not yet reported. -/
def State.ppsOverdue (s : State) : Prop :=
  s.rbit .PTP_PPSIN_CTRL 31 = true ∧ s.flag .ppsLost = false ∧ s.nlat .ppsAt + 1500000000 ≤ s.grain + 1

theorem ppsLoss_reports (hs : s.Sound) (lost : s.ppsOverdue) :
    ∃ t, exec .ppsLoss s = .next t ∧ t.rbit .PTP_STATUS 5 = true ∧ t.flag .ppsLost = true ∧
      t.faults = s.faults ++ [s.msg 0x10E 0x31 0] ∧ t.regsAs s [Reg.key .PTP_STATUS 0 0 0] ∧
      t = { s with regs := t.regs, lats := t.lats, faults := t.faults } := by
  have reported : s.ppsLoss = ((s.setRbit .PTP_STATUS 5 true).send 0x10E 0x31 0).setFlag .ppsLost true := if_pos lost
  refine ⟨_, congrArg Host.Outcome.next reported, ?_, ?_, rfl, State.regsAs_setTreg hs.regs _ _ _ _ _, rfl⟩
  · exact (State.rbit_setRbit hs.regs .PTP_STATUS (by decide) true 5).trans (if_pos rfl)
  · have flag := State.lat_setLat_same s hs.lats .ppsLost 1 0 0 0
    exact decide_eq_true (fun zero => absurd (flag.symm.trans zero) (by decide))

/-- The output rises, and its end is noted. -/
theorem ppsOutRise_rises (hs : s.Sound) (on : s.rbit .PTP_PPSOUT_CTRL 31 = true) (up : s.mode ≠ .sable)
    (due : s.ppsOutDue = true) :
    ∃ t, exec .ppsOutRise s = .next t ∧ t.lat .ppsOut = 1 ∧
      t.nlat .ppsEnd = s.grain + 1000 * s.fld .PTP_PPSOUT_CTRL 18 0 ∧ t = { s with lats := t.lats } ∧
      t.latsAs s [Lat.key .ppsOut 0 0 0, Lat.key .ppsEnd 0 0 0] := by
  have rises : (s.rbit .PTP_PPSOUT_CTRL 31 && s.mode != .sable && s.ppsOutDue) = true := by
    rw [on, due, bne_iff_ne.mpr up]
    rfl
  have high : (s.setLat .ppsOut 1).Sound := hs.setLat ..
  refine ⟨s.ppsRise, congrArg Host.Outcome.next (if_pos rises), ?_, State.nlat_setLat_same high.lats .ppsEnd _, rfl, ?_⟩
  · exact (State.lat_setLat_ne _ high.lats _ _ _ _ _ _ _ (by decide)).trans (State.lat_setLat_same s hs.lats ..)
  · exact ((State.latsAs.refl s _).setLat hs.lats List.mem_cons_self _).setLat high.lats
      (List.mem_cons_of_mem _ List.mem_cons_self) _

theorem ppsOutRise_ignored (no : s.rbit .PTP_PPSOUT_CTRL 31 = false ∨ s.mode = .sable ∨ s.ppsOutDue = false) :
    exec .ppsOutRise s = .next s := by
  have stays : ¬(s.rbit .PTP_PPSOUT_CTRL 31 && s.mode != .sable && s.ppsOutDue) = true := by
    rcases no with off | sable | early
    · rw [off, Bool.false_and, Bool.false_and]
      decide
    · simp [sable]
    · simp [early]
  exact congrArg Host.Outcome.next (if_neg stays)

/-- The output falls at its end. -/
theorem ppsOutFall_falls (hs : s.Sound) (due : s.nlat .ppsEnd = s.grain) :
    ∃ t, exec .ppsOutFall s = .next t ∧ t.lat .ppsOut = 0 ∧ t = { s with lats := t.lats } ∧
      t.latsAs s [Lat.key .ppsOut 0 0 0] :=
  ⟨s.setLat .ppsOut 0, congrArg Host.Outcome.next (if_pos due), State.lat_setLat_same s hs.lats .., rfl,
    (State.latsAs.refl s _).setLat hs.lats List.mem_cons_self _⟩

/-! ### Transmit stamps (R275) -/

/-- An entry of the port is removed, where it has one. -/
theorem length_dropStamp {p : Nat} {l : List TxStamp} {e : TxStamp} (h : l.find? (fun e => e.port == p) = some e) :
    (dropStamp p l).length + 1 = l.length := by
  induction l with
  | nil => exact nomatch h
  | cons a l ih =>
    unfold dropStamp
    split
    · rfl
    · next other =>
      rw [List.find?_cons_of_neg (by simpa using other)] at h
      exact congrArg (· + 1) (ih h)

/-- The entries of the other ports stay. -/
theorem filter_dropStamp (p : Nat) (l : List TxStamp) :
    (dropStamp p l).filter (fun e => e.port != p) = l.filter (fun e => e.port != p) := by
  induction l with
  | nil => rfl
  | cons a l ih =>
    unfold dropStamp
    split
    · next own => rw [List.filter_cons_of_neg (by simp [own])]
    · next other => rw [List.filter_cons_of_pos (by simpa using other), List.filter_cons_of_pos (by simpa using other), ih]

theorem exec_txtsFifoRead {p : Nat} (hp : p < 8) : exec (.txtsFifoRead p) s = .next (s.txtsRead p) :=
  if_pos (decide_eq_true hp)

theorem State.txtsRead_empty {p : Nat} (empty : s.txts.find? (fun e => e.port == p) = none) :
    s.txtsRead p = s.respond false 0 := by
  unfold State.txtsRead
  rw [empty]

/-- The oldest stamp of a port leaves its FIFO for the registers. -/
theorem State.txtsRead_takes {p : Nat} {e : TxStamp} (oldest : s.txts.find? (fun e => e.port == p) = some e) :
    s.txtsRead p = ({ s with txts := dropStamp p s.txts }.putTime .PTP_TXTS_FRAC .PTP_TXTS_NS .PTP_TXTS_S_LO .PTP_TXTS_S_HI
      e.time p).respond false (2 ^ 31 + 2 ^ 20 * (e.mtype % 16) + e.seqId % 2 ^ 16) := by
  unfold State.txtsRead
  rw [oldest]
  rfl

/-- A read takes the oldest stamp of its port. -/
theorem txtsFifoRead_takes (hs : s.Sound) {p : Nat} (hp : p < 8) {e : TxStamp}
    (oldest : s.txts.find? (fun e => e.port == p) = some e) :
    ∃ t, exec (.txtsFifoRead p) s = .next t ∧ t.resp = ⟨false, 2 ^ 31 + 2 ^ 20 * (e.mtype % 16) + e.seqId % 2 ^ 16⟩ ∧
      t.reg .PTP_TXTS_FRAC p = e.time % 2 ^ 32 ∧ t.reg .PTP_TXTS_NS p = e.time / 2 ^ 32 % 1000000000 ∧
      t.txts.length + 1 = s.txts.length ∧ t.txts.filter (fun e => e.port != p) = s.txts.filter (fun e => e.port != p) ∧
      t = { s with regs := t.regs, txts := t.txts, resp := t.resp } ∧
      t.otherRegs s [.PTP_TXTS_FRAC, .PTP_TXTS_NS, .PTP_TXTS_S_LO, .PTP_TXTS_S_HI] := by
  have dropped : { s with txts := dropStamp p s.txts }.Sound := { hs with }
  obtain ⟨frac, ns, -, others⟩ := State.putTime_reads dropped
    (by decide : [Reg.PTP_TXTS_FRAC, .PTP_TXTS_NS, .PTP_TXTS_S_LO, .PTP_TXTS_S_HI].Nodup) e.time p
  exact ⟨_, (exec_txtsFifoRead hp).trans (congrArg _ (State.txtsRead_takes oldest)), rfl, frac, ns, length_dropStamp oldest,
    filter_dropStamp p s.txts, rfl, others⟩

/-! ### The statement -/

/-- An accepted offset of firmware moves the servo (R268, R270). -/
theorem servoOffsetWrite_moves (hs : s.Sound) {v : Nat} (hv : v < 2 ^ 32) (on : s.rbit .PTP_CTRL 0 = true)
    (src : s.fld .PTP_CTRL 2 1 = 0) :
    ∃ t, exec (.servoOffsetWrite v) s = .next t ∧ t.reg .PTP_SERVO_INTEG = ux 32 (s.servoInteg (sx 32 v)) ∧
      t.reg .PTP_TRIM = ux 32 (s.servoTrim (sx 32 v)) ∧
      t = { s with regs := t.regs, lats := t.lats, faults := t.faults, events := t.events } ∧
      t.otherRegs s [.PTP_SERVO_INTEG, .PTP_TRIM, .PTP_STATUS] ∧
      t.faults = s.faults ++ (if s.silent then [s.msg 0x10E 0x30 0] else []) ∧ (s.silent = false → t.events = s.events) ∧
      (s.rbit .PTP_STATUS 3 = true ∨ s.silent = true → t.rbit .PTP_STATUS 3 = false ∧ t.rbit .PTP_STATUS 2 = false) ∧
      (s.silent = false → s.rbit .PTP_STATUS 3 = false → s.rbit .PTP_STATUS 2 = true →
        (t.rbit .PTP_STATUS 2 = true ↔ (sx 32 v).natAbs ≤ 4 * s.reg .PTP_SERVO_LOCK)) ∧
      (s.silent = false → s.rbit .PTP_STATUS 3 = false → s.rbit .PTP_STATUS 2 = false →
        (t.rbit .PTP_STATUS 2 = true ↔ (sx 32 v).natAbs ≤ s.reg .PTP_SERVO_LOCK ∧ 15 ≤ s.nlat .lockN)) := by
  obtain ⟨r, l, e, frame, events⟩ := State.offerOffset_frame hs on src (sx 32 v)
  obtain ⟨heldOver, locked, unlocked⟩ := State.rbit_offerOffset hs on src (sx 32 v)
  refine ⟨_, exec_servoOffsetWrite hv, State.offerOffset_integ hs on src _, State.offerOffset_trim hs on src _, ?_,
    State.offerOffset_otherRegs hs 0 _, ?_, fun quiet => ?_, heldOver, locked, unlocked⟩
  · rw [frame]
  · rw [frame]
  · rw [frame]
    exact events quiet

/-- Settles O43: the servo, the 1PPS input and output and the stamps, command by command. -/
theorem servoAndPps : Obligations.ServoAndPps := by
  unfold Obligations.ServoAndPps
  intro s hs
  refine ⟨fun v hv => servoOffsetWrite_moves hs hv, fun v hv no => ?_, servoSilence_reports hs, fun quiet => ?_,
    fun x w fall hx hw on pol long => ?_, fun x w fall hx hw => ppsInEdge_ignored hx hw, ⟨ppsLoss_reports hs, fun no => ?_⟩,
    ppsOutRise_rises hs, ppsOutRise_ignored, ppsOutFall_falls hs, fun later => ?_, fun p hp => ⟨fun empty => ?_,
    fun e => txtsFifoRead_takes hs hp⟩⟩
  · exact (exec_servoOffsetWrite hv).trans (congrArg _ (State.offerOffset_declined no _))
  · exact congrArg Host.Outcome.next (State.holdover_quiet quiet)
  · obtain ⟨whole, after, before⟩ := s.ppsStamp_near x
    exact ⟨whole, after, before, ppsInEdge_stamps hs hx hw on pol long rfl⟩
  · exact congrArg Host.Outcome.next (if_neg no)
  · exact congrArg Host.Outcome.next (if_neg later)
  · exact ⟨_, (exec_txtsFifoRead hp).trans (congrArg _ (State.txtsRead_empty empty)), rfl, rfl⟩

end Sys2Proof.Machine
end
